-- ==== Sys2Proof/Word.lean ====
section
/-! DEFINITION. The word types of the PB7128's register interface and the plainest arithmetic on numbers that stand
for bit fields (R5: bit 0 is the least significant bit of a field). -/

namespace Sys2Proof

/-- A 32-bit register word (R13: registers are accessed as naturally aligned 32-bit words). -/
abbrev Word := BitVec 32

/-- One octet. -/
abbrev Byte := BitVec 8

/-- The low `w` bits of a number. -/
def lowBits (w n : Nat) : Nat := n % 2 ^ w

/-- The field of `w` bits that begins at bit `lo` (R5). -/
def bitsAt (n lo w : Nat) : Nat := n / 2 ^ lo % 2 ^ w

/-- Bit `i` of a number. -/
def bitAt (n i : Nat) : Bool := n / 2 ^ i % 2 == 1

/-- 1 for true and 0 for false, as a one-bit field holds it. -/
def b2n (b : Bool) : Nat := if b then 1 else 0

/-- Two's complement reading of the low `w` bits. -/
def toSigned (w n : Nat) : Int :=
  if n % 2 ^ w < 2 ^ (w - 1) then (n % 2 ^ w : Nat) else (n % 2 ^ w : Nat) - (2 ^ w : Nat)

/-- The low `w` bits of an integer in two's complement. -/
def ofSigned (w : Nat) (i : Int) : Nat := (i % (2 ^ w : Nat)).toNat

end Sys2Proof
end

