-- ==== Sys2Proof/Machine/Tab.lean ====
section
/-! DEFINITION. Sparse tables: lists of key and value with keys strictly rising, in which no entry holds what an unlisted
key reads as. Every table of State, the register store and the node memories have this one form. -/

namespace Sys2Proof.Machine

/-- A sparse table with number keys. -/
abbrev Tab (α : Type) := List (Nat × α)

/-- The entry at a key, if it is listed. -/
def Tab.find? {α : Type} : Tab α → Nat → Option α
  | [], _ => none
  | (k, v) :: t, i => if k = i then some v else Tab.find? t i

/-- Puts an entry at a key, in the place that keeps the keys rising. -/
def Tab.insert {α : Type} : Tab α → Nat → α → Tab α
  | [], i, x => [(i, x)]
  | (k, v) :: t, i, x =>
    if i < k then (i, x) :: (k, v) :: t
    else if i = k then (i, x) :: t
    else (k, v) :: Tab.insert t i x

/-- Takes the entry at a key away. -/
def Tab.erase {α : Type} : Tab α → Nat → Tab α
  | [], _ => []
  | (k, v) :: t, i => if k = i then Tab.erase t i else (k, v) :: Tab.erase t i

/-- What a key reads as: its entry, or `d` where it is not listed. -/
def Tab.getD {α : Type} (t : Tab α) (d : α) (i : Nat) : α := (t.find? i).getD d

/-- Writes a key of a table whose unlisted keys read as `d`. Writing `d` takes the entry away. -/
def Tab.setD {α : Type} [DecidableEq α] (t : Tab α) (d : α) (i : Nat) (x : α) : Tab α :=
  if x = d then t.erase i else t.insert i x

/-- Every key of the table is above `i` and the keys rise strictly. -/
def Tab.rising {α : Type} : Tab α → Bool
  | [] => true
  | [_] => true
  | (k, _) :: (k', v') :: t => decide (k < k') && Tab.rising ((k', v') :: t)

/-- The canonical form of a table whose unlisted keys read as `d`. -/
def Tab.wf {α : Type} [DecidableEq α] (t : Tab α) (d : α) : Bool :=
  t.rising && t.all (fun e => decide (e.2 ≠ d))

/-- What a key of a table reads as where unlisted keys read as the type's default. -/
def Tab.get {α : Type} [Inhabited α] (t : Tab α) (i : Nat) : α := t.getD default i

/-- Writes a key of a table whose unlisted keys read as the type's default. -/
def Tab.set {α : Type} [Inhabited α] [DecidableEq α] (t : Tab α) (i : Nat) (x : α) : Tab α := t.setD default i x

/-- Changes one entry by a function. -/
def Tab.upd {α : Type} [Inhabited α] [DecidableEq α] (t : Tab α) (i : Nat) (f : α → α) : Tab α := t.set i (f (t.get i))

end Sys2Proof.Machine
end

