-- ==== Sys2Proof/Machine/Types.lean ====
section
/-! DEFINITION. The data that passes between the blocks: packets, metadata records, descriptors, ring entries, node-table
and exact-match entries, and what the part puts out. Numbers stand for bit fields; their widths are those of the layouts
cited at each structure. -/

namespace Sys2Proof.Machine

/-- An IPv6 packet, or a packet without an IPv6 header, as the forwarding unit reads it (R275, R276, R319). `src` and `dst`
are 128-bit addresses with octet 0 in bits [7:0] (R256). `ethLen` is the octets of the Ethernet frame that a packet of the backhaul came in (R330), and
`body` labels the octets the model does not read; `text` are those of a packet that the part decompressed, empty for another. -/
structure Packet where
  hasIp : Bool
  tclass : Nat
  src : Nat
  dst : Nat
  hlim : Nat
  len : Nat
  icmpType : Option Nat
  mpl : Option (Nat × Nat)
  routed : Bool
  ethLen : Nat
  body : Nat
  text : List Nat
deriving DecidableEq, Repr, Inhabited

/-- The metadata record of a frame (R108). Each field holds the bits of its record field. -/
structure MetaRec where
  engine : Nat
  phy : Nat
  mode : Nat
  hdrOk : Bool
  status : Nat
  divv : Bool
  captor : Bool
  isHeld : Bool
  sicRec : Bool
  specUsed : Bool
  specHit : Bool
  specSquash : Bool
  length : Nat
  tuner : Nat
  portA : Nat
  portB : Nat
  band : Nat
  rssi : Nat
  lqi : Nat
  snr : Nat
  cfo : Nat
  cfoDrift : Nat
  iterHdr : Nat
  iterMax : Nat
  iterSum : Nat
  cwCount : Nat
  fseq : Nat
  linkFseq : Nat
  capMargin : Nat
  sicOut : Nat
  tsNs : Nat
  tsSec : Nat
  tsFrac : Nat
  dueTick : Nat
  arrOfs : Nat
  rssiA : Nat
  rssiB : Nat
  timingDrift : Nat
  evm : Nat
deriving DecidableEq, Repr, Inhabited

/-- The number of a fetched descriptor, where it came from and where its completion goes (R300, R303). -/
structure DescRef where
  id : Nat
  fn : Nat
  ring : Nat
  slot : Nat
  cookie : Nat
  tenant : Nat
  discard : Bool
deriving DecidableEq, Repr, Inhabited

/-- The header of a firmware or vault command on a CMD ring (R310). -/
structure CmdEntry where
  code : Nat
  tag : Nat
  tenant : Nat
  asPf : Bool
deriving DecidableEq, Repr, Inhabited

/-- A telemetry record (R339) without its PHASE bit. -/
structure TelRec where
  tenant : Nat
  isTq : Bool
  queue : Nat
  port : Nat
  held : Bool
  tick : Nat
  depthW : Nat
  maxW : Nat
  holUs : Nat
  arr : Nat
  dep : Nat
  drop : Nat
  depthP : Nat
  defer : Nat
deriving DecidableEq, Repr, Inhabited

/-- A wrapped key as the model holds it (log entry 7): the key, and what the wrap binds it to. An unwrap yields the key if
and only if everything bound is what the unwrap expects. -/
structure WrappedKey where
  kek : Nat
  key : Nat
  gen : Nat
  staged : Bool
  endpoint : Nat
deriving DecidableEq, Repr, Inhabited

/-- A node secret record (R242). `wkey` and `wstg` are wrapped under KEK_D, whose label in `WrappedKey.kek` is the wrap epoch
(R243, R245). -/
structure NodeSecret where
  valid : Bool
  wkey : WrappedKey
  wstg : Option WrappedKey
  hw : Nat
  gen : Nat
  tenant : Nat
deriving DecidableEq, Repr, Inhabited

/-- What a sampling of a function reads (R293, R295, R306, R310): its doorbell record, none where the read fails; and the RXB entries and the 32 words
of each CMD entry past the part's position, none for one that cannot be read. -/
structure Bell where
  words : Option (List Nat)
  rxb : List (Option Nat)
  cmds : List (Option (List Nat))
deriving DecidableEq, Repr, Inhabited

/-- The eight words of a transmit descriptor as read from its ring (R300), and the packet at its ADDR, none where the packet data cannot be read. -/
structure RawDesc where
  words : List Nat
  pkt : Option Packet
deriving DecidableEq, Repr, Inhabited

/-- A transmit descriptor (R300) with its packet. -/
structure Desc where
  addr : Nat
  ty : Nat
  len : Nat
  profile : Nat
  queue : Nat
  ar : Bool
  lifetime : Nat
  cookie : Nat
  tenant : Nat
  pkt : Option Packet
deriving DecidableEq, Repr, Inhabited

/-- One entry of a part-produced ring, without its PHASE bit (R303, R307, R309, R311, R313, R314, R315). -/
inductive Entry where
  | txcpl (cookie status ring retries frags slot : Nat)
  | rxcpl (slot frags len : Nat) (hasRec : Bool) (prio : Nat) (mpl : Bool) (status tenant tick : Nat)
  | cmdcpl (tag code status : Nat) (result : List Nat)
  | evt (code fn arg0 arg1 : Nat)
  | tel (r : TelRec)
  | rev (r : MetaRec)
  | sbk (endpoint : Nat) (r : NodeSecret) (epoch tick : Nat)
deriving DecidableEq, Repr, Inhabited

/-- An NT-H entry (R249). Signed Aperture values are integers. -/
structure NtH where
  valid : Bool
  state : Nat
  nkey : Bool
  aptP : Bool
  aptN : Nat
  aptM : Bool
  tenant : Nat
  endpoint : Nat
  eui : Nat
  short : Nat
  aptO : Int
  aptD : Int
  tLast : Nat
  fcIn : Nat
  fcValid : Bool
  lastEngine : Nat
  lastRssi : Nat
  lastLqi : Nat
deriving DecidableEq, Repr, Inhabited

/-- An NT-C entry (R250). -/
structure NtC where
  valid : Bool
  isLocal : Bool
  routed : Bool
  tenant : Nat
  homeNh : Nat
  node : Nat
  parent : Nat
  parentRoot : Bool
  iid : Nat
  eui : Nat
  expireS : Nat
deriving DecidableEq, Repr, Inhabited

/-- An exact-match entry (R256). -/
structure EmtEntry where
  valid : Bool
  origin : Nat
  ty : Nat
  tenant : Nat
  tables : Nat
  key : Nat
  result : Nat
  action : Nat
  nh : Nat
  sid : Nat
  lastUse : Nat
deriving DecidableEq, Repr, Inhabited

/-- What the part puts out: the reads and writes of host memory by a function with their addresses, in 32-bit words, MSI-X messages, pins, frames on
the air and packets on the backhaul with the destination MAC address and the VLAN. State.out holds what the last command put out (log entry 5). -/
inductive Output where
  | hostRead (fn addr octets : Nat)
  | hostWrite (fn addr : Nat) (words : List Nat)
  | msix (fn vec addr data : Nat)
  | readWord (fn ofs value : Nat)
  | eth (port tenant queue octets mac vlan : Nat) (p : Packet)
  | pin (name : String) (level : Nat)
  | pulse (name : String) (devClocks : Nat)
  | edge (name : String) (level clk : Nat)
  | statement (fn : Nat) (words : List Nat)
  | toFirmware (what : String) (args : List Nat)
  | lanes (what : String) (args : List Nat)
  | jesd (port clk : Nat) (samples : List (Int × Int))
deriving DecidableEq, Repr, Inhabited

end Sys2Proof.Machine
end

