-- ==== Sys2Proof/Machine/HostTypes.lean ====
section
/-! DEFINITION. The state of the host interface, the frame queues and the traffic manager that is no register field
(chapters 9 and 10). -/

namespace Sys2Proof.Machine

/-- What completes when a downlink frame's outcome is final (R276, R303): a descriptor, or nothing for packets of other
sources. -/
inductive DlSrc where
  | desc (r : DescRef)
  | backhaul (tenant : Nat)
  | turned (tenant : Nat)
  | flood (tenant : Nat)
  | firmware (tenant : Nat)
deriving DecidableEq, Repr, Inhabited

/-- The RFC 6554 routing header of a packet (R278): whether an outer IPv6 header carries it, the source, destination and hop limit of the header
that does, CmprI and CmprE, and the addresses listed. -/
structure Srh where
  encap : Bool
  src : Nat
  dst : Nat
  hlim : Nat
  cmprI : Nat
  cmprE : Nat
  addrs : List Nat
deriving DecidableEq, Repr, Inhabited

/-- A packet in the packet buffer that waits for its composition: of a descriptor (R301), of the backhaul or turned round
(R276). `node` is the first-hop node where it is resolved already, `tick` is the elapsed tick of its fetch and
`compTick` the tick of its composition (R33, R34); `bcast` says that it goes to no one node; `made` counts its frames already composed of `total`, and `tried` is the tick in which it
last waited for a counter (R221), `srh` is its routing header (R278) and `sizes` the 6LoWPAN octets of its frames once they are known (R279). -/
structure FDesc where
  src : DlSrc
  tenant : Nat
  node : Nat
  queue : Nat
  profile : Nat
  ar : Bool
  bcast : Bool
  lifetime : Nat
  words : Nat
  tick : Nat
  compTick : Nat
  made : Nat
  total : Nat
  tried : Option Nat
  srh : Option Srh
  sizes : List Nat
  pkt : Packet
deriving DecidableEq, Repr, Inhabited

/-- Descriptors of a TX ring that the sampling found and that are still to be fetched; `kick` where a KICK started it (R295, R299). -/
structure FetchJob where
  fn : Nat
  ring : Nat
  left : Nat
  kick : Bool
deriving DecidableEq, Repr, Inhabited

/-- An entry of an MSI-X table (R316): its message, that its Mask bit is clear, and its pending bit. -/
structure MsixEntry where
  addr : Nat
  data : Nat
  clear : Bool
  pend : Bool
deriving DecidableEq, Repr, Inhabited

/-- What the PCI Express capabilities hold (R284, R286, R316): the payload and read-request sizes as codes (128 octets × 2^code), ASPM L1, the functions in
D3hot, VF Enable and NumVFs, the functions with MSI-X enabled and with all vectors masked, and the MSI-X tables (key function × 256 + entry). -/
structure PcieS where
  mps : Nat
  mrrs : Nat
  l1 : Bool
  d3 : List Nat
  vfEn : Bool
  numVfs : Nat
  msixOn : List Nat
  msixMask : List Nat
  msix : Tab MsixEntry
deriving DecidableEq, Repr, Inhabited

/-- The capabilities after a reset of the link: the base specification's values, no VF enabled, MSI-X off and every entry masked (PRESUMED, log
entry 46). -/
def PcieS.atReset : PcieS := { (default : PcieS) with mrrs := 2 }

/-- What the host interface holds for one function: `cmdQ` is the CMD entries that the last sampling found and that are not yet
started, none for one that cannot be read; `buffers` the RXB slots taken with their buffers' addresses; `outstanding` and `cmdOut` the descriptors and commands
fetched and not completed; the completions held (R305); `coal` the rings with entries written this tick (R317); the KICK samplings
of the tick (R299); `lastPos` the position record as last written (R298). -/
structure FnS where
  cmdQ : List (Option CmdEntry)
  buffers : List (Nat × Nat)
  outstanding : Nat
  cmdOut : Nat
  heldTx : List Entry
  heldCmd : List Entry
  coal : List Nat
  kicks : Nat
  lastPos : List Nat
deriving DecidableEq, Repr, Inhabited

/-- The host interface: functions, descriptors to be fetched and fetched ones not yet composed, the number the next descriptor gets,
the waiting secret-backup indices, whether the pass over every VALID record has begun and the records it has still to write (R314), the tenant counter
pages (R41; key tenant × 0x2000 + page offset), whether the composition intake is open (R34), and the PCI Express capabilities. -/
structure HifS where
  fns : Tab FnS
  fetchQ : List FetchJob
  fetched : List FDesc
  nextDesc : Nat
  sbkWait : List Nat
  sbkAll : Bool
  sbkPass : List Nat
  tcnt : Tab Nat
  intakeOpen : Bool
  pcie : PcieS
deriving DecidableEq, Repr, Inhabited

/-- A packet of a frame queue (R323 to R325). `source` is 0 FP0, 1 FP1, 2 flood engine, 3 firmware; `clk` the clock of its
completion. -/
structure FqPkt where
  prio : Nat
  words : Nat
  pkt : Packet
  mrec : Option MetaRec
  tenant : Nat
  frags : Nat
  mpl : Bool
  source : Nat
  clk : Nat
  tick : Nat
deriving DecidableEq, Repr, Inhabited

/-- Counts of one queue over the tick, for telemetry, and whether it held a packet at any time in it (R338, R339). -/
structure QTel where
  held : Bool
  maxW : Nat
  arr : Nat
  dep : Nat
  drop : Nat
  defer : Nat
deriving DecidableEq, Repr, Inhabited

/-- One frame-queue set: its waiting packets in order of completion, and the packet being read word by word with the next
word (R325, R328). -/
structure FqSet where
  pkts : List FqPkt
  reading : Option (FqPkt × Nat)
  tel : List QTel
deriving DecidableEq, Repr, Inhabited

/-- How a sent frame is secured (R215 to R217, R221, R222): its level, its key identity, its frame counter, the key bits and the nonce. -/
structure SecHdr where
  level : Nat
  kim : Nat
  keyIndex : Nat
  keySource : Nat
  fc : Nat
  key : Nat
  nonce : List Nat
deriving DecidableEq, Repr, Inhabited

/-- A composed frame for the air (R221, R335). `counter` is its outgoing frame counter, `keyRef` the key that took it, `sec` how it is
secured,
`expire` the elapsed tick at which its lifetime ends, `seq` its MAC sequence number, `fragIx` and `fragN` its place among the
frames of its packet, `srh` the packet's routing header (R278) and `airNs` its on-air time in ns. -/
structure AirFrame where
  src : DlSrc
  tenant : Nat
  queue : Nat
  node : Nat
  endpoint : Nat
  bcast : Bool
  profile : Nat
  psduLen : Nat
  ar : Bool
  secured : Bool
  counter : Nat
  keyRef : Nat
  sec : Option SecHdr
  seq : Nat
  expire : Nat
  retries : Nat
  fragIx : Nat
  fragN : Nat
  srh : Option Srh
  order : Nat
  airNs : Nat
  words : Nat
  clk : Nat
deriving DecidableEq, Repr, Inhabited

/-- A packet of a queue to an Ethernet port. -/
structure EthPkt where
  pkt : Packet
  nh : Nat
  octets : Nat
  words : Nat
  clk : Nat
deriving DecidableEq, Repr, Inhabited

/-- One traffic-manager queue: packets for its Ethernet port, frames for the air, words reserved by fetched descriptors
(R322) and the tick's counts. -/
structure TqS where
  eth : List EthPkt
  air : List AirFrame
  reserved : Nat
  tel : QTel
deriving DecidableEq, Repr, Inhabited

/-- The scheduler's state of one leaf (R332, R333). -/
structure LeafS where
  fprev : Rat
  fhead : Option Rat
deriving DecidableEq, Repr, Inhabited

/-- A descriptor whose frames are in the traffic manager: how many are not final and the first status that is not OK
(R279). -/
structure DescRun where
  ref : DescRef
  left : Nat
  frags : Nat
  status : Nat
  retries : Nat
deriving DecidableEq, Repr, Inhabited

/-- The frame queues and the traffic manager. Token counts are in sixteenths (R329), keyed as `Tok` in QueueOps says; a
bucket that keeps no count is not listed; `used` counts the pool's words in use (R321); `composed` are the frames of the composition tick, which
enter their queues at its end, and `freed` the reservations that end then, as tenant, queue and words (R322, R335); `short` lists the buckets in the red at the last boundary (R336). `active` lists the leaves active at the last boundary (R332), `linkUp` the Ethernet
ports with a link, `ethFlip` those whose transmit pair is inverted and `ethSince` the elapsed tick of a port's last loss of link
or inversion (R518). Leaf keys: TQ number tenant × 32 + q for Ethernet, 8192 + tenant for the host. -/
structure TmS where
  fq : Tab FqSet
  tq : Tab TqS
  tokens : Tab Int
  used : Nat
  composed : List AirFrame
  freed : List (Nat × Nat × Nat)
  short : List Nat
  leaves : Tab LeafS
  vtime : Tab Rat
  active : List Nat
  linkUp : List Nat
  order : Nat
  runs : List DescRun
  ethFlip : List Nat
  ethSince : Tab Nat
deriving DecidableEq, Repr, Inhabited

end Sys2Proof.Machine
end

