-- ==== Sys2Proof/Machine/FwdTypes.lean ====
section
/-! DEFINITION. The state of the forwarding pipelines and the flood engine that is no register field (chapter 8). -/

namespace Sys2Proof.Machine

/-- A learning request (R263, R265) and its clock. -/
structure LearnReq where
  tenant : Nat
  iid : Nat
  endpoint : Nat
  clk : Nat
deriving DecidableEq, Repr, Inhabited

/-- A difference the shadow comparer found and will read again (R271): table, kind, SID and the key compared; `due` is the
elapsed tick of the second reading and `touched` that a command or firmware write touched the key or SID since. -/
structure Diff where
  table : Nat
  kind : Nat
  sid : Nat
  tenant : Nat
  ty : Nat
  key : Nat
  due : Nat
  touched : Bool
deriving DecidableEq, Repr, Inhabited

/-- A datagram being reassembled (R274): the fragments held as offset and octets, and the clock at which it times out. -/
structure Reasm where
  tenant : Nat
  endpoint : Nat
  tag : Nat
  size : Nat
  held : List (Nat × List Nat)
  deadline : Nat
  frames : Nat
deriving DecidableEq, Repr, Inhabited

/-- The speculative-lookup slot of an engine (R266): node, endpoint and result as looked up early, and whether a copy is
stale (R267). -/
structure SpecSlot where
  active : Bool
  fseq : Nat
  node : Nat
  tenant : Nat
  endpoint : Nat
  ntc : NtC
  emt : Option EmtEntry
  stale : Bool
deriving DecidableEq, Repr, Inhabited

/-- One exact-match pipeline: its table (key bucket × 4 + slot), cold-entry cache (endpoints, least recently used first),
learning queue and the clock at which its last finished request ended, comparer position and what a clearing or filling has in hand. -/
structure PipeS where
  emt : Tab EmtEntry
  cache : List Nat
  learnQ : List LearnReq
  learnEnd : Nat
  walkPos : Nat
  walkDone : Bool
deriving DecidableEq, Repr, Inhabited

/-- The forwarding unit: node table, pipelines, shadow comparer, divergence log, reassembly, speculative slots and the
contexts 1 to 15 that firmware sets (R273; key tenant × 16 + context). `serving` lists, by tenant, the pipeline in force
where it is not the reset one (R254); `tcmdEnd` is the clock at which the last table command ends
and `tcmdStatus` its outcome (R268). -/
structure FwdS where
  nth : Tab NtH
  ntc : Tab NtC
  p0 : PipeS
  p1 : PipeS
  shadowPos : Nat
  inPass : Bool
  diffs : List Diff
  divLog : List (Nat × Nat × Nat)
  reasm : List Reasm
  slots : Tab SpecSlot
  iphc : Tab Nat
  serving : Tab Nat
  tcmdEnd : Nat
  tcmdStatus : Nat
deriving DecidableEq, Repr, Inhabited

/-- A message in the flood buffer with its Trickle timer (R280, R281): the start and length of its interval in milliseconds of the
elapsed time, intervals ended, the consistency counter, a transmission that is due, that the timer fired in this interval, that the
transmission waits for a counter (R221), the clock at which it fired, and how an abandoned transmission that is sent again was secured (R179). -/
structure FloodMsg where
  tenant : Nat
  seed : Nat
  seq : Nat
  hlim : Nat
  pkt : Packet
  start : Nat
  interval : Nat
  count : Nat
  heard : Nat
  fired : Bool
  shot : Bool
  waits : Bool
  fireClk : Nat
  kept : Option SecHdr
deriving DecidableEq, Repr, Inhabited

/-- One seen-cache entry (R282, R283) with the clock at which it expires. -/
structure Seen where
  tenant : Nat
  seed : Nat
  seq : Nat
  expire : Nat
deriving DecidableEq, Repr, Inhabited

/-- One seed of the seed table: MinSequence; the list keeps the least recently heard first (R283). -/
structure Seed where
  tenant : Nat
  seed : Nat
  minSeq : Nat
deriving DecidableEq, Repr, Inhabited

/-- The flood engine. -/
structure FldS where
  buf : List FloodMsg
  seen : List Seen
  seeds : List Seed
deriving DecidableEq, Repr, Inhabited

end Sys2Proof.Machine
end

