-- ==== Sys2Proof/Machine/SecTypes.lean ====
section
/-! DEFINITION. Received frames, keys, counters and the vault (chapters 6 and 7). -/

namespace Sys2Proof.Machine

/-- An address field of a MAC frame. -/
inductive Addr where
  | none
  | short (a : Nat)
  | ext (a : Nat)
deriving DecidableEq, Repr, Inhabited

/-- A MAC frame as its octets read (R192, R193, R215, R217). `mhr` are the octets of its MHR. Its MIC is what it was made of: the key, the nonce,
the authenticated data and its length in octets (log entry 7); `seq` is
256 where the sequence number is suppressed;
`low` the octets of its payload after decryption, 6LoWPAN ones of a data frame (R273, R274); `tcIe` the time correction of an Enh-ACK. -/
structure Psdu where
  ftype : Nat
  version : Nat
  dstPan : Option Nat
  dst : Addr
  src : Addr
  seq : Nat
  ar : Bool
  secured : Bool
  level : Nat
  kim : Nat
  keyIndex : Nat
  keySource : Nat
  fcSuppressed : Bool
  asnNonce : Bool
  fc : Nat
  mhr : List Nat
  macKey : Nat
  macNonce : List Nat
  macAad : List Nat
  macLen : Nat
  low : List Nat
  pending : Bool
  tcIe : Option Int
deriving DecidableEq, Repr, Inhabited

/-- The window a frame was received in (R181): kind, tenant and node of the plan, the nominal instant and the half-width and
centre offset in ns of an RX_NODE window, ACKW and SPAN. -/
structure RxWin where
  kind : Nat
  tenant : Nat
  node : Nat
  nominal : Nat
  centre : Int
  half : Nat
  ackw : Bool
  span : Nat
deriving DecidableEq, Repr, Inhabited

/-- A received frame on its way through the part (R31): its record so far, its octets, its window, the clock of its last
symbol, the elapsed tick in which it is due, its decode deadline tick (R19) and what the release stage found: tenant, sender
node and key. `id` names it in mirror records; `ackDone` says that its acknowledgement is settled, `ackOf` that it
acknowledges that downlink frame (R202), and `pend` and `corr` are the pending bit and the Time Correction that an acknowledgement of it carries
(R194, R196), and `mpl` says whether the MPL message in it was new at the commit, none where it was not judged (R282, R283). -/
structure Frame where
  id : Nat
  mrec : MetaRec
  psdu : Psdu
  win : Option RxWin
  lastClk : Nat
  dueTick : Nat
  deadTick : Nat
  tenant : Nat
  node : Nat
  keyRef : Option Nat
  keyBits : Nat
  isJoin : Bool
  ackDone : Bool
  ackOf : Option AirFrame
  waits : List Nat
  bubble : Bool
  pend : Bool
  corr : Option Int
  mpl : Option Bool
deriving DecidableEq, Repr, Inhabited

/-- USAGE of a slot (R230) with the codes of R239. -/
inductive Usage where
  | frame | frameRx | unwrap
deriving DecidableEq, Repr, Inhabited

def Usage.code : Usage → Nat
  | .frame => 1
  | .frameRx => 2
  | .unwrap => 3

/-- One key slot (R229). `staged` is the staged key, `stagedLive` that a tick boundary has passed since the STAGE (R235),
`commitDue` that a COMMIT takes effect at the next boundary (R236). -/
structure Slot where
  active : Bool
  key : Nat
  staged : Option Nat
  stagedLive : Bool
  commitDue : Bool
  usage : Usage
  imported : Bool
  tenant : Nat
  useCount : Nat
  depleted : Bool
  expire : Bool
  kim : Nat
  keyIndex : Nat
  keySource : Nat
deriving DecidableEq, Repr, Inhabited

/-- A lease of a counter block under way (R223): the new high-water mark, its name in mirror records, the receivers still to
acknowledge it and whether its journal entry is still to be written. -/
structure Lease where
  id : Nat
  hw : Nat
  waits : List Nat
  journal : Bool
  bubble : Bool
deriving DecidableEq, Repr, Inhabited

/-- The outgoing counter of one key (R223). `twinHw` is the high-water mark the twin last acknowledged (R419). -/
structure CounterS where
  next : Nat
  limit : Nat
  hw : Nat
  twinHw : Nat
  lease : Option Lease
deriving DecidableEq, Repr, Inhabited

/-- The security engine: counters by key (slot number, or 4096 + endpoint index of a node key), the key cache (endpoints,
least recently used first, R213), the counter journal (fingerprint and reservation of each entry with whether its CHK holds)
and the frames in the release stage waiting for mirroring. -/
structure SecS where
  ctr : Tab CounterS
  cache : List Nat
  journal : List (Nat × Nat × Bool)
  release : List Frame
deriving DecidableEq, Repr, Inhabited

/-- A vault command with its arguments (R231). Slots above 4095 in `slot` name node `slot − 4096` where the command allows a
node (R237). -/
structure VArgs where
  slot : Nat
  tenant : Nat
  usage : Nat
  useCount : Nat
  expire : Bool
  kim : Nat
  keyIndex : Nat
  keySource : Nat
  gen : Bool
  unwrapSlot : Nat
  wrapped : WrappedKey
  kcv : Nat
  slots : List Nat
  nonce : Nat
  len : Nat
  node : Nat
  records : List (Nat × NodeSecret)
deriving DecidableEq, Repr, Inhabited

/-- A command waiting in or running on the vault: who asked (function, with `reg` for the PF's register path and `asTenant`
the tenant acted for, 256 for the PF), the code and arguments, and the clock at which it started. -/
structure VCmd where
  fn : Nat
  reg : Bool
  asTenant : Nat
  code : Nat
  tag : Nat
  discard : Bool
  args : VArgs
  start : Nat
deriving DecidableEq, Repr, Inhabited

/-- The key vault: slots, node secrets (R242, by endpoint index), the endpoints whose staged key is not live before the next boundary (R235,
R237), the queue, a register command that the queue has no room for, and the running command, the presence of KEK_D
and of the DRBG state, an epoch advance that is due (R247) and the level of TAMPER_N. -/
structure KvS where
  slots : Tab Slot
  secrets : Tab NodeSecret
  nodeCommit : List Nat
  stagedNew : List Nat
  queue : List VCmd
  regWait : Option VCmd
  running : Option VCmd
  kekD : Bool
  drbg : Bool
  epochDue : Bool
  tamperLow : Bool
deriving DecidableEq, Repr, Inhabited

end Sys2Proof.Machine
end

