-- ==== Sys2Proof/Machine/RedTypes.lean ====
section
/-! DEFINITION. The Mirror link, the clusters, the Warden and the lease engine (chapter 13). -/

namespace Sys2Proof.Machine

/-- A mirror record (R404). `id` names the frame or lease that waits for it. -/
inductive MirRec where
  | fcCommit (id node tenant fc : Nat)
  | cbLease (id keyRef fpr hw : Nat)
  | apt (node : Nat) (o d : Int) (n : Nat) (p m : Bool) (tLast : Nat)
  | nth (node : Nat) (x : NtH)
  | ntc (endpoint : Nat) (x : NtC)
  | nodeKey (endpoint gen : Nat) (valid : Bool) (tenant key : Nat) (staged : Option Nat)
  | seen (tenant seq seed : Nat)
  | cmdDone (fn ring status pos : Nat)
  | fwDelta (version len body : Nat)
  | cfgDigest (digest : Nat)
  | page (region addr body : Nat)
  | unknown (ty units : Nat)
deriving DecidableEq, Repr, Inhabited

/-- A record's length in octets (R404). -/
def MirRec.octets : MirRec → Nat
  | .fcCommit .. => 16
  | .cbLease .. => 32
  | .apt .. => 32
  | .nth .. => 80
  | .ntc .. => 80
  | .nodeKey .. => 64
  | .seen .. => 32
  | .cmdDone .. => 16
  | .fwDelta _ len _ => min 1024 (max 16 ((len + 15) / 16 * 16))
  | .cfgDigest _ => 64
  | .page .. => 4112
  | .unknown _ u => 16 * u

/-- The record travels on a path: 0 the internal path, 1 the twin path (R404). -/
def MirRec.onPath : MirRec → Nat → Bool
  | .apt .., p => p == 1
  | .nth .., p => p == 1
  | .ntc .., p => p == 1
  | .nodeKey .., p => p == 1
  | .cfgDigest _, p => p == 1
  | .cmdDone .., p => p == 0
  | _, _ => true

/-- A burst (R403): kind 0 A, 1 B, 2 RESYNC. FLAGS describe the sender. A RESYNC page is its region, its address and what the page
holds, as records of that state. `ack` is the highest SEQ received in order from the peer, none before the first. -/
structure Burst where
  kind : Nat
  seq : Nat
  ack : Option Nat
  tick : Nat
  holder : Bool
  force : Bool
  caughtUp : Bool
  handover : Bool
  recs : List MirRec
  pages : List (Nat × Nat × List MirRec)
deriving DecidableEq, Repr, Inhabited

/-- A burst sent and not yet acknowledged: the elapsed tick of its launch (R406), its length in octets, the clock from which it is
retransmitted if unacknowledged (R405) and the clock by which its acknowledgement would normally have come (R406). -/
structure Sent where
  burst : Burst
  tick : Nat
  len : Nat
  due : Nat
  norm : Nat
deriving DecidableEq, Repr, Inhabited

/-- One mirror path: next SEQ to send, records queued, bursts unacknowledged, the next SEQ to apply, bursts received ahead of
it, the pages a RESYNC has left to send, and the elapsed tick and number of the pages last sent (R401, R405, R420, R421). -/
structure PathS where
  nextSeq : Nat
  queue : List MirRec
  unacked : List Sent
  rxNext : Nat
  ahead : List Burst
  pagesLeft : Nat
  pagesTick : Nat
  pagesSent : Nat
deriving DecidableEq, Repr, Inhabited

/-- What the commands of a written word need beside it: the tick offset, the clocks an INSERT takes and what a KICK's sampling reads. -/
structure DbgEnv where
  ofs : Fin 122880
  took : Fin 4113
  bell : Bell
deriving DecidableEq, Repr, Inhabited

/-- A command of the active cluster to the datapath (R15, R208, R251, R387, R444), as its command buffer holds it. -/
inductive FwCmd where
  | setNth (n : Nat) (x : NtH)
  | setNtc (e : Nat) (x : NtC)
  | joinAdd (n : Nat)
  | joinDel (n : Nat)
  | setIphc (t c v : Nat)
  | aptReset (n : Nat)
  | ackFrame (tenant node profile len seq : Nat) (secured pending : Bool) (corr : Option Int) (nominal span key level : Nat)
  | sendFrame (tenant node profile len : Nat) (secured bcast ar : Bool)
  | nodeKey (node key : Nat)
  | nodeKeyCommit (node kcv : Nat)
  | quota (t n : Nat)
  | setReg (addr value : Nat) (e : DbgEnv)
  | delta (version len body : Nat)
  | handUp (tenant : Nat) (p : Packet) (r : Option MetaRec)
  | lock (l : Nat) (take stby : Bool)
deriving DecidableEq, Repr, Inhabited

/-- A window of a cell plan (R181). Times are in µs. -/
structure Window where
  engine : Nat
  kind : Nat
  tenant : Nat
  node : Nat
  ofs : Nat
  span : Nat
  lead : Nat
  prof : Nat
  ackw : Bool
deriving DecidableEq, Repr, Inhabited

/-- A cell plan: its cell, its windows in plan order and the channel offsets of its engines. -/
structure Plan where
  cell : Nat
  wins : List Window
  chofs : List (Nat × Nat)
deriving DecidableEq, Repr, Inhabited

/-- An amendment of the current cell's plan (R183) that waits for its boundary. -/
structure Amend where
  tick : Nat
  engines : List Nat
  wins : List Window
deriving DecidableEq, Repr, Inhabited

/-- A posted tick commit (R387): the tick it names, whether its CRC matches the buffer, whether it came after 80 µs (R25), and the
buffer: the commands, with the cell plans and amendments among them (R181, R183). -/
structure Commit where
  tick : Nat
  crcOk : Bool
  late : Bool
  cmds : List FwCmd
  plans : List Plan
  amends : List Amend
deriving DecidableEq, Repr, Inhabited

/-- The clusters and the Warden. `accepted` is the commit accepted for the next tick, `misses` the consecutive misses (R391),
`caughtSince` the elapsed tick at which the standby became CAUGHT_UP, `handover` a requested planned handover with whether the
old active then goes OFF (R393), `tookIn` the elapsed tick in which the lease moved (R390), `firstTake` that a cluster has held the
lease since PORST_N, `resetSince` the elapsed tick in which the Warden's reset began and `tested` the clock of its passed self-test
(R397, R398). The lease engine: the clock at which the transmit lease ends, the clock of the last request edge and whether it was
granted, the end of the hold-off after a lapse, and the clock at which WIT_PRESENT went high (R410 to R412). `yieldSet` is an
accepted YIELD, `yieldDue` that its boundary has passed, `yieldStop` that renewals have stopped (R416). `forceSince`, `forceDecide`
and `forceEnd` are the clocks of an armed, a confirmed and an accepted FORCE_HOLD (R417). `hungA` and `hungB` mark an ACTIVE cluster
that a debugger has halted under HOLD_LEASE (R394). -/
structure WdnS where
  posted : Option Commit
  accepted : Option Commit
  misses : Nat
  caughtSince : Option Nat
  handover : Option Bool
  tookIn : Option Nat
  firstTake : Bool
  resetSince : Option Nat
  tested : Option Nat
  leaseEnd : Option Nat
  lastReq : Option Nat
  granted : Bool
  holdoff : Option Nat
  witHigh : Option Nat
  yieldSet : Bool
  yieldDue : Bool
  yieldStop : Bool
  forceSince : Option Nat
  forceDecide : Option Nat
  forceEnd : Option Nat
  hungA : Bool
  hungB : Bool
deriving DecidableEq, Repr, Inhabited

/-- The Mirror link. `nextId` names the next frame or lease in records; the peer's FLAGS are those of its last burst; `session` is
the session key's label, `nonce` this part's KEYING octets, `peerNonce` the peer's; `confirmFail` the clock of a failed CONFIRM
(R408); `selfCaughtUp` and `synced` that this part of a twin pair is CAUGHT_UP, and that its first RESYNC has completed;
`pagesWanted` the pages it has still to apply (R420); `configDigest` the digest of the configuration in force and `peerFw` the peer's
firmware version; `otherHeld` that the peer has held the transmit lease since this part last took it (R490). -/
structure MirS where
  int : PathS
  twin : PathS
  nextId : Nat
  peerHolder : Bool
  otherHeld : Bool
  peerForce : Bool
  peerCaughtUp : Bool
  session : Option Nat
  nonce : Nat
  peerNonce : Option Nat
  confirmFail : Option Nat
  selfCaughtUp : Bool
  synced : Bool
  pagesWanted : Nat
  configDigest : Nat
  peerFw : Nat
deriving DecidableEq, Repr, Inhabited

end Sys2Proof.Machine
end

