-- ==== Sys2Proof/Config.lean ====
section
/-! DEFINITION. What is fixed for one part: the constants of the spec, and the values it leaves open. A value the spec
leaves open is an opaque constant here, so that no proof can see it; each has a row in the assumption log. -/

namespace Sys2Proof.Config

/-- Processing clocks in one tick of 125 µs (R6, R17). -/
def tickClocks : Nat := 122880

/-- The tick offsets of R18 in processing clocks: 20 µs, 40 µs, 80 µs, 85 µs, 100 µs and 105 µs. -/
def ofsIntake : Nat := 19661
def ofsBurstA : Nat := 39322
def ofsCommit : Nat := 78644
def ofsCheck : Nat := 83559
def ofsDecode : Nat := 98304
def ofsBurstB : Nat := 103220

/-- The first processing clock at or after an offset of `us` microseconds (R17: 983.04 clocks in a microsecond). -/
def usClocks (us : Nat) : Nat := (us * 98304 + 99) / 100

/-- L_fd of filter chain c (R71): the INVALID samples a restarted tuner puts out. -/
def chainLfd (c : Nat) : Nat := [0x60, 0x60, 0x60, 0x60, 0x64, 0x64, 0x68].getD c 0

/-- T_prism of filter chain c in units of 10 ns (R71). -/
def chainGd (c : Nat) : Nat := [0x9AB0, 0x4D58, 0x3057, 0x26AC, 0x1964, 0x1388, 0x0DAC].getD c 0

/-- Coefficients 0 to 15 of shaping bank 0: the half-sine chip pulse (R155). -/
def firHalfSine : List Nat :=
  [6424, 19024, 30893, 41576, 50660, 57798, 62714, 65220, 65220, 62714, 57798, 50660, 41576, 30893, 19024, 6424]

/-- The coefficients of shaping bank 1 that are not zero, from index 19: the Gaussian frequency pulse with BT = 0.5,
worked out from R155's formula. -/
def firGauss19 : List Nat :=
  [2, 16, 86, 385, 1400, 4163, 10184, 20683, 35340, 51711, 66300, 76501, 81506,
   81506, 76501, 66300, 51711, 35340, 20683, 10184, 4163, 1400, 385, 86, 16, 2]

/-- What coefficient `i` of shaping bank `b` resets to (R155: banks 2 to 15 reset to bank 0's values). -/
def firReset (b i : Nat) : Nat :=
  if b = 1 then (if i < 19 then 0 else firGauss19.getD (i - 19) 0) else firHalfSine.getD i 0

/-- DESIGN CHOICE (log entry 4): fuses burnt in the epoch row and in the SVN row, life-cycle state and record pairs used of
the part that is modelled. The spec gives these per device; the modelled part is a factory-fresh one. -/
def epochFuses : Nat := 0
def svnFuses : Nat := 0
def lcState : Nat := 0
def lcSlotsUsed : Nat := 0

/-- Free value (log entry 4): word `i` of the device identity public key (R238, given per device). -/
opaque idPub : Nat → Nat

/-- Free values (log entry 6): functions of the standards the spec names by reference. Key check value and key fingerprint of
a key (R229, R227), the DRBG's output by draw (R240). -/
opaque kcv : Nat → Nat
opaque fpr : Nat → Nat
opaque drbg : Nat → Nat

/-- Free values (log entry 8): what IEEE 802.15.4-2020 gives and the spec names by reference. SFD octets of a SUN FSK mode, coded
bits of a SUN FSK frame with FEC by RSC flag and PSDU length, OFDM symbols of a frame by mode and PSDU length,
aUnitBackoffPeriod of a PHY and mode in ns, and the largest PSDU of a SUN PHY. -/
opaque fskSfd : Nat → Nat
opaque fskCoded : Nat → Nat → Nat
opaque ofdmSymbols : Nat → Nat → Nat
opaque unitBackoff : Nat → Nat → Nat
opaque maxPsdu : Nat → Nat

/-- Free values (log entry 10): the transmit profile and the acknowledgement request of a packet that comes from the backhaul or
is turned round, which no descriptor gives, and the learned drift where DT_MIN is 0 and no time has passed (R189). -/
opaque fwdProfile : Nat → Nat
opaque fwdAr : Nat → Bool
opaque drift : Nat → Int

/-- Free values: the width in ns, above 100 and by at most 100, at which a draw of the TAMPER_N filter acts (R246, log entry 12), the
device serial number and the signature of an attestation statement (R239, log entries 4 and 6), and the MAC sequence number of a
composed frame (log entry 13). -/
opaque tamperThr : Nat → Nat
opaque serial : Nat
opaque attestSig : List Nat → Nat
opaque seqNo : Nat → Nat

/-- Free value (log entry 6): a draw of the CSMA-CA generator (R204, R240). -/
opaque csmaDraw : Nat → Nat

/-- Free value (log entry 10): the links that the scheduler chooses for a node by its periods, the airtime and a draw (R208): of each the
slotframe, the position, the channel offset and the offset in the cell in µs. -/
opaque rateLinks : Nat → Nat → Nat → Nat → List (Nat × Nat × Nat × Nat)

/-- Free value (log entry 15): word `i` of what READ finds at a bucket above 98,303, where a table has no entry (R268). -/
opaque emtBeyond : Nat → Nat → Nat

/-- Free value (log entry 10): octets of the record of a scheduler command's effect, by draw (R312, R399). -/
opaque deltaLen : Nat → Nat

/-- Free value (log entry 10): the VLAN of a tenant on the backhaul, which no register gives (R275). -/
opaque vlan : Nat → Nat

/-- Free value (log entry 20): word `i` of the octets of a packet, by the label that stands for them. -/
opaque pktWord : Nat → Nat → Nat

/-- Free values of the twin pair (log entry 26): the session key that the pair key and N_0 XOR N_1 give (R408), the side of the part (the
twin's serial number is not known to the model), the pages of a RESYNC by draw (R420 gives no size of the regions), and whether the
words of a signature verify over the words signed (R417, R450, R498; log entry 6). -/
opaque sessionKey : Nat → Nat → Nat
opaque side : Nat
opaque resyncPages : Nat → Nat
opaque sigVerify : List Nat → List Nat → Bool

/-- Free values (log entry 30): SHA-384 of octets (R428, R442, R448), what a firmware schema gives an item ID, as its version, number
of indices, length, least and greatest value, none for an ID that it does not hold (R442, R443, R447), and the installation key
that a provisioning payload unwraps to, none where it fails (R452). -/
opaque sha384 : List Nat → Nat
opaque schemaItem : Nat → Nat → Option (List Nat)
opaque provUnwrap : List Nat → Option Nat

/-- Free values of the schema (log entry 30): that an overlay may not set an ID, an item's default value as octets by schema, ID and INDEX, and
the value of its field `k` in the octets of an item (R442 to R444). -/
opaque schemaBase : Nat → Nat → Bool
opaque schemaDefault : Nat → Nat → Nat → List Nat
opaque itemField : Nat → List Nat → Nat → Nat

/-- Free values (log entry 33): word `a` of SRAM at a draw, the region and word address that an SRAM byte address belongs to, and word `i`
of the octets of a wrapped node key as what it holds gives them (R242, R243, R500). -/
opaque sramWord : Nat → Nat → Nat
opaque sramPlace : Nat → Nat × Nat
opaque secretWord : List Nat → Nat → Nat

/-- Free values (log entry 49): whether an exact value that is no integer is rounded up (R63, R64, R149), output sample `i` of the interface decimator of a factor over
interface samples of which the tick's begin at an index, and of the interpolator over port samples likewise (R43), a sample turned by a phase of 2^32 to a turn (R66), and output sample
`i` of a filter chain over mixed samples (R71). -/
opaque roundUp : Rat → Bool
opaque ifDecim : Nat → List (Int × Int) → Nat → Nat → Int × Int
opaque ifInterp : Nat → List (Int × Int) → Nat → Nat → Int × Int
opaque rotate : Nat → Int × Int → Int × Int
opaque chainOut : Nat → List (Int × Int) → Nat → Int × Int

/-- Free values of reception (log entry 49): whether the standard allows an MCS for an OFDM option (R83), the preamble reference of a PHY
and mode that the standard gives, as the part holds it (R86), the carrier offset and drift that the tracking loop of a PHY reaches at a
noise bandwidth in thousandths of the symbol rate (R89), the gain of the soft values (R136), and for R102 the chip or symbol sequence of
decoded O-QPSK bits, the PSDU octets that samples of an O-QPSK frame demodulate to, sample `i` of the waveform of a sequence at measured values, and chip `i` taken from held samples. -/
opaque ofdmMcsOk : Nat → Nat → Bool
opaque preRef : Nat → Nat → List (Rat × Rat)
opaque loopReach : Nat → Nat → Int → Int → Int × Int
opaque softGain : Rat
opaque oqpskSyms : List Bool → List (Int × Int)
opaque oqpskOctets : List (Int × Int) → List Nat
opaque regenAt : List (Int × Int) → List Int → Nat → Int × Int
opaque chipAt : List (Int × Int) → Nat → Int × Int

/-- Free values of transmission (log entry 51): the error of a cosine and a sine that the part forms, which `Machine.cis` bounds, the
symbols of a SUN FSK frame by MODE, NPRE, FEC_RSC and PSDU, the lowest deviation first, and the chips of an O-QPSK frame by MODE and PSDU, each as
whether it lies on the Q axis and whether it is negative (R152), sample `i` of OFDM symbol `k` of a PSDU with its prefix and the number of samples in a symbol (R153), sample `i` at the port rate of
baseband samples of a rate in Hz (R146), and octet `i` of the PSDU of a composed frame. -/
opaque cisError : Rat → Rat × Rat
opaque fskFrame : Nat → Nat → Nat → List Nat → List (Fin 4)
opaque oqpskFrame : Nat → List Nat → List (Bool × Bool)
opaque ofdmSym : Nat → List Nat → Nat → Nat → Rat × Rat
opaque ofdmLen : Nat → Nat
opaque txInterp : Nat → List (Rat × Rat) → Nat → Rat × Rat
opaque psduOctet : List Nat → Nat → Nat

/-- FREE VALUE: processing clocks that the fetch and unwrap of a node key take on a miss of the key cache; R214 gives only their bound (log entry 52). -/
opaque keyFetch : Nat → Nat

/-- Free values of composition (log entry 51): octets of an Enh-ACK before its security header and its FCS, by PHY, by whether it carries a
sequence number and by whether a Time Correction IE, octets of an FCS by PHY, and PSDU length of a flood frame by tenant, seed and sequence number. -/
opaque ackHead : Nat → Bool → Bool → Nat
opaque mhrLen : Nat → Bool → Nat
opaque fcsLen : Nat → Nat
opaque floodLen : Nat → Nat → Nat → Nat

/-- Free values of mirror bursts (log entry 26): octet `i` of a firmware delta or page by the label of its body, the label of the page at a
region and address, the region and address of the page sent when so many are left, the octets that CCM* encryption gives and its 16-octet MIC
by key, nonce, header and records, and the ACK field before anything is received. -/
opaque bodyOctet : Nat → Nat → Nat
opaque pageBody : Nat → Nat → Nat
opaque resyncPage : Nat → Nat × Nat
opaque ccmText : Nat → List Nat → List Nat → List Nat
opaque ccmMic : Nat → List Nat → List Nat → List Nat → Nat
opaque noAck : Nat

/-- Free values of Loupe records (log entry 33): octet `i` of the header that holds MAGIC, FORMAT, SEQ, the serial number, the tick count and
FLAGS, the ID of a histogram's bin in an entry, the key label and the nonce that seal a record, and the signature's octets. -/
opaque loupeHead : List Nat → Nat → Nat
opaque binEntry : Nat → Nat → Nat
opaque loupeKey : Nat
opaque loupeNonce : Nat → List Nat
opaque loupeSign : List Nat → Nat → Nat

end Sys2Proof.Config
end

