-- ==== Sys2Proof/Machine/Signal.lean ====
section
/-! DEFINITION. Samples and bit sequences: the lane-discovery pattern, the port front stage and the tuners' mixers (R48 to R51, R62 to
R66). Where the spec gives a filter by its response alone, or no rounding, the value is a free one (log entry 49). -/

namespace Sys2Proof.Machine

/-- A complex sample, I and Q. -/
abbrev Cpx := Int × Int

/-! ## The lane-discovery pattern (R48, R49) -/

/-- Seeds of the lane-discovery pattern (R48). -/
def laneSeed (l : Nat) : Nat := (l + 1) * 0x1111 % 0x8000

/-- One step of the PRBS15 recurrence (R48). -/
def prbsStep (st : Nat) : Nat := (st * 2 + b2n (bitAt st 14 != bitAt st 13)) % 0x8000

/-- The first bits that a PRBS15 state sends. -/
def prbsBits : (n st : Nat) → List Bool
  | 0, _ => []
  | n + 1, st => bitAt st 14 :: prbsBits n (prbsStep st)

/-- The 2,048-bit frame of a logical lane. -/
def laneFrame (l : Nat) : List Bool := prbsBits 2048 (laneSeed l)

/-- Each bit after the first 15 follows from those before it by the recurrence, or by its complement. -/
def followsPrbs (inv : Bool) (b : List Bool) : Bool :=
  ((b.zip (b.drop 1)).zip (b.drop 15)).all (fun x => x.2 == ((x.1.1 != x.1.2) != inv))

/-- The number whose bits these are, the first the highest. -/
def bitsMsb (l : List Bool) : Nat := l.foldl (fun a b => 2 * a + b2n b) 0

/-- What the 15 bits before a place and the bits from it on say (R49): the place is a restart, since the recurrence breaks there; 1,024 bits
from it on follow the recurrence or its complement; and the 15 leading ones give a seed or its complement. -/
def laneAt (b : List Bool) : Option (Nat × Bool) :=
  let c := b.drop 15
  let v := bitsMsb (c.take 15)
  [(false, 0), (true, 0x7FFF)].findSome? (fun i =>
    (List.range 8).findSome? (fun l =>
      if v ^^^ i.2 = laneSeed l && !followsPrbs i.1 (b.take 30) && (c.take 1024).map (· != i.1) == prbsBits 1024 (laneSeed l) then
        some (l, i.1) else none))

/-- The search of a physical lane's raw bits for the frame's restart: the logical lane and its polarity. -/
def laneSearch : List Bool → Option (Nat × Bool)
  | [] => none
  | x :: b => (laneAt (x :: b)).orElse (fun _ => laneSearch b)

/-! ## The port front stage (R62 to R65) -/

/-- 16-bit saturation of an exact value. -/
def clip16 (x : Rat) : Rat := max (-32768) (min x 32767)

/-- K of the DC loop: a value outside 8 to 20 is treated as 16 (R63). -/
def dcShift (k : Nat) : Nat := if 8 ≤ k && k ≤ 20 then k else 16

/-- DC removal over samples from an offset estimate on: y[n] = x[n] − d[n], d[n+1] = d[n] + (x[n] − d[n]) / 2^K (R63). -/
def dcRun (k : Nat) : List (Rat × Rat) → Rat × Rat → List (Rat × Rat) × (Rat × Rat)
  | [], d => ([], d)
  | x :: l, d =>
    let y := (x.1 - d.1, x.2 - d.2)
    let r := dcRun k l (d.1 + y.1 / (2 ^ k : Nat), d.2 + y.2 / (2 ^ k : Nat))
    (y :: r.1, r.2)

/-- IQ correction: Q' = Q + (GAIN × Q + PHASE × I) / 2^15, saturated (R64). -/
def iqCorrect (gain phase : Int) (x : Rat × Rat) : Rat × Rat :=
  (x.1, clip16 (x.2 + ((gain : Rat) * x.2 + (phase : Rat) * x.1) / 32768))

/-- An exact value rounded to one of the integers beside it: which one is free (log entry 49). -/
def rounded (v : Rat) : Int := if v.den = 1 then v.num else v.floor + (if Config.roundUp v then 1 else 0)

/-- A port sample of 16 bits. -/
def portSample (x : Rat × Rat) : Cpx := (rounded (clip16 x.1), rounded (clip16 x.2))

/-- The interface decimator (R43, R62): of factor 1 it passes the samples, else it gives one for each `factor` of them; `before` are the
interface samples of the tick before. -/
def decimate (factor : Nat) (before l : List Cpx) : List Cpx :=
  if factor ≤ 1 then l else (List.range (l.length / factor)).map (Config.ifDecim factor (before ++ l) before.length)

/-- The interface interpolator of a transmit stream (R43): of factor 1 it passes the samples, else it gives `factor` for each of them. -/
def interpolate (factor : Nat) (before l : List Cpx) : List Cpx :=
  if factor ≤ 1 then l else (List.range (l.length * factor)).map (Config.ifInterp factor (before ++ l) before.length)

/-- The interface sample is clipped (R65). -/
def clipped (x : Cpx) : Bool := x.1 == -32768 || x.1 == 32767 || x.2 == -32768 || x.2 == 32767

/-- Power of a sample. -/
def powerOf (x : Cpx) : Nat := x.1.natAbs ^ 2 + x.2.natAbs ^ 2

/-- A power p / n in −0.25 dBFS steps, rounded to the nearest with ties away from zero: 0x1FF below −127.75 dBFS, 0 at or above full
scale, a magnitude of 32,768 (R65). Step k or more is p / n ≤ 2^30 × 10^(−(2k − 1) / 80). -/
def powerField (p n : Nat) : Nat :=
  ((List.range 511).filter (fun j => decide (p ^ 80 * 10 ^ (2 * j + 1) ≤ (n * 2 ^ 30) ^ 80))).length

/-! ## Tuners (R66, R71 to R73) -/

/-- Output samples of a chain in ten ticks, a tick having 122,880 clocks (R71, R72). -/
def chainTen (c : Nat) : Nat := [250, 500, 800, 1000, 1536, 2000, 3072].getD c 0

/-- Output samples of a chain in a number of clocks since the ticks began (R72). -/
def samplesIn (c clocks : Nat) : Nat := clocks * chainTen c / 1228800

/-- The clocks in which a number of output samples comes. -/
def samplesClk (c n : Nat) : Nat := (n * 1228800 + chainTen c - 1) / max 1 (chainTen c)

/-- Port sample `n`, mixed down by an offset in units of 122.88 MHz / 2^32 (R66): the mixer's phase turns by the offset at each sample. -/
def mix (ofs : Int) (n : Nat) (x : Cpx) : Cpx := Config.rotate (ofSigned 32 (-(ofs * n))) x

/-- What a tuner puts out in a tick: for each run of samples its count and whether it is VALID. INVALID samples are zero (R73). `src` are
the mixed port samples of this tick and the ticks before it that the chain's response reaches. -/
def tunerOut (chain : Nat) (src : List Cpx) (tags : List (Nat × Bool)) : List (Cpx × Bool) :=
  let l := tags.flatMap (fun t => List.replicate t.1 t.2)
  l.zipIdx.map (fun x => if x.1 then (Config.chainOut chain src x.2, true) else ((0, 0), false))

/-! ## The detection metric (R86, R97) -/

/-- Σ r[i] · conj(p[i]) over a window and factors of a reference. -/
def correlate (r : List Cpx) (p : List (Rat × Rat)) : Rat × Rat :=
  (r.zip p).foldl (fun a x => (a.1 + (x.1.1 * x.2.1 + x.1.2 * x.2.2), a.2 + (x.1.2 * x.2.1 - x.1.1 * x.2.2))) (0, 0)

def ratPower (x : Rat × Rat) : Rat := x.1 * x.1 + x.2 * x.2

/-- The energy of samples. -/
def energy (l : List Cpx) : Nat := (l.map powerOf).foldl (· + ·) 0

/-- L + M · √2 is not negative. -/
def sqrtTwoAtLeast (l m : Rat) : Bool :=
  if 0 ≤ l then decide (0 ≤ m) || decide (2 * (m * m) ≤ l * l) else decide (0 ≤ m) && decide (l * l ≤ 2 * (m * m))

/-- c ≥ th / 256 for windows of the streams and a reference whose samples are u + v · √½, of which one of u and v is 0 (R86): with
X = Σ r u* and Y = Σ r v*, 256 · (2|X|² + |Y|² + 2√2 Re X Y*) against th times the streams' energy and twice the reference's. -/
def metricReached (th : Nat) (windows : List (List Cpx)) (p : List ((Rat × Rat) × (Rat × Rat))) : Bool :=
  let u := p.map (·.1)
  let v := p.map (·.2)
  let er : Nat := (windows.map energy).foldl (· + ·) 0
  let ep : Rat := (p.map (fun x => 2 * ratPower x.1 + ratPower x.2)).foldl (· + ·) 0
  let xy := windows.map (fun w => (correlate w u, correlate w v))
  let l : Rat := 256 * (xy.map (fun x => 2 * ratPower x.1 + ratPower x.2)).foldl (· + ·) 0 - th * er * ep
  let m : Rat := 512 * (xy.map (fun x => x.1.1 * x.2.1 + x.1.2 * x.2.2)).foldl (· + ·) 0
  decide (0 < er) && decide (0 < ep) && sqrtTwoAtLeast l m

/-- A mean power of at least −0.5 × m dBFS: e over n samples against a magnitude of 32,768. -/
def powerAtLeast (e n m : Nat) : Bool := decide (0 < n) && decide ((n * 2 ^ 30) ^ 20 ≤ e ^ 20 * 10 ^ m)

/-! ## Recovery of a held frame (R102) -/

/-- Held samples less the captor's waveform over the overlap, which begins at sample `first` of them and is `span` samples long. -/
def residue (held : List Cpx) (first span : Nat) (wave : Nat → Cpx) : List Cpx :=
  held.zipIdx.map (fun x => if first ≤ x.2 && x.2 < first + span then
    (x.1.1 - (wave (x.2 - first)).1, x.1.2 - (wave (x.2 - first)).2) else x.1)

end Sys2Proof.Machine
end

