-- ==== Sys2Proof/Machine/RxTypes.lean ====
section
/-! DEFINITION. The state of the sample interface, Prism, the channel engines and the decoder array that is no register field
(chapters 2, 3 and 4), and what their commands carry. -/

namespace Sys2Proof.Machine

/-- The sample interface. `grid` holds the LEMC grid of a port as its phase in device clocks (key n for RXPn, 8 + n for TXPn;
no entry where the port has none), `armPulse` and `armEdge` what an armed SYSREF still waits for (R55, R56), `perBase` the
elapsed tick from which periodic pulses count, `wentDown` the RX ports that went DOWN since the last boundary, and `fed` those that were UP
at some time since then. -/
structure RsiS where
  grid : Tab Nat
  armPulse : Bool
  armEdge : Bool
  perBase : Nat
  wentDown : List Nat
  fed : List Nat
deriving DecidableEq, Repr, Inhabited

/-- What a tuner runs with (R70): port, offset, chain, whether it is one of a pair, and the engine it feeds alone. -/
structure TuRun where
  port : Nat
  ofs : Int
  chain : Nat
  pair : Bool
  engine : Nat
deriving DecidableEq, Repr, Inhabited

/-- One tuner: the offset the sequencer set last while HOP = 1 (R69), the INVALID samples still to come (R73), what it runs with, none
while it is off or stopped; that its samples are INVALID because its port has left UP since the boundary (R75, R522); the error of a
move that failed (R76); the clock up to which its output samples are counted, and since the boundary their counts with whether they
are VALID; and its output of the tick just ended. -/
structure TuS where
  hopOfs : Option Int
  fill : Nat
  runs : Option TuRun
  lost : Bool
  moveErr : Nat
  mark : Nat
  tags : List (Nat × Bool)
  out : List (Cpx × Bool)
deriving DecidableEq, Repr, Inhabited

/-- A port's front stage: the interface samples of the tick before, the DC estimates of I and Q (R63), and the port samples of the last
five ticks, oldest first (R42), which the tuners' chains reach back into. -/
structure FrontS where
  before : List Cpx
  dcI : Rat
  dcQ : Rat
  ticks : List (List Cpx)
deriving DecidableEq, Repr, Inhabited

/-- Prism: front stages by port, tuners, and of the boundary in hand the tuners whose configuration was written and whether any tuner or
port configuration was (R67, R78). -/
structure PrsmS where
  front : Tab FrontS
  tu : Tab TuS
  wrote : List Nat
  cfg : Bool
deriving DecidableEq, Repr, Inhabited

/-- Measured values of a frame in fine steps, before the rounding of R524: powers in 0.001 dBFS, SNR in 0.001 dB, carrier
offset in mHz and its drift in mHz per ms as they are at the engine input, timing drift in 0.00001 ppm, EVM in 0.001 %, and the carrier's
phase at the first preamble sample in 2^32 to a turn (R102). -/
structure Meas where
  rssiA : Int
  rssiB : Int
  snr : Int
  cfo : Int
  cfoDrift : Int
  timing : Int
  evm : Nat
  phase : Nat
deriving DecidableEq, Repr, Inhabited

/-- What the acquisition that follows a detection finds (R87, R88, R90): symbols to the SFD, preamble octets, whether the SFD is
the coded one, on LD what the 32 chips of the sync word read as, the first the highest bit (R117), the reference instant at the engine
input in units of 2^−16 ns of Reticle time and in the same units from the start of the cell, the clock at which the SFD or the sync word has been
found, from which the engine is synchronised, the clock of the frame's first preamble sample, the length of a frame that its PHR gives, in octets and in processing clocks from its first preamble sample to its last symbol, and the values
measured by then. -/
structure Acq where
  symbols : Nat
  preOctets : Nat
  fec : Bool
  sync : Nat
  ref : Nat
  refOfs : Int
  syncClk : Nat
  startClk : Nat
  phrLen : Nat
  spanClk : Nat
  meas : Meas
deriving DecidableEq, Repr, Inhabited

/-- A confirmed LD header (R118). -/
structure LdHdr where
  pm : Nat
  len : Nat
  ar : Bool
  node : Nat
deriving DecidableEq, Repr, Inhabited

/-- What the waveform of a confirmed captor is regenerated from (R102): its PHY and mode, its decoded bits, its measured values and the
clock of its first preamble sample. -/
structure Regen where
  phy : Nat
  mode : Nat
  bits : List Bool
  meas : Meas
  startClk : Nat
deriving DecidableEq, Repr, Inhabited

/-- A frame on an engine, live, held or in decoding. `slice` is the slice that holds it (0 the engine's own, 1 its partner's),
`captorOk` that its captor is confirmed and `regen` what that one's waveform is regenerated from, `replay` that its replay has started and
`residual` the held samples less that waveform; `dropped` that CE_DIV_DROP has counted it;
`cwDone` holds the data bits of the payload codewords that converged, by place, and `faDue` that it is still to be fast-acknowledged. -/
structure RxFrame where
  fseq : Nat
  phy : Nat
  mode : Nat
  acq : Option Acq
  meas : Meas
  win : Option RxWin
  captor : Bool
  linkFseq : Nat
  capMargin : Nat
  held : Bool
  slice : Nat
  captorOk : Bool
  regen : Option Regen
  replay : Bool
  residual : List Cpx
  sicOut : Nat
  hdr : Option LdHdr
  hdrStaged : Option Nat
  early : Option Nat
  specUsed : Bool
  specHit : Bool
  specSquash : Bool
  iterHdr : Nat
  iterMax : Nat
  iterSum : Nat
  cwTotal : Nat
  cwStaged : Nat
  cwDone : List (Nat × List Bool)
  faElig : Bool
  faLost : Bool
  lastClk : Option Nat
  dropped : Bool
  tuner : Nat
  chain : Nat
  portA : Nat
  portB : Nat
  div : Bool
deriving DecidableEq, Repr, Inhabited

/-- A confirmed frame that waits for its partner engine of a SELECT pair (R92): the frame and its FCS value. -/
structure DupWait where
  frame : RxFrame
  psdu : Psdu
  len : Nat
  fcs : Nat
deriving DecidableEq, Repr, Inhabited

/-- One channel engine: the frame in progress, the held frames, the next FSEQ, the mode announced by an accepted mode switch
(R84), whether the engine runs with an accepted slice (R94), the frame that waits under R92, and this tick's counts for its
tick report with the report of the tick before that is still to be delivered (R110). `ringSince` is the clock from which a ring has
been recording with no frame held (R96). -/
structure CeS where
  cur : Option RxFrame
  held : List RxFrame
  fseq : Nat
  msMode : Option Nat
  running : Bool
  dup : Option DupWait
  busyFrom : Option Nat
  busy : Nat
  dets : Nat
  arr : List Int
  ringSince : Nat
  report : Option (Nat × Nat × List Int)
deriving DecidableEq, Repr, Inhabited

/-- A codeword in staging (R95, R133): its frame, whether it is a header and of a held frame, its place, the data bits it
carries, its soft values, whether its frame is fast-ACK-eligible, its due tick and the clock of its staging. -/
structure CwS where
  engine : Nat
  fseq : Nat
  hdr : Bool
  ix : Nat
  bits : Nat
  pm : Nat
  llr : List Int
  faElig : Bool
  dueTick : Nat
  clk : Nat
deriving DecidableEq, Repr, Inhabited

/-- A decode under way: its codeword, the clock at which it started, its iteration limits (R140) and whether its fast-ACK has been
withdrawn (R145). -/
structure DecJob where
  cw : CwS
  start : Nat
  limit : Nat
  faLimit : Nat
  withdrawn : Bool
deriving DecidableEq, Repr, Inhabited

/-- The engines and the decoder array: staged codewords in order of staging, decodes by decoder, LD frames whose demodulation has
ended, and B_dec in force in this tick and the ticks before it, this tick's first (R19, R139). -/
structure RxS where
  ce : Tab CeS
  staged : List CwS
  jobs : Tab DecJob
  decoding : List (Nat × RxFrame)
  budgets : List Nat
deriving DecidableEq, Repr, Inhabited

/-- What a detection rests on (R86, R97): the engine's last input samples, newest last, of its stream and for an MRC pair of the second one,
and for the capture margin the energy that the current frame's tracking gives the 16 symbols before the window, and their samples.
DESIGN CHOICE: log entry 43. -/
structure Detect where
  a : List Cpx
  b : List Cpx
  eCur : Nat
  nCur : Nat
deriving DecidableEq, Repr, Inhabited

/-- The chips of an LD frame as the engine has them after its matched filter (R89, R91, R133), one sample a chip and stream, pilots among
them, with each stream's channel and noise estimate. DESIGN CHOICE: log entry 43. -/
structure Chips where
  a : List Cpx
  b : List Cpx
  hA : Cpx
  hB : Cpx
  varA : Nat
  varB : Nat
deriving DecidableEq, Repr, Inhabited

end Sys2Proof.Machine
end

