-- ==== Sys2Proof/Machine/MacTypes.lean ====
section
/-! DEFINITION. The state of the MAC sequencer, the scheduler and the transmit composer that is no register field (chapters 5 and
6), and what their commands carry. -/

namespace Sys2Proof.Machine

/-- A window in force: the plan's window, the span in which it occupies its engine and for transmit windows the interval in which
the frame may be sent, in ns from the start of the cell, with the centre and half-width of the node's model (R188, R190),
whether it carries nothing (R190) or is used, of a follow-on window the channel offset that it keeps (R195), and once the tick of its start has begun
what the traffic manager offered it: the composition number of a frame, or none (R336). -/
structure WinS where
  w : Window
  lo : Int
  hi : Int
  centre : Int
  half : Nat
  dead : Bool
  used : Bool
  follow : Option Nat
  offer : Option (Option Nat)
deriving DecidableEq, Repr, Inhabited

/-- A slotframe, a link (`auto` where the scheduler chose it for a NODE_RATE), a node whose links the scheduler maintains and a tenant's enhanced beacons (R208). -/
structure Slotframe where
  tenant : Nat
  sf : Nat
  len : Nat
  hopg : Nat
deriving DecidableEq, Repr, Inhabited

structure Link where
  tenant : Nat
  sf : Nat
  pos : Nat
  chofs : Nat
  kind : Nat
  node : Nat
  ofs : Nat
  span : Nat
  lead : Nat
  prof : Nat
  ackw : Bool
  auto : Bool
deriving DecidableEq, Repr, Inhabited

structure NodeRate where
  tenant : Nat
  node : Nat
  up : Nat
  down : Nat
  airtime : Nat
deriving DecidableEq, Repr, Inhabited

structure Beacon where
  tenant : Nat
  period : Nat
  prof : Nat
  chofs : Nat
deriving DecidableEq, Repr, Inhabited

/-- An acknowledgement to be launched (R198): its engine, the frame it answers by its sender, tenant, sequence number, security
level, key and counter state, the clock of its launch instant, the clock at which it is ready, what R194 to R196 put
into it and how it is secured once it is launched (R222). -/
structure AckPend where
  engine : Nat
  tenant : Nat
  node : Nat
  seq : Nat
  secured : Bool
  keyRef : Option Nat
  keyBits : Nat
  launch : Nat
  ready : Nat
  psduLen : Nat
  level : Nat
  pending : Bool
  corr : Option Int
  nominal : Nat
  span : Nat
  join : Bool
  frame : Nat
  sec : Option SecHdr
deriving DecidableEq, Repr, Inhabited

/-- A frame of the active cluster that waits for a TX_FW or TX_CSMA window (R181, R204), or a standalone Enh-ACK that waits for the
node's next window (R200): of an Enh-ACK the pending bit and the Time Correction value, the nominal instant and the SPAN of the
frame it answers, which a follow-on window takes over (R195, R196), and that frame's key (R222); of a frame with AR = 1 its retries (R203); how it is secured, an Enh-ACK at its launch with the level of the frame it
answers. -/
structure FwFrame where
  tenant : Nat
  node : Nat
  prof : Nat
  len : Nat
  secured : Bool
  bcast : Bool
  ar : Bool
  isAck : Bool
  seq : Nat
  pending : Bool
  corr : Option Int
  nominal : Nat
  span : Nat
  keyRef : Option Nat
  keyBits : Nat
  retries : Nat
  level : Nat
  sec : Option SecHdr
deriving DecidableEq, Repr, Inhabited

/-- What a transmission carries. A repetition of a flood frame under R179 keeps how it is secured. -/
inductive TxKind where
  | ack (a : AckPend)
  | fw (f : FwFrame)
  | data (f : AirFrame)
  | flood (tenant seed seq : Nat) (sec : SecHdr)
deriving DecidableEq, Repr, Inhabited

/-- A transmission on a modulator (R146): its port, engine and band, its offset from the port's centre in Hz, its PSDU's length in octets, the
profile fields and shaping bank it latched at launch (R151, R156), the clock of its launch, its on-air time in thirds of a ns, and the charges made
in each sub-band with the sub-window charged and the number of the sub-window's turn (R166). -/
structure TxS where
  port : Nat
  engine : Nat
  band : Nat
  freq : Int
  len : Nat
  kind : TxKind
  prof : List Nat
  coefs : List Nat
  start : Nat
  onAir : Nat
  feBits : Nat
  charges : List (Nat × Nat × Nat)
deriving DecidableEq, Repr, Inhabited

/-- A transmission that has ended: the clock of its end, and whether it was abandoned there. -/
structure TxTail where
  tx : TxS
  stop : Nat
  cut : Bool
deriving DecidableEq, Repr, Inhabited

/-- An ACK wait (R202): its engine, the frame and the clocks between which it runs. -/
structure AckWait where
  engine : Nat
  frame : AirFrame
  lo : Nat
  hi : Nat
deriving DecidableEq, Repr, Inhabited

/-- A frame in CSMA-CA (R204): its window's engine, its window, the frame, the number of backoffs, the backoff exponent and the clock at which the
backoff under way ends. -/
structure Csma where
  engine : Nat
  win : WinS
  frame : FwFrame
  nb : Nat
  be : Nat
  due : Nat
deriving DecidableEq, Repr, Inhabited

/-- The MAC sequencer. `cell` counts cells and `cellTick` is the elapsed tick in which the current cell began; `len` and `asnOfs`
are latched at the boundary at which EN takes effect (R180); `planned` says that the cell runs a plan; `fresh` and `freshAmends` hold the
plans and amendments written for the tick commit that is still to be posted (R181, R183); `hopOld` holds the
hop registers still in force until the next cell boundary (R187); `resets` lists the nodes to mark at the next boundary
(R191). -/
structure MacS where
  running : Bool
  len : Nat
  asnOfs : Nat
  cell : Nat
  cellTick : Nat
  planned : Bool
  wins : List WinS
  chofs : Tab Nat
  plans : List Plan
  fresh : List Plan
  freshAmends : List Amend
  amends : List Amend
  follows : List WinS
  hopOld : Tab Nat
  sfs : List Slotframe
  links : List Link
  rates : List NodeRate
  beacons : List Beacon
  acks : List AckPend
  waits : List AckWait
  csma : List Csma
  fwq : List FwFrame
  resets : List Nat
  quota : Tab Nat
deriving DecidableEq, Repr, Inhabited

/-- One sub-band entry (R166, R169): its 60 sub-windows, the edges, limit and window in force, that one of them was written since the
last boundary, and the tick after the one that began with its last rollover. -/
structure SbS where
  sw : List Nat
  lo : Nat
  hi : Nat
  duty : Nat
  win : Nat
  wrote : Bool
  rolled : Nat
deriving DecidableEq, Repr, Inhabited

/-- The transmit composer: transmissions by modulator, sub-bands by 16 × band + entry with the units used in each at the last boundary (R162),
active coefficients by 64 × bank + index where they are not the reset ones (R156), the clock of each port's gate and the ports whose HOLD has
passed since (R173), the ended transmissions that a port's sum or an FE_CTL pin may still show (R149, R174), SCALE of each port in the last
two ticks, and the clock up to which the pins' edges have been put out. -/
structure TxcS where
  mods : Tab TxS
  sb : Tab SbS
  sbAt : Tab Nat
  fir : Tab Nat
  gateClk : Tab Nat
  holdDone : List Nat
  tails : List TxTail
  scales : List (List Nat)
  feMark : Nat
deriving DecidableEq, Repr, Inhabited

end Sys2Proof.Machine
end

