-- ==== Sys2Proof/Machine/SysTypes.lean ====
section
/-! DEFINITION. The state of the memory, Loupe, debug, clock, time, firmware, power and pin blocks that is no register field
(chapters 11, 12 and 14 to 17). -/

namespace Sys2Proof.Machine

/-- A received PTP frame that waits (R361): its port, its octets, at most 256, and its ingress timestamp in 2^−16 ns. -/
structure PtpRx where
  port : Nat
  octets : List Byte
  ts : Nat
deriving DecidableEq, Repr, Inhabited

/-- A PTP frame to be sent (R362). -/
structure PtpTx where
  port : Nat
  oneStep : Bool
  tag : Nat
  octets : List Byte
deriving DecidableEq, Repr, Inhabited

/-- The Reticle (R341 to R362). `sec`, `ns` and `frac` (in 2^−48 ns) are Reticle time at the last tick boundary, from which it
advances at `rate` (y_eff in ppb); it stands at 0 until `going` (R345). `step` is a step the servo asked for, in 2^−16 ns. `i`,
`y`, `yAvg` and `tPrev` (in 2^−48 ns) are the servo's (R353); `first` and `holdFirst` say that the first offset after a write to
SRC, or in HOLDOVER, has still to come; `spikes` counts spikes in a row, `discard` offsets to discard (R348), `run` the
consecutive offsets that count towards the next state; `lastAcc` is the clock of the last accepted offset, `lockedAt` the clock
at which LOCKED was entered and `locked` the clocks spent in it before. `ppsLast` is the last accepted PPS_IN edge in 2^−16 ns,
`ppsMark` the clock from which the next second without an edge counts, `ppsRise` and `ppsFall` the clocks of the last PPS_OUT pulse, `tickFall` the
clock at which TICK_OUT falls. -/
structure TimeS where
  sec : Nat
  ns : Nat
  frac : Nat
  rate : Rat
  going : Bool
  step : Option Int
  i : Rat
  y : Rat
  yAvg : Rat
  tPrev : Option Nat
  first : Bool
  holdFirst : Bool
  spikes : Nat
  discard : Nat
  run : Nat
  lastAcc : Nat
  lockedAt : Option Nat
  locked : Nat
  ppsLast : Option Nat
  ppsMark : Nat
  ppsRise : Option Nat
  ppsFall : Nat
  tickFall : Nat
  tbSec : Nat
  tbFrac : Nat
  rxq : List PtpRx
  tsq : List (Nat × Nat)
  tx : Option PtpTx
deriving DecidableEq, Repr, Inhabited

/-- The clock synthesizer: the plan in force (R373, R374), the passing windows that count towards VALID and the windows in which a
reference has been VALID, by reference (R379, R383), |d_rT| of the last window where it was formed (R381), and the elapsed tick
from which an output's next retry counts (R378). -/
structure ClkS where
  n : Nat
  icp : Nat
  pre : Nat
  rdiv : Nat
  quals : Tab Nat
  valids : Tab Nat
  last : Tab Nat
  retry : Tab Nat
deriving DecidableEq, Repr, Inhabited

/-- Loupe (R489 to R493): its 48-bit counters by ID and its histogram bins by 0x10000 + 32 × ID + bin, the number of the next seal
record, the snapshot of a seal that is being written with its tick count, the valid records in flash with their numbers, and the seconds since the last
seal. -/
structure LpeS where
  cnt : Tab Nat
  seq : Nat
  sealing : Option (Tab Nat × Nat)
  flash : List (Nat × Tab Nat)
  sinceSeal : Nat
deriving DecidableEq, Repr, Inhabited

/-- An error of the SRAM or LPDDR5X that a read finds (R480, R482): region code, word address in the region in units of 8 octets, the
reader's window code, 0xFF for the scrubber or patrol, and whether it can be corrected. `item` names what the word belongs to (R483): the
entry of a table by its number, a fetched descriptor, a host-bound packet by its set and place, or nothing that holds state. -/
structure EccHit where
  region : Nat
  addr : Nat
  reader : Nat
  ce : Bool
  item : Option (Nat × Nat)
deriving DecidableEq, Repr, Inhabited

/-- Memory (R482 to R486): the elapsed tick in which MEM_UNMAPPED was last raised, the windows that fill or wait to fill in order, the
logged errors not yet read (region, reader, word address), the words read towards the scrubber's next pass, and the poisoned words
with whether the scrubber has reported them. -/
structure MemS where
  unmappedAt : Option Nat
  fillQ : List Nat
  log : List (Nat × Nat × Nat)
  scrubbed : Nat
  poison : List (Nat × Nat)
deriving DecidableEq, Repr, Inhabited

/-- The header of a firmware package, as its 256 octets (R427). -/
structure PkgHdr where
  octets : List Byte
deriving DecidableEq, Repr, Inhabited

/-- An image with the header it came with, as a bank or a flash slot holds it. -/
structure Image where
  hdr : PkgHdr
  octets : List Byte
deriving DecidableEq, Repr, Inhabited

/-- A bank of firmware memory (R429, R430). -/
structure Bank where
  img : Option Image
  verified : Bool
deriving DecidableEq, Repr, Inhabited

/-- One item of a facet (R441). -/
structure FacetItem where
  id : Nat
  index : Nat
  iver : Nat
  val : List Byte
deriving DecidableEq, Repr, Inhabited

/-- One entry of the timetable (R446): `kind` 0 daily, 1 weekly, 2 once. -/
structure TtEntry where
  kind : Nat
  days : Nat
  mask : Nat
  time : Nat
  power : Nat
deriving DecidableEq, Repr, Inhabited

/-- An accepted facet (R441, R442, R446). -/
structure Facet where
  schemaVer : Nat
  gen : Nat
  hash : Nat
  items : List FacetItem
  localOfs : Int
  entries : List TtEntry
deriving DecidableEq, Repr, Inhabited

/-- Firmware and facets (chapter 14). The banks; the flash: whether it can be read, the two slots and the two directory copies as SEQ
and RUN_SLOT, none where a copy is not valid, and the facet store, the newer generation first; the slot that the boot in hand has
chosen (R432); the elapsed tick in which an activation entered BOOTING and the cluster it boots (R437, R438);
the facets loaded and those held for the staged schema (R447); the host's request as mask and cell (R445); the Reticle time of the
last cell boundary and the elapsed tick of the last CELL_BOUNDARY (R446); the defaulted items not yet read: ID, INDEX, facet,
dropped; and that the next accepted tick commit brings every item's effective value (R444). -/
structure FwS where
  fb0 : Bank
  fb1 : Bank
  flash : Bool
  slot0 : Option Image
  slot1 : Option Image
  dir0 : Option (Nat × Nat)
  dir1 : Option (Nat × Nat)
  store : Tab (List Facet)
  bootSlot : Option Nat
  actSince : Nat
  newCl : Nat
  loaded : Tab Facet
  held : Tab Facet
  request : Option (Nat × Nat)
  lastCell : Option Nat
  cellTick : Option Nat
  defl : List (Nat × Nat × Nat × Bool)
  itemsDue : Bool
deriving DecidableEq, Repr, Inhabited

/-- A record position of the OTP (R451). -/
inductive OtpRec where
  | blank | complete | spoiled
deriving DecidableEq, Repr, Inhabited

/-- A record pair of the OTP (R451): its intent record with what a complete one says, and its two commit positions. -/
structure LcPair where
  intent : OtpRec
  src : Nat
  dst : Nat
  epoch : Nat
  copy : Nat
  digest : Nat
  c0 : OtpRec
  c1 : OtpRec
deriving DecidableEq, Repr, Inhabited

/-- A provisioning payload copy of the OTP (R452). -/
inductive PayCopy where
  | blank | bad | ok (words : List Nat)
deriving DecidableEq, Repr, Inhabited

/-- What is programmed once and never blank again: fuses burnt in the wrap-epoch row (R245) and in the SVN row (R440), the record
pairs in use, lowest first, and the two payload copies (R451, R452). -/
structure OtpS where
  epoch : Nat
  svn : Nat
  pairs : List LcPair
  pay0 : PayCopy
  pay1 : PayCopy
deriving DecidableEq, Repr, Inhabited

/-- The life cycle (R450): the clock of an arming, and the transition in progress as its target. -/
structure LcS where
  armed : Option Nat
  target : Option Nat
deriving DecidableEq, Repr, Inhabited

/-- A power sequence that runs (R464 to R471). `phase`: 0 waits for its starting tick boundary; 1 powers domains up, and down from
the first cell boundary on; 2 to 7 are the steps into DORMANT or OFF: 2 waits for the cell boundary, 3 drains, 4 seals, 5 powers
domains down, 6 waits for the boundary at which PD29 goes off, 7 powers PD29 down; 8 to 11 are those of a wake: 8 powers PD29 up, 9
waits for boundary B, 10 powers domains up, 11 waits for the boundary at which the lease is taken. `ups` and `downs` are the
domains still to be switched in order, the first of them being the one that switches; `req` is the requester. -/
structure PwrSeq where
  target : Nat
  phase : Nat
  ups : List Nat
  downs : List Nat
  cell : Bool
  mark : Nat
  req : Nat
deriving DecidableEq, Repr, Inhabited

/-- Power: the domains that are off (R454), the running sequence and the queued request as target and requester (R464), a thermal
shutdown that waits for the running sequence (R520), the switches of HUSH duty cycling in order with true for on, the groups needed in
the current cell with whether cycling has begun (R458), the cluster that parked (R469), that HIF is quiet and that the sequencer opens
no windows (R469), the wake sources seen since DORMANT was requested (R475) with the GPIO of source 3, the elapsed tick in
which PD17 went off (R170), PORST_N asserted, the supplies down, the levels of GPIO pins, the domain that is switching, to what and the clock at which that is done
(R467), and that a wake's SYSREF_ARM is still to come (R471). -/
structure PwrS where
  off : List Nat
  seqn : Option PwrSeq
  queued : Option (Nat × Nat)
  thermal : Bool
  cyc : List (Nat × Bool)
  need : Option (List Nat)
  parked : Option Nat
  quiet : Bool
  macStop : Bool
  wakes : List (Nat × Nat)
  gpio : Nat
  txcOff : Option Nat
  porstLow : Bool
  noSupply : Bool
  sw : Option (Nat × Bool × Nat)
  rearm : Bool
deriving DecidableEq, Repr, Inhabited

/-- One debug path (R498, R502): the clock of an arming, that its confirmation came late, the clock of its decision, and the clock at which its level ends. -/
structure DbgPath where
  armed : Option Nat
  late : Bool
  decide : Option Nat
  ends : Option Nat
deriving DecidableEq, Repr, Inhabited

/-- Debug (R496 to R503): the two paths, 0 the PF's DBG window and 1 the JTAG TAP, whose registers stand in the register store
beyond the PF BAR0 space, the state a halted cluster had, and the TAP's instruction. -/
structure DbgS where
  pf : DbgPath
  jtag : DbgPath
  was : Tab Nat
  tap : Nat
deriving DecidableEq, Repr, Inhabited

end Sys2Proof.Machine
end

