-- ==== Sys2Proof/Machine/CmdTypes.lean ====
section
/-! DEFINITION. What commands carry beside numbers and the types of the state: who sends a command, and what the part reads or measures
when it carries one out. -/

namespace Sys2Proof.Machine

/-- The function whose CMD ring holds a scheduler command. `lag` places the first cell with the change after the cell in which the
command was fetched, at most four (R208). -/
structure CmdSrc where
  fn : Fin 257
  lag : Fin 5
deriving DecidableEq, Repr

/-- Where a vault command comes from: the PF's register path, or the CMD ring of a function. -/
structure VSrc where
  reg : Bool
  fn : Fin 257
deriving DecidableEq, Repr

/-- What ends an engine's own decoding: whether the PHR gives an FCS of four octets, whether the header passes its check (of an LD replay,
whether the frame is found again), the OFDM MCS, the PSDU octets as received with the FCS at their end, the frame that the octets read as and
the values measured over it. -/
structure Confirm where
  fcs4 : Bool
  hcsOk : Bool
  mcs : Nat
  octets : List Nat
  psdu : Psdu
  meas : Meas
deriving DecidableEq, Repr

/-- What the part finds on a physical lane that locks in 8b/10b mode (R51): that the running disparity of the K28.5 characters received shows
its pair inverted, and the lane identifier of the ILAS. -/
structure LaneLock where
  lane : Fin 8
  inverted : Bool
  lid : Nat
deriving DecidableEq, Repr

/-- What the boundary takes from outside: the ports at whose device clock SYSREF arrives late, the interface samples of the RX ports released
in the tick just ended, what the shadow comparer reads, the doorbell records sampled, the memory errors that the scrubber and the patrol meet, the
readings of the four junction sensors in 0.1 °C and of the lowest VDD_CORE in mV for Loupe's second, and how many excursions of VDD_CORE of 1 µs or longer and correctable errors reported
through AER the tick had (R490). -/
structure TickEnv where
  arrive : List Nat
  rx : List (List Cpx)
  shadow : Option (List (Nat × EmtEntry))
  bells : List (Nat × Bell)
  hits : List EccHit
  tj : Int × Int × Int × Int
  vcore : Int
  exc : Nat
  aer : Nat
deriving DecidableEq, Repr, Inhabited

end Sys2Proof.Machine
end

