-- ==== Sys2Proof/Syntax.lean ====
section
/-! DEFINITION. The commands of the block: one constructor for each row of spec/opcode_table.json, in its order, with the operands that its
rules name. A command that is itself an event in the part (a deadline, a decode that ends) carries what the event brings with it. -/

namespace Sys2Proof

open Sys2Proof.Machine

/-- A command. `ofs` is the tick offset in processing clocks at which it happens (R17). -/
inductive Instr where
  /-- REGISTER_WRITE (R9). -/
  | registerWrite (src : Fin 772) (w : Fin 16777216) (v : BitVec 32) (ofs : Fin 122880)
  /-- SHORT_WRITE_DISCARD (R13). -/
  | shortWriteDiscard
  /-- READ_64_LOW_WORD (R13). -/
  | read64LowWord (src : Fin 258) (w : Fin 16777216)
  /-- READ_64_HIGH_WORD (R13). -/
  | read64HighWord (src : Fin 258) (w : Fin 16777216)
  /-- WRITE_64_LOW_WORD (R13). -/
  | write64LowWord (src : Fin 258) (w : Fin 16777216) (v : BitVec 32)
  /-- WRITE_64_HIGH_WORD (R13). -/
  | write64HighWord (src : Fin 258) (w : Fin 16777216) (v : BitVec 32) (ofs : Fin 122880)
  /-- SYS_LOCK (R9). -/
  | sysLock
  /-- TICK_BOUNDARY (R18). -/
  | tickBoundary (e : TickEnv)
  /-- INTAKE_CUTOFF (R34). -/
  | intakeCutoff
  /-- BURST_A (R401). -/
  | burstA
  /-- BURST_B (R401). -/
  | burstB
  /-- TICK_COMMIT (R387). -/
  | tickCommit (ofs : Fin 122880) (tick : Nat) (crcOk : Bool) (cmds : List FwCmd)
  /-- WARDEN_COMMIT_CHECK (R389). -/
  | wardenCommitCheck
  /-- COMMIT_GRACE_EXPIRY (R390). -/
  | commitGraceExpiry
  /-- DECODE_DEADLINE (R19). -/
  | decodeDeadline
  /-- RELEASE_DEADLINE (R20). -/
  | releaseDeadline (ofs : Fin 122880)
  /-- COMPOSITION_DEADLINE (R23). -/
  | compositionDeadline
  /-- TICK_REPORT_DEADLINE (R23). -/
  | tickReportDeadline
  /-- RSI_ENABLE_WRITE (R522). -/
  | rsiEnableWrite (en : Bool)
  /-- RSI_PORT_ENABLE (R53). -/
  | rsiPortEnable (p : Fin 12) (en : Bool)
  /-- LANE_DISCOVERY_START (R49). -/
  | laneDiscoveryStart
  /-- LANE_DISCOVERY_END (R49). -/
  | laneDiscoveryEnd (found : List (List Bool))
  /-- PORT_LOCK (R53). -/
  | portLock (p : Fin 12) (lanes : List LaneLock)
  /-- LANE_LOCK_LOSS (R54). -/
  | laneLockLoss (p : Fin 12) (ofs : Fin 122880)
  /-- PORT_DOWN (R54). -/
  | portDown (p : Fin 12) (ofs : Fin 122880)
  /-- PORT_RETRY (R53). -/
  | portRetry (p : Fin 12)
  /-- CRC12_ERROR (R47). -/
  | crc12Error (p : Fin 8) (ofs : Fin 122880)
  /-- SYSREF_ARM (R55). -/
  | sysrefArm
  /-- SYSREF_EDGE (R56). -/
  | sysrefEdge (dev : Fin 30720) (arrive : List Nat)
  /-- TUNER_FILL_COMPLETE (R73). -/
  | tunerFillComplete (n : Fin 128)
  /-- INVALID_SAMPLE_ABORT (R74). -/
  | invalidSampleAbort (e : Fin 128)
  /-- FRAME_DETECTION (R86). -/
  | frameDetection (e : Fin 128) (ofs : Fin 122880) (d : Detect) (acq : Option Acq)
  /-- SFD_SEARCH_TIMEOUT (R87). -/
  | sfdSearchTimeout (e : Fin 128)
  /-- HELD_FRAME_OVERFLOW (R99). -/
  | heldFrameOverflow (e : Fin 128) (slice : Fin 2) (ofs : Fin 122880)
  /-- MODE_SWITCH_PHR (R84). -/
  | modeSwitchPhr (e : Fin 128) (mode : Fin 16) (ok : Bool)
  /-- MODE_SWITCH_TIMEOUT (R84). -/
  | modeSwitchTimeout (e : Fin 128)
  /-- FRAME_CONFIRMATION (R85). -/
  | frameConfirmation (e : Fin 128) (ofs : Fin 122880) (x : Confirm)
  /-- SIC_REPLAY_START (R102). -/
  | sicReplayStart (e : Fin 128) (slice : Fin 2) (ofs : Fin 122880) (npre : Fin 65) (stored : List (Int × Int))
  /-- SIC_REPLAY_END (R103). -/
  | sicReplayEnd (e : Fin 128) (slice : Fin 2) (ofs : Fin 122880) (x : Confirm)
  /-- TICK_REPORT (R110). -/
  | tickReport (e : Fin 128) (noise : Nat × Nat)
  /-- EARLY_HEADER (R141). -/
  | earlyHeader (e : Fin 128) (c : Chips)
  /-- CODEWORD_STAGING (R133). -/
  | codewordStaging (e : Fin 128) (ofs : Fin 122880) (age : Fin 1967) (held : Bool) (c : Chips) (m : Meas)
  /-- HEADER_CONFIRM_TIMEOUT (R134). -/
  | headerConfirmTimeout (e : Fin 128) (ofs : Fin 122880)
  /-- DECODER_DISPATCH (R138). -/
  | decoderDispatch (d : Fin 24) (ofs : Fin 122880)
  /-- DECODE_COMPLETE (R136). -/
  | decodeComplete (d : Fin 24) (ofs : Fin 122880) (psdu : Psdu)
  /-- FAST_ACK_WITHDRAW (R145). -/
  | fastAckWithdraw (d : Fin 24) (ofs : Fin 122880)
  /-- MIRROR_ACK_RECEIVED (R405). -/
  | mirrorAckReceived (p : Fin 2) (seq : Nat) (ofs : Fin 122880)
  /-- REASSEMBLY_TIMEOUT (R274). -/
  | reassemblyTimeout
  /-- FAST_ACK_LAUNCH (R198). -/
  | fastAckLaunch (e : Fin 128) (ofs : Fin 122880)
  /-- CELL_BOUNDARY (R181). -/
  | cellBoundary
  /-- CELL_PLAN_POST (R181). -/
  | cellPlanPost (p : Plan)
  /-- PLAN_AMENDMENT (R183). -/
  | planAmendment (a : Amend)
  /-- SF_SET (R208). -/
  | sfSet (c : CmdSrc) (sf len hopg : Nat)
  /-- SF_DEL (R208). -/
  | sfDel (c : CmdSrc) (sf : Nat)
  /-- LINK_ADD (R208). -/
  | linkAdd (c : CmdSrc) (l : Link)
  /-- LINK_DEL (R208). -/
  | linkDel (c : CmdSrc) (sf pos chofs node : Nat)
  /-- NODE_RATE (R208). -/
  | nodeRate (c : CmdSrc) (node up down airtime : Nat)
  /-- APT_RESET (R191). -/
  | aptReset (c : CmdSrc) (node : Nat)
  /-- EB_SET (R208). -/
  | ebSet (c : CmdSrc) (period prof chofs : Nat)
  /-- SCHED_QUERY (R208). -/
  | schedQuery (c : CmdSrc)
  /-- CSMA_BACKOFF_EXPIRY (R204). -/
  | csmaBackoffExpiry (e : Fin 128) (ofs : Fin 122880) (power : Int)
  /-- ACK_WAIT_EXPIRY (R203). -/
  | ackWaitExpiry (e : Fin 128) (ofs : Fin 122880)
  /-- KICK (R299). -/
  | kick (fn : Fin 257) (rings : Fin 65536) (ofs : Fin 122880) (merged : Bool) (b : Bell)
  /-- DESCRIPTOR_FETCH (R301). -/
  | descriptorFetch (ofs : Fin 122880) (d : Option RawDesc)
  /-- COMPOSE_FRAME (R221). -/
  | composeFrame (ofs : Fin 122880) (size : Fin 2048)
  /-- TX_LAUNCH (R147). -/
  | txLaunch (e : Fin 128) (ofs : Fin 122880)
  /-- TX_END (R179). -/
  | txEnd (m : Fin 32) (ofs : Fin 122880)
  /-- DC_SUBWINDOW_ROLLOVER (R166). -/
  | dcSubwindowRollover (b : Fin 4) (e : Fin 16)
  /-- DC_PRESET_LOAD (R167). -/
  | dcPresetLoad (b : Fin 4)
  /-- FIR_COMMIT (R156). -/
  | firCommit (banks : Fin 65536)
  /-- MASK_VIOLATION (R172). -/
  | maskViolation (p : Fin 4) (ofs : Fin 122880)
  /-- MASK_UNGATE (R173). -/
  | maskUngate (p : Fin 4)
  /-- MASK_HOLD_EXPIRY (R173). -/
  | maskHoldExpiry (p : Fin 4)
  /-- FE_READBACK_CHECK (R176). -/
  | feReadbackCheck (n : Fin 16) (ofs : Fin 122880) (level : Bool)
  /-- TRICKLE_FIRE (R281). -/
  | trickleFire (i : Fin 256)
  /-- TRICKLE_EXPIRY (R281). -/
  | trickleExpiry
  /-- SEEN_ENTRY_EXPIRY (R283). -/
  | seenEntryExpiry
  /-- HIF_RESET (R285). -/
  | hifReset (speed : Fin 6) (width : Fin 5)
  /-- FUNCTION_LEVEL_RESET (R288). -/
  | functionLevelReset (fn : Fin 257)
  /-- RING_ENABLE (R290). -/
  | ringEnable (fn : Fin 257) (r : Fin 16)
  /-- TX_RING_DISABLE (R304). -/
  | txRingDisable (fn : Fin 257) (r : Fin 4)
  /-- PART_RING_DISABLE (R305). -/
  | partRingDisable (fn : Fin 257) (r : Fin 8)
  /-- RX_DELIVERY (R307). -/
  | rxDelivery
  /-- SBK_SPACE_RETURN (R314). -/
  | sbkSpaceReturn
  /-- FQ_POLL_TAG_READ (R328). -/
  | fqPollTagRead
  /-- PORT_SELECT (R333). -/
  | portSelect (p : Fin 3)
  /-- BACKHAUL_PACKET (R331). -/
  | backhaulPacket (p : Fin 2) (t : Fin 256) (pkt : Packet)
  /-- ETH_LINK_DOWN (R334). -/
  | ethLinkDown (p : Fin 2)
  /-- ETH_LINK_UP (R334). -/
  | ethLinkUp (p : Fin 2)
  /-- ETH_TX_POLARITY_FLIP (R518). -/
  | ethTxPolarityFlip (p : Fin 2)
  /-- TCMD_READ (R268). -/
  | tcmdRead (ofs : Fin 122880) (table : Fin 4)
  /-- TCMD_SEARCH (R268). -/
  | tcmdSearch (ofs : Fin 122880) (table : Fin 4)
  /-- TCMD_INSERT (R259). -/
  | tcmdInsert (ofs : Fin 122880) (table : Fin 4) (took : Fin 4113)
  /-- TCMD_DELETE (R268). -/
  | tcmdDelete (ofs : Fin 122880) (table : Fin 4)
  /-- TCMD_REPLACE (R268). -/
  | tcmdReplace (ofs : Fin 122880) (table : Fin 4)
  /-- TCMD_INVALID_OP (R268). -/
  | tcmdInvalidOp (ofs : Fin 122880) (op : Fin 3) (table : Fin 4)
  /-- NTCMD_READ (R251). -/
  | ntcmdRead (region : Fin 2)
  /-- NTCMD_WRITE (R251). -/
  | ntcmdWrite (region : Fin 2)
  /-- EMT_REBUILD (R262). -/
  | emtRebuild (p : Fin 2)
  /-- EMT_CLEAR_DONE (R262). -/
  | emtClearDone (p : Fin 2)
  /-- JOIN_FILL (R262). -/
  | joinFill (p : Fin 2)
  /-- JOIN_FILL_DONE (R262). -/
  | joinFillDone (p : Fin 2)
  /-- AGING_WALK (R264). -/
  | agingWalk
  /-- SHADOW_CONFIRM (R271). -/
  | shadowConfirm (x : Option EmtEntry)
  /-- FWD_DIV_READ (R271). -/
  | fwdDivRead
  /-- GENERATE (R231). -/
  | keyGenerate (src : VSrc) (a : VArgs)
  /-- IMPORT (R231). -/
  | keyImport (src : VSrc) (a : VArgs)
  /-- STAGE (R235). -/
  | keyStage (src : VSrc) (a : VArgs)
  /-- COMMIT (R236). -/
  | keyCommit (src : VSrc) (a : VArgs)
  /-- CANCEL (R231). -/
  | keyCancel (src : VSrc) (a : VArgs)
  /-- DESTROY (R231). -/
  | keyDestroy (src : VSrc) (a : VArgs)
  /-- QUERY (R231). -/
  | keyQuery (src : VSrc) (a : VArgs)
  /-- ATTEST (R239). -/
  | kvAttest (src : VSrc) (a : VArgs)
  /-- RANDOM (R231). -/
  | kvRandom (src : VSrc) (a : VArgs)
  /-- NODE_IMPORT (R237). -/
  | nodeImport (src : VSrc) (a : VArgs)
  /-- NODE_RESTORE (R244). -/
  | nodeRestore (src : VSrc) (a : VArgs)
  /-- KV_INVALID_CODE (R231). -/
  | kvInvalidCode (code : Fin 256) (a : VArgs)
  /-- KV_COMMAND_COMPLETE (R231). -/
  | kvCommandComplete (ofs : Fin 122880)
  /-- JOURNAL_ENTRY_WRITTEN (R227). -/
  | journalEntryWritten (ref : Fin 8392704) (good : Bool)
  /-- TAMPER_EVENT (R246). -/
  | tamperEvent (ns : Nat) (low : Bool)
  /-- SENSOR_TRIP (R246). -/
  | sensorTrip (k : Fin 3)
  /-- EPOCH_ADVANCE (R247). -/
  | epochAdvance
  /-- ENTROPY_HEALTH_FAIL (R240). -/
  | entropyHealthFail
  /-- ENTROPY_RECOVERY (R240). -/
  | entropyRecovery
  /-- TIME_SET (R346). -/
  | timeSet
  /-- TIME_STEP (R347). -/
  | timeStep
  /-- OFFSET_DELIVERY (R352). -/
  | offsetDelivery (ofs : Fin 122880) (firmware : Bool) (ns : BitVec 32)
  /-- SERVO_SRC_WRITE (R357). -/
  | servoSrcWrite (src : Fin 4)
  /-- SERVO_HOLDOVER_TIMEOUT (R357). -/
  | servoHoldoverTimeout (ofs : Fin 122880)
  /-- PPS_IN_EDGE (R351). -/
  | ppsInEdge (ofs : Fin 122880) (rising : Bool) (dev : Fin 262145)
  /-- PPS_IN_MISS (R351). -/
  | ppsInMiss (ofs : Fin 122880)
  /-- PPS_OUT_PULSE (R350). -/
  | ppsOutPulse (ofs : Fin 122880)
  /-- TIME_NOW_READ (R344). -/
  | timeNowRead (ofs : Fin 122880)
  /-- TIME_TB_READ (R344). -/
  | timeTbRead
  /-- PTP_FRAME_RECEIVED (R360). -/
  | ptpFrameReceived (ofs : Fin 122880) (p : Fin 2) (o : List Byte) (dev : BitVec 24)
  /-- PTP_RXSTAT_READ (R361). -/
  | ptpRxstatRead (firmware : Bool)
  /-- PTP_TX_GO (R362). -/
  | ptpTxGo (firmware : Bool) (len : Fin 512) (p : Fin 2) (one : Bool) (tag : Fin 65536)
  /-- PTP_TX_DONE (R362). -/
  | ptpTxDone (ofs : Fin 122880) (dev : BitVec 24)
  /-- PTP_TXTS_READ (R362). -/
  | ptpTxtsRead
  /-- RELOCK (R373). -/
  | relock
  /-- PLL_LOCK (R372). -/
  | pllLock (kvco : Fin 41)
  /-- PLL_LOSS_OF_LOCK (R372). -/
  | pllLossOfLock
  /-- REF_LOSS (R379). -/
  | refLoss (r : Fin 2)
  /-- REF_EDGES_RETURN (R379). -/
  | refEdgesReturn (r : Fin 2)
  /-- MONITOR_WINDOW_END (R380). -/
  | monitorWindowEnd (ofs : Fin 122880) (d01 : BitVec 32) (off0 off1 : Bool)
  /-- CLK_FORCE (R383). -/
  | clkForce
  /-- CLKOUT_CONFIG_WRITE (R377). -/
  | clkoutConfigWrite (n : Fin 8) (src : Fin 4) (fmt : Fin 8) (div : Fin 4096)
  /-- CLKOUT_SHORT (R378). -/
  | clkoutShort (n : Fin 8)
  /-- CLKOUT_SHORT_RETRY (R378). -/
  | clkoutShortRetry (n : Fin 8) (again : Bool)
  /-- CLUSTER_FAULT_REPORT (R389). -/
  | clusterFaultReport (ofs : Fin 122880)
  /-- RESTART (R392). -/
  | clusterRestart
  /-- CLUSTER_BOOT_END (R392). -/
  | clusterBootEnd (c : Fin 2)
  /-- HANDOVER (R393). -/
  | handover
  /-- CLUSTER_DISABLE (R393). -/
  | clusterDisable (c : Fin 2)
  /-- WARDEN_FAULT (R397). -/
  | wardenFault (ofs : Fin 122880)
  /-- WARDEN_RECOVERED (R398). -/
  | wardenRecovered (ofs : Fin 122880)
  /-- MIRROR_BURST_RECEIVED (R405). -/
  | mirrorBurstReceived (p : Fin 2) (b : Burst) (ofs : Fin 122880)
  /-- MIRROR_NAK_RECEIVED (R405). -/
  | mirrorNakReceived (p : Fin 2) (seq : Nat) (ofs : Fin 122880)
  /-- MIRROR_BURST_MISSING (R405). -/
  | mirrorBurstMissing (p : Fin 2) (mic : Bool)
  /-- MIRROR_RETRANSMIT_TIMER (R405). -/
  | mirrorRetransmitTimer (p : Fin 2) (seq : Nat) (ofs : Fin 122880)
  /-- RECEIVER_LOST (R406). -/
  | receiverLost (p : Fin 2)
  /-- RESYNC_BURST (R421). -/
  | resyncBurst (p : Fin 2) (ofs : Fin 122880)
  /-- TWIN_LINK_TRAINED (R408). -/
  | twinLinkTrained
  /-- KEYING_RECEIVED (R408). -/
  | keyingReceived (nonce : BitVec 128) (ver : BitVec 32)
  /-- CONFIRM_RECEIVED (R408). -/
  | confirmReceived (key : Nat) (ofs : Fin 122880)
  /-- CONFIRM_RETRY (R408). -/
  | confirmRetry (ofs : Fin 122880)
  /-- TWIN_LINK_DOWN (R418). -/
  | twinLinkDown
  /-- LEASE_RENEWAL_EDGE (R410). -/
  | leaseRenewalEdge (ofs : Fin 122880)
  /-- LEASE_GRANT (R411). -/
  | leaseGrant (ofs : Fin 122880)
  /-- TRANSMIT_LEASE_LAPSE (R412). -/
  | transmitLeaseLapse (ofs : Fin 122880)
  /-- REQUEST_HOLDOFF_END (R412). -/
  | requestHoldoffEnd (ofs : Fin 122880)
  /-- WIT_PRESENT_CHANGE (R412). -/
  | witPresentChange (level : Bool) (ofs : Fin 122880)
  /-- YIELD (R416). -/
  | leaseYield
  /-- FORCE_HOLD_ARM (R417). -/
  | forceHoldArm (ofs : Fin 122880)
  /-- FORCE_HOLD_CONFIRM (R417). -/
  | forceHoldConfirm (ofs : Fin 122880)
  /-- FORCE_HOLD_DECISION (R417). -/
  | forceHoldDecision (ofs : Fin 122880)
  /-- FORCE_HOLD_END (R417). -/
  | forceHoldEnd (ofs : Fin 122880)
  /-- PORST_RELEASE (R431). -/
  | porstRelease (flash : Bool)
  /-- PORST_ASSERT (R510). -/
  | porstAssert (stage : Fin 6)
  /-- SRAM_INIT_DONE (R479). -/
  | sramInitDone
  /-- FW_LOAD (R434). -/
  | fwLoad
  /-- FW_LOAD_DONE (R434). -/
  | fwLoadDone (p : Option (List Byte × Option (List Byte)))
  /-- FW_FLASH_WRITE_DONE (R435). -/
  | fwFlashWriteDone
  /-- BANK_REVERIFY (R430). -/
  | bankReverify (b : Fin 2) (good : Bool)
  /-- ACTIVATE (R437). -/
  | fwActivate
  /-- ACTIVATION_TIMEOUT (R438). -/
  | activationTimeout
  /-- ABORT (R438). -/
  | fwAbort
  /-- COMMIT_SVN (R440). -/
  | commitSvn
  /-- COLD (R436). -/
  | fwCold
  /-- FACET_LOAD (R442). -/
  | facetLoad
  /-- FACET_REQUEST (R445). -/
  | facetRequest (mask : Fin 65536)
  /-- FW_DEFLIST_READ (R447). -/
  | fwDeflistRead
  /-- LC_ARM (R450). -/
  | lcArm (target : Fin 8) (ofs : Fin 122880)
  /-- LC_CONFIRM (R450). -/
  | lcConfirm (target : Fin 8) (ofs : Fin 122880)
  /-- POWER_REQUEST (R464). -/
  | powerRequest (target : Fin 8)
  /-- DOMAIN_SWITCH_DONE (R467). -/
  | domainSwitchDone
  /-- DORMANT_DRAIN_DONE (R469). -/
  | dormantDrainDone
  /-- LOUPE_SEAL_DONE (R493). -/
  | loupeSealDone
  /-- WAKE_TIMER (R474). -/
  | wakeTimer
  /-- WAKE_GPIO (R474). -/
  | wakeGpio (n : Fin 16) (rising : Bool)
  /-- PAD_RELEASE (R473). -/
  | padRelease
  /-- THERMAL_SHUTDOWN (R520). -/
  | thermalShutdown
  /-- MEM_ECC_LOG_READ (R482). -/
  | memEccLogRead
  /-- DRAM_TRAIN (R484). -/
  | dramTrain
  /-- DRAM_TRAIN_DONE (R484). -/
  | dramTrainDone (size : Fin 4)
  /-- WINDOW_OPEN (R485). -/
  | windowOpen (w : Fin 2)
  /-- WINDOW_FILL_DONE (R485). -/
  | windowFillDone
  /-- WINDOW_CLOSE (R485). -/
  | windowClose (w : Fin 2)
  /-- LOUPE_PERIODIC_SEAL (R493). -/
  | loupePeriodicSeal
  /-- SEAL (R493). -/
  | loupeSeal
  /-- EXPORT (R495). -/
  | loupeExport
  /-- LOUPE_SELECT (R492). -/
  | loupeSelect (id : Fin 4096) (bin : Fin 32)
  /-- DEBUG_AUTH_ARM (R498). -/
  | debugAuthArm (p : Fin 2) (level : Fin 4) (ofs : Fin 122880)
  /-- DEBUG_AUTH_CONFIRM (R498). -/
  | debugAuthConfirm (p : Fin 2) (ofs : Fin 122880)
  /-- DEBUG_AUTH_DECISION (R498). -/
  | debugAuthDecision (p : Fin 2) (ofs : Fin 122880)
  /-- DEBUG_AUTH_DROP (R499). -/
  | debugAuthDrop (p : Fin 2)
  /-- DEBUG_AUTH_EXPIRY (R499). -/
  | debugAuthExpiry (p : Fin 2) (ofs : Fin 122880)
  /-- QUIET_VIEW_READ (R500). -/
  | quietViewRead (p : Fin 2) (words : Fin 16) (ofs : Fin 122880)
  /-- DEBUG_CONSUME (R501). -/
  | debugConsume (p : Fin 2) (words : Fin 16) (ofs : Fin 122880)
  /-- DEBUG_WRITE (R501). -/
  | debugWrite (p : Fin 2) (words : Fin 16) (e : DbgEnv)
  /-- HALT (R502). -/
  | dbgHalt (p : Fin 2) (c : Fin 2) (ofs : Fin 122880)
  /-- STEP (R502). -/
  | dbgStep (p : Fin 2) (c : Fin 2)
  /-- RESUME (R502). -/
  | dbgResume (p : Fin 2) (c : Fin 2)
  /-- JTAG_INSTRUCTION (R496). -/
  | jtagInstruction (i : Fin 9)
  /-- TAP_RESET (R496). -/
  | tapReset
  /-- SUPPLY_RAMP_UP (R513). -/
  | supplyRampUp
  /-- SUPPLY_LOSS (R514). -/
  | supplyLoss (stage : Fin 6)
  /-- BOOT_IMAGE_VERIFIED (R431). -/
  | bootImageVerified
  /-- FACET_LOAD_DONE (R442). -/
  | facetLoadDone (o : Option (List Byte))
  /-- LC_TRANSITION_DONE (R451). -/
  | lcTransitionDone
deriving DecidableEq, Repr

end Sys2Proof
end

