-- ==== Sys2Proof/Decode.lean ====
section
/-! DEFINITION. Commands from words. The commands of the block reach it as register accesses, events on pins and events in the part; the
table gives none of its rows any bits, so no word spells a command. -/

namespace Sys2Proof

/-- The command that the low `nbits` bits of a word spell by the table's bits: none, for no row of the table has bits. -/
def decodeTableWord (_nbits _w : Nat) : Option Instr := none

end Sys2Proof
end

