-- ==== Sys2Proof/Machine/RegTypes.lean ====
section
/-! DEFINITION. What one register field is (R9, R11 to R14, R16) and what one row of the register map is (R38). -/

namespace Sys2Proof.Machine

/-- The register field types of R9. -/
inductive FldTy where
  | rw | ro | w1c | w1s | wo | rwl | rc
deriving DecidableEq, Repr

/-- One register field: the PF BAR0 address of its register, its lowest bit, its width, its type, the value it holds when
PORST_N is released (R12) and whether a write waits for the next tick boundary (R16). -/
structure Fld where
  addr : Nat
  lo : Nat
  w : Nat
  ty : FldTy
  rst : Nat
  ta : Bool
deriving DecidableEq, Repr

/-- The key under which the register store keeps a field: no two fields share a first bit. -/
def Fld.key (f : Fld) : Nat := f.addr * 64 + f.lo

/-- One row of the register map: a register, or an array of them with one or two indices. `flds` lists the fields of the
register at the given indices. -/
structure RegRow where
  base : Nat
  s1 : Nat
  n1 : Nat
  f1 : Nat
  s2 : Nat
  n2 : Nat
  f2 : Nat
  bits : Nat
  flds : Nat → Nat → List Fld

/-- The indices at which this row's array has the register at PF BAR0 address `a` (a 64-bit register covers two words). -/
def RegRow.index? (r : RegRow) (a : Nat) : Option (Nat × Nat) :=
  if a < r.base then none else
  let d := a - r.base
  let i := if r.s1 = 0 then r.f1 else d / r.s1
  let d1 := d - i * r.s1
  let j := if r.s2 = 0 then r.f2 else d1 / r.s2
  let d2 := d1 - j * r.s2
  if d2 < r.bits / 8 && r.f1 ≤ i && i < r.f1 + r.n1 && r.f2 ≤ j && j < r.f2 + r.n2 then some (i, j) else none

/-- The address of the first word of the register that `index?` found. -/
def RegRow.addrAt (r : RegRow) (i j : Nat) : Nat := r.base + r.s1 * i + r.s2 * j

end Sys2Proof.Machine
end

