-- ==== Sys2Proof/Machine/RegMapHost.lean ====
section
/-! DEFINITION. The register fields of the blocks FWD, FLD, HIF, FQ, TM, one definition per field of the spec's register tables
(address, place, type of R9, reset value of R12, tick-aligned mark of R16), and the rows that list them by register. -/

namespace Sys2Proof.Machine


/-! FWD_CTRL (08_forwarding_flooding.md) -/
def Reg.FWD_CTRL.EN : Fld := ⟨0xD00000, 0, 1, .rw, 0, true⟩
def Reg.FWD_CTRL.LEARN_EN : Fld := ⟨0xD00000, 1, 1, .rw, 1, false⟩

/-! FWD_STAT (08_forwarding_flooding.md) -/
def Reg.FWD_STAT.NTC_OPEN : Fld := ⟨0xD00004, 0, 1, .ro, 0, false⟩
def Reg.FWD_STAT.FP_SUBST : Fld := ⟨0xD00004, 1, 1, .ro, 0, false⟩

/-! FWD_SRH (08_forwarding_flooding.md) -/
def Reg.FWD_SRH.MAX_HOPS : Fld := ⟨0xD00010, 0, 6, .rw, 16, false⟩
def Reg.FWD_SRH.ENCAP : Fld := ⟨0xD00010, 8, 1, .rw, 1, false⟩

/-! FWD_REASM (08_forwarding_flooding.md) -/
def Reg.FWD_REASM.TIMEOUT : Fld := ⟨0xD00014, 0, 16, .rw, 60, false⟩

/-! FWD_LEARN (08_forwarding_flooding.md) -/
def Reg.FWD_LEARN.AGE : Fld := ⟨0xD00018, 0, 16, .rw, 0xE10, false⟩

/-! FWD_EMTp_CTRL (08_forwarding_flooding.md) -/
def Reg.FWD_EMTp_CTRL.REBUILD (p : Nat) : Fld := ⟨0xD00100 + 64 * p, 0, 1, .rw, 0, false⟩
def Reg.FWD_EMTp_CTRL.MOVE (p : Nat) : Fld := ⟨0xD00100 + 64 * p, 1, 1, .rw, 0, true⟩
def Reg.FWD_EMTp_CTRL.JOIN_FILL (p : Nat) : Fld := ⟨0xD00100 + 64 * p, 2, 1, .w1s, 0, false⟩
def Reg.FWD_EMTp_CTRL.MAX_KICKS (p : Nat) : Fld := ⟨0xD00100 + 64 * p, 8, 8, .rw, 128, false⟩

/-! FWD_EMTp_SEED1 (08_forwarding_flooding.md) -/
def Reg.FWD_EMTp_SEED1.SEED (p : Nat) : Fld := ⟨0xD00104 + 64 * p, 0, 32, .rw, 0xFFFFFFFF, false⟩

/-! FWD_EMTp_SEED2 (08_forwarding_flooding.md) -/
def Reg.FWD_EMTp_SEED2.SEED (p : Nat) : Fld := ⟨0xD00108 + 64 * p, 0, 32, .rw, 0, false⟩

/-! FWD_EMTp_STAT (08_forwarding_flooding.md) -/
def Reg.FWD_EMTp_STAT.NEED_REHASH (p : Nat) : Fld := ⟨0xD0010C + 64 * p, 0, 1, .ro, 0, false⟩
def Reg.FWD_EMTp_STAT.CLEARING (p : Nat) : Fld := ⟨0xD0010C + 64 * p, 1, 1, .ro, 0, false⟩
def Reg.FWD_EMTp_STAT.JOIN_DONE (p : Nat) : Fld := ⟨0xD0010C + 64 * p, 2, 1, .ro, 0, false⟩

/-! FWD_EMTp_NUM (08_forwarding_flooding.md) -/
def Reg.FWD_EMTp_NUM.USED (p : Nat) : Fld := ⟨0xD00110 + 64 * p, 0, 19, .ro, 0, false⟩

/-! FWD_EMTp_NSTAT (08_forwarding_flooding.md) -/
def Reg.FWD_EMTp_NSTAT.STATIC (p : Nat) : Fld := ⟨0xD00114 + 64 * p, 0, 17, .ro, 0, false⟩

/-! FWD_TCMD (08_forwarding_flooding.md) -/
def Reg.FWD_TCMD.OP : Fld := ⟨0xD00200, 0, 3, .rw, 0, false⟩
def Reg.FWD_TCMD.TABLE : Fld := ⟨0xD00200, 3, 2, .rw, 0, false⟩
def Reg.FWD_TCMD.GO : Fld := ⟨0xD00200, 5, 1, .w1s, 0, false⟩
def Reg.FWD_TCMD.STATUS : Fld := ⟨0xD00200, 8, 4, .ro, 0, false⟩
def Reg.FWD_TCMD.BUSY : Fld := ⟨0xD00200, 12, 1, .ro, 0, false⟩

/-! FWD_TLOC (08_forwarding_flooding.md) -/
def Reg.FWD_TLOC.BUCKET : Fld := ⟨0xD00204, 0, 17, .rw, 0, false⟩
def Reg.FWD_TLOC.SLOT : Fld := ⟨0xD00204, 17, 2, .rw, 0, false⟩

/-! FWD_TBUFi (08_forwarding_flooding.md) -/
def Reg.FWD_TBUFi.WORD (i : Nat) : Fld := ⟨0xD00220 + 4 * i, 0, 32, .rw, 0, false⟩

/-! FWD_SHADOW_BASE (08_forwarding_flooding.md) -/
def Reg.FWD_SHADOW_BASE.ADDR : Fld := ⟨0xD00300, 0, 64, .rw, 0, false⟩

/-! FWD_SHADOW_CFG (08_forwarding_flooding.md) -/
def Reg.FWD_SHADOW_CFG.EN : Fld := ⟨0xD00308, 0, 1, .rw, 0, false⟩
def Reg.FWD_SHADOW_CFG.AUTO_REPAIR : Fld := ⟨0xD00308, 1, 1, .rw, 0, false⟩
def Reg.FWD_SHADOW_CFG.PAUSE : Fld := ⟨0xD00308, 2, 1, .rw, 0, false⟩
def Reg.FWD_SHADOW_CFG.RATE : Fld := ⟨0xD00308, 8, 8, .rw, 64, false⟩

/-! FWD_SHADOW_STAT (08_forwarding_flooding.md) -/
def Reg.FWD_SHADOW_STAT.PASSES : Fld := ⟨0xD0030C, 0, 16, .ro, 0, false⟩
def Reg.FWD_SHADOW_STAT.IN_PASS : Fld := ⟨0xD0030C, 16, 1, .ro, 0, false⟩

/-! FWD_DIV (08_forwarding_flooding.md) -/
def Reg.FWD_DIV.TABLE : Fld := ⟨0xD00310, 0, 1, .rc, 0, false⟩
def Reg.FWD_DIV.KIND : Fld := ⟨0xD00310, 1, 2, .rc, 0, false⟩
def Reg.FWD_DIV.VALID : Fld := ⟨0xD00310, 3, 1, .rc, 0, false⟩
def Reg.FWD_DIV.SID : Fld := ⟨0xD00310, 16, 16, .rc, 0, false⟩

/-! FWD_NTCMD (08_forwarding_flooding.md) -/
def Reg.FWD_NTCMD.REGION : Fld := ⟨0xD00400, 0, 1, .rw, 0, false⟩
def Reg.FWD_NTCMD.OP : Fld := ⟨0xD00400, 1, 1, .rw, 0, false⟩
def Reg.FWD_NTCMD.GO : Fld := ⟨0xD00400, 2, 1, .w1s, 0, false⟩
def Reg.FWD_NTCMD.STATUS : Fld := ⟨0xD00400, 4, 4, .ro, 0, false⟩
def Reg.FWD_NTCMD.BUSY : Fld := ⟨0xD00400, 8, 1, .ro, 0, false⟩

/-! FWD_NTIDX (08_forwarding_flooding.md) -/
def Reg.FWD_NTIDX.INDEX : Fld := ⟨0xD00404, 0, 23, .rw, 0, false⟩

/-! FWD_NTBUFi (08_forwarding_flooding.md) -/
def Reg.FWD_NTBUFi.WORD (i : Nat) : Fld := ⟨0xD00420 + 4 * i, 0, 32, .rw, 0, false⟩

/-! FWD_Tt_CFG (08_forwarding_flooding.md) -/
def Reg.FWD_Tt_CFG.FP (t : Nat) : Fld := ⟨0xD01000 + 16 * t, 0, 1, .rw, t % 2, true⟩
def Reg.FWD_Tt_CFG.P2P (t : Nat) : Fld := ⟨0xD01000 + 16 * t, 1, 1, .rw, 0, false⟩
def Reg.FWD_Tt_CFG.IDX_IID (t : Nat) : Fld := ⟨0xD01000 + 16 * t, 2, 1, .rw, 0, false⟩
def Reg.FWD_Tt_CFG.DEF (t : Nat) : Fld := ⟨0xD01000 + 16 * t, 4, 2, .rw, 0, false⟩
def Reg.FWD_Tt_CFG.DEF_NH (t : Nat) : Fld := ⟨0xD01000 + 16 * t, 8, 8, .rw, 0, false⟩

/-! FWD_Tt_FRAG (08_forwarding_flooding.md) -/
def Reg.FWD_Tt_FRAG.MAX (t : Nat) : Fld := ⟨0xD01004 + 16 * t, 0, 11, .rw, 0, false⟩

/-! FWD_Tt_PFX (08_forwarding_flooding.md) -/
def Reg.FWD_Tt_PFX.PFX (t : Nat) : Fld := ⟨0xD01008 + 16 * t, 0, 64, .rw, 0, true⟩

/-! FWD_NHr_MAC (08_forwarding_flooding.md) -/
def Reg.FWD_NHr_MAC.MAC (r : Nat) : Fld := ⟨0xD03000 + 16 * r, 0, 48, .rw, 0, false⟩

/-! FWD_NHr_CFG (08_forwarding_flooding.md) -/
def Reg.FWD_NHr_CFG.EN (r : Nat) : Fld := ⟨0xD03008 + 16 * r, 0, 1, .rw, 0, false⟩
def Reg.FWD_NHr_CFG.PORT (r : Nat) : Fld := ⟨0xD03008 + 16 * r, 1, 1, .rw, 0, false⟩

/-! FWD_UP_HOST (08_forwarding_flooding.md) -/
def Reg.FWD_UP_HOST.CNT : Fld := ⟨0xD04000, 0, 32, .ro, 0, false⟩

/-! FWD_UP_FW (08_forwarding_flooding.md) -/
def Reg.FWD_UP_FW.CNT : Fld := ⟨0xD04004, 0, 32, .ro, 0, false⟩

/-! FWD_UP_STATIC (08_forwarding_flooding.md) -/
def Reg.FWD_UP_STATIC.CNT : Fld := ⟨0xD04008, 0, 32, .ro, 0, false⟩

/-! FWD_UP_DEF (08_forwarding_flooding.md) -/
def Reg.FWD_UP_DEF.CNT : Fld := ⟨0xD0400C, 0, 32, .ro, 0, false⟩

/-! FWD_TURN (08_forwarding_flooding.md) -/
def Reg.FWD_TURN.CNT : Fld := ⟨0xD04010, 0, 32, .ro, 0, false⟩

/-! FWD_P2P_DROP (08_forwarding_flooding.md) -/
def Reg.FWD_P2P_DROP.CNT : Fld := ⟨0xD04014, 0, 32, .ro, 0, false⟩

/-! FWD_HLIM (08_forwarding_flooding.md) -/
def Reg.FWD_HLIM.CNT : Fld := ⟨0xD04018, 0, 32, .ro, 0, false⟩

/-! FWD_DECOMP_ERR (08_forwarding_flooding.md) -/
def Reg.FWD_DECOMP_ERR.CNT : Fld := ⟨0xD0401C, 0, 32, .ro, 0, false⟩

/-! FWD_REASM_TO (08_forwarding_flooding.md) -/
def Reg.FWD_REASM_TO.CNT : Fld := ⟨0xD04020, 0, 32, .ro, 0, false⟩

/-! FWD_REASM_FULL (08_forwarding_flooding.md) -/
def Reg.FWD_REASM_FULL.CNT : Fld := ⟨0xD04024, 0, 32, .ro, 0, false⟩

/-! FWD_NOROUTE (08_forwarding_flooding.md) -/
def Reg.FWD_NOROUTE.CNT : Fld := ⟨0xD04028, 0, 32, .ro, 0, false⟩

/-! FWD_NH_LOOP (08_forwarding_flooding.md) -/
def Reg.FWD_NH_LOOP.CNT : Fld := ⟨0xD0402C, 0, 32, .ro, 0, false⟩

/-! FWD_LEARN_EVICT (08_forwarding_flooding.md) -/
def Reg.FWD_LEARN_EVICT.CNT : Fld := ⟨0xD04030, 0, 32, .ro, 0, false⟩

/-! FWD_LEARN_FAIL (08_forwarding_flooding.md) -/
def Reg.FWD_LEARN_FAIL.CNT : Fld := ⟨0xD04034, 0, 32, .ro, 0, false⟩

/-! FWD_LEARN_DROP (08_forwarding_flooding.md) -/
def Reg.FWD_LEARN_DROP.CNT : Fld := ⟨0xD04038, 0, 32, .ro, 0, false⟩

/-! FWD_LEARN_AGED (08_forwarding_flooding.md) -/
def Reg.FWD_LEARN_AGED.CNT : Fld := ⟨0xD0403C, 0, 32, .ro, 0, false⟩

/-! FWD_DIVERGE (08_forwarding_flooding.md) -/
def Reg.FWD_DIVERGE.CNT : Fld := ⟨0xD04040, 0, 32, .ro, 0, false⟩

/-! FWD_REPAIR (08_forwarding_flooding.md) -/
def Reg.FWD_REPAIR.CNT : Fld := ⟨0xD04044, 0, 32, .ro, 0, false⟩

/-! FWD_SHADOW_RDERR (08_forwarding_flooding.md) -/
def Reg.FWD_SHADOW_RDERR.CNT : Fld := ⟨0xD04048, 0, 32, .ro, 0, false⟩

/-! FWD_TCMD_IGN (08_forwarding_flooding.md) -/
def Reg.FWD_TCMD_IGN.CNT : Fld := ⟨0xD0404C, 0, 32, .ro, 0, false⟩

/-! FWD_NT_GONE (08_forwarding_flooding.md) -/
def Reg.FWD_NT_GONE.CNT : Fld := ⟨0xD04050, 0, 32, .ro, 0, false⟩

/-- Rows of the FWD registers (base, stride and count of each index, width, fields). -/
def regRowsFwd0 : List RegRow := [
  ⟨0xD00000, 0, 1, 0, 0, 1, 0, 32, fun _ _ => [Reg.FWD_CTRL.EN, Reg.FWD_CTRL.LEARN_EN]⟩,
  ⟨0xD00004, 0, 1, 0, 0, 1, 0, 32, fun _ _ => [Reg.FWD_STAT.NTC_OPEN, Reg.FWD_STAT.FP_SUBST]⟩,
  ⟨0xD00010, 0, 1, 0, 0, 1, 0, 32, fun _ _ => [Reg.FWD_SRH.MAX_HOPS, Reg.FWD_SRH.ENCAP]⟩,
  ⟨0xD00014, 0, 1, 0, 0, 1, 0, 32, fun _ _ => [Reg.FWD_REASM.TIMEOUT]⟩,
  ⟨0xD00018, 0, 1, 0, 0, 1, 0, 32, fun _ _ => [Reg.FWD_LEARN.AGE]⟩,
  ⟨0xD00100, 64, 2, 0, 0, 1, 0, 32, fun i _ => [Reg.FWD_EMTp_CTRL.REBUILD i, Reg.FWD_EMTp_CTRL.MOVE i, Reg.FWD_EMTp_CTRL.JOIN_FILL i, Reg.FWD_EMTp_CTRL.MAX_KICKS i]⟩,
  ⟨0xD00104, 64, 2, 0, 0, 1, 0, 32, fun i _ => [Reg.FWD_EMTp_SEED1.SEED i]⟩,
  ⟨0xD00108, 64, 2, 0, 0, 1, 0, 32, fun i _ => [Reg.FWD_EMTp_SEED2.SEED i]⟩,
  ⟨0xD0010C, 64, 2, 0, 0, 1, 0, 32, fun i _ => [Reg.FWD_EMTp_STAT.NEED_REHASH i, Reg.FWD_EMTp_STAT.CLEARING i, Reg.FWD_EMTp_STAT.JOIN_DONE i]⟩,
  ⟨0xD00110, 64, 2, 0, 0, 1, 0, 32, fun i _ => [Reg.FWD_EMTp_NUM.USED i]⟩,
  ⟨0xD00114, 64, 2, 0, 0, 1, 0, 32, fun i _ => [Reg.FWD_EMTp_NSTAT.STATIC i]⟩,
  ⟨0xD00200, 0, 1, 0, 0, 1, 0, 32, fun _ _ => [Reg.FWD_TCMD.OP, Reg.FWD_TCMD.TABLE, Reg.FWD_TCMD.GO, Reg.FWD_TCMD.STATUS, Reg.FWD_TCMD.BUSY]⟩,
  ⟨0xD00204, 0, 1, 0, 0, 1, 0, 32, fun _ _ => [Reg.FWD_TLOC.BUCKET, Reg.FWD_TLOC.SLOT]⟩,
  ⟨0xD00220, 4, 8, 0, 0, 1, 0, 32, fun i _ => [Reg.FWD_TBUFi.WORD i]⟩,
  ⟨0xD00300, 0, 1, 0, 0, 1, 0, 64, fun _ _ => [Reg.FWD_SHADOW_BASE.ADDR]⟩,
  ⟨0xD00308, 0, 1, 0, 0, 1, 0, 32, fun _ _ => [Reg.FWD_SHADOW_CFG.EN, Reg.FWD_SHADOW_CFG.AUTO_REPAIR, Reg.FWD_SHADOW_CFG.PAUSE, Reg.FWD_SHADOW_CFG.RATE]⟩,
  ⟨0xD0030C, 0, 1, 0, 0, 1, 0, 32, fun _ _ => [Reg.FWD_SHADOW_STAT.PASSES, Reg.FWD_SHADOW_STAT.IN_PASS]⟩,
  ⟨0xD00310, 0, 1, 0, 0, 1, 0, 32, fun _ _ => [Reg.FWD_DIV.TABLE, Reg.FWD_DIV.KIND, Reg.FWD_DIV.VALID, Reg.FWD_DIV.SID]⟩,
  ⟨0xD00400, 0, 1, 0, 0, 1, 0, 32, fun _ _ => [Reg.FWD_NTCMD.REGION, Reg.FWD_NTCMD.OP, Reg.FWD_NTCMD.GO, Reg.FWD_NTCMD.STATUS, Reg.FWD_NTCMD.BUSY]⟩,
  ⟨0xD00404, 0, 1, 0, 0, 1, 0, 32, fun _ _ => [Reg.FWD_NTIDX.INDEX]⟩,
  ⟨0xD00420, 4, 16, 0, 0, 1, 0, 32, fun i _ => [Reg.FWD_NTBUFi.WORD i]⟩,
  ⟨0xD01000, 16, 256, 0, 0, 1, 0, 32, fun i _ => [Reg.FWD_Tt_CFG.FP i, Reg.FWD_Tt_CFG.P2P i, Reg.FWD_Tt_CFG.IDX_IID i, Reg.FWD_Tt_CFG.DEF i, Reg.FWD_Tt_CFG.DEF_NH i]⟩,
  ⟨0xD01004, 16, 256, 0, 0, 1, 0, 32, fun i _ => [Reg.FWD_Tt_FRAG.MAX i]⟩,
  ⟨0xD01008, 16, 256, 0, 0, 1, 0, 64, fun i _ => [Reg.FWD_Tt_PFX.PFX i]⟩]

/-- Rows of the FWD registers (base, stride and count of each index, width, fields). -/
def regRowsFwd1 : List RegRow := [
  ⟨0xD03000, 16, 256, 0, 0, 1, 0, 64, fun i _ => [Reg.FWD_NHr_MAC.MAC i]⟩,
  ⟨0xD03008, 16, 256, 0, 0, 1, 0, 32, fun i _ => [Reg.FWD_NHr_CFG.EN i, Reg.FWD_NHr_CFG.PORT i]⟩,
  ⟨0xD04000, 0, 1, 0, 0, 1, 0, 32, fun _ _ => [Reg.FWD_UP_HOST.CNT]⟩,
  ⟨0xD04004, 0, 1, 0, 0, 1, 0, 32, fun _ _ => [Reg.FWD_UP_FW.CNT]⟩,
  ⟨0xD04008, 0, 1, 0, 0, 1, 0, 32, fun _ _ => [Reg.FWD_UP_STATIC.CNT]⟩,
  ⟨0xD0400C, 0, 1, 0, 0, 1, 0, 32, fun _ _ => [Reg.FWD_UP_DEF.CNT]⟩,
  ⟨0xD04010, 0, 1, 0, 0, 1, 0, 32, fun _ _ => [Reg.FWD_TURN.CNT]⟩,
  ⟨0xD04014, 0, 1, 0, 0, 1, 0, 32, fun _ _ => [Reg.FWD_P2P_DROP.CNT]⟩,
  ⟨0xD04018, 0, 1, 0, 0, 1, 0, 32, fun _ _ => [Reg.FWD_HLIM.CNT]⟩,
  ⟨0xD0401C, 0, 1, 0, 0, 1, 0, 32, fun _ _ => [Reg.FWD_DECOMP_ERR.CNT]⟩,
  ⟨0xD04020, 0, 1, 0, 0, 1, 0, 32, fun _ _ => [Reg.FWD_REASM_TO.CNT]⟩,
  ⟨0xD04024, 0, 1, 0, 0, 1, 0, 32, fun _ _ => [Reg.FWD_REASM_FULL.CNT]⟩,
  ⟨0xD04028, 0, 1, 0, 0, 1, 0, 32, fun _ _ => [Reg.FWD_NOROUTE.CNT]⟩,
  ⟨0xD0402C, 0, 1, 0, 0, 1, 0, 32, fun _ _ => [Reg.FWD_NH_LOOP.CNT]⟩,
  ⟨0xD04030, 0, 1, 0, 0, 1, 0, 32, fun _ _ => [Reg.FWD_LEARN_EVICT.CNT]⟩,
  ⟨0xD04034, 0, 1, 0, 0, 1, 0, 32, fun _ _ => [Reg.FWD_LEARN_FAIL.CNT]⟩,
  ⟨0xD04038, 0, 1, 0, 0, 1, 0, 32, fun _ _ => [Reg.FWD_LEARN_DROP.CNT]⟩,
  ⟨0xD0403C, 0, 1, 0, 0, 1, 0, 32, fun _ _ => [Reg.FWD_LEARN_AGED.CNT]⟩,
  ⟨0xD04040, 0, 1, 0, 0, 1, 0, 32, fun _ _ => [Reg.FWD_DIVERGE.CNT]⟩,
  ⟨0xD04044, 0, 1, 0, 0, 1, 0, 32, fun _ _ => [Reg.FWD_REPAIR.CNT]⟩,
  ⟨0xD04048, 0, 1, 0, 0, 1, 0, 32, fun _ _ => [Reg.FWD_SHADOW_RDERR.CNT]⟩,
  ⟨0xD0404C, 0, 1, 0, 0, 1, 0, 32, fun _ _ => [Reg.FWD_TCMD_IGN.CNT]⟩,
  ⟨0xD04050, 0, 1, 0, 0, 1, 0, 32, fun _ _ => [Reg.FWD_NT_GONE.CNT]⟩]

/-- Every register of the block FWD. -/
def regRowsFwd : List RegRow := regRowsFwd0 ++ regRowsFwd1

/-! FLD_CTRL (08_forwarding_flooding.md) -/
def Reg.FLD_CTRL.EN : Fld := ⟨0xE00000, 0, 1, .rw, 0, true⟩

/-! FLD_SEEN_CFG (08_forwarding_flooding.md) -/
def Reg.FLD_SEEN_CFG.LIFE : Fld := ⟨0xE00004, 0, 16, .rw, 0x708, false⟩

/-! FLD_STAT (08_forwarding_flooding.md) -/
def Reg.FLD_STAT.SEEN_USED : Fld := ⟨0xE00008, 0, 17, .ro, 0, false⟩
def Reg.FLD_STAT.BUF_USED : Fld := ⟨0xE00008, 17, 9, .ro, 0, false⟩

/-! FLD_Tt_CFG (08_forwarding_flooding.md) -/
def Reg.FLD_Tt_CFG.SEED_EN (t : Nat) : Fld := ⟨0xE01000 + 16 * t, 0, 1, .rw, 0, false⟩
def Reg.FLD_Tt_CFG.FWD_EN (t : Nat) : Fld := ⟨0xE01000 + 16 * t, 1, 1, .rw, 1, false⟩
def Reg.FLD_Tt_CFG.HOST_DELIVER (t : Nat) : Fld := ⟨0xE01000 + 16 * t, 2, 1, .rw, 1, false⟩
def Reg.FLD_Tt_CFG.QUOTA (t : Nat) : Fld := ⟨0xE01000 + 16 * t, 4, 8, .rw, 16, false⟩
def Reg.FLD_Tt_CFG.K (t : Nat) : Fld := ⟨0xE01000 + 16 * t, 12, 4, .rw, 1, false⟩
def Reg.FLD_Tt_CFG.EXPIRATIONS (t : Nat) : Fld := ⟨0xE01000 + 16 * t, 16, 4, .rw, 3, false⟩
def Reg.FLD_Tt_CFG.IMAX (t : Nat) : Fld := ⟨0xE01000 + 16 * t, 20, 4, .rw, 0, false⟩

/-! FLD_Tt_IMIN (08_forwarding_flooding.md) -/
def Reg.FLD_Tt_IMIN.IMIN (t : Nat) : Fld := ⟨0xE01004 + 16 * t, 0, 16, .rw, 100, false⟩

/-! FLD_Tt_SEQ (08_forwarding_flooding.md) -/
def Reg.FLD_Tt_SEQ.NEXT (t : Nat) : Fld := ⟨0xE01008 + 16 * t, 0, 8, .ro, 0, false⟩

/-! FLD_SEEDED (08_forwarding_flooding.md) -/
def Reg.FLD_SEEDED.CNT : Fld := ⟨0xE02000, 0, 32, .ro, 0, false⟩

/-! FLD_TX (08_forwarding_flooding.md) -/
def Reg.FLD_TX.CNT : Fld := ⟨0xE02004, 0, 32, .ro, 0, false⟩

/-! FLD_NEW (08_forwarding_flooding.md) -/
def Reg.FLD_NEW.CNT : Fld := ⟨0xE02008, 0, 32, .ro, 0, false⟩

/-! FLD_DUP (08_forwarding_flooding.md) -/
def Reg.FLD_DUP.CNT : Fld := ⟨0xE0200C, 0, 32, .ro, 0, false⟩

/-! FLD_BUF_FULL (08_forwarding_flooding.md) -/
def Reg.FLD_BUF_FULL.CNT : Fld := ⟨0xE02010, 0, 32, .ro, 0, false⟩

/-! FLD_NO_WIN (08_forwarding_flooding.md) -/
def Reg.FLD_NO_WIN.CNT : Fld := ⟨0xE02014, 0, 32, .ro, 0, false⟩

/-! FLD_SEEN_EVICT (08_forwarding_flooding.md) -/
def Reg.FLD_SEEN_EVICT.CNT : Fld := ⟨0xE02018, 0, 32, .ro, 0, false⟩

/-! FLD_SEED_EVICT (08_forwarding_flooding.md) -/
def Reg.FLD_SEED_EVICT.CNT : Fld := ⟨0xE0201C, 0, 32, .ro, 0, false⟩

/-- Rows of the FLD registers (base, stride and count of each index, width, fields). -/
def regRowsFld0 : List RegRow := [
  ⟨0xE00000, 0, 1, 0, 0, 1, 0, 32, fun _ _ => [Reg.FLD_CTRL.EN]⟩,
  ⟨0xE00004, 0, 1, 0, 0, 1, 0, 32, fun _ _ => [Reg.FLD_SEEN_CFG.LIFE]⟩,
  ⟨0xE00008, 0, 1, 0, 0, 1, 0, 32, fun _ _ => [Reg.FLD_STAT.SEEN_USED, Reg.FLD_STAT.BUF_USED]⟩,
  ⟨0xE01000, 16, 256, 0, 0, 1, 0, 32, fun i _ => [Reg.FLD_Tt_CFG.SEED_EN i, Reg.FLD_Tt_CFG.FWD_EN i, Reg.FLD_Tt_CFG.HOST_DELIVER i, Reg.FLD_Tt_CFG.QUOTA i, Reg.FLD_Tt_CFG.K i, Reg.FLD_Tt_CFG.EXPIRATIONS i, Reg.FLD_Tt_CFG.IMAX i]⟩,
  ⟨0xE01004, 16, 256, 0, 0, 1, 0, 32, fun i _ => [Reg.FLD_Tt_IMIN.IMIN i]⟩,
  ⟨0xE01008, 16, 256, 0, 0, 1, 0, 32, fun i _ => [Reg.FLD_Tt_SEQ.NEXT i]⟩,
  ⟨0xE02000, 0, 1, 0, 0, 1, 0, 32, fun _ _ => [Reg.FLD_SEEDED.CNT]⟩,
  ⟨0xE02004, 0, 1, 0, 0, 1, 0, 32, fun _ _ => [Reg.FLD_TX.CNT]⟩,
  ⟨0xE02008, 0, 1, 0, 0, 1, 0, 32, fun _ _ => [Reg.FLD_NEW.CNT]⟩,
  ⟨0xE0200C, 0, 1, 0, 0, 1, 0, 32, fun _ _ => [Reg.FLD_DUP.CNT]⟩,
  ⟨0xE02010, 0, 1, 0, 0, 1, 0, 32, fun _ _ => [Reg.FLD_BUF_FULL.CNT]⟩,
  ⟨0xE02014, 0, 1, 0, 0, 1, 0, 32, fun _ _ => [Reg.FLD_NO_WIN.CNT]⟩,
  ⟨0xE02018, 0, 1, 0, 0, 1, 0, 32, fun _ _ => [Reg.FLD_SEEN_EVICT.CNT]⟩,
  ⟨0xE0201C, 0, 1, 0, 0, 1, 0, 32, fun _ _ => [Reg.FLD_SEED_EVICT.CNT]⟩]

/-- Every register of the block FLD. -/
def regRowsFld : List RegRow := regRowsFld0

/-! HIF_FN_CTRL (09_host_interface.md) -/
def Reg.HIF_FN_CTRL.EN (f : Nat) : Fld := ⟨0x1100000 + 0x800 * f, 0, 1, .rw, 0, false⟩

/-! HIF_FN_STAT (09_host_interface.md) -/
def Reg.HIF_FN_STAT.FLR (f : Nat) : Fld := ⟨0x1100004 + 0x800 * f, 0, 1, .ro, 0, false⟩
def Reg.HIF_FN_STAT.NO_CPL (f : Nat) : Fld := ⟨0x1100004 + 0x800 * f, 1, 1, .ro, 0, false⟩
def Reg.HIF_FN_STAT.RX_STALL (f : Nat) : Fld := ⟨0x1100004 + 0x800 * f, 2, 1, .ro, 0, false⟩

/-! HIF_FN_DBADDR (09_host_interface.md) -/
def Reg.HIF_FN_DBADDR.ADDR (f : Nat) : Fld := ⟨0x1100008 + 0x800 * f, 0, 64, .rw, 0, false⟩

/-! HIF_FN_POSADDR (09_host_interface.md) -/
def Reg.HIF_FN_POSADDR.ADDR (f : Nat) : Fld := ⟨0x1100010 + 0x800 * f, 0, 64, .rw, 0, false⟩

/-! HIF_Rr_BASE (09_host_interface.md) -/
def Reg.HIF_Rr_BASE.ADDR (f : Nat) (r : Nat) : Fld := ⟨0x1100100 + 0x800 * f + 32 * r, 0, 64, .rw, 0, false⟩

/-! HIF_Rr_CFG (09_host_interface.md) -/
def Reg.HIF_Rr_CFG.EN (f : Nat) (r : Nat) : Fld := ⟨0x1100108 + 0x800 * f + 32 * r, 0, 1, .rw, 0, false⟩
def Reg.HIF_Rr_CFG.LOG2SZ (f : Nat) (r : Nat) : Fld := ⟨0x1100108 + 0x800 * f + 32 * r, 1, 5, .rw, 6, false⟩
def Reg.HIF_Rr_CFG.VEC (f : Nat) (r : Nat) : Fld := ⟨0x1100108 + 0x800 * f + 32 * r, 8, 8, .rw, 0, false⟩
def Reg.HIF_Rr_CFG.COAL (f : Nat) (r : Nat) : Fld := ⟨0x1100108 + 0x800 * f + 32 * r, 16, 1, .rw, 0, false⟩

/-! HIF_Rr_STAT (09_host_interface.md) -/
def Reg.HIF_Rr_STAT.STATE (f : Nat) (r : Nat) : Fld := ⟨0x110010C + 0x800 * f + 32 * r, 0, 2, .ro, 0, false⟩
def Reg.HIF_Rr_STAT.ERR (f : Nat) (r : Nat) : Fld := ⟨0x110010C + 0x800 * f + 32 * r, 4, 3, .ro, 0, false⟩

/-! HIF_Rr_POS (09_host_interface.md) -/
def Reg.HIF_Rr_POS.POS (f : Nat) (r : Nat) : Fld := ⟨0x1100110 + 0x800 * f + 32 * r, 0, 32, .ro, 0, false⟩

/-! HIF_Rr_HPOS (09_host_interface.md) -/
def Reg.HIF_Rr_HPOS.HPOS (f : Nat) (r : Nat) : Fld := ⟨0x1100114 + 0x800 * f + 32 * r, 0, 32, .ro, 0, false⟩

/-! HIF_CFG (09_host_interface.md) -/
def Reg.HIF_CFG.FETCH_MAX : Fld := ⟨0x1190000, 0, 11, .rw, 64, false⟩
def Reg.HIF_CFG.KICK_MAX : Fld := ⟨0x1190000, 16, 4, .rw, 4, false⟩

/-! HIF_STAT (09_host_interface.md) -/
def Reg.HIF_STAT.READY : Fld := ⟨0x1190004, 0, 1, .ro, 0, false⟩
def Reg.HIF_STAT.SPEED : Fld := ⟨0x1190004, 1, 3, .ro, 0, false⟩
def Reg.HIF_STAT.WIDTH : Fld := ⟨0x1190004, 4, 4, .ro, 0, false⟩
def Reg.HIF_STAT.SBK_OVF : Fld := ⟨0x1190004, 8, 1, .ro, 0, false⟩

/-! HIF_PF_KICK (09_host_interface.md) -/
def Reg.HIF_PF_KICK.RINGS : Fld := ⟨0x1190010, 0, 16, .wo, 0, false⟩

/-! HIF_Tt_CFG (09_host_interface.md) -/
def Reg.HIF_Tt_CFG.EN (t : Nat) : Fld := ⟨0x1191000 + 4 * t, 0, 1, .rw, 0, false⟩
def Reg.HIF_Tt_CFG.PROXY (t : Nat) : Fld := ⟨0x1191000 + 4 * t, 1, 1, .rw, 0, false⟩

/-! HIF_TCNT_SEL (09_host_interface.md) -/
def Reg.HIF_TCNT_SEL.TENANT : Fld := ⟨0x1192000, 0, 8, .rw, 0, false⟩

/-! HIF_FETCH_LATE (09_host_interface.md) -/
def Reg.HIF_FETCH_LATE.CNT : Fld := ⟨0x1193000, 0, 32, .ro, 0, false⟩

/-! HIF_PD_OFF_ACC (09_host_interface.md) -/
def Reg.HIF_PD_OFF_ACC.CNT : Fld := ⟨0x1193004, 0, 32, .ro, 0, false⟩

/-! HIF_SHORT_WR (09_host_interface.md) -/
def Reg.HIF_SHORT_WR.CNT : Fld := ⟨0x1193008, 0, 32, .ro, 0, false⟩

/-! HIF_DB_RDERR (09_host_interface.md) -/
def Reg.HIF_DB_RDERR.CNT : Fld := ⟨0x119300C, 0, 32, .ro, 0, false⟩

/-! HIF_PKTBUF_FULL (09_host_interface.md) -/
def Reg.HIF_PKTBUF_FULL.CNT : Fld := ⟨0x1193010, 0, 32, .ro, 0, false⟩

/-! HIF_RING_ERR (09_host_interface.md) -/
def Reg.HIF_RING_ERR.CNT : Fld := ⟨0x1193014, 0, 32, .ro, 0, false⟩

/-- Rows of the HIF registers (base, stride and count of each index, width, fields). -/
def regRowsHif0 : List RegRow := [
  ⟨0x1100000, 0x800, 257, 0, 0, 1, 0, 32, fun i _ => [Reg.HIF_FN_CTRL.EN i]⟩,
  ⟨0x1100004, 0x800, 257, 0, 0, 1, 0, 32, fun i _ => [Reg.HIF_FN_STAT.FLR i, Reg.HIF_FN_STAT.NO_CPL i, Reg.HIF_FN_STAT.RX_STALL i]⟩,
  ⟨0x1100008, 0x800, 257, 0, 0, 1, 0, 64, fun i _ => [Reg.HIF_FN_DBADDR.ADDR i]⟩,
  ⟨0x1100010, 0x800, 257, 0, 0, 1, 0, 64, fun i _ => [Reg.HIF_FN_POSADDR.ADDR i]⟩,
  ⟨0x1100100, 0x800, 257, 0, 32, 16, 0, 64, fun i j => [Reg.HIF_Rr_BASE.ADDR i j]⟩,
  ⟨0x1100108, 0x800, 257, 0, 32, 16, 0, 32, fun i j => [Reg.HIF_Rr_CFG.EN i j, Reg.HIF_Rr_CFG.LOG2SZ i j, Reg.HIF_Rr_CFG.VEC i j, Reg.HIF_Rr_CFG.COAL i j]⟩,
  ⟨0x110010C, 0x800, 257, 0, 32, 16, 0, 32, fun i j => [Reg.HIF_Rr_STAT.STATE i j, Reg.HIF_Rr_STAT.ERR i j]⟩,
  ⟨0x1100110, 0x800, 257, 0, 32, 16, 0, 32, fun i j => [Reg.HIF_Rr_POS.POS i j]⟩,
  ⟨0x1100114, 0x800, 257, 0, 32, 16, 0, 32, fun i j => [Reg.HIF_Rr_HPOS.HPOS i j]⟩,
  ⟨0x1190000, 0, 1, 0, 0, 1, 0, 32, fun _ _ => [Reg.HIF_CFG.FETCH_MAX, Reg.HIF_CFG.KICK_MAX]⟩,
  ⟨0x1190004, 0, 1, 0, 0, 1, 0, 32, fun _ _ => [Reg.HIF_STAT.READY, Reg.HIF_STAT.SPEED, Reg.HIF_STAT.WIDTH, Reg.HIF_STAT.SBK_OVF]⟩,
  ⟨0x1190010, 0, 1, 0, 0, 1, 0, 32, fun _ _ => [Reg.HIF_PF_KICK.RINGS]⟩,
  ⟨0x1191000, 4, 256, 0, 0, 1, 0, 32, fun i _ => [Reg.HIF_Tt_CFG.EN i, Reg.HIF_Tt_CFG.PROXY i]⟩,
  ⟨0x1192000, 0, 1, 0, 0, 1, 0, 32, fun _ _ => [Reg.HIF_TCNT_SEL.TENANT]⟩,
  ⟨0x1193000, 0, 1, 0, 0, 1, 0, 32, fun _ _ => [Reg.HIF_FETCH_LATE.CNT]⟩,
  ⟨0x1193004, 0, 1, 0, 0, 1, 0, 32, fun _ _ => [Reg.HIF_PD_OFF_ACC.CNT]⟩,
  ⟨0x1193008, 0, 1, 0, 0, 1, 0, 32, fun _ _ => [Reg.HIF_SHORT_WR.CNT]⟩,
  ⟨0x119300C, 0, 1, 0, 0, 1, 0, 32, fun _ _ => [Reg.HIF_DB_RDERR.CNT]⟩,
  ⟨0x1193010, 0, 1, 0, 0, 1, 0, 32, fun _ _ => [Reg.HIF_PKTBUF_FULL.CNT]⟩,
  ⟨0x1193014, 0, 1, 0, 0, 1, 0, 32, fun _ _ => [Reg.HIF_RING_ERR.CNT]⟩]

/-- Every register of the block HIF. -/
def regRowsHif : List RegRow := regRowsHif0

/-! FQ_CTRL (10_queues_traffic.md) -/
def Reg.FQ_CTRL.EN : Fld := ⟨0x1000000, 0, 1, .rw, 0, true⟩

/-! FQ_POLL_SEL (10_queues_traffic.md) -/
def Reg.FQ_POLL_SEL.SET : Fld := ⟨0x1000010, 0, 9, .rw, 0, false⟩
def Reg.FQ_POLL_SEL.EN : Fld := ⟨0x1000010, 9, 1, .rw, 0, false⟩

/-! FQ_POLL_TAG (10_queues_traffic.md) -/
def Reg.FQ_POLL_TAG.TAG : Fld := ⟨0x1000014, 0, 16, .rc, 0, false⟩
def Reg.FQ_POLL_TAG.VALID : Fld := ⟨0x1000014, 16, 1, .rc, 0, false⟩

/-! FQ_POLL_DATAi (10_queues_traffic.md) -/
def Reg.FQ_POLL_DATAi.DATA (i : Nat) : Fld := ⟨0x1000040 + 4 * i, 0, 32, .ro, 0, false⟩

/-! FQ_Tt_CFG (10_queues_traffic.md) -/
def Reg.FQ_Tt_CFG.LIMIT (t : Nat) : Fld := ⟨0x1001000 + 16 * t, 0, 18, .rw, 0x400, false⟩

/-! FQ_Tt_STAT (10_queues_traffic.md) -/
def Reg.FQ_Tt_STAT.PKTS (t : Nat) : Fld := ⟨0x1001004 + 16 * t, 0, 16, .ro, 0, false⟩
def Reg.FQ_Tt_STAT.NONEMPTY (t : Nat) : Fld := ⟨0x1001004 + 16 * t, 16, 8, .ro, 0, false⟩

/-! FQ_Tt_WORDS (10_queues_traffic.md) -/
def Reg.FQ_Tt_WORDS.WORDS (t : Nat) : Fld := ⟨0x1001008 + 16 * t, 0, 18, .ro, 0, false⟩

/-! FQ_ENQ (10_queues_traffic.md) -/
def Reg.FQ_ENQ.CNT : Fld := ⟨0x1003000, 0, 32, .ro, 0, false⟩

/-! FQ_DEQ (10_queues_traffic.md) -/
def Reg.FQ_DEQ.CNT : Fld := ⟨0x1003004, 0, 32, .ro, 0, false⟩

/-! FQ_DROP (10_queues_traffic.md) -/
def Reg.FQ_DROP.CNT : Fld := ⟨0x1003008, 0, 32, .ro, 0, false⟩

/-! FQ_DROP_POOL (10_queues_traffic.md) -/
def Reg.FQ_DROP_POOL.CNT : Fld := ⟨0x100300C, 0, 32, .ro, 0, false⟩

/-! FQ_NOTICE (10_queues_traffic.md) -/
def Reg.FQ_NOTICE.CNT : Fld := ⟨0x1003010, 0, 32, .ro, 0, false⟩

/-- Rows of the FQ registers (base, stride and count of each index, width, fields). -/
def regRowsFq0 : List RegRow := [
  ⟨0x1000000, 0, 1, 0, 0, 1, 0, 32, fun _ _ => [Reg.FQ_CTRL.EN]⟩,
  ⟨0x1000010, 0, 1, 0, 0, 1, 0, 32, fun _ _ => [Reg.FQ_POLL_SEL.SET, Reg.FQ_POLL_SEL.EN]⟩,
  ⟨0x1000014, 0, 1, 0, 0, 1, 0, 32, fun _ _ => [Reg.FQ_POLL_TAG.TAG, Reg.FQ_POLL_TAG.VALID]⟩,
  ⟨0x1000040, 4, 16, 0, 0, 1, 0, 32, fun i _ => [Reg.FQ_POLL_DATAi.DATA i]⟩,
  ⟨0x1001000, 16, 257, 0, 0, 1, 0, 32, fun i _ => [Reg.FQ_Tt_CFG.LIMIT i]⟩,
  ⟨0x1001004, 16, 257, 0, 0, 1, 0, 32, fun i _ => [Reg.FQ_Tt_STAT.PKTS i, Reg.FQ_Tt_STAT.NONEMPTY i]⟩,
  ⟨0x1001008, 16, 257, 0, 0, 1, 0, 32, fun i _ => [Reg.FQ_Tt_WORDS.WORDS i]⟩,
  ⟨0x1003000, 0, 1, 0, 0, 1, 0, 32, fun _ _ => [Reg.FQ_ENQ.CNT]⟩,
  ⟨0x1003004, 0, 1, 0, 0, 1, 0, 32, fun _ _ => [Reg.FQ_DEQ.CNT]⟩,
  ⟨0x1003008, 0, 1, 0, 0, 1, 0, 32, fun _ _ => [Reg.FQ_DROP.CNT]⟩,
  ⟨0x100300C, 0, 1, 0, 0, 1, 0, 32, fun _ _ => [Reg.FQ_DROP_POOL.CNT]⟩,
  ⟨0x1003010, 0, 1, 0, 0, 1, 0, 32, fun _ _ => [Reg.FQ_NOTICE.CNT]⟩]

/-- Every register of the block FQ. -/
def regRowsFq : List RegRow := regRowsFq0

/-! TM_CTRL (10_queues_traffic.md) -/
def Reg.TM_CTRL.EN : Fld := ⟨0xF00000, 0, 1, .rw, 0, true⟩
def Reg.TM_CTRL.MODE : Fld := ⟨0xF00000, 1, 1, .rw, 0, true⟩

/-! TM_POOL (10_queues_traffic.md) -/
def Reg.TM_POOL.FREE : Fld := ⟨0xF00004, 0, 18, .ro, 0x30000, false⟩

/-! TM_TEL_CFG (10_queues_traffic.md) -/
def Reg.TM_TEL_CFG.EN : Fld := ⟨0xF00010, 0, 1, .rw, 0, true⟩
def Reg.TM_TEL_CFG.PF_COPY : Fld := ⟨0xF00010, 1, 1, .rw, 0, false⟩
def Reg.TM_TEL_CFG.MAX : Fld := ⟨0xF00010, 8, 12, .rw, 0x100, false⟩

/-! TM_Pp_CFG (10_queues_traffic.md) -/
def Reg.TM_Pp_CFG.OVH (p : Nat) : Fld := ⟨0xF00100 + 32 * p, 0, 8, .rw, (if p = 2 then 0 else 0x14), true⟩
def Reg.TM_Pp_CFG.SH_EN (p : Nat) : Fld := ⟨0xF00100 + 32 * p, 8, 1, .rw, 0, false⟩

/-! TM_Pp_RATE (10_queues_traffic.md) -/
def Reg.TM_Pp_RATE.RATE (p : Nat) : Fld := ⟨0xF00104 + 32 * p, 0, 28, .rw, 0, false⟩

/-! TM_Pp_BURST (10_queues_traffic.md) -/
def Reg.TM_Pp_BURST.BURST (p : Nat) : Fld := ⟨0xF00108 + 32 * p, 0, 32, .rw, 0, false⟩

/-! TM_Tt_PMAP (10_queues_traffic.md) -/
def Reg.TM_Tt_PMAP.MAP (t : Nat) : Fld := ⟨0xF01000 + 128 * t, 0, 24, .rw, 0xFAC688, true⟩

/-! TM_Tt_EMAP0 (10_queues_traffic.md) -/
def Reg.TM_Tt_EMAP0.MAP (t : Nat) : Fld := ⟨0xF01008 + 128 * t, 0, 40, .rw, 0, true⟩

/-! TM_Tt_EMAP1 (10_queues_traffic.md) -/
def Reg.TM_Tt_EMAP1.MAP (t : Nat) : Fld := ⟨0xF01010 + 128 * t, 0, 40, .rw, 0, true⟩

/-! TM_Tt_AMAP (10_queues_traffic.md) -/
def Reg.TM_Tt_AMAP.MAP (t : Nat) : Fld := ⟨0xF01018 + 128 * t, 0, 40, .rw, 0, true⟩

/-! TM_Tt_WT (10_queues_traffic.md) -/
def Reg.TM_Tt_WT.W_ETH0 (t : Nat) : Fld := ⟨0xF01020 + 128 * t, 0, 8, .rw, 1, true⟩
def Reg.TM_Tt_WT.W_ETH1 (t : Nat) : Fld := ⟨0xF01020 + 128 * t, 8, 8, .rw, 1, true⟩
def Reg.TM_Tt_WT.W_HOST (t : Nat) : Fld := ⟨0xF01020 + 128 * t, 16, 8, .rw, 1, true⟩

/-! TM_Tt_CWT (10_queues_traffic.md) -/
def Reg.TM_Tt_CWT.W (t : Nat) : Fld := ⟨0xF01024 + 128 * t, 0, 32, .rw, 0x1010101, true⟩

/-! TM_Tt_SHRp (10_queues_traffic.md) -/
def Reg.TM_Tt_SHRp.RATE (t : Nat) (p : Nat) : Fld := ⟨0xF01028 + 128 * t + 8 * p, 0, 28, .rw, 0, false⟩
def Reg.TM_Tt_SHRp.EN (t : Nat) (p : Nat) : Fld := ⟨0xF01028 + 128 * t + 8 * p, 31, 1, .rw, 0, false⟩

/-! TM_Tt_SHBp (10_queues_traffic.md) -/
def Reg.TM_Tt_SHBp.BURST (t : Nat) (p : Nat) : Fld := ⟨0xF0102C + 128 * t + 8 * p, 0, 32, .rw, 0, false⟩

/-! TM_Tt_AIRR (10_queues_traffic.md) -/
def Reg.TM_Tt_AIRR.RATE (t : Nat) : Fld := ⟨0xF01040 + 128 * t, 0, 28, .rw, 0, false⟩
def Reg.TM_Tt_AIRR.EN (t : Nat) : Fld := ⟨0xF01040 + 128 * t, 31, 1, .rw, 0, false⟩

/-! TM_Tt_AIRB (10_queues_traffic.md) -/
def Reg.TM_Tt_AIRB.BURST (t : Nat) : Fld := ⟨0xF01044 + 128 * t, 0, 32, .rw, 0, false⟩

/-! TM_Tt_POLR (10_queues_traffic.md) -/
def Reg.TM_Tt_POLR.RATE (t : Nat) : Fld := ⟨0xF01048 + 128 * t, 0, 28, .rw, 0, false⟩
def Reg.TM_Tt_POLR.EN (t : Nat) : Fld := ⟨0xF01048 + 128 * t, 31, 1, .rw, 0, false⟩

/-! TM_Tt_POLB (10_queues_traffic.md) -/
def Reg.TM_Tt_POLB.BURST (t : Nat) : Fld := ⟨0xF0104C + 128 * t, 0, 32, .rw, 0, false⟩

/-! TM_Tt_TEL (10_queues_traffic.md) -/
def Reg.TM_Tt_TEL.FQ (t : Nat) : Fld := ⟨0xF01050 + 128 * t, 0, 1, .rw, 0, false⟩
def Reg.TM_Tt_TEL.TQ (t : Nat) : Fld := ⟨0xF01050 + 128 * t, 1, 1, .rw, 0, false⟩
def Reg.TM_Tt_TEL.ALL (t : Nat) : Fld := ⟨0xF01050 + 128 * t, 2, 1, .rw, 0, false⟩

/-! TM_Tt_Qq_CFG (10_queues_traffic.md) -/
def Reg.TM_Tt_Qq_CFG.PORT (t : Nat) (q : Nat) : Fld := ⟨0xF10000 + 0x200 * t + 16 * q, 0, 2, .rw, 3, true⟩
def Reg.TM_Tt_Qq_CFG.CLASS (t : Nat) (q : Nat) : Fld := ⟨0xF10000 + 0x200 * t + 16 * q, 2, 2, .rw, 0, true⟩
def Reg.TM_Tt_Qq_CFG.WEIGHT (t : Nat) (q : Nat) : Fld := ⟨0xF10000 + 0x200 * t + 16 * q, 4, 8, .rw, 1, true⟩
def Reg.TM_Tt_Qq_CFG.LIMIT (t : Nat) (q : Nat) : Fld := ⟨0xF10000 + 0x200 * t + 16 * q, 12, 18, .rw, 0x200, false⟩

/-! TM_Tt_Qq_SHR (10_queues_traffic.md) -/
def Reg.TM_Tt_Qq_SHR.RATE (t : Nat) (q : Nat) : Fld := ⟨0xF10004 + 0x200 * t + 16 * q, 0, 28, .rw, 0, false⟩
def Reg.TM_Tt_Qq_SHR.EN (t : Nat) (q : Nat) : Fld := ⟨0xF10004 + 0x200 * t + 16 * q, 31, 1, .rw, 0, false⟩

/-! TM_Tt_Qq_SHB (10_queues_traffic.md) -/
def Reg.TM_Tt_Qq_SHB.BURST (t : Nat) (q : Nat) : Fld := ⟨0xF10008 + 0x200 * t + 16 * q, 0, 32, .rw, 0, false⟩

/-! TM_Tt_Qq_STAT (10_queues_traffic.md) -/
def Reg.TM_Tt_Qq_STAT.PKTS (t : Nat) (q : Nat) : Fld := ⟨0xF1000C + 0x200 * t + 16 * q, 0, 16, .ro, 0, false⟩
def Reg.TM_Tt_Qq_STAT.HELD (t : Nat) (q : Nat) : Fld := ⟨0xF1000C + 0x200 * t + 16 * q, 16, 1, .ro, 0, false⟩

/-! TM_TAIL_DROP (10_queues_traffic.md) -/
def Reg.TM_TAIL_DROP.CNT : Fld := ⟨0xF00200, 0, 32, .ro, 0, false⟩

/-! TM_POOL_DROP (10_queues_traffic.md) -/
def Reg.TM_POOL_DROP.CNT : Fld := ⟨0xF00204, 0, 32, .ro, 0, false⟩

/-! TM_MAP_ERR (10_queues_traffic.md) -/
def Reg.TM_MAP_ERR.CNT : Fld := ⟨0xF00208, 0, 32, .ro, 0, false⟩

/-! TM_POLICE_DROP (10_queues_traffic.md) -/
def Reg.TM_POLICE_DROP.CNT : Fld := ⟨0xF0020C, 0, 32, .ro, 0, false⟩

/-! TM_Q_BLOCK (10_queues_traffic.md) -/
def Reg.TM_Q_BLOCK.CNT : Fld := ⟨0xF00210, 0, 32, .ro, 0, false⟩

/-! TM_DEFER_AIR (10_queues_traffic.md) -/
def Reg.TM_DEFER_AIR.CNT : Fld := ⟨0xF00214, 0, 32, .ro, 0, false⟩

/-! TM_EXPIRED (10_queues_traffic.md) -/
def Reg.TM_EXPIRED.CNT : Fld := ⟨0xF00218, 0, 32, .ro, 0, false⟩

/-! TM_TEL_SKIP (10_queues_traffic.md) -/
def Reg.TM_TEL_SKIP.CNT : Fld := ⟨0xF0021C, 0, 32, .ro, 0, false⟩

/-! TM_TEL_LOST (10_queues_traffic.md) -/
def Reg.TM_TEL_LOST.CNT : Fld := ⟨0xF00220, 0, 32, .ro, 0, false⟩

/-- Rows of the TM registers (base, stride and count of each index, width, fields). -/
def regRowsTm0 : List RegRow := [
  ⟨0xF00000, 0, 1, 0, 0, 1, 0, 32, fun _ _ => [Reg.TM_CTRL.EN, Reg.TM_CTRL.MODE]⟩,
  ⟨0xF00004, 0, 1, 0, 0, 1, 0, 32, fun _ _ => [Reg.TM_POOL.FREE]⟩,
  ⟨0xF00010, 0, 1, 0, 0, 1, 0, 32, fun _ _ => [Reg.TM_TEL_CFG.EN, Reg.TM_TEL_CFG.PF_COPY, Reg.TM_TEL_CFG.MAX]⟩,
  ⟨0xF00100, 32, 3, 0, 0, 1, 0, 32, fun i _ => [Reg.TM_Pp_CFG.OVH i, Reg.TM_Pp_CFG.SH_EN i]⟩,
  ⟨0xF00104, 32, 3, 0, 0, 1, 0, 32, fun i _ => [Reg.TM_Pp_RATE.RATE i]⟩,
  ⟨0xF00108, 32, 3, 0, 0, 1, 0, 32, fun i _ => [Reg.TM_Pp_BURST.BURST i]⟩,
  ⟨0xF01000, 128, 256, 0, 0, 1, 0, 32, fun i _ => [Reg.TM_Tt_PMAP.MAP i]⟩,
  ⟨0xF01008, 128, 256, 0, 0, 1, 0, 64, fun i _ => [Reg.TM_Tt_EMAP0.MAP i]⟩,
  ⟨0xF01010, 128, 256, 0, 0, 1, 0, 64, fun i _ => [Reg.TM_Tt_EMAP1.MAP i]⟩,
  ⟨0xF01018, 128, 256, 0, 0, 1, 0, 64, fun i _ => [Reg.TM_Tt_AMAP.MAP i]⟩,
  ⟨0xF01020, 128, 256, 0, 0, 1, 0, 32, fun i _ => [Reg.TM_Tt_WT.W_ETH0 i, Reg.TM_Tt_WT.W_ETH1 i, Reg.TM_Tt_WT.W_HOST i]⟩,
  ⟨0xF01024, 128, 256, 0, 0, 1, 0, 32, fun i _ => [Reg.TM_Tt_CWT.W i]⟩,
  ⟨0xF01028, 128, 256, 0, 8, 3, 0, 32, fun i j => [Reg.TM_Tt_SHRp.RATE i j, Reg.TM_Tt_SHRp.EN i j]⟩,
  ⟨0xF0102C, 128, 256, 0, 8, 3, 0, 32, fun i j => [Reg.TM_Tt_SHBp.BURST i j]⟩,
  ⟨0xF01040, 128, 256, 0, 0, 1, 0, 32, fun i _ => [Reg.TM_Tt_AIRR.RATE i, Reg.TM_Tt_AIRR.EN i]⟩,
  ⟨0xF01044, 128, 256, 0, 0, 1, 0, 32, fun i _ => [Reg.TM_Tt_AIRB.BURST i]⟩,
  ⟨0xF01048, 128, 256, 0, 0, 1, 0, 32, fun i _ => [Reg.TM_Tt_POLR.RATE i, Reg.TM_Tt_POLR.EN i]⟩,
  ⟨0xF0104C, 128, 256, 0, 0, 1, 0, 32, fun i _ => [Reg.TM_Tt_POLB.BURST i]⟩,
  ⟨0xF01050, 128, 256, 0, 0, 1, 0, 32, fun i _ => [Reg.TM_Tt_TEL.FQ i, Reg.TM_Tt_TEL.TQ i, Reg.TM_Tt_TEL.ALL i]⟩,
  ⟨0xF10000, 0x200, 256, 0, 16, 32, 0, 32, fun i j => [Reg.TM_Tt_Qq_CFG.PORT i j, Reg.TM_Tt_Qq_CFG.CLASS i j, Reg.TM_Tt_Qq_CFG.WEIGHT i j, Reg.TM_Tt_Qq_CFG.LIMIT i j]⟩,
  ⟨0xF10004, 0x200, 256, 0, 16, 32, 0, 32, fun i j => [Reg.TM_Tt_Qq_SHR.RATE i j, Reg.TM_Tt_Qq_SHR.EN i j]⟩,
  ⟨0xF10008, 0x200, 256, 0, 16, 32, 0, 32, fun i j => [Reg.TM_Tt_Qq_SHB.BURST i j]⟩,
  ⟨0xF1000C, 0x200, 256, 0, 16, 32, 0, 32, fun i j => [Reg.TM_Tt_Qq_STAT.PKTS i j, Reg.TM_Tt_Qq_STAT.HELD i j]⟩,
  ⟨0xF00200, 0, 1, 0, 0, 1, 0, 32, fun _ _ => [Reg.TM_TAIL_DROP.CNT]⟩]

/-- Rows of the TM registers (base, stride and count of each index, width, fields). -/
def regRowsTm1 : List RegRow := [
  ⟨0xF00204, 0, 1, 0, 0, 1, 0, 32, fun _ _ => [Reg.TM_POOL_DROP.CNT]⟩,
  ⟨0xF00208, 0, 1, 0, 0, 1, 0, 32, fun _ _ => [Reg.TM_MAP_ERR.CNT]⟩,
  ⟨0xF0020C, 0, 1, 0, 0, 1, 0, 32, fun _ _ => [Reg.TM_POLICE_DROP.CNT]⟩,
  ⟨0xF00210, 0, 1, 0, 0, 1, 0, 32, fun _ _ => [Reg.TM_Q_BLOCK.CNT]⟩,
  ⟨0xF00214, 0, 1, 0, 0, 1, 0, 32, fun _ _ => [Reg.TM_DEFER_AIR.CNT]⟩,
  ⟨0xF00218, 0, 1, 0, 0, 1, 0, 32, fun _ _ => [Reg.TM_EXPIRED.CNT]⟩,
  ⟨0xF0021C, 0, 1, 0, 0, 1, 0, 32, fun _ _ => [Reg.TM_TEL_SKIP.CNT]⟩,
  ⟨0xF00220, 0, 1, 0, 0, 1, 0, 32, fun _ _ => [Reg.TM_TEL_LOST.CNT]⟩]

/-- Every register of the block TM. -/
def regRowsTm : List RegRow := regRowsTm0 ++ regRowsTm1

end Sys2Proof.Machine
end

