-- ==== Sys2Proof/Machine/RegMapMac.lean ====
section
/-! DEFINITION. The register fields of the blocks TXC, MAC, SEC, KV, one definition per field of the spec's register tables
(address, place, type of R9, reset value of R12, tick-aligned mark of R16), and the rows that list them by register. -/

namespace Sys2Proof.Machine


/-! TXC_CTRL (05_transmit.md) -/
def Reg.TXC_CTRL.EN : Fld := ⟨0x900000, 0, 1, .rw, 0, false⟩
def Reg.TXC_CTRL.ACK_RSV : Fld := ⟨0x900000, 4, 5, .rw, 4, true⟩

/-! TXC_FIR_COMMIT (05_transmit.md) -/
def Reg.TXC_FIR_COMMIT.BANKS : Fld := ⟨0x900004, 2, 14, .w1s, 0, false⟩

/-! TXC_MOD_BUSY (05_transmit.md) -/
def Reg.TXC_MOD_BUSY.BUSY : Fld := ⟨0x900008, 0, 32, .ro, 0, false⟩

/-! TXC_PORTp_CFG (05_transmit.md) -/
def Reg.TXC_PORTp_CFG.EN (p : Nat) : Fld := ⟨0x900100 + 32 * p, 0, 1, .rw, 0, true⟩
def Reg.TXC_PORTp_CFG.SCALE (p : Nat) : Fld := ⟨0x900100 + 32 * p, 1, 3, .rw, 2, true⟩

/-! TXC_PORTp_FC (05_transmit.md) -/
def Reg.TXC_PORTp_FC.FC (p : Nat) : Fld := ⟨0x900104 + 32 * p, 0, 32, .rw, 0, true⟩

/-! TXC_PORTp_CLIP (05_transmit.md) -/
def Reg.TXC_PORTp_CLIP.CLIPS (p : Nat) : Fld := ⟨0x900108 + 32 * p, 0, 32, .ro, 0, false⟩

/-! TXC_BANDb_CFG (05_transmit.md) -/
def Reg.TXC_BANDb_CFG.TXPORT (b : Nat) : Fld := ⟨0x900200 + 16 * b, 0, 2, .rw, 0, true⟩
def Reg.TXC_BANDb_CFG.GUARD (b : Nat) : Fld := ⟨0x900200 + 16 * b, 4, 10, .rw, 100, true⟩

/-! TXC_PROFp_A (05_transmit.md) -/
def Reg.TXC_PROFp_A.PHY (p : Nat) : Fld := ⟨0x900400 + 8 * p, 0, 2, .rw, 0, true⟩
def Reg.TXC_PROFp_A.MODE (p : Nat) : Fld := ⟨0x900400 + 8 * p, 2, 5, .rw, 0, true⟩
def Reg.TXC_PROFp_A.BANK (p : Nat) : Fld := ⟨0x900400 + 8 * p, 8, 4, .rw, 0, true⟩
def Reg.TXC_PROFp_A.RAMP_LEG (p : Nat) : Fld := ⟨0x900400 + 8 * p, 12, 1, .rw, 0, true⟩
def Reg.TXC_PROFp_A.RAMP_LEN (p : Nat) : Fld := ⟨0x900400 + 8 * p, 13, 4, .rw, 7, true⟩
def Reg.TXC_PROFp_A.FE_BITS (p : Nat) : Fld := ⟨0x900400 + 8 * p, 20, 4, .rw, 0, true⟩
def Reg.TXC_PROFp_A.GAIN (p : Nat) : Fld := ⟨0x900400 + 8 * p, 24, 8, .rw, 0, true⟩

/-! TXC_PROFp_B (05_transmit.md) -/
def Reg.TXC_PROFp_B.NPRE (p : Nat) : Fld := ⟨0x900404 + 8 * p, 0, 10, .rw, 8, true⟩
def Reg.TXC_PROFp_B.MOD_IDX (p : Nat) : Fld := ⟨0x900404 + 8 * p, 16, 8, .rw, 32, true⟩
def Reg.TXC_PROFp_B.FEC_RSC (p : Nat) : Fld := ⟨0x900404 + 8 * p, 24, 1, .rw, 0, true⟩

/-! TXC_FIRb_COEFi (05_transmit.md) -/
def Reg.TXC_FIRb_COEFi.COEF (b : Nat) (i : Nat) : Fld := ⟨0x900800 + 0x100 * b + 4 * i, 0, 18, .rw, Config.firReset b i, false⟩

/-! TXC_MASKp_CTRL (05_transmit.md) -/
def Reg.TXC_MASKp_CTRL.EN (p : Nat) : Fld := ⟨0x901800 + 0x100 * p, 0, 1, .rw, 0, false⟩
def Reg.TXC_MASKp_CTRL.ACT (p : Nat) : Fld := ⟨0x901800 + 0x100 * p, 1, 1, .rw, 1, false⟩
def Reg.TXC_MASKp_CTRL.UNGATE (p : Nat) : Fld := ⟨0x901800 + 0x100 * p, 2, 1, .w1s, 0, false⟩
def Reg.TXC_MASKp_CTRL.AVG (p : Nat) : Fld := ⟨0x901800 + 0x100 * p, 4, 4, .rw, 4, false⟩
def Reg.TXC_MASKp_CTRL.HOLD (p : Nat) : Fld := ⟨0x901800 + 0x100 * p, 16, 16, .rw, 0, false⟩

/-! TXC_MASKp_STAT (05_transmit.md) -/
def Reg.TXC_MASKp_STAT.GATED (p : Nat) : Fld := ⟨0x901804 + 0x100 * p, 0, 1, .ro, 0, false⟩
def Reg.TXC_MASKp_STAT.RB_CAUSE (p : Nat) : Fld := ⟨0x901804 + 0x100 * p, 1, 1, .ro, 0, false⟩
def Reg.TXC_MASKp_STAT.FIRST_BIN (p : Nat) : Fld := ⟨0x901804 + 0x100 * p, 4, 10, .ro, 0, false⟩
def Reg.TXC_MASKp_STAT.VIOL (p : Nat) : Fld := ⟨0x901804 + 0x100 * p, 16, 16, .ro, 0, false⟩

/-! TXC_MASKp_SEGs (05_transmit.md) -/
def Reg.TXC_MASKp_SEGs.LO_BIN (p : Nat) (s : Nat) : Fld := ⟨0x901880 + 0x100 * p + 4 * s, 0, 10, .rw, 0, false⟩
def Reg.TXC_MASKp_SEGs.HI_BIN (p : Nat) (s : Nat) : Fld := ⟨0x901880 + 0x100 * p + 4 * s, 10, 10, .rw, 0, false⟩
def Reg.TXC_MASKp_SEGs.LIMIT (p : Nat) (s : Nat) : Fld := ⟨0x901880 + 0x100 * p + 4 * s, 20, 9, .rw, 0, false⟩
def Reg.TXC_MASKp_SEGs.EN (p : Nat) (s : Nat) : Fld := ⟨0x901880 + 0x100 * p + 4 * s, 31, 1, .rw, 0, false⟩

/-! TXC_FEn_CFG (05_transmit.md) -/
def Reg.TXC_FEn_CFG.SRC (n : Nat) : Fld := ⟨0x901C00 + 8 * n, 0, 2, .rw, 0, false⟩
def Reg.TXC_FEn_CFG.PORT (n : Nat) : Fld := ⟨0x901C00 + 8 * n, 2, 2, .rw, 0, false⟩
def Reg.TXC_FEn_CFG.BIT (n : Nat) : Fld := ⟨0x901C00 + 8 * n, 4, 2, .rw, 0, false⟩
def Reg.TXC_FEn_CFG.POL (n : Nat) : Fld := ⟨0x901C00 + 8 * n, 6, 1, .rw, 0, false⟩
def Reg.TXC_FEn_CFG.STATIC (n : Nat) : Fld := ⟨0x901C00 + 8 * n, 7, 1, .rw, 0, false⟩
def Reg.TXC_FEn_CFG.RB_EN (n : Nat) : Fld := ⟨0x901C00 + 8 * n, 8, 1, .rw, 1, false⟩
def Reg.TXC_FEn_CFG.RB_GATE (n : Nat) : Fld := ⟨0x901C00 + 8 * n, 9, 1, .rw, 0, false⟩

/-! TXC_FEn_TIME (05_transmit.md) -/
def Reg.TXC_FEn_TIME.LEAD (n : Nat) : Fld := ⟨0x901C04 + 8 * n, 0, 16, .rw, 0, true⟩
def Reg.TXC_FEn_TIME.LAG (n : Nat) : Fld := ⟨0x901C04 + 8 * n, 16, 16, .rw, 0, true⟩

/-! TXC_FE_STAT (05_transmit.md) -/
def Reg.TXC_FE_STAT.LEVEL : Fld := ⟨0x901C80, 0, 16, .ro, 0, false⟩
def Reg.TXC_FE_STAT.RB_ERR : Fld := ⟨0x901C80, 16, 16, .w1c, 0, false⟩

/-! TXC_BANDb_DC (05_transmit.md) -/
def Reg.TXC_BANDb_DC.EN (b : Nat) : Fld := ⟨0x902000 + 0x400 * b, 0, 1, .rw, 0, true⟩
def Reg.TXC_BANDb_DC.PRESET (b : Nat) : Fld := ⟨0x902000 + 0x400 * b, 1, 1, .w1s, 0, false⟩

/-! TXC_SBb_sLO (05_transmit.md) -/
def Reg.TXC_SBb_sLO.LO (b : Nat) (s : Nat) : Fld := ⟨0x902010 + 0x400 * b + 32 * s, 0, 32, .rw, 0, false⟩

/-! TXC_SBb_sHI (05_transmit.md) -/
def Reg.TXC_SBb_sHI.HI (b : Nat) (s : Nat) : Fld := ⟨0x902014 + 0x400 * b + 32 * s, 0, 32, .rw, 0, false⟩

/-! TXC_SBb_sCFG (05_transmit.md) -/
def Reg.TXC_SBb_sCFG.DUTY (b : Nat) (s : Nat) : Fld := ⟨0x902018 + 0x400 * b + 32 * s, 0, 17, .rw, 0, false⟩
def Reg.TXC_SBb_sCFG.WIN (b : Nat) (s : Nat) : Fld := ⟨0x902018 + 0x400 * b + 32 * s, 17, 12, .rw, 0xE10, false⟩
def Reg.TXC_SBb_sCFG.EN (b : Nat) (s : Nat) : Fld := ⟨0x902018 + 0x400 * b + 32 * s, 31, 1, .rw, 0, false⟩

/-! TXC_SBb_sUSED (05_transmit.md) -/
def Reg.TXC_SBb_sUSED.USED (b : Nat) (s : Nat) : Fld := ⟨0x90201C + 0x400 * b + 32 * s, 0, 32, .ro, 0, false⟩

/-! TXC_SBb_sAVAIL (05_transmit.md) -/
def Reg.TXC_SBb_sAVAIL.AVAIL (b : Nat) (s : Nat) : Fld := ⟨0x902020 + 0x400 * b + 32 * s, 0, 32, .ro, 0, false⟩

/-! TXC_LAUNCH (05_transmit.md) -/
def Reg.TXC_LAUNCH.CNT : Fld := ⟨0x903000, 0, 32, .ro, 0, false⟩

/-! TX_DEFER_FIT (05_transmit.md) -/
def Reg.TX_DEFER_FIT.CNT : Fld := ⟨0x903004, 0, 32, .ro, 0, false⟩

/-! TXC_DEFER_DC (05_transmit.md) -/
def Reg.TXC_DEFER_DC.CNT : Fld := ⟨0x903008, 0, 32, .ro, 0, false⟩

/-! TXC_TOO_LONG (05_transmit.md) -/
def Reg.TXC_TOO_LONG.CNT : Fld := ⟨0x90300C, 0, 32, .ro, 0, false⟩

/-! TXC_OOB (05_transmit.md) -/
def Reg.TXC_OOB.CNT : Fld := ⟨0x903010, 0, 32, .ro, 0, false⟩

/-! TXC_NO_MOD (05_transmit.md) -/
def Reg.TXC_NO_MOD.CNT : Fld := ⟨0x903014, 0, 32, .ro, 0, false⟩

/-! TXC_OFS_ERR (05_transmit.md) -/
def Reg.TXC_OFS_ERR.CNT : Fld := ⟨0x903018, 0, 32, .ro, 0, false⟩

/-! TXC_PROF_ERR (05_transmit.md) -/
def Reg.TXC_PROF_ERR.CNT : Fld := ⟨0x90301C, 0, 32, .ro, 0, false⟩

/-! TXC_DEFER_FE (05_transmit.md) -/
def Reg.TXC_DEFER_FE.CNT : Fld := ⟨0x903020, 0, 32, .ro, 0, false⟩

/-! TXC_DEFER_GATE (05_transmit.md) -/
def Reg.TXC_DEFER_GATE.CNT : Fld := ⟨0x903024, 0, 32, .ro, 0, false⟩

/-! TXC_ACK_SUPP (05_transmit.md) -/
def Reg.TXC_ACK_SUPP.CNT : Fld := ⟨0x903028, 0, 32, .ro, 0, false⟩

/-! TXC_ABORT_SYNC (05_transmit.md) -/
def Reg.TXC_ABORT_SYNC.CNT : Fld := ⟨0x90302C, 0, 32, .ro, 0, false⟩

/-! TXC_LEASE_ABORT (05_transmit.md) -/
def Reg.TXC_LEASE_ABORT.CNT : Fld := ⟨0x903030, 0, 32, .ro, 0, false⟩

/-! TXC_MASK_GATE (05_transmit.md) -/
def Reg.TXC_MASK_GATE.CNT : Fld := ⟨0x903034, 0, 32, .ro, 0, false⟩

/-! TXC_FE_RB (05_transmit.md) -/
def Reg.TXC_FE_RB.CNT : Fld := ⟨0x903038, 0, 32, .ro, 0, false⟩

/-! TXC_LATE (05_transmit.md) -/
def Reg.TXC_LATE.CNT : Fld := ⟨0x90303C, 0, 32, .ro, 0, false⟩

/-- Rows of the TXC registers (base, stride and count of each index, width, fields). -/
def regRowsTxc0 : List RegRow := [
  ⟨0x900000, 0, 1, 0, 0, 1, 0, 32, fun _ _ => [Reg.TXC_CTRL.EN, Reg.TXC_CTRL.ACK_RSV]⟩,
  ⟨0x900004, 0, 1, 0, 0, 1, 0, 32, fun _ _ => [Reg.TXC_FIR_COMMIT.BANKS]⟩,
  ⟨0x900008, 0, 1, 0, 0, 1, 0, 32, fun _ _ => [Reg.TXC_MOD_BUSY.BUSY]⟩,
  ⟨0x900100, 32, 4, 0, 0, 1, 0, 32, fun i _ => [Reg.TXC_PORTp_CFG.EN i, Reg.TXC_PORTp_CFG.SCALE i]⟩,
  ⟨0x900104, 32, 4, 0, 0, 1, 0, 32, fun i _ => [Reg.TXC_PORTp_FC.FC i]⟩,
  ⟨0x900108, 32, 4, 0, 0, 1, 0, 32, fun i _ => [Reg.TXC_PORTp_CLIP.CLIPS i]⟩,
  ⟨0x900200, 16, 4, 0, 0, 1, 0, 32, fun i _ => [Reg.TXC_BANDb_CFG.TXPORT i, Reg.TXC_BANDb_CFG.GUARD i]⟩,
  ⟨0x900400, 8, 16, 0, 0, 1, 0, 32, fun i _ => [Reg.TXC_PROFp_A.PHY i, Reg.TXC_PROFp_A.MODE i, Reg.TXC_PROFp_A.BANK i, Reg.TXC_PROFp_A.RAMP_LEG i, Reg.TXC_PROFp_A.RAMP_LEN i, Reg.TXC_PROFp_A.FE_BITS i, Reg.TXC_PROFp_A.GAIN i]⟩,
  ⟨0x900404, 8, 16, 0, 0, 1, 0, 32, fun i _ => [Reg.TXC_PROFp_B.NPRE i, Reg.TXC_PROFp_B.MOD_IDX i, Reg.TXC_PROFp_B.FEC_RSC i]⟩,
  ⟨0x900800, 0x100, 16, 0, 4, 64, 0, 32, fun i j => [Reg.TXC_FIRb_COEFi.COEF i j]⟩,
  ⟨0x901800, 0x100, 4, 0, 0, 1, 0, 32, fun i _ => [Reg.TXC_MASKp_CTRL.EN i, Reg.TXC_MASKp_CTRL.ACT i, Reg.TXC_MASKp_CTRL.UNGATE i, Reg.TXC_MASKp_CTRL.AVG i, Reg.TXC_MASKp_CTRL.HOLD i]⟩,
  ⟨0x901804, 0x100, 4, 0, 0, 1, 0, 32, fun i _ => [Reg.TXC_MASKp_STAT.GATED i, Reg.TXC_MASKp_STAT.RB_CAUSE i, Reg.TXC_MASKp_STAT.FIRST_BIN i, Reg.TXC_MASKp_STAT.VIOL i]⟩,
  ⟨0x901880, 0x100, 4, 0, 4, 32, 0, 32, fun i j => [Reg.TXC_MASKp_SEGs.LO_BIN i j, Reg.TXC_MASKp_SEGs.HI_BIN i j, Reg.TXC_MASKp_SEGs.LIMIT i j, Reg.TXC_MASKp_SEGs.EN i j]⟩,
  ⟨0x901C00, 8, 16, 0, 0, 1, 0, 32, fun i _ => [Reg.TXC_FEn_CFG.SRC i, Reg.TXC_FEn_CFG.PORT i, Reg.TXC_FEn_CFG.BIT i, Reg.TXC_FEn_CFG.POL i, Reg.TXC_FEn_CFG.STATIC i, Reg.TXC_FEn_CFG.RB_EN i, Reg.TXC_FEn_CFG.RB_GATE i]⟩,
  ⟨0x901C04, 8, 16, 0, 0, 1, 0, 32, fun i _ => [Reg.TXC_FEn_TIME.LEAD i, Reg.TXC_FEn_TIME.LAG i]⟩,
  ⟨0x901C80, 0, 1, 0, 0, 1, 0, 32, fun _ _ => [Reg.TXC_FE_STAT.LEVEL, Reg.TXC_FE_STAT.RB_ERR]⟩,
  ⟨0x902000, 0x400, 4, 0, 0, 1, 0, 32, fun i _ => [Reg.TXC_BANDb_DC.EN i, Reg.TXC_BANDb_DC.PRESET i]⟩,
  ⟨0x902010, 0x400, 4, 0, 32, 16, 0, 32, fun i j => [Reg.TXC_SBb_sLO.LO i j]⟩,
  ⟨0x902014, 0x400, 4, 0, 32, 16, 0, 32, fun i j => [Reg.TXC_SBb_sHI.HI i j]⟩,
  ⟨0x902018, 0x400, 4, 0, 32, 16, 0, 32, fun i j => [Reg.TXC_SBb_sCFG.DUTY i j, Reg.TXC_SBb_sCFG.WIN i j, Reg.TXC_SBb_sCFG.EN i j]⟩,
  ⟨0x90201C, 0x400, 4, 0, 32, 16, 0, 32, fun i j => [Reg.TXC_SBb_sUSED.USED i j]⟩,
  ⟨0x902020, 0x400, 4, 0, 32, 16, 0, 32, fun i j => [Reg.TXC_SBb_sAVAIL.AVAIL i j]⟩,
  ⟨0x903000, 0, 1, 0, 0, 1, 0, 32, fun _ _ => [Reg.TXC_LAUNCH.CNT]⟩,
  ⟨0x903004, 0, 1, 0, 0, 1, 0, 32, fun _ _ => [Reg.TX_DEFER_FIT.CNT]⟩]

/-- Rows of the TXC registers (base, stride and count of each index, width, fields). -/
def regRowsTxc1 : List RegRow := [
  ⟨0x903008, 0, 1, 0, 0, 1, 0, 32, fun _ _ => [Reg.TXC_DEFER_DC.CNT]⟩,
  ⟨0x90300C, 0, 1, 0, 0, 1, 0, 32, fun _ _ => [Reg.TXC_TOO_LONG.CNT]⟩,
  ⟨0x903010, 0, 1, 0, 0, 1, 0, 32, fun _ _ => [Reg.TXC_OOB.CNT]⟩,
  ⟨0x903014, 0, 1, 0, 0, 1, 0, 32, fun _ _ => [Reg.TXC_NO_MOD.CNT]⟩,
  ⟨0x903018, 0, 1, 0, 0, 1, 0, 32, fun _ _ => [Reg.TXC_OFS_ERR.CNT]⟩,
  ⟨0x90301C, 0, 1, 0, 0, 1, 0, 32, fun _ _ => [Reg.TXC_PROF_ERR.CNT]⟩,
  ⟨0x903020, 0, 1, 0, 0, 1, 0, 32, fun _ _ => [Reg.TXC_DEFER_FE.CNT]⟩,
  ⟨0x903024, 0, 1, 0, 0, 1, 0, 32, fun _ _ => [Reg.TXC_DEFER_GATE.CNT]⟩,
  ⟨0x903028, 0, 1, 0, 0, 1, 0, 32, fun _ _ => [Reg.TXC_ACK_SUPP.CNT]⟩,
  ⟨0x90302C, 0, 1, 0, 0, 1, 0, 32, fun _ _ => [Reg.TXC_ABORT_SYNC.CNT]⟩,
  ⟨0x903030, 0, 1, 0, 0, 1, 0, 32, fun _ _ => [Reg.TXC_LEASE_ABORT.CNT]⟩,
  ⟨0x903034, 0, 1, 0, 0, 1, 0, 32, fun _ _ => [Reg.TXC_MASK_GATE.CNT]⟩,
  ⟨0x903038, 0, 1, 0, 0, 1, 0, 32, fun _ _ => [Reg.TXC_FE_RB.CNT]⟩,
  ⟨0x90303C, 0, 1, 0, 0, 1, 0, 32, fun _ _ => [Reg.TXC_LATE.CNT]⟩]

/-- Every register of the block TXC. -/
def regRowsTxc : List RegRow := regRowsTxc0 ++ regRowsTxc1

/-! MAC_CTRL (06_medium_access.md) -/
def Reg.MAC_CTRL.EN : Fld := ⟨0xA00000, 0, 1, .rw, 0, true⟩
def Reg.MAC_CTRL.STBY_LEARN : Fld := ⟨0xA00000, 1, 1, .rw, 1, false⟩
def Reg.MAC_CTRL.DEFAULT_OPEN : Fld := ⟨0xA00000, 2, 1, .rw, 1, false⟩

/-! MAC_CELL (06_medium_access.md) -/
def Reg.MAC_CELL.LEN : Fld := ⟨0xA00004, 0, 13, .rw, 80, false⟩

/-! MAC_ASN_OFS (06_medium_access.md) -/
def Reg.MAC_ASN_OFS.OFS : Fld := ⟨0xA00008, 0, 40, .rw, 0, false⟩

/-! MAC_FA_STAT (06_medium_access.md) -/
def Reg.MAC_FA_STAT.COUNT : Fld := ⟨0xA00010, 0, 5, .ro, 0, false⟩

/-! MAC_APT_CFG0 (06_medium_access.md) -/
def Reg.MAC_APT_CFG0.K : Fld := ⟨0xA00020, 0, 4, .rw, 4, false⟩
def Reg.MAC_APT_CFG0.CONF_MIN : Fld := ⟨0xA00020, 4, 4, .rw, 3, false⟩
def Reg.MAC_APT_CFG0.G0 : Fld := ⟨0xA00020, 8, 12, .rw, 100, false⟩
def Reg.MAC_APT_CFG0.J : Fld := ⟨0xA00020, 20, 12, .rw, 20, false⟩

/-! MAC_APT_CFG1 (06_medium_access.md) -/
def Reg.MAC_APT_CFG1.W_MAX : Fld := ⟨0xA00024, 0, 16, .rw, 0x898, false⟩
def Reg.MAC_APT_CFG1.W_WIDE : Fld := ⟨0xA00024, 16, 16, .rw, 0x898, false⟩

/-! MAC_APT_CFG2 (06_medium_access.md) -/
def Reg.MAC_APT_CFG2.T_STALE : Fld := ⟨0xA00028, 0, 17, .rw, 0x5460, false⟩
def Reg.MAC_APT_CFG2.DT_MIN : Fld := ⟨0xA00028, 20, 4, .rw, 1, false⟩
def Reg.MAC_APT_CFG2.D_INIT : Fld := ⟨0xA00028, 24, 8, .rw, 40, false⟩

/-! MAC_CSMA_CFG (06_medium_access.md) -/
def Reg.MAC_CSMA_CFG.MIN_BE : Fld := ⟨0xA00040, 0, 4, .rw, 3, false⟩
def Reg.MAC_CSMA_CFG.MAX_BE : Fld := ⟨0xA00040, 4, 4, .rw, 5, false⟩
def Reg.MAC_CSMA_CFG.MAX_BO : Fld := ⟨0xA00040, 8, 3, .rw, 4, false⟩
def Reg.MAC_CSMA_CFG.CCA_THR : Fld := ⟨0xA00040, 12, 12, .rw, 0xE98, false⟩
def Reg.MAC_CSMA_CFG.CCA_LEN : Fld := ⟨0xA00040, 24, 8, .rw, 8, false⟩

/-! MAC_TX_RETRY (06_medium_access.md) -/
def Reg.MAC_TX_RETRY.MAX : Fld := ⟨0xA00044, 0, 3, .rw, 3, false⟩
def Reg.MAC_TX_RETRY.ACK_DELAY : Fld := ⟨0xA00044, 4, 12, .rw, 0x320, false⟩
def Reg.MAC_TX_RETRY.ACK_WAIT : Fld := ⟨0xA00044, 16, 12, .rw, 0x190, false⟩

/-! MAC_ROOT_EXT (06_medium_access.md) -/
def Reg.MAC_ROOT_EXT.ADDR : Fld := ⟨0xA00050, 0, 64, .rwl, 0, false⟩

/-! MAC_BANDb_CH0 (06_medium_access.md) -/
def Reg.MAC_BANDb_CH0.CH0 (b : Nat) : Fld := ⟨0xA00100 + 16 * b, 0, 32, .rw, 0, false⟩

/-! MAC_BANDb_SPC (06_medium_access.md) -/
def Reg.MAC_BANDb_SPC.SPC (b : Nat) : Fld := ⟨0xA00104 + 16 * b, 0, 24, .rw, 0x30D40, false⟩

/-! MAC_HOPg_CFG (06_medium_access.md) -/
def Reg.MAC_HOPg_CFG.EN (g : Nat) : Fld := ⟨0xA01000 + 0x100 * g, 0, 1, .rw, 0, false⟩
def Reg.MAC_HOPg_CFG.MODE (g : Nat) : Fld := ⟨0xA01000 + 0x100 * g, 1, 1, .rw, 0, false⟩
def Reg.MAC_HOPg_CFG.BAND (g : Nat) : Fld := ⟨0xA01000 + 0x100 * g, 2, 2, .rw, 0, false⟩
def Reg.MAC_HOPg_CFG.LEN_M1 (g : Nat) : Fld := ⟨0xA01000 + 0x100 * g, 4, 6, .rw, 0, false⟩

/-! MAC_HOPg_SEED (06_medium_access.md) -/
def Reg.MAC_HOPg_SEED.SEED (g : Nat) : Fld := ⟨0xA01004 + 0x100 * g, 0, 32, .rw, 0, false⟩

/-! MAC_HOPg_LISTi (06_medium_access.md) -/
def Reg.MAC_HOPg_LISTi.CH0 (g : Nat) (i : Nat) : Fld := ⟨0xA01040 + 0x100 * g + 4 * i, 0, 8, .rw, 0, false⟩
def Reg.MAC_HOPg_LISTi.CH1 (g : Nat) (i : Nat) : Fld := ⟨0xA01040 + 0x100 * g + 4 * i, 8, 8, .rw, 0, false⟩
def Reg.MAC_HOPg_LISTi.CH2 (g : Nat) (i : Nat) : Fld := ⟨0xA01040 + 0x100 * g + 4 * i, 16, 8, .rw, 0, false⟩
def Reg.MAC_HOPg_LISTi.CH3 (g : Nat) (i : Nat) : Fld := ⟨0xA01040 + 0x100 * g + 4 * i, 24, 8, .rw, 0, false⟩

/-! MAC_ENGn_CFG (06_medium_access.md) -/
def Reg.MAC_ENGn_CFG.HOPG (n : Nat) : Fld := ⟨0xA02000 + 32 * n, 0, 4, .rw, 0, true⟩
def Reg.MAC_ENGn_CFG.CHOFS (n : Nat) : Fld := ⟨0xA02000 + 32 * n, 4, 6, .rw, 0, true⟩
def Reg.MAC_ENGn_CFG.FA_EN (n : Nat) : Fld := ⟨0xA02000 + 32 * n, 10, 1, .rw, 0, true⟩
def Reg.MAC_ENGn_CFG.ACK_EN (n : Nat) : Fld := ⟨0xA02000 + 32 * n, 11, 1, .rw, 1, true⟩

/-! MAC_ENGn_ACK (06_medium_access.md) -/
def Reg.MAC_ENGn_ACK.GAP (n : Nat) : Fld := ⟨0xA02004 + 32 * n, 0, 12, .rw, 0x320, true⟩
def Reg.MAC_ENGn_ACK.PROF (n : Nat) : Fld := ⟨0xA02004 + 32 * n, 12, 4, .rw, 0, true⟩

/-! MAC_ENGn_STAT (06_medium_access.md) -/
def Reg.MAC_ENGn_STAT.FA_ACT (n : Nat) : Fld := ⟨0xA02008 + 32 * n, 0, 1, .ro, 0, false⟩
def Reg.MAC_ENGn_STAT.FA_ERR (n : Nat) : Fld := ⟨0xA02008 + 32 * n, 1, 2, .ro, 0, false⟩
def Reg.MAC_ENGn_STAT.CUR_CH (n : Nat) : Fld := ⟨0xA02008 + 32 * n, 8, 8, .ro, 0, false⟩
def Reg.MAC_ENGn_STAT.FA_LMAX (n : Nat) : Fld := ⟨0xA02008 + 32 * n, 16, 11, .ro, 0, false⟩

/-! MAC_Tt_ID (06_medium_access.md) -/
def Reg.MAC_Tt_ID.PAN_ID (t : Nat) : Fld := ⟨0xA04000 + 16 * t, 0, 16, .rw, 0xFFFF, false⟩
def Reg.MAC_Tt_ID.ROOT_SHORT (t : Nat) : Fld := ⟨0xA04000 + 16 * t, 16, 16, .rw, 0, false⟩

/-! MAC_Tt_POL (06_medium_access.md) -/
def Reg.MAC_Tt_POL.HOPG (t : Nat) : Fld := ⟨0xA04004 + 16 * t, 0, 4, .rw, 0, true⟩
def Reg.MAC_Tt_POL.TC_IE (t : Nat) : Fld := ⟨0xA04004 + 16 * t, 4, 1, .rw, 1, false⟩
def Reg.MAC_Tt_POL.DEFER_ACK (t : Nat) : Fld := ⟨0xA04004 + 16 * t, 5, 1, .rw, 1, false⟩
def Reg.MAC_Tt_POL.PEND_EN (t : Nat) : Fld := ⟨0xA04004 + 16 * t, 6, 1, .rw, 1, false⟩
def Reg.MAC_Tt_POL.PEND_FOLLOW (t : Nat) : Fld := ⟨0xA04004 + 16 * t, 7, 1, .rw, 0, false⟩
def Reg.MAC_Tt_POL.EN (t : Nat) : Fld := ⟨0xA04004 + 16 * t, 8, 1, .rw, 0, true⟩

/-! MAC_FILT_TYPE (06_medium_access.md) -/
def Reg.MAC_FILT_TYPE.CNT : Fld := ⟨0xA06000, 0, 32, .ro, 0, false⟩

/-! MAC_FILT_PAN (06_medium_access.md) -/
def Reg.MAC_FILT_PAN.CNT : Fld := ⟨0xA06004, 0, 32, .ro, 0, false⟩

/-! MAC_FILT_DST (06_medium_access.md) -/
def Reg.MAC_FILT_DST.CNT : Fld := ⟨0xA06008, 0, 32, .ro, 0, false⟩

/-! MAC_FILT_SRC (06_medium_access.md) -/
def Reg.MAC_FILT_SRC.CNT : Fld := ⟨0xA0600C, 0, 32, .ro, 0, false⟩

/-! MAC_ACK_FAST (06_medium_access.md) -/
def Reg.MAC_ACK_FAST.CNT : Fld := ⟨0xA06010, 0, 32, .ro, 0, false⟩

/-! MAC_ACK_LATE (06_medium_access.md) -/
def Reg.MAC_ACK_LATE.CNT : Fld := ⟨0xA06014, 0, 32, .ro, 0, false⟩

/-! MAC_ACK_DEFER (06_medium_access.md) -/
def Reg.MAC_ACK_DEFER.CNT : Fld := ⟨0xA06018, 0, 32, .ro, 0, false⟩

/-! MAC_FA_INELIG (06_medium_access.md) -/
def Reg.MAC_FA_INELIG.CNT : Fld := ⟨0xA0601C, 0, 32, .ro, 0, false⟩

/-! MAC_RETRY (06_medium_access.md) -/
def Reg.MAC_RETRY.CNT : Fld := ⟨0xA06020, 0, 32, .ro, 0, false⟩

/-! MAC_NO_ACK (06_medium_access.md) -/
def Reg.MAC_NO_ACK.CNT : Fld := ⟨0xA06024, 0, 32, .ro, 0, false⟩

/-! MAC_CSMA_BUSY (06_medium_access.md) -/
def Reg.MAC_CSMA_BUSY.CNT : Fld := ⟨0xA06028, 0, 32, .ro, 0, false⟩

/-! MAC_CSMA_FAIL (06_medium_access.md) -/
def Reg.MAC_CSMA_FAIL.CNT : Fld := ⟨0xA0602C, 0, 32, .ro, 0, false⟩

/-! MAC_PLAN_ERR (06_medium_access.md) -/
def Reg.MAC_PLAN_ERR.CNT : Fld := ⟨0xA06030, 0, 32, .ro, 0, false⟩

/-! MAC_PLAN_MISS (06_medium_access.md) -/
def Reg.MAC_PLAN_MISS.CNT : Fld := ⟨0xA06034, 0, 32, .ro, 0, false⟩

/-! MAC_HOP_ERR (06_medium_access.md) -/
def Reg.MAC_HOP_ERR.CNT : Fld := ⟨0xA06038, 0, 32, .ro, 0, false⟩

/-! MAC_APT_UPD (06_medium_access.md) -/
def Reg.MAC_APT_UPD.CNT : Fld := ⟨0xA0603C, 0, 32, .ro, 0, false⟩

/-! MAC_APT_RESET (06_medium_access.md) -/
def Reg.MAC_APT_RESET.CNT : Fld := ⟨0xA06040, 0, 32, .ro, 0, false⟩

/-! MAC_APT_EDGE (06_medium_access.md) -/
def Reg.MAC_APT_EDGE.CNT : Fld := ⟨0xA06044, 0, 32, .ro, 0, false⟩

/-! MAC_PEND_LOST (06_medium_access.md) -/
def Reg.MAC_PEND_LOST.CNT : Fld := ⟨0xA06048, 0, 32, .ro, 0, false⟩

/-! MAC_NOLEASE_ACK (06_medium_access.md) -/
def Reg.MAC_NOLEASE_ACK.CNT : Fld := ⟨0xA0604C, 0, 32, .ro, 0, false⟩

/-! MAC_CFG_IGN (06_medium_access.md) -/
def Reg.MAC_CFG_IGN.CNT : Fld := ⟨0xA06050, 0, 32, .ro, 0, false⟩

/-! MAC_APT_CUT (06_medium_access.md) -/
def Reg.MAC_APT_CUT.CNT : Fld := ⟨0xA06054, 0, 32, .ro, 0, false⟩

/-- Rows of the MAC registers (base, stride and count of each index, width, fields). -/
def regRowsMac0 : List RegRow := [
  ⟨0xA00000, 0, 1, 0, 0, 1, 0, 32, fun _ _ => [Reg.MAC_CTRL.EN, Reg.MAC_CTRL.STBY_LEARN, Reg.MAC_CTRL.DEFAULT_OPEN]⟩,
  ⟨0xA00004, 0, 1, 0, 0, 1, 0, 32, fun _ _ => [Reg.MAC_CELL.LEN]⟩,
  ⟨0xA00008, 0, 1, 0, 0, 1, 0, 64, fun _ _ => [Reg.MAC_ASN_OFS.OFS]⟩,
  ⟨0xA00010, 0, 1, 0, 0, 1, 0, 32, fun _ _ => [Reg.MAC_FA_STAT.COUNT]⟩,
  ⟨0xA00020, 0, 1, 0, 0, 1, 0, 32, fun _ _ => [Reg.MAC_APT_CFG0.K, Reg.MAC_APT_CFG0.CONF_MIN, Reg.MAC_APT_CFG0.G0, Reg.MAC_APT_CFG0.J]⟩,
  ⟨0xA00024, 0, 1, 0, 0, 1, 0, 32, fun _ _ => [Reg.MAC_APT_CFG1.W_MAX, Reg.MAC_APT_CFG1.W_WIDE]⟩,
  ⟨0xA00028, 0, 1, 0, 0, 1, 0, 32, fun _ _ => [Reg.MAC_APT_CFG2.T_STALE, Reg.MAC_APT_CFG2.DT_MIN, Reg.MAC_APT_CFG2.D_INIT]⟩,
  ⟨0xA00040, 0, 1, 0, 0, 1, 0, 32, fun _ _ => [Reg.MAC_CSMA_CFG.MIN_BE, Reg.MAC_CSMA_CFG.MAX_BE, Reg.MAC_CSMA_CFG.MAX_BO, Reg.MAC_CSMA_CFG.CCA_THR, Reg.MAC_CSMA_CFG.CCA_LEN]⟩,
  ⟨0xA00044, 0, 1, 0, 0, 1, 0, 32, fun _ _ => [Reg.MAC_TX_RETRY.MAX, Reg.MAC_TX_RETRY.ACK_DELAY, Reg.MAC_TX_RETRY.ACK_WAIT]⟩,
  ⟨0xA00050, 0, 1, 0, 0, 1, 0, 64, fun _ _ => [Reg.MAC_ROOT_EXT.ADDR]⟩,
  ⟨0xA00100, 16, 4, 0, 0, 1, 0, 32, fun i _ => [Reg.MAC_BANDb_CH0.CH0 i]⟩,
  ⟨0xA00104, 16, 4, 0, 0, 1, 0, 32, fun i _ => [Reg.MAC_BANDb_SPC.SPC i]⟩,
  ⟨0xA01000, 0x100, 16, 0, 0, 1, 0, 32, fun i _ => [Reg.MAC_HOPg_CFG.EN i, Reg.MAC_HOPg_CFG.MODE i, Reg.MAC_HOPg_CFG.BAND i, Reg.MAC_HOPg_CFG.LEN_M1 i]⟩,
  ⟨0xA01004, 0x100, 16, 0, 0, 1, 0, 32, fun i _ => [Reg.MAC_HOPg_SEED.SEED i]⟩,
  ⟨0xA01040, 0x100, 16, 0, 4, 16, 0, 32, fun i j => [Reg.MAC_HOPg_LISTi.CH0 i j, Reg.MAC_HOPg_LISTi.CH1 i j, Reg.MAC_HOPg_LISTi.CH2 i j, Reg.MAC_HOPg_LISTi.CH3 i j]⟩,
  ⟨0xA02000, 32, 128, 0, 0, 1, 0, 32, fun i _ => [Reg.MAC_ENGn_CFG.HOPG i, Reg.MAC_ENGn_CFG.CHOFS i, Reg.MAC_ENGn_CFG.FA_EN i, Reg.MAC_ENGn_CFG.ACK_EN i]⟩,
  ⟨0xA02004, 32, 128, 0, 0, 1, 0, 32, fun i _ => [Reg.MAC_ENGn_ACK.GAP i, Reg.MAC_ENGn_ACK.PROF i]⟩,
  ⟨0xA02008, 32, 128, 0, 0, 1, 0, 32, fun i _ => [Reg.MAC_ENGn_STAT.FA_ACT i, Reg.MAC_ENGn_STAT.FA_ERR i, Reg.MAC_ENGn_STAT.CUR_CH i, Reg.MAC_ENGn_STAT.FA_LMAX i]⟩,
  ⟨0xA04000, 16, 256, 0, 0, 1, 0, 32, fun i _ => [Reg.MAC_Tt_ID.PAN_ID i, Reg.MAC_Tt_ID.ROOT_SHORT i]⟩,
  ⟨0xA04004, 16, 256, 0, 0, 1, 0, 32, fun i _ => [Reg.MAC_Tt_POL.HOPG i, Reg.MAC_Tt_POL.TC_IE i, Reg.MAC_Tt_POL.DEFER_ACK i, Reg.MAC_Tt_POL.PEND_EN i, Reg.MAC_Tt_POL.PEND_FOLLOW i, Reg.MAC_Tt_POL.EN i]⟩,
  ⟨0xA06000, 0, 1, 0, 0, 1, 0, 32, fun _ _ => [Reg.MAC_FILT_TYPE.CNT]⟩,
  ⟨0xA06004, 0, 1, 0, 0, 1, 0, 32, fun _ _ => [Reg.MAC_FILT_PAN.CNT]⟩,
  ⟨0xA06008, 0, 1, 0, 0, 1, 0, 32, fun _ _ => [Reg.MAC_FILT_DST.CNT]⟩,
  ⟨0xA0600C, 0, 1, 0, 0, 1, 0, 32, fun _ _ => [Reg.MAC_FILT_SRC.CNT]⟩]

/-- Rows of the MAC registers (base, stride and count of each index, width, fields). -/
def regRowsMac1 : List RegRow := [
  ⟨0xA06010, 0, 1, 0, 0, 1, 0, 32, fun _ _ => [Reg.MAC_ACK_FAST.CNT]⟩,
  ⟨0xA06014, 0, 1, 0, 0, 1, 0, 32, fun _ _ => [Reg.MAC_ACK_LATE.CNT]⟩,
  ⟨0xA06018, 0, 1, 0, 0, 1, 0, 32, fun _ _ => [Reg.MAC_ACK_DEFER.CNT]⟩,
  ⟨0xA0601C, 0, 1, 0, 0, 1, 0, 32, fun _ _ => [Reg.MAC_FA_INELIG.CNT]⟩,
  ⟨0xA06020, 0, 1, 0, 0, 1, 0, 32, fun _ _ => [Reg.MAC_RETRY.CNT]⟩,
  ⟨0xA06024, 0, 1, 0, 0, 1, 0, 32, fun _ _ => [Reg.MAC_NO_ACK.CNT]⟩,
  ⟨0xA06028, 0, 1, 0, 0, 1, 0, 32, fun _ _ => [Reg.MAC_CSMA_BUSY.CNT]⟩,
  ⟨0xA0602C, 0, 1, 0, 0, 1, 0, 32, fun _ _ => [Reg.MAC_CSMA_FAIL.CNT]⟩,
  ⟨0xA06030, 0, 1, 0, 0, 1, 0, 32, fun _ _ => [Reg.MAC_PLAN_ERR.CNT]⟩,
  ⟨0xA06034, 0, 1, 0, 0, 1, 0, 32, fun _ _ => [Reg.MAC_PLAN_MISS.CNT]⟩,
  ⟨0xA06038, 0, 1, 0, 0, 1, 0, 32, fun _ _ => [Reg.MAC_HOP_ERR.CNT]⟩,
  ⟨0xA0603C, 0, 1, 0, 0, 1, 0, 32, fun _ _ => [Reg.MAC_APT_UPD.CNT]⟩,
  ⟨0xA06040, 0, 1, 0, 0, 1, 0, 32, fun _ _ => [Reg.MAC_APT_RESET.CNT]⟩,
  ⟨0xA06044, 0, 1, 0, 0, 1, 0, 32, fun _ _ => [Reg.MAC_APT_EDGE.CNT]⟩,
  ⟨0xA06048, 0, 1, 0, 0, 1, 0, 32, fun _ _ => [Reg.MAC_PEND_LOST.CNT]⟩,
  ⟨0xA0604C, 0, 1, 0, 0, 1, 0, 32, fun _ _ => [Reg.MAC_NOLEASE_ACK.CNT]⟩,
  ⟨0xA06050, 0, 1, 0, 0, 1, 0, 32, fun _ _ => [Reg.MAC_CFG_IGN.CNT]⟩,
  ⟨0xA06054, 0, 1, 0, 0, 1, 0, 32, fun _ _ => [Reg.MAC_APT_CUT.CNT]⟩]

/-- Every register of the block MAC. -/
def regRowsMac : List RegRow := regRowsMac0 ++ regRowsMac1

/-! SEC_CTRL (07_security_keys.md) -/
def Reg.SEC_CTRL.EN : Fld := ⟨0xB00000, 0, 1, .rw, 0, true⟩
def Reg.SEC_CTRL.RX_EN : Fld := ⟨0xB00000, 1, 1, .rw, 1, true⟩
def Reg.SEC_CTRL.TX_EN : Fld := ⟨0xB00000, 2, 1, .rw, 1, true⟩

/-! SEC_CB_CFG (07_security_keys.md) -/
def Reg.SEC_CB_CFG.LOW : Fld := ⟨0xB00004, 0, 10, .rw, 0x100, false⟩

/-! SEC_STAT (07_security_keys.md) -/
def Reg.SEC_STAT.CB_PEND : Fld := ⟨0xB00008, 0, 16, .ro, 0, false⟩
def Reg.SEC_STAT.JRNL_OK : Fld := ⟨0xB00008, 16, 1, .ro, 0, false⟩
def Reg.SEC_STAT.JRNL_FILL : Fld := ⟨0xB00008, 17, 7, .ro, 0, false⟩
def Reg.SEC_STAT.ZEROISED : Fld := ⟨0xB00008, 24, 1, .ro, 0, false⟩

/-! SEC_Tt_CFG (07_security_keys.md) -/
def Reg.SEC_Tt_CFG.MIN_LEVEL (t : Nat) : Fld := ⟨0xB01000 + 16 * t, 0, 3, .rw, 5, true⟩
def Reg.SEC_Tt_CFG.JOIN_PLAIN (t : Nat) : Fld := ⟨0xB01000 + 16 * t, 3, 1, .rw, 0, true⟩
def Reg.SEC_Tt_CFG.NODE_KEYS (t : Nat) : Fld := ⟨0xB01000 + 16 * t, 4, 1, .rw, 0, true⟩
def Reg.SEC_Tt_CFG.NODE_KIDX (t : Nat) : Fld := ⟨0xB01000 + 16 * t, 8, 8, .rw, 255, true⟩

/-! SEC_Tt_TX (07_security_keys.md) -/
def Reg.SEC_Tt_TX.LEVEL (t : Nat) : Fld := ⟨0xB01004 + 16 * t, 0, 3, .rw, 5, true⟩
def Reg.SEC_Tt_TX.KIDX_UC (t : Nat) : Fld := ⟨0xB01004 + 16 * t, 8, 8, .rw, 1, true⟩
def Reg.SEC_Tt_TX.KIDX_BC (t : Nat) : Fld := ⟨0xB01004 + 16 * t, 16, 8, .rw, 2, true⟩

/-! SEC_RX_OK (07_security_keys.md) -/
def Reg.SEC_RX_OK.CNT : Fld := ⟨0xB02000, 0, 32, .ro, 0, false⟩

/-! SEC_MIC_FAIL (07_security_keys.md) -/
def Reg.SEC_MIC_FAIL.CNT : Fld := ⟨0xB02004, 0, 32, .ro, 0, false⟩

/-! SEC_REPLAY (07_security_keys.md) -/
def Reg.SEC_REPLAY.CNT : Fld := ⟨0xB02008, 0, 32, .ro, 0, false⟩

/-! SEC_FC_MAX (07_security_keys.md) -/
def Reg.SEC_FC_MAX.CNT : Fld := ⟨0xB0200C, 0, 32, .ro, 0, false⟩

/-! SEC_NOKEY (07_security_keys.md) -/
def Reg.SEC_NOKEY.CNT : Fld := ⟨0xB02010, 0, 32, .ro, 0, false⟩

/-! SEC_POLICY (07_security_keys.md) -/
def Reg.SEC_POLICY.CNT : Fld := ⟨0xB02014, 0, 32, .ro, 0, false⟩

/-! SEC_UNSECURED (07_security_keys.md) -/
def Reg.SEC_UNSECURED.CNT : Fld := ⟨0xB02018, 0, 32, .ro, 0, false⟩

/-! SEC_NEWKEY_HIT (07_security_keys.md) -/
def Reg.SEC_NEWKEY_HIT.CNT : Fld := ⟨0xB0201C, 0, 32, .ro, 0, false⟩

/-! SEC_OLDKEY_HIT (07_security_keys.md) -/
def Reg.SEC_OLDKEY_HIT.CNT : Fld := ⟨0xB02020, 0, 32, .ro, 0, false⟩

/-! SEC_REL_LATE (07_security_keys.md) -/
def Reg.SEC_REL_LATE.CNT : Fld := ⟨0xB02024, 0, 32, .ro, 0, false⟩

/-! SEC_TX_ENC (07_security_keys.md) -/
def Reg.SEC_TX_ENC.CNT : Fld := ⟨0xB02028, 0, 32, .ro, 0, false⟩

/-! SEC_CB_LEASE (07_security_keys.md) -/
def Reg.SEC_CB_LEASE.CNT : Fld := ⟨0xB0202C, 0, 32, .ro, 0, false⟩

/-! SEC_CB_WAIT (07_security_keys.md) -/
def Reg.SEC_CB_WAIT.CNT : Fld := ⟨0xB02030, 0, 32, .ro, 0, false⟩

/-! SEC_CB_VOID (07_security_keys.md) -/
def Reg.SEC_CB_VOID.CNT : Fld := ⟨0xB02034, 0, 32, .ro, 0, false⟩

/-! SEC_ACK_NOCTR (07_security_keys.md) -/
def Reg.SEC_ACK_NOCTR.CNT : Fld := ⟨0xB02038, 0, 32, .ro, 0, false⟩

/-! SEC_EXHAUST (07_security_keys.md) -/
def Reg.SEC_EXHAUST.CNT : Fld := ⟨0xB0203C, 0, 32, .ro, 0, false⟩

/-! SEC_KC_MISS (07_security_keys.md) -/
def Reg.SEC_KC_MISS.CNT : Fld := ⟨0xB02040, 0, 32, .ro, 0, false⟩

/-! SEC_UNWRAP_FAIL (07_security_keys.md) -/
def Reg.SEC_UNWRAP_FAIL.CNT : Fld := ⟨0xB02044, 0, 32, .ro, 0, false⟩

/-! SEC_ZEROISED (07_security_keys.md) -/
def Reg.SEC_ZEROISED.CNT : Fld := ⟨0xB02048, 0, 32, .ro, 0, false⟩

/-! SEC_JRNL_COMPACT (07_security_keys.md) -/
def Reg.SEC_JRNL_COMPACT.CNT : Fld := ⟨0xB0204C, 0, 32, .ro, 0, false⟩

/-! SEC_JRNL_BAD (07_security_keys.md) -/
def Reg.SEC_JRNL_BAD.CNT : Fld := ⟨0xB02050, 0, 32, .ro, 0, false⟩

/-! SEC_RX_JOIN (07_security_keys.md) -/
def Reg.SEC_RX_JOIN.CNT : Fld := ⟨0xB02054, 0, 32, .ro, 0, false⟩

/-- Rows of the SEC registers (base, stride and count of each index, width, fields). -/
def regRowsSec0 : List RegRow := [
  ⟨0xB00000, 0, 1, 0, 0, 1, 0, 32, fun _ _ => [Reg.SEC_CTRL.EN, Reg.SEC_CTRL.RX_EN, Reg.SEC_CTRL.TX_EN]⟩,
  ⟨0xB00004, 0, 1, 0, 0, 1, 0, 32, fun _ _ => [Reg.SEC_CB_CFG.LOW]⟩,
  ⟨0xB00008, 0, 1, 0, 0, 1, 0, 32, fun _ _ => [Reg.SEC_STAT.CB_PEND, Reg.SEC_STAT.JRNL_OK, Reg.SEC_STAT.JRNL_FILL, Reg.SEC_STAT.ZEROISED]⟩,
  ⟨0xB01000, 16, 256, 0, 0, 1, 0, 32, fun i _ => [Reg.SEC_Tt_CFG.MIN_LEVEL i, Reg.SEC_Tt_CFG.JOIN_PLAIN i, Reg.SEC_Tt_CFG.NODE_KEYS i, Reg.SEC_Tt_CFG.NODE_KIDX i]⟩,
  ⟨0xB01004, 16, 256, 0, 0, 1, 0, 32, fun i _ => [Reg.SEC_Tt_TX.LEVEL i, Reg.SEC_Tt_TX.KIDX_UC i, Reg.SEC_Tt_TX.KIDX_BC i]⟩,
  ⟨0xB02000, 0, 1, 0, 0, 1, 0, 32, fun _ _ => [Reg.SEC_RX_OK.CNT]⟩,
  ⟨0xB02004, 0, 1, 0, 0, 1, 0, 32, fun _ _ => [Reg.SEC_MIC_FAIL.CNT]⟩,
  ⟨0xB02008, 0, 1, 0, 0, 1, 0, 32, fun _ _ => [Reg.SEC_REPLAY.CNT]⟩,
  ⟨0xB0200C, 0, 1, 0, 0, 1, 0, 32, fun _ _ => [Reg.SEC_FC_MAX.CNT]⟩,
  ⟨0xB02010, 0, 1, 0, 0, 1, 0, 32, fun _ _ => [Reg.SEC_NOKEY.CNT]⟩,
  ⟨0xB02014, 0, 1, 0, 0, 1, 0, 32, fun _ _ => [Reg.SEC_POLICY.CNT]⟩,
  ⟨0xB02018, 0, 1, 0, 0, 1, 0, 32, fun _ _ => [Reg.SEC_UNSECURED.CNT]⟩,
  ⟨0xB0201C, 0, 1, 0, 0, 1, 0, 32, fun _ _ => [Reg.SEC_NEWKEY_HIT.CNT]⟩,
  ⟨0xB02020, 0, 1, 0, 0, 1, 0, 32, fun _ _ => [Reg.SEC_OLDKEY_HIT.CNT]⟩,
  ⟨0xB02024, 0, 1, 0, 0, 1, 0, 32, fun _ _ => [Reg.SEC_REL_LATE.CNT]⟩,
  ⟨0xB02028, 0, 1, 0, 0, 1, 0, 32, fun _ _ => [Reg.SEC_TX_ENC.CNT]⟩,
  ⟨0xB0202C, 0, 1, 0, 0, 1, 0, 32, fun _ _ => [Reg.SEC_CB_LEASE.CNT]⟩,
  ⟨0xB02030, 0, 1, 0, 0, 1, 0, 32, fun _ _ => [Reg.SEC_CB_WAIT.CNT]⟩,
  ⟨0xB02034, 0, 1, 0, 0, 1, 0, 32, fun _ _ => [Reg.SEC_CB_VOID.CNT]⟩,
  ⟨0xB02038, 0, 1, 0, 0, 1, 0, 32, fun _ _ => [Reg.SEC_ACK_NOCTR.CNT]⟩,
  ⟨0xB0203C, 0, 1, 0, 0, 1, 0, 32, fun _ _ => [Reg.SEC_EXHAUST.CNT]⟩,
  ⟨0xB02040, 0, 1, 0, 0, 1, 0, 32, fun _ _ => [Reg.SEC_KC_MISS.CNT]⟩,
  ⟨0xB02044, 0, 1, 0, 0, 1, 0, 32, fun _ _ => [Reg.SEC_UNWRAP_FAIL.CNT]⟩,
  ⟨0xB02048, 0, 1, 0, 0, 1, 0, 32, fun _ _ => [Reg.SEC_ZEROISED.CNT]⟩]

/-- Rows of the SEC registers (base, stride and count of each index, width, fields). -/
def regRowsSec1 : List RegRow := [
  ⟨0xB0204C, 0, 1, 0, 0, 1, 0, 32, fun _ _ => [Reg.SEC_JRNL_COMPACT.CNT]⟩,
  ⟨0xB02050, 0, 1, 0, 0, 1, 0, 32, fun _ _ => [Reg.SEC_JRNL_BAD.CNT]⟩,
  ⟨0xB02054, 0, 1, 0, 0, 1, 0, 32, fun _ _ => [Reg.SEC_RX_JOIN.CNT]⟩]

/-- Every register of the block SEC. -/
def regRowsSec : List RegRow := regRowsSec0 ++ regRowsSec1

/-! KV_CMD_ARGi (07_security_keys.md) -/
def Reg.KV_CMD_ARGi.ARG (i : Nat) : Fld := ⟨0xC00000 + 4 * i, 0, 32, .rw, 0, false⟩

/-! KV_CMD_GO (07_security_keys.md) -/
def Reg.KV_CMD_GO.CODE : Fld := ⟨0xC00040, 0, 8, .wo, 0, false⟩

/-! KV_STAT (07_security_keys.md) -/
def Reg.KV_STAT.BUSY : Fld := ⟨0xC00044, 0, 1, .ro, 0, false⟩
def Reg.KV_STAT.DONE : Fld := ⟨0xC00044, 1, 1, .w1c, 0, false⟩
def Reg.KV_STAT.DENIED : Fld := ⟨0xC00044, 2, 1, .ro, 0, false⟩
def Reg.KV_STAT.GO_IGN : Fld := ⟨0xC00044, 3, 1, .w1c, 0, false⟩
def Reg.KV_STAT.QUEUED : Fld := ⟨0xC00044, 8, 8, .ro, 0, false⟩

/-! KV_RSPi (07_security_keys.md) -/
def Reg.KV_RSPi.RSP (i : Nat) : Fld := ⟨0xC00080 + 4 * i, 0, 32, .ro, 0, false⟩

/-! KV_STATE (07_security_keys.md) -/
def Reg.KV_STATE.STATE : Fld := ⟨0xC00100, 0, 1, .ro, 0, false⟩
def Reg.KV_STATE.ENT_OK : Fld := ⟨0xC00100, 1, 1, .ro, 0, false⟩
def Reg.KV_STATE.EXHAUST_EVT : Fld := ⟨0xC00100, 2, 1, .w1c, 0, false⟩
def Reg.KV_STATE.EPOCH : Fld := ⟨0xC00100, 4, 8, .ro, Config.epochFuses, false⟩
def Reg.KV_STATE.CAUSE : Fld := ⟨0xC00100, 12, 3, .ro, 0, false⟩

/-! KV_ZCTRL (07_security_keys.md) -/
def Reg.KV_ZCTRL.SUPPLY_EN : Fld := ⟨0xC00104, 0, 1, .rwl, 1, false⟩
def Reg.KV_ZCTRL.CLOCK_EN : Fld := ⟨0xC00104, 1, 1, .rwl, 1, false⟩
def Reg.KV_ZCTRL.TEMP_EN : Fld := ⟨0xC00104, 2, 1, .rwl, 1, false⟩

/-! KV_SLOTS_USED (07_security_keys.md) -/
def Reg.KV_SLOTS_USED.USED : Fld := ⟨0xC00110, 0, 13, .ro, 1, false⟩

/-! KV_ID_PUBi (07_security_keys.md) -/
def Reg.KV_ID_PUBi.PUB (i : Nat) : Fld := ⟨0xC00200 + 4 * i, 0, 32, .ro, Config.idPub i, false⟩

/-! KV_RESEED_SKIP (07_security_keys.md) -/
def Reg.KV_RESEED_SKIP.SKIPS : Fld := ⟨0xC00300, 0, 32, .ro, 0, false⟩

/-- Rows of the KV registers (base, stride and count of each index, width, fields). -/
def regRowsKv0 : List RegRow := [
  ⟨0xC00000, 4, 16, 0, 0, 1, 0, 32, fun i _ => [Reg.KV_CMD_ARGi.ARG i]⟩,
  ⟨0xC00040, 0, 1, 0, 0, 1, 0, 32, fun _ _ => [Reg.KV_CMD_GO.CODE]⟩,
  ⟨0xC00044, 0, 1, 0, 0, 1, 0, 32, fun _ _ => [Reg.KV_STAT.BUSY, Reg.KV_STAT.DONE, Reg.KV_STAT.DENIED, Reg.KV_STAT.GO_IGN, Reg.KV_STAT.QUEUED]⟩,
  ⟨0xC00080, 4, 16, 0, 0, 1, 0, 32, fun i _ => [Reg.KV_RSPi.RSP i]⟩,
  ⟨0xC00100, 0, 1, 0, 0, 1, 0, 32, fun _ _ => [Reg.KV_STATE.STATE, Reg.KV_STATE.ENT_OK, Reg.KV_STATE.EXHAUST_EVT, Reg.KV_STATE.EPOCH, Reg.KV_STATE.CAUSE]⟩,
  ⟨0xC00104, 0, 1, 0, 0, 1, 0, 32, fun _ _ => [Reg.KV_ZCTRL.SUPPLY_EN, Reg.KV_ZCTRL.CLOCK_EN, Reg.KV_ZCTRL.TEMP_EN]⟩,
  ⟨0xC00110, 0, 1, 0, 0, 1, 0, 32, fun _ _ => [Reg.KV_SLOTS_USED.USED]⟩,
  ⟨0xC00200, 4, 24, 0, 0, 1, 0, 32, fun i _ => [Reg.KV_ID_PUBi.PUB i]⟩,
  ⟨0xC00300, 0, 1, 0, 0, 1, 0, 32, fun _ _ => [Reg.KV_RESEED_SKIP.SKIPS]⟩]

/-- Every register of the block KV. -/
def regRowsKv : List RegRow := regRowsKv0

end Sys2Proof.Machine
end

