-- ==== Sys2Proof/Machine/RegMapRadio.lean ====
section
/-! DEFINITION. The register fields of the blocks SYS, RSI, PRSM, CE, DEC, one definition per field of the spec's register tables
(address, place, type of R9, reset value of R12, tick-aligned mark of R16), and the rows that list them by register. -/

namespace Sys2Proof.Machine


/-! SYS_ID (01_architecture.md) -/
def Reg.SYS_ID.REV : Fld := ⟨0, 0, 8, .ro, 176, false⟩
def Reg.SYS_ID.PART : Fld := ⟨0, 8, 16, .ro, 0x7128, false⟩
def Reg.SYS_ID.FAMILY : Fld := ⟨0, 24, 8, .ro, 80, false⟩

/-! SYS_LOCK (01_architecture.md) -/
def Reg.SYS_LOCK.LOCK : Fld := ⟨16, 0, 1, .w1s, 0, false⟩

/-! SYS_OVR_STAT (01_architecture.md) -/
def Reg.SYS_OVR_STAT.PRSM_GAP : Fld := ⟨32, 0, 1, .w1c, 0, false⟩
def Reg.SYS_OVR_STAT.CE_RPT_LATE : Fld := ⟨32, 1, 1, .w1c, 0, false⟩
def Reg.SYS_OVR_STAT.DEC_LATE : Fld := ⟨32, 2, 1, .w1c, 0, false⟩
def Reg.SYS_OVR_STAT.SEC_REL_LATE : Fld := ⟨32, 3, 1, .w1c, 0, false⟩
def Reg.SYS_OVR_STAT.CMT_MISS : Fld := ⟨32, 4, 1, .w1c, 0, false⟩
def Reg.SYS_OVR_STAT.TXC_LATE : Fld := ⟨32, 5, 1, .w1c, 0, false⟩
def Reg.SYS_OVR_STAT.FETCH_LATE : Fld := ⟨32, 6, 1, .w1c, 0, false⟩
def Reg.SYS_OVR_STAT.ACK_LATE : Fld := ⟨32, 7, 1, .w1c, 0, false⟩
def Reg.SYS_OVR_STAT.MIR_BUBBLE : Fld := ⟨32, 8, 1, .w1c, 0, false⟩

/-! SYS_OVR_IRQ (01_architecture.md) -/
def Reg.SYS_OVR_IRQ.EN : Fld := ⟨36, 0, 9, .rw, 0, false⟩

/-! SYS_OVR_TICK (01_architecture.md) -/
def Reg.SYS_OVR_TICK.TICK : Fld := ⟨40, 0, 64, .ro, 0, false⟩

/-! SYS_TICK_NOW (01_architecture.md) -/
def Reg.SYS_TICK_NOW.TICK : Fld := ⟨48, 0, 64, .ro, 0, false⟩

/-! SYS_TICK_OFFSET (01_architecture.md) -/
def Reg.SYS_TICK_OFFSET.CLOCKS : Fld := ⟨56, 0, 17, .ro, 0, false⟩

/-- Rows of the SYS registers (base, stride and count of each index, width, fields). -/
def regRowsSys0 : List RegRow := [
  ⟨0, 0, 1, 0, 0, 1, 0, 32, fun _ _ => [Reg.SYS_ID.REV, Reg.SYS_ID.PART, Reg.SYS_ID.FAMILY]⟩,
  ⟨16, 0, 1, 0, 0, 1, 0, 32, fun _ _ => [Reg.SYS_LOCK.LOCK]⟩,
  ⟨32, 0, 1, 0, 0, 1, 0, 32, fun _ _ => [Reg.SYS_OVR_STAT.PRSM_GAP, Reg.SYS_OVR_STAT.CE_RPT_LATE, Reg.SYS_OVR_STAT.DEC_LATE, Reg.SYS_OVR_STAT.SEC_REL_LATE, Reg.SYS_OVR_STAT.CMT_MISS, Reg.SYS_OVR_STAT.TXC_LATE, Reg.SYS_OVR_STAT.FETCH_LATE, Reg.SYS_OVR_STAT.ACK_LATE, Reg.SYS_OVR_STAT.MIR_BUBBLE]⟩,
  ⟨36, 0, 1, 0, 0, 1, 0, 32, fun _ _ => [Reg.SYS_OVR_IRQ.EN]⟩,
  ⟨40, 0, 1, 0, 0, 1, 0, 64, fun _ _ => [Reg.SYS_OVR_TICK.TICK]⟩,
  ⟨48, 0, 1, 0, 0, 1, 0, 64, fun _ _ => [Reg.SYS_TICK_NOW.TICK]⟩,
  ⟨56, 0, 1, 0, 0, 1, 0, 32, fun _ _ => [Reg.SYS_TICK_OFFSET.CLOCKS]⟩]

/-- Every register of the block SYS. -/
def regRowsSys : List RegRow := regRowsSys0

/-! RSI_CTRL (02_sample_interface_prism.md) -/
def Reg.RSI_CTRL.EN : Fld := ⟨0x500000, 0, 1, .rw, 0, false⟩
def Reg.RSI_CTRL.DISC_START : Fld := ⟨0x500000, 1, 1, .w1s, 0, false⟩
def Reg.RSI_CTRL.DISC_DONE : Fld := ⟨0x500000, 2, 1, .ro, 0, false⟩
def Reg.RSI_CTRL.DISC_AUTO : Fld := ⟨0x500000, 3, 1, .rw, 1, false⟩
def Reg.RSI_CTRL.DISC_FOUND : Fld := ⟨0x500000, 4, 8, .ro, 0, false⟩

/-! RSI_RXLANEl (02_sample_interface_prism.md) -/
def Reg.RSI_RXLANEl.LOGICAL (l : Nat) : Fld := ⟨0x500010 + 4 * l, 0, 3, .rw, l, false⟩
def Reg.RSI_RXLANEl.POL (l : Nat) : Fld := ⟨0x500010 + 4 * l, 3, 1, .rw, 0, false⟩
def Reg.RSI_RXLANEl.FOUND (l : Nat) : Fld := ⟨0x500010 + 4 * l, 4, 1, .ro, 0, false⟩

/-! RSI_TXLANEl (02_sample_interface_prism.md) -/
def Reg.RSI_TXLANEl.LOGICAL (l : Nat) : Fld := ⟨0x500030 + 4 * l, 0, 2, .rw, l, false⟩
def Reg.RSI_TXLANEl.POL (l : Nat) : Fld := ⟨0x500030 + 4 * l, 2, 1, .rw, 0, false⟩

/-! RSI_SYSREF (02_sample_interface_prism.md) -/
def Reg.RSI_SYSREF.MODE : Fld := ⟨0x500040, 0, 2, .rw, 0, true⟩
def Reg.RSI_SYSREF.SRC : Fld := ⟨0x500040, 2, 1, .rw, 0, false⟩
def Reg.RSI_SYSREF.OUT_EN : Fld := ⟨0x500040, 3, 1, .rw, 0, false⟩
def Reg.RSI_SYSREF.REALIGN : Fld := ⟨0x500040, 4, 1, .rw, 0, false⟩
def Reg.RSI_SYSREF.ARM : Fld := ⟨0x500040, 5, 1, .w1s, 0, false⟩
def Reg.RSI_SYSREF.WINDOW : Fld := ⟨0x500040, 8, 4, .rw, 2, false⟩
def Reg.RSI_SYSREF.PERIOD : Fld := ⟨0x500040, 16, 12, .rw, 1, false⟩

/-! RSI_SYSREF_STAT (02_sample_interface_prism.md) -/
def Reg.RSI_SYSREF_STAT.PHASE : Fld := ⟨0x500044, 0, 8, .ro, 0, false⟩
def Reg.RSI_SYSREF_STAT.PHASE_PORT : Fld := ⟨0x500044, 10, 3, .ro, 0, false⟩
def Reg.RSI_SYSREF_STAT.IN_SEEN : Fld := ⟨0x500044, 8, 1, .w1c, 0, false⟩
def Reg.RSI_SYSREF_STAT.NEEDED : Fld := ⟨0x500044, 9, 1, .ro, 0, false⟩
def Reg.RSI_SYSREF_STAT.REALIGN_CNT : Fld := ⟨0x500044, 16, 16, .ro, 0, false⟩

/-! RSI_SYSREF_SLIP (02_sample_interface_prism.md) -/
def Reg.RSI_SYSREF_SLIP.SLIPS : Fld := ⟨0x500048, 0, 16, .ro, 0, false⟩

/-! RSI_RXn_CFG (02_sample_interface_prism.md) -/
def Reg.RSI_RXn_CFG.EN (n : Nat) : Fld := ⟨0x500100 + 64 * n, 0, 1, .rw, 0, false⟩
def Reg.RSI_RXn_CFG.SET (n : Nat) : Fld := ⟨0x500100 + 64 * n, 1, 3, .rw, 1, false⟩
def Reg.RSI_RXn_CFG.S (n : Nat) : Fld := ⟨0x500100 + 64 * n, 4, 1, .rw, 0, false⟩
def Reg.RSI_RXn_CFG.E_M1 (n : Nat) : Fld := ⟨0x500100 + 64 * n, 5, 8, .rw, 7, false⟩
def Reg.RSI_RXn_CFG.K_M1 (n : Nat) : Fld := ⟨0x500100 + 64 * n, 13, 5, .rw, 31, false⟩
def Reg.RSI_RXn_CFG.CRC_ACT (n : Nat) : Fld := ⟨0x500100 + 64 * n, 18, 1, .rw, 0, false⟩
def Reg.RSI_RXn_CFG.SCR (n : Nat) : Fld := ⟨0x500100 + 64 * n, 19, 1, .rw, 1, false⟩

/-! RSI_RXn_DLY (02_sample_interface_prism.md) -/
def Reg.RSI_RXn_DLY.RBD (n : Nat) : Fld := ⟨0x500104 + 64 * n, 0, 9, .rw, 0, false⟩
def Reg.RSI_RXn_DLY.ARR (n : Nat) : Fld := ⟨0x500104 + 64 * n, 16, 9, .ro, 0, false⟩

/-! RSI_RXn_STAT (02_sample_interface_prism.md) -/
def Reg.RSI_RXn_STAT.STATE (n : Nat) : Fld := ⟨0x500108 + 64 * n, 0, 3, .ro, 0, false⟩
def Reg.RSI_RXn_STAT.CFG_ERR (n : Nat) : Fld := ⟨0x500108 + 64 * n, 3, 3, .ro, 0, false⟩
def Reg.RSI_RXn_STAT.MARGIN_LOW (n : Nat) : Fld := ⟨0x500108 + 64 * n, 6, 1, .ro, 0, false⟩
def Reg.RSI_RXn_STAT.DOWN_CAUSE (n : Nat) : Fld := ⟨0x500108 + 64 * n, 8, 2, .ro, 0, false⟩
def Reg.RSI_RXn_STAT.LAT (n : Nat) : Fld := ⟨0x500108 + 64 * n, 16, 9, .ro, 0, false⟩

/-! RSI_RXn_CNT (02_sample_interface_prism.md) -/
def Reg.RSI_RXn_CNT.CRC_ERR (n : Nat) : Fld := ⟨0x50010C + 64 * n, 0, 16, .ro, 0, false⟩
def Reg.RSI_RXn_CNT.DOWN_EVT (n : Nat) : Fld := ⟨0x50010C + 64 * n, 16, 16, .ro, 0, false⟩

/-! RSI_TXn_CFG (02_sample_interface_prism.md) -/
def Reg.RSI_TXn_CFG.EN (n : Nat) : Fld := ⟨0x500300 + 64 * n, 0, 1, .rw, 0, false⟩
def Reg.RSI_TXn_CFG.SET (n : Nat) : Fld := ⟨0x500300 + 64 * n, 1, 3, .rw, 1, false⟩
def Reg.RSI_TXn_CFG.S (n : Nat) : Fld := ⟨0x500300 + 64 * n, 4, 1, .rw, 0, false⟩
def Reg.RSI_TXn_CFG.E_M1 (n : Nat) : Fld := ⟨0x500300 + 64 * n, 5, 8, .rw, 7, false⟩
def Reg.RSI_TXn_CFG.K_M1 (n : Nat) : Fld := ⟨0x500300 + 64 * n, 13, 5, .rw, 31, false⟩
def Reg.RSI_TXn_CFG.SCR (n : Nat) : Fld := ⟨0x500300 + 64 * n, 19, 1, .rw, 1, false⟩

/-! RSI_TXn_DLY (02_sample_interface_prism.md) -/
def Reg.RSI_TXn_DLY.TXDLY (n : Nat) : Fld := ⟨0x500304 + 64 * n, 0, 10, .rw, 0x100, false⟩

/-! RSI_TXn_STAT (02_sample_interface_prism.md) -/
def Reg.RSI_TXn_STAT.STATE (n : Nat) : Fld := ⟨0x500308 + 64 * n, 0, 3, .ro, 0, false⟩
def Reg.RSI_TXn_STAT.CFG_ERR (n : Nat) : Fld := ⟨0x500308 + 64 * n, 3, 3, .ro, 0, false⟩

/-- Rows of the RSI registers (base, stride and count of each index, width, fields). -/
def regRowsRsi0 : List RegRow := [
  ⟨0x500000, 0, 1, 0, 0, 1, 0, 32, fun _ _ => [Reg.RSI_CTRL.EN, Reg.RSI_CTRL.DISC_START, Reg.RSI_CTRL.DISC_DONE, Reg.RSI_CTRL.DISC_AUTO, Reg.RSI_CTRL.DISC_FOUND]⟩,
  ⟨0x500010, 4, 8, 0, 0, 1, 0, 32, fun i _ => [Reg.RSI_RXLANEl.LOGICAL i, Reg.RSI_RXLANEl.POL i, Reg.RSI_RXLANEl.FOUND i]⟩,
  ⟨0x500030, 4, 4, 0, 0, 1, 0, 32, fun i _ => [Reg.RSI_TXLANEl.LOGICAL i, Reg.RSI_TXLANEl.POL i]⟩,
  ⟨0x500040, 0, 1, 0, 0, 1, 0, 32, fun _ _ => [Reg.RSI_SYSREF.MODE, Reg.RSI_SYSREF.SRC, Reg.RSI_SYSREF.OUT_EN, Reg.RSI_SYSREF.REALIGN, Reg.RSI_SYSREF.ARM, Reg.RSI_SYSREF.WINDOW, Reg.RSI_SYSREF.PERIOD]⟩,
  ⟨0x500044, 0, 1, 0, 0, 1, 0, 32, fun _ _ => [Reg.RSI_SYSREF_STAT.PHASE, Reg.RSI_SYSREF_STAT.PHASE_PORT, Reg.RSI_SYSREF_STAT.IN_SEEN, Reg.RSI_SYSREF_STAT.NEEDED, Reg.RSI_SYSREF_STAT.REALIGN_CNT]⟩,
  ⟨0x500048, 0, 1, 0, 0, 1, 0, 32, fun _ _ => [Reg.RSI_SYSREF_SLIP.SLIPS]⟩,
  ⟨0x500100, 64, 8, 0, 0, 1, 0, 32, fun i _ => [Reg.RSI_RXn_CFG.EN i, Reg.RSI_RXn_CFG.SET i, Reg.RSI_RXn_CFG.S i, Reg.RSI_RXn_CFG.E_M1 i, Reg.RSI_RXn_CFG.K_M1 i, Reg.RSI_RXn_CFG.CRC_ACT i, Reg.RSI_RXn_CFG.SCR i]⟩,
  ⟨0x500104, 64, 8, 0, 0, 1, 0, 32, fun i _ => [Reg.RSI_RXn_DLY.RBD i, Reg.RSI_RXn_DLY.ARR i]⟩,
  ⟨0x500108, 64, 8, 0, 0, 1, 0, 32, fun i _ => [Reg.RSI_RXn_STAT.STATE i, Reg.RSI_RXn_STAT.CFG_ERR i, Reg.RSI_RXn_STAT.MARGIN_LOW i, Reg.RSI_RXn_STAT.DOWN_CAUSE i, Reg.RSI_RXn_STAT.LAT i]⟩,
  ⟨0x50010C, 64, 8, 0, 0, 1, 0, 32, fun i _ => [Reg.RSI_RXn_CNT.CRC_ERR i, Reg.RSI_RXn_CNT.DOWN_EVT i]⟩,
  ⟨0x500300, 64, 4, 0, 0, 1, 0, 32, fun i _ => [Reg.RSI_TXn_CFG.EN i, Reg.RSI_TXn_CFG.SET i, Reg.RSI_TXn_CFG.S i, Reg.RSI_TXn_CFG.E_M1 i, Reg.RSI_TXn_CFG.K_M1 i, Reg.RSI_TXn_CFG.SCR i]⟩,
  ⟨0x500304, 64, 4, 0, 0, 1, 0, 32, fun i _ => [Reg.RSI_TXn_DLY.TXDLY i]⟩,
  ⟨0x500308, 64, 4, 0, 0, 1, 0, 32, fun i _ => [Reg.RSI_TXn_STAT.STATE i, Reg.RSI_TXn_STAT.CFG_ERR i]⟩]

/-- Every register of the block RSI. -/
def regRowsRsi : List RegRow := regRowsRsi0

/-! PRSM_PORTn_CFG (02_sample_interface_prism.md) -/
def Reg.PRSM_PORTn_CFG.DC_EN (n : Nat) : Fld := ⟨0x600000 + 64 * n, 0, 1, .rw, 1, true⟩
def Reg.PRSM_PORTn_CFG.DC_K (n : Nat) : Fld := ⟨0x600000 + 64 * n, 1, 5, .rw, 16, true⟩
def Reg.PRSM_PORTn_CFG.IQ_EN (n : Nat) : Fld := ⟨0x600000 + 64 * n, 6, 1, .rw, 0, true⟩
def Reg.PRSM_PORTn_CFG.BAND (n : Nat) : Fld := ⟨0x600000 + 64 * n, 8, 2, .rw, 0, true⟩
def Reg.PRSM_PORTn_CFG.SPEC_INV (n : Nat) : Fld := ⟨0x600000 + 64 * n, 10, 1, .rw, 0, true⟩
def Reg.PRSM_PORTn_CFG.AUTO_RETURN (n : Nat) : Fld := ⟨0x600000 + 64 * n, 11, 1, .rw, 0, true⟩

/-! PRSM_PORTn_FC (02_sample_interface_prism.md) -/
def Reg.PRSM_PORTn_FC.FC (n : Nat) : Fld := ⟨0x600004 + 64 * n, 0, 32, .rw, 0, true⟩

/-! PRSM_PORTn_IQ (02_sample_interface_prism.md) -/
def Reg.PRSM_PORTn_IQ.GAIN (n : Nat) : Fld := ⟨0x600008 + 64 * n, 0, 16, .rw, 0, false⟩
def Reg.PRSM_PORTn_IQ.PHASE (n : Nat) : Fld := ⟨0x600008 + 64 * n, 16, 16, .rw, 0, false⟩

/-! PRSM_PORTn_PWR (02_sample_interface_prism.md) -/
def Reg.PRSM_PORTn_PWR.MEAN (n : Nat) : Fld := ⟨0x60000C + 64 * n, 0, 9, .ro, 0x1FF, false⟩
def Reg.PRSM_PORTn_PWR.PEAK (n : Nat) : Fld := ⟨0x60000C + 64 * n, 16, 9, .ro, 0x1FF, false⟩

/-! PRSM_PORTn_CLIP (02_sample_interface_prism.md) -/
def Reg.PRSM_PORTn_CLIP.CLIPS (n : Nat) : Fld := ⟨0x600010 + 64 * n, 0, 16, .ro, 0, false⟩
def Reg.PRSM_PORTn_CLIP.CLIP_TICKS (n : Nat) : Fld := ⟨0x600010 + 64 * n, 16, 16, .ro, 0, false⟩

/-! PRSM_TUn_CFG (02_sample_interface_prism.md) -/
def Reg.PRSM_TUn_CFG.EN (n : Nat) : Fld := ⟨0x601000 + 16 * n, 0, 1, .rw, 0, true⟩
def Reg.PRSM_TUn_CFG.MODE (n : Nat) : Fld := ⟨0x601000 + 16 * n, 1, 1, .rw, 0, true⟩
def Reg.PRSM_TUn_CFG.HOP (n : Nat) : Fld := ⟨0x601000 + 16 * n, 2, 1, .rw, 0, true⟩
def Reg.PRSM_TUn_CFG.CHAIN (n : Nat) : Fld := ⟨0x601000 + 16 * n, 3, 3, .rw, 2, true⟩
def Reg.PRSM_TUn_CFG.PORT (n : Nat) : Fld := ⟨0x601000 + 16 * n, 6, 3, .rw, 0, true⟩
def Reg.PRSM_TUn_CFG.ENGINE (n : Nat) : Fld := ⟨0x601000 + 16 * n, 9, 7, .rw, n, true⟩
def Reg.PRSM_TUn_CFG.ALT_PORT (n : Nat) : Fld := ⟨0x601000 + 16 * n, 16, 3, .rw, 0, true⟩
def Reg.PRSM_TUn_CFG.ALT_EN (n : Nat) : Fld := ⟨0x601000 + 16 * n, 19, 1, .rw, 0, true⟩

/-! PRSM_TUn_FREQ (02_sample_interface_prism.md) -/
def Reg.PRSM_TUn_FREQ.FREQ (n : Nat) : Fld := ⟨0x601004 + 16 * n, 0, 32, .rw, 0, true⟩

/-! PRSM_TUn_STAT (02_sample_interface_prism.md) -/
def Reg.PRSM_TUn_STAT.STATE (n : Nat) : Fld := ⟨0x601008 + 16 * n, 0, 2, .ro, 0, false⟩
def Reg.PRSM_TUn_STAT.ERR (n : Nat) : Fld := ⟨0x601008 + 16 * n, 2, 3, .ro, 0, false⟩
def Reg.PRSM_TUn_STAT.ON_ALT (n : Nat) : Fld := ⟨0x601008 + 16 * n, 5, 1, .ro, 0, false⟩
def Reg.PRSM_TUn_STAT.CUR_PORT (n : Nat) : Fld := ⟨0x601008 + 16 * n, 6, 3, .ro, 0, false⟩
def Reg.PRSM_TUn_STAT.RESTARTS (n : Nat) : Fld := ⟨0x601008 + 16 * n, 16, 16, .ro, 0, false⟩

/-! PRSM_TUn_INV (02_sample_interface_prism.md) -/
def Reg.PRSM_TUn_INV.INVALID (n : Nat) : Fld := ⟨0x60100C + 16 * n, 0, 32, .ro, 0, false⟩

/-! PRSM_CHAINc_INFO (02_sample_interface_prism.md) -/
def Reg.PRSM_CHAINc_INFO.LFD (c : Nat) : Fld := ⟨0x602000 + 4 * c, 0, 8, .ro, Config.chainLfd c, false⟩
def Reg.PRSM_CHAINc_INFO.GD (c : Nat) : Fld := ⟨0x602000 + 4 * c, 16, 16, .ro, Config.chainGd c, false⟩

/-! PRSM_GAP_CNT (02_sample_interface_prism.md) -/
def Reg.PRSM_GAP_CNT.GAP : Fld := ⟨0x602100, 0, 32, .ro, 0, false⟩

/-- Rows of the PRSM registers (base, stride and count of each index, width, fields). -/
def regRowsPrsm0 : List RegRow := [
  ⟨0x600000, 64, 8, 0, 0, 1, 0, 32, fun i _ => [Reg.PRSM_PORTn_CFG.DC_EN i, Reg.PRSM_PORTn_CFG.DC_K i, Reg.PRSM_PORTn_CFG.IQ_EN i, Reg.PRSM_PORTn_CFG.BAND i, Reg.PRSM_PORTn_CFG.SPEC_INV i, Reg.PRSM_PORTn_CFG.AUTO_RETURN i]⟩,
  ⟨0x600004, 64, 8, 0, 0, 1, 0, 32, fun i _ => [Reg.PRSM_PORTn_FC.FC i]⟩,
  ⟨0x600008, 64, 8, 0, 0, 1, 0, 32, fun i _ => [Reg.PRSM_PORTn_IQ.GAIN i, Reg.PRSM_PORTn_IQ.PHASE i]⟩,
  ⟨0x60000C, 64, 8, 0, 0, 1, 0, 32, fun i _ => [Reg.PRSM_PORTn_PWR.MEAN i, Reg.PRSM_PORTn_PWR.PEAK i]⟩,
  ⟨0x600010, 64, 8, 0, 0, 1, 0, 32, fun i _ => [Reg.PRSM_PORTn_CLIP.CLIPS i, Reg.PRSM_PORTn_CLIP.CLIP_TICKS i]⟩,
  ⟨0x601000, 16, 128, 0, 0, 1, 0, 32, fun i _ => [Reg.PRSM_TUn_CFG.EN i, Reg.PRSM_TUn_CFG.MODE i, Reg.PRSM_TUn_CFG.HOP i, Reg.PRSM_TUn_CFG.CHAIN i, Reg.PRSM_TUn_CFG.PORT i, Reg.PRSM_TUn_CFG.ENGINE i, Reg.PRSM_TUn_CFG.ALT_PORT i, Reg.PRSM_TUn_CFG.ALT_EN i]⟩,
  ⟨0x601004, 16, 128, 0, 0, 1, 0, 32, fun i _ => [Reg.PRSM_TUn_FREQ.FREQ i]⟩,
  ⟨0x601008, 16, 128, 0, 0, 1, 0, 32, fun i _ => [Reg.PRSM_TUn_STAT.STATE i, Reg.PRSM_TUn_STAT.ERR i, Reg.PRSM_TUn_STAT.ON_ALT i, Reg.PRSM_TUn_STAT.CUR_PORT i, Reg.PRSM_TUn_STAT.RESTARTS i]⟩,
  ⟨0x60100C, 16, 128, 0, 0, 1, 0, 32, fun i _ => [Reg.PRSM_TUn_INV.INVALID i]⟩,
  ⟨0x602000, 4, 7, 0, 0, 1, 0, 32, fun i _ => [Reg.PRSM_CHAINc_INFO.LFD i, Reg.PRSM_CHAINc_INFO.GD i]⟩,
  ⟨0x602100, 0, 1, 0, 0, 1, 0, 32, fun _ _ => [Reg.PRSM_GAP_CNT.GAP]⟩]

/-- Every register of the block PRSM. -/
def regRowsPrsm : List RegRow := regRowsPrsm0

/-! CE_MODE (03_reception.md) -/
def Reg.CE_MODE.EN (n : Nat) : Fld := ⟨0x700000 + 0x100 * n, 0, 1, .rw, 0, true⟩
def Reg.CE_MODE.PHY (n : Nat) : Fld := ⟨0x700000 + 0x100 * n, 1, 2, .rw, 0, true⟩
def Reg.CE_MODE.MODE (n : Nat) : Fld := ⟨0x700000 + 0x100 * n, 3, 5, .rw, 0, true⟩

/-! CE_DET (03_reception.md) -/
def Reg.CE_DET.THRESH (n : Nat) : Fld := ⟨0x700004 + 0x100 * n, 0, 8, .rw, 80, false⟩
def Reg.CE_DET.MIN_PWR (n : Nat) : Fld := ⟨0x700004 + 0x100 * n, 8, 8, .rw, 200, false⟩
def Reg.CE_DET.RUN (n : Nat) : Fld := ⟨0x700004 + 0x100 * n, 16, 4, .rw, 2, false⟩

/-! CE_SYNC (03_reception.md) -/
def Reg.CE_SYNC.PRE_MIN (n : Nat) : Fld := ⟨0x700008 + 0x100 * n, 0, 4, .rw, 4, false⟩
def Reg.CE_SYNC.SFD_TO (n : Nat) : Fld := ⟨0x700008 + 0x100 * n, 16, 12, .rw, 0x100, false⟩

/-! CE_TRACK (03_reception.md) -/
def Reg.CE_TRACK.BW (n : Nat) : Fld := ⟨0x70000C + 0x100 * n, 0, 2, .rw, 1, false⟩

/-! CE_DIV (03_reception.md) -/
def Reg.CE_DIV.MODE (n : Nat) : Fld := ⟨0x700010 + 0x100 * n, 0, 1, .rw, 0, true⟩
def Reg.CE_DIV.DUP_WIN (n : Nat) : Fld := ⟨0x700010 + 0x100 * n, 8, 8, .rw, 2, false⟩

/-! CE_CAPTURE (03_reception.md) -/
def Reg.CE_CAPTURE.EN (n : Nat) : Fld := ⟨0x700040 + 0x100 * n, 0, 1, .rw, 1, false⟩
def Reg.CE_CAPTURE.SIC_EN (n : Nat) : Fld := ⟨0x700040 + 0x100 * n, 1, 1, .rw, 1, false⟩
def Reg.CE_CAPTURE.MARGIN_DB (n : Nat) : Fld := ⟨0x700040 + 0x100 * n, 2, 5, .rw, 6, false⟩

/-! CE_SLICE (03_reception.md) -/
def Reg.CE_SLICE.BASE (n : Nat) : Fld := ⟨0x700044 + 0x100 * n, 0, 11, .rw, 12 * n, false⟩
def Reg.CE_SLICE.PAGES (n : Nat) : Fld := ⟨0x700044 + 0x100 * n, 12, 7, .rw, 12, false⟩
def Reg.CE_SLICE.LLR (n : Nat) : Fld := ⟨0x700044 + 0x100 * n, 20, 4, .rw, 2, false⟩

/-! CE_STAT (03_reception.md) -/
def Reg.CE_STAT.STATE (n : Nat) : Fld := ⟨0x700048 + 0x100 * n, 0, 2, .ro, 0, false⟩
def Reg.CE_STAT.HOLDING (n : Nat) : Fld := ⟨0x700048 + 0x100 * n, 2, 1, .ro, 0, false⟩
def Reg.CE_STAT.ERR (n : Nat) : Fld := ⟨0x700048 + 0x100 * n, 4, 3, .ro, 0, false⟩
def Reg.CE_STAT.TUNER (n : Nat) : Fld := ⟨0x700048 + 0x100 * n, 8, 7, .ro, 0, false⟩

/-! CE_TREP (03_reception.md) -/
def Reg.CE_TREP.BUSY (n : Nat) : Fld := ⟨0x700050 + 0x100 * n, 0, 8, .ro, 0, false⟩
def Reg.CE_TREP.NOISE (n : Nat) : Fld := ⟨0x700050 + 0x100 * n, 8, 9, .ro, 0x1FF, false⟩
def Reg.CE_TREP.DETS (n : Nat) : Fld := ⟨0x700050 + 0x100 * n, 24, 8, .ro, 0, false⟩

/-! CE_DET_CNT (03_reception.md) -/
def Reg.CE_DET_CNT.CNT (n : Nat) : Fld := ⟨0x700080 + 0x100 * n, 0, 32, .ro, 0, false⟩

/-! CE_OK (03_reception.md) -/
def Reg.CE_OK.CNT (n : Nat) : Fld := ⟨0x700084 + 0x100 * n, 0, 32, .ro, 0, false⟩

/-! CE_SYNC_FAIL (03_reception.md) -/
def Reg.CE_SYNC_FAIL.CNT (n : Nat) : Fld := ⟨0x700088 + 0x100 * n, 0, 32, .ro, 0, false⟩

/-! CE_HDR_FAIL (03_reception.md) -/
def Reg.CE_HDR_FAIL.CNT (n : Nat) : Fld := ⟨0x70008C + 0x100 * n, 0, 32, .ro, 0, false⟩

/-! CE_CRC_FAIL (03_reception.md) -/
def Reg.CE_CRC_FAIL.CNT (n : Nat) : Fld := ⟨0x700090 + 0x100 * n, 0, 32, .ro, 0, false⟩

/-! CE_ABORT_SYNC (03_reception.md) -/
def Reg.CE_ABORT_SYNC.CNT (n : Nat) : Fld := ⟨0x700094 + 0x100 * n, 0, 32, .ro, 0, false⟩

/-! CE_ABORT_CFG (03_reception.md) -/
def Reg.CE_ABORT_CFG.CNT (n : Nat) : Fld := ⟨0x700098 + 0x100 * n, 0, 32, .ro, 0, false⟩

/-! CE_CAP (03_reception.md) -/
def Reg.CE_CAP.CNT (n : Nat) : Fld := ⟨0x70009C + 0x100 * n, 0, 32, .ro, 0, false⟩

/-! CE_CAP_IGN (03_reception.md) -/
def Reg.CE_CAP_IGN.CNT (n : Nat) : Fld := ⟨0x7000A0 + 0x100 * n, 0, 32, .ro, 0, false⟩

/-! CE_CAP_ABANDON (03_reception.md) -/
def Reg.CE_CAP_ABANDON.CNT (n : Nat) : Fld := ⟨0x7000A4 + 0x100 * n, 0, 32, .ro, 0, false⟩

/-! CE_SIC_OK (03_reception.md) -/
def Reg.CE_SIC_OK.CNT (n : Nat) : Fld := ⟨0x7000A8 + 0x100 * n, 0, 32, .ro, 0, false⟩

/-! CE_SIC_FAIL (03_reception.md) -/
def Reg.CE_SIC_FAIL.CNT (n : Nat) : Fld := ⟨0x7000AC + 0x100 * n, 0, 32, .ro, 0, false⟩

/-! CE_SIC_NOBUF (03_reception.md) -/
def Reg.CE_SIC_NOBUF.CNT (n : Nat) : Fld := ⟨0x7000B0 + 0x100 * n, 0, 32, .ro, 0, false⟩

/-! CE_DIV_DUP (03_reception.md) -/
def Reg.CE_DIV_DUP.CNT (n : Nat) : Fld := ⟨0x7000B4 + 0x100 * n, 0, 32, .ro, 0, false⟩

/-! CE_DIV_DROP (03_reception.md) -/
def Reg.CE_DIV_DROP.CNT (n : Nat) : Fld := ⟨0x7000B8 + 0x100 * n, 0, 32, .ro, 0, false⟩

/-! CE_RPT_LATE (03_reception.md) -/
def Reg.CE_RPT_LATE.CNT (n : Nat) : Fld := ⟨0x7000BC + 0x100 * n, 0, 32, .ro, 0, false⟩

/-! CE_MS_REJECT (03_reception.md) -/
def Reg.CE_MS_REJECT.CNT (n : Nat) : Fld := ⟨0x7000C0 + 0x100 * n, 0, 32, .ro, 0, false⟩

/-! CE_LLR_FULL (03_reception.md) -/
def Reg.CE_LLR_FULL.CNT (n : Nat) : Fld := ⟨0x7000C4 + 0x100 * n, 0, 32, .ro, 0, false⟩

/-! CE_RSSI_CALp (03_reception.md) -/
def Reg.CE_RSSI_CALp.CAL (p : Nat) : Fld := ⟨0x708000 + 4 * p, 0, 12, .rw, 0, false⟩

/-! CE_REC_CTRL (03_reception.md) -/
def Reg.CE_REC_CTRL.FAIL_EN : Fld := ⟨0x708040, 0, 1, .rw, 0, false⟩

/-- Rows of the CE registers (base, stride and count of each index, width, fields). -/
def regRowsCe0 : List RegRow := [
  ⟨0x700000, 0x100, 128, 0, 0, 1, 0, 32, fun i _ => [Reg.CE_MODE.EN i, Reg.CE_MODE.PHY i, Reg.CE_MODE.MODE i]⟩,
  ⟨0x700004, 0x100, 128, 0, 0, 1, 0, 32, fun i _ => [Reg.CE_DET.THRESH i, Reg.CE_DET.MIN_PWR i, Reg.CE_DET.RUN i]⟩,
  ⟨0x700008, 0x100, 128, 0, 0, 1, 0, 32, fun i _ => [Reg.CE_SYNC.PRE_MIN i, Reg.CE_SYNC.SFD_TO i]⟩,
  ⟨0x70000C, 0x100, 128, 0, 0, 1, 0, 32, fun i _ => [Reg.CE_TRACK.BW i]⟩,
  ⟨0x700010, 0x100, 128, 0, 0, 1, 0, 32, fun i _ => [Reg.CE_DIV.MODE i, Reg.CE_DIV.DUP_WIN i]⟩,
  ⟨0x700040, 0x100, 128, 0, 0, 1, 0, 32, fun i _ => [Reg.CE_CAPTURE.EN i, Reg.CE_CAPTURE.SIC_EN i, Reg.CE_CAPTURE.MARGIN_DB i]⟩,
  ⟨0x700044, 0x100, 128, 0, 0, 1, 0, 32, fun i _ => [Reg.CE_SLICE.BASE i, Reg.CE_SLICE.PAGES i, Reg.CE_SLICE.LLR i]⟩,
  ⟨0x700048, 0x100, 128, 0, 0, 1, 0, 32, fun i _ => [Reg.CE_STAT.STATE i, Reg.CE_STAT.HOLDING i, Reg.CE_STAT.ERR i, Reg.CE_STAT.TUNER i]⟩,
  ⟨0x700050, 0x100, 128, 0, 0, 1, 0, 32, fun i _ => [Reg.CE_TREP.BUSY i, Reg.CE_TREP.NOISE i, Reg.CE_TREP.DETS i]⟩,
  ⟨0x700080, 0x100, 128, 0, 0, 1, 0, 32, fun i _ => [Reg.CE_DET_CNT.CNT i]⟩,
  ⟨0x700084, 0x100, 128, 0, 0, 1, 0, 32, fun i _ => [Reg.CE_OK.CNT i]⟩,
  ⟨0x700088, 0x100, 128, 0, 0, 1, 0, 32, fun i _ => [Reg.CE_SYNC_FAIL.CNT i]⟩,
  ⟨0x70008C, 0x100, 128, 0, 0, 1, 0, 32, fun i _ => [Reg.CE_HDR_FAIL.CNT i]⟩,
  ⟨0x700090, 0x100, 128, 0, 0, 1, 0, 32, fun i _ => [Reg.CE_CRC_FAIL.CNT i]⟩,
  ⟨0x700094, 0x100, 128, 0, 0, 1, 0, 32, fun i _ => [Reg.CE_ABORT_SYNC.CNT i]⟩,
  ⟨0x700098, 0x100, 128, 0, 0, 1, 0, 32, fun i _ => [Reg.CE_ABORT_CFG.CNT i]⟩,
  ⟨0x70009C, 0x100, 128, 0, 0, 1, 0, 32, fun i _ => [Reg.CE_CAP.CNT i]⟩,
  ⟨0x7000A0, 0x100, 128, 0, 0, 1, 0, 32, fun i _ => [Reg.CE_CAP_IGN.CNT i]⟩,
  ⟨0x7000A4, 0x100, 128, 0, 0, 1, 0, 32, fun i _ => [Reg.CE_CAP_ABANDON.CNT i]⟩,
  ⟨0x7000A8, 0x100, 128, 0, 0, 1, 0, 32, fun i _ => [Reg.CE_SIC_OK.CNT i]⟩,
  ⟨0x7000AC, 0x100, 128, 0, 0, 1, 0, 32, fun i _ => [Reg.CE_SIC_FAIL.CNT i]⟩,
  ⟨0x7000B0, 0x100, 128, 0, 0, 1, 0, 32, fun i _ => [Reg.CE_SIC_NOBUF.CNT i]⟩,
  ⟨0x7000B4, 0x100, 128, 0, 0, 1, 0, 32, fun i _ => [Reg.CE_DIV_DUP.CNT i]⟩,
  ⟨0x7000B8, 0x100, 128, 0, 0, 1, 0, 32, fun i _ => [Reg.CE_DIV_DROP.CNT i]⟩]

/-- Rows of the CE registers (base, stride and count of each index, width, fields). -/
def regRowsCe1 : List RegRow := [
  ⟨0x7000BC, 0x100, 128, 0, 0, 1, 0, 32, fun i _ => [Reg.CE_RPT_LATE.CNT i]⟩,
  ⟨0x7000C0, 0x100, 128, 0, 0, 1, 0, 32, fun i _ => [Reg.CE_MS_REJECT.CNT i]⟩,
  ⟨0x7000C4, 0x100, 128, 0, 0, 1, 0, 32, fun i _ => [Reg.CE_LLR_FULL.CNT i]⟩,
  ⟨0x708000, 4, 8, 0, 0, 1, 0, 32, fun i _ => [Reg.CE_RSSI_CALp.CAL i]⟩,
  ⟨0x708040, 0, 1, 0, 0, 1, 0, 32, fun _ _ => [Reg.CE_REC_CTRL.FAIL_EN]⟩]

/-- Every register of the block CE. -/
def regRowsCe : List RegRow := regRowsCe0 ++ regRowsCe1

/-! DEC_CTRL (04_ld_phy.md) -/
def Reg.DEC_CTRL.BUDGET_TICKS : Fld := ⟨0x800000, 0, 3, .rw, 2, true⟩
def Reg.DEC_CTRL.FA_RSV : Fld := ⟨0x800000, 4, 4, .rw, 4, true⟩
def Reg.DEC_CTRL.SPEC_EARLY : Fld := ⟨0x800000, 8, 1, .rw, 1, true⟩

/-! DEC_ITER (04_ld_phy.md) -/
def Reg.DEC_ITER.MAX_HDR : Fld := ⟨0x800004, 0, 5, .rw, 16, true⟩
def Reg.DEC_ITER.MAX_PAY : Fld := ⟨0x800004, 8, 6, .rw, 24, true⟩
def Reg.DEC_ITER.MAX_FA : Fld := ⟨0x800004, 16, 6, .rw, 12, true⟩

/-! DEC_FA_QUERY (04_ld_phy.md) -/
def Reg.DEC_FA_QUERY.ENGINE : Fld := ⟨0x800010, 0, 7, .rw, 0, false⟩
def Reg.DEC_FA_QUERY.PM : Fld := ⟨0x800010, 8, 3, .rw, 0, false⟩
def Reg.DEC_FA_QUERY.LMAX : Fld := ⟨0x800010, 16, 11, .ro, 0, false⟩
def Reg.DEC_FA_QUERY.VALID : Fld := ⟨0x800010, 31, 1, .ro, 0, false⟩

/-! DEC_STAT (04_ld_phy.md) -/
def Reg.DEC_STAT.BUSY : Fld := ⟨0x800020, 0, 24, .ro, 0, false⟩

/-! DEC_ON (04_ld_phy.md) -/
def Reg.DEC_ON.AVAIL : Fld := ⟨0x800024, 0, 24, .ro, 0xFFFFFF, false⟩

/-! DEC_HDR_CW (04_ld_phy.md) -/
def Reg.DEC_HDR_CW.CNT : Fld := ⟨0x800100, 0, 32, .ro, 0, false⟩

/-! DEC_HDR_FAIL (04_ld_phy.md) -/
def Reg.DEC_HDR_FAIL.CNT : Fld := ⟨0x800104, 0, 32, .ro, 0, false⟩

/-! DEC_HDR_BAD (04_ld_phy.md) -/
def Reg.DEC_HDR_BAD.CNT : Fld := ⟨0x800108, 0, 32, .ro, 0, false⟩

/-! DEC_HDR_LATE (04_ld_phy.md) -/
def Reg.DEC_HDR_LATE.CNT : Fld := ⟨0x80010C, 0, 32, .ro, 0, false⟩

/-! DEC_PAY_CW (04_ld_phy.md) -/
def Reg.DEC_PAY_CW.CNT : Fld := ⟨0x800110, 0, 32, .ro, 0, false⟩

/-! DEC_PAY_FAIL (04_ld_phy.md) -/
def Reg.DEC_PAY_FAIL.CNT : Fld := ⟨0x800114, 0, 32, .ro, 0, false⟩

/-! DEC_LATE (04_ld_phy.md) -/
def Reg.DEC_LATE.CNT : Fld := ⟨0x800118, 0, 32, .ro, 0, false⟩

/-! DEC_UNDET (04_ld_phy.md) -/
def Reg.DEC_UNDET.CNT : Fld := ⟨0x80011C, 0, 32, .ro, 0, false⟩

/-! DEC_FA_MISS (04_ld_phy.md) -/
def Reg.DEC_FA_MISS.CNT : Fld := ⟨0x800120, 0, 32, .ro, 0, false⟩

/-! DEC_FA_INELIG (04_ld_phy.md) -/
def Reg.DEC_FA_INELIG.CNT : Fld := ⟨0x800124, 0, 32, .ro, 0, false⟩

/-! DEC_ITER_TOT (04_ld_phy.md) -/
def Reg.DEC_ITER_TOT.CNT : Fld := ⟨0x800128, 0, 32, .ro, 0, false⟩

/-- Rows of the DEC registers (base, stride and count of each index, width, fields). -/
def regRowsDec0 : List RegRow := [
  ⟨0x800000, 0, 1, 0, 0, 1, 0, 32, fun _ _ => [Reg.DEC_CTRL.BUDGET_TICKS, Reg.DEC_CTRL.FA_RSV, Reg.DEC_CTRL.SPEC_EARLY]⟩,
  ⟨0x800004, 0, 1, 0, 0, 1, 0, 32, fun _ _ => [Reg.DEC_ITER.MAX_HDR, Reg.DEC_ITER.MAX_PAY, Reg.DEC_ITER.MAX_FA]⟩,
  ⟨0x800010, 0, 1, 0, 0, 1, 0, 32, fun _ _ => [Reg.DEC_FA_QUERY.ENGINE, Reg.DEC_FA_QUERY.PM, Reg.DEC_FA_QUERY.LMAX, Reg.DEC_FA_QUERY.VALID]⟩,
  ⟨0x800020, 0, 1, 0, 0, 1, 0, 32, fun _ _ => [Reg.DEC_STAT.BUSY]⟩,
  ⟨0x800024, 0, 1, 0, 0, 1, 0, 32, fun _ _ => [Reg.DEC_ON.AVAIL]⟩,
  ⟨0x800100, 0, 1, 0, 0, 1, 0, 32, fun _ _ => [Reg.DEC_HDR_CW.CNT]⟩,
  ⟨0x800104, 0, 1, 0, 0, 1, 0, 32, fun _ _ => [Reg.DEC_HDR_FAIL.CNT]⟩,
  ⟨0x800108, 0, 1, 0, 0, 1, 0, 32, fun _ _ => [Reg.DEC_HDR_BAD.CNT]⟩,
  ⟨0x80010C, 0, 1, 0, 0, 1, 0, 32, fun _ _ => [Reg.DEC_HDR_LATE.CNT]⟩,
  ⟨0x800110, 0, 1, 0, 0, 1, 0, 32, fun _ _ => [Reg.DEC_PAY_CW.CNT]⟩,
  ⟨0x800114, 0, 1, 0, 0, 1, 0, 32, fun _ _ => [Reg.DEC_PAY_FAIL.CNT]⟩,
  ⟨0x800118, 0, 1, 0, 0, 1, 0, 32, fun _ _ => [Reg.DEC_LATE.CNT]⟩,
  ⟨0x80011C, 0, 1, 0, 0, 1, 0, 32, fun _ _ => [Reg.DEC_UNDET.CNT]⟩,
  ⟨0x800120, 0, 1, 0, 0, 1, 0, 32, fun _ _ => [Reg.DEC_FA_MISS.CNT]⟩,
  ⟨0x800124, 0, 1, 0, 0, 1, 0, 32, fun _ _ => [Reg.DEC_FA_INELIG.CNT]⟩,
  ⟨0x800128, 0, 1, 0, 0, 1, 0, 32, fun _ _ => [Reg.DEC_ITER_TOT.CNT]⟩]

/-- Every register of the block DEC. -/
def regRowsDec : List RegRow := regRowsDec0

end Sys2Proof.Machine
end

