-- ==== Sys2Proof/Machine/RegMapSystem.lean ====
section
/-! DEFINITION. The register fields of the blocks TIME, CLK, WDN, MIR, FW, LC, PWR, MEM, LPE, DBG, one definition per field of the spec's register tables
(address, place, type of R9, reset value of R12, tick-aligned mark of R16), and the rows that list them by register. -/

namespace Sys2Proof.Machine


/-! TIME_CTRL (11_reticle_time.md) -/
def Reg.TIME_CTRL.SET : Fld := ⟨0x400000, 0, 1, .w1s, 0, false⟩
def Reg.TIME_CTRL.SET_TICK : Fld := ⟨0x400000, 1, 1, .rw, 0, false⟩
def Reg.TIME_CTRL.STEP : Fld := ⟨0x400000, 2, 1, .w1s, 0, false⟩

/-! TIME_STAT (11_reticle_time.md) -/
def Reg.TIME_STAT.STATE : Fld := ⟨0x400004, 0, 2, .ro, 0, false⟩
def Reg.TIME_STAT.HOLD_Q : Fld := ⟨0x400004, 2, 1, .ro, 0, false⟩
def Reg.TIME_STAT.STEER_LOST : Fld := ⟨0x400004, 3, 1, .ro, 0, false⟩
def Reg.TIME_STAT.SET_ERR : Fld := ⟨0x400004, 4, 1, .w1c, 0, false⟩
def Reg.TIME_STAT.STEP_ERR : Fld := ⟨0x400004, 5, 1, .w1c, 0, false⟩
def Reg.TIME_STAT.BIG_OFS : Fld := ⟨0x400004, 6, 1, .w1c, 0, false⟩

/-! TIME_NOW_NS (11_reticle_time.md) -/
def Reg.TIME_NOW_NS.NS : Fld := ⟨0x400010, 0, 30, .ro, 0, false⟩

/-! TIME_NOW_SEC_LO (11_reticle_time.md) -/
def Reg.TIME_NOW_SEC_LO.SEC : Fld := ⟨0x400014, 0, 32, .ro, 0, false⟩

/-! TIME_NOW_SEC_HI (11_reticle_time.md) -/
def Reg.TIME_NOW_SEC_HI.SEC : Fld := ⟨0x400018, 0, 16, .ro, 0, false⟩
def Reg.TIME_NOW_SEC_HI.FRAC : Fld := ⟨0x400018, 16, 16, .ro, 0, false⟩

/-! TIME_TB_NS (11_reticle_time.md) -/
def Reg.TIME_TB_NS.NS : Fld := ⟨0x400020, 0, 30, .ro, 0, false⟩

/-! TIME_TB_SEC_LO (11_reticle_time.md) -/
def Reg.TIME_TB_SEC_LO.SEC : Fld := ⟨0x400024, 0, 32, .ro, 0, false⟩

/-! TIME_TB_SEC_HI (11_reticle_time.md) -/
def Reg.TIME_TB_SEC_HI.SEC : Fld := ⟨0x400028, 0, 16, .ro, 0, false⟩
def Reg.TIME_TB_SEC_HI.FRAC : Fld := ⟨0x400028, 16, 16, .ro, 0, false⟩

/-! TIME_TICK_ERR (11_reticle_time.md) -/
def Reg.TIME_TICK_ERR.ERR : Fld := ⟨0x40002C, 0, 18, .ro, 0, false⟩

/-! TIME_SET_NS (11_reticle_time.md) -/
def Reg.TIME_SET_NS.NS : Fld := ⟨0x400030, 0, 30, .rw, 0, false⟩

/-! TIME_SET_SEC_LO (11_reticle_time.md) -/
def Reg.TIME_SET_SEC_LO.SEC : Fld := ⟨0x400034, 0, 32, .rw, 0, false⟩

/-! TIME_SET_SEC_HI (11_reticle_time.md) -/
def Reg.TIME_SET_SEC_HI.SEC : Fld := ⟨0x400038, 0, 16, .rw, 0, false⟩

/-! TIME_STEP_NS (11_reticle_time.md) -/
def Reg.TIME_STEP_NS.STEP : Fld := ⟨0x400040, 0, 32, .rw, 0, false⟩

/-! TIME_STEP_CFG (11_reticle_time.md) -/
def Reg.TIME_STEP_CFG.APT_LIM : Fld := ⟨0x400044, 0, 16, .rw, 10, false⟩

/-! TIME_FREQ (11_reticle_time.md) -/
def Reg.TIME_FREQ.FREQ : Fld := ⟨0x400050, 0, 32, .rw, 0, true⟩

/-! TIME_FREQ_EFF (11_reticle_time.md) -/
def Reg.TIME_FREQ_EFF.FREQ : Fld := ⟨0x400054, 0, 32, .ro, 0, false⟩

/-! TIME_SERVO (11_reticle_time.md) -/
def Reg.TIME_SERVO.SRC : Fld := ⟨0x400060, 0, 2, .rw, 0, false⟩
def Reg.TIME_SERVO.OUT : Fld := ⟨0x400060, 2, 1, .rw, 0, true⟩
def Reg.TIME_SERVO.STEP_EN : Fld := ⟨0x400060, 3, 1, .rw, 1, false⟩
def Reg.TIME_SERVO.DISCARD : Fld := ⟨0x400060, 4, 4, .rw, 2, false⟩

/-! TIME_GAIN (11_reticle_time.md) -/
def Reg.TIME_GAIN.KP : Fld := ⟨0x400064, 0, 16, .rw, 0x4000, false⟩
def Reg.TIME_GAIN.KI : Fld := ⟨0x400064, 16, 16, .rw, 0x4000, false⟩

/-! TIME_LIM (11_reticle_time.md) -/
def Reg.TIME_LIM.LIM : Fld := ⟨0x400068, 0, 25, .rw, 0x1388, false⟩

/-! TIME_LOCK (11_reticle_time.md) -/
def Reg.TIME_LOCK.LOCK_NS : Fld := ⟨0x40006C, 0, 16, .rw, 100, false⟩
def Reg.TIME_LOCK.LOCK_CNT : Fld := ⟨0x40006C, 16, 8, .rw, 16, false⟩

/-! TIME_HOLD (11_reticle_time.md) -/
def Reg.TIME_HOLD.HOLD_TO : Fld := ⟨0x400070, 0, 8, .rw, 3, false⟩
def Reg.TIME_HOLD.AVG : Fld := ⟨0x400070, 8, 4, .rw, 8, false⟩

/-! TIME_FILT (11_reticle_time.md) -/
def Reg.TIME_FILT.SPIKE : Fld := ⟨0x400074, 0, 24, .rw, 0x2710, false⟩
def Reg.TIME_FILT.SPIKE_N : Fld := ⟨0x400074, 24, 4, .rw, 4, false⟩

/-! TIME_STEP_THR (11_reticle_time.md) -/
def Reg.TIME_STEP_THR.THR : Fld := ⟨0x400078, 0, 32, .rw, 0xF4240, false⟩

/-! TIME_OFS_FRAC (11_reticle_time.md) -/
def Reg.TIME_OFS_FRAC.FRAC : Fld := ⟨0x400080, 0, 16, .rw, 0, false⟩

/-! TIME_OFS_NS (11_reticle_time.md) -/
def Reg.TIME_OFS_NS.NS : Fld := ⟨0x400084, 0, 32, .rw, 0, false⟩

/-! TIME_SERVO_OUT (11_reticle_time.md) -/
def Reg.TIME_SERVO_OUT.Y : Fld := ⟨0x400088, 0, 32, .ro, 0, false⟩

/-! TIME_SERVO_AVG (11_reticle_time.md) -/
def Reg.TIME_SERVO_AVG.Y : Fld := ⟨0x40008C, 0, 32, .ro, 0, false⟩

/-! TIME_LAST_OFS (11_reticle_time.md) -/
def Reg.TIME_LAST_OFS.NS : Fld := ⟨0x400090, 0, 32, .ro, 0, false⟩

/-! TIME_VCXO (11_reticle_time.md) -/
def Reg.TIME_VCXO.EN : Fld := ⟨0x4000A0, 0, 1, .rw, 0, false⟩
def Reg.TIME_VCXO.REF : Fld := ⟨0x4000A0, 1, 1, .rw, 0, false⟩
def Reg.TIME_VCXO.GAIN : Fld := ⟨0x4000A0, 8, 24, .rw, 0, false⟩

/-! TIME_VCXO_MID (11_reticle_time.md) -/
def Reg.TIME_VCXO_MID.MID : Fld := ⟨0x4000A4, 0, 24, .rw, 0x800000, false⟩

/-! TIME_VCXO_CODE (11_reticle_time.md) -/
def Reg.TIME_VCXO_CODE.CODE : Fld := ⟨0x4000A8, 0, 24, .ro, 0x800000, false⟩

/-! TIME_PPS_IN (11_reticle_time.md) -/
def Reg.TIME_PPS_IN.EN : Fld := ⟨0x4000B0, 0, 1, .rw, 0, false⟩
def Reg.TIME_PPS_IN.POL : Fld := ⟨0x4000B0, 1, 1, .rw, 0, false⟩
def Reg.TIME_PPS_IN.DLY : Fld := ⟨0x4000B0, 16, 16, .rw, 0, false⟩

/-! TIME_PPS_IN_NS (11_reticle_time.md) -/
def Reg.TIME_PPS_IN_NS.NS : Fld := ⟨0x4000B4, 0, 30, .ro, 0, false⟩

/-! TIME_PPS_OUT (11_reticle_time.md) -/
def Reg.TIME_PPS_OUT.EN : Fld := ⟨0x4000C0, 0, 1, .rw, 0, false⟩
def Reg.TIME_PPS_OUT.QUAL : Fld := ⟨0x4000C0, 1, 2, .rw, 1, false⟩
def Reg.TIME_PPS_OUT.WIDTH : Fld := ⟨0x4000C0, 6, 10, .rw, 100, false⟩

/-! TIME_PPS_OFS (11_reticle_time.md) -/
def Reg.TIME_PPS_OFS.OFS : Fld := ⟨0x4000C4, 0, 32, .rw, 0, false⟩

/-! TIME_TICK_OUT (11_reticle_time.md) -/
def Reg.TIME_TICK_OUT.EN : Fld := ⟨0x4000D0, 0, 1, .rw, 0, true⟩
def Reg.TIME_TICK_OUT.DIV_M1 : Fld := ⟨0x4000D0, 1, 16, .rw, 0, true⟩
def Reg.TIME_TICK_OUT.WIDTH : Fld := ⟨0x4000D0, 17, 15, .rw, 0x3D7, false⟩

/-! TIME_TICK_PHASE (11_reticle_time.md) -/
def Reg.TIME_TICK_PHASE.PHASE : Fld := ⟨0x4000D4, 0, 16, .rw, 0, true⟩

/-! TIME_PTPp_CFG (11_reticle_time.md) -/
def Reg.TIME_PTPp_CFG.EN (p : Nat) : Fld := ⟨0x400200 + 64 * p, 0, 1, .rw, 0, false⟩
def Reg.TIME_PTPp_CFG.L2 (p : Nat) : Fld := ⟨0x400200 + 64 * p, 1, 1, .rw, 1, false⟩
def Reg.TIME_PTPp_CFG.UDP4 (p : Nat) : Fld := ⟨0x400200 + 64 * p, 2, 1, .rw, 1, false⟩
def Reg.TIME_PTPp_CFG.UDP6 (p : Nat) : Fld := ⟨0x400200 + 64 * p, 3, 1, .rw, 1, false⟩
def Reg.TIME_PTPp_CFG.VLAN_EN (p : Nat) : Fld := ⟨0x400200 + 64 * p, 4, 1, .rw, 0, false⟩
def Reg.TIME_PTPp_CFG.ASYM_EN (p : Nat) : Fld := ⟨0x400200 + 64 * p, 5, 1, .rw, 0, false⟩
def Reg.TIME_PTPp_CFG.VLAN (p : Nat) : Fld := ⟨0x400200 + 64 * p, 16, 12, .rw, 0, false⟩

/-! TIME_PTPp_ASYM (11_reticle_time.md) -/
def Reg.TIME_PTPp_ASYM.ASYM (p : Nat) : Fld := ⟨0x400208 + 64 * p, 0, 32, .rw, 0, false⟩

/-! TIME_PTPp_CNT (11_reticle_time.md) -/
def Reg.TIME_PTPp_CNT.RX (p : Nat) : Fld := ⟨0x40020C + 64 * p, 0, 16, .ro, 0, false⟩
def Reg.TIME_PTPp_CNT.TX (p : Nat) : Fld := ⟨0x40020C + 64 * p, 16, 16, .ro, 0, false⟩

/-! TIME_PTP_CTRL (11_reticle_time.md) -/
def Reg.TIME_PTP_CTRL.OWNER : Fld := ⟨0x400300, 0, 1, .rw, 0, false⟩

/-! TIME_PTP_TXCTL (11_reticle_time.md) -/
def Reg.TIME_PTP_TXCTL.LEN : Fld := ⟨0x400304, 0, 9, .rw, 0, false⟩
def Reg.TIME_PTP_TXCTL.PORT : Fld := ⟨0x400304, 12, 1, .rw, 0, false⟩
def Reg.TIME_PTP_TXCTL.ONE_STEP : Fld := ⟨0x400304, 13, 1, .rw, 0, false⟩
def Reg.TIME_PTP_TXCTL.GO : Fld := ⟨0x400304, 14, 1, .w1s, 0, false⟩
def Reg.TIME_PTP_TXCTL.BUSY : Fld := ⟨0x400304, 15, 1, .ro, 0, false⟩
def Reg.TIME_PTP_TXCTL.TAG : Fld := ⟨0x400304, 16, 16, .rw, 0, false⟩

/-! TIME_PTP_TXTS_NS (11_reticle_time.md) -/
def Reg.TIME_PTP_TXTS_NS.NS : Fld := ⟨0x400308, 0, 30, .ro, 0, false⟩

/-! TIME_PTP_TXTS_SEC_LO (11_reticle_time.md) -/
def Reg.TIME_PTP_TXTS_SEC_LO.SEC : Fld := ⟨0x40030C, 0, 32, .ro, 0, false⟩

/-! TIME_PTP_TXTS_SEC_HI (11_reticle_time.md) -/
def Reg.TIME_PTP_TXTS_SEC_HI.SEC : Fld := ⟨0x400310, 0, 16, .ro, 0, false⟩
def Reg.TIME_PTP_TXTS_SEC_HI.FRAC : Fld := ⟨0x400310, 16, 16, .ro, 0, false⟩

/-! TIME_PTP_TXTS_STAT (11_reticle_time.md) -/
def Reg.TIME_PTP_TXTS_STAT.TAG : Fld := ⟨0x400314, 0, 16, .rc, 0, false⟩
def Reg.TIME_PTP_TXTS_STAT.VALID : Fld := ⟨0x400314, 16, 1, .rc, 0, false⟩

/-! TIME_PTP_TXBUFi (11_reticle_time.md) -/
def Reg.TIME_PTP_TXBUFi.DATA (i : Nat) : Fld := ⟨0x400340 + 4 * i, 0, 32, .rw, 0, false⟩

/-! TIME_PTP_RXSTAT (11_reticle_time.md) -/
def Reg.TIME_PTP_RXSTAT.VALID : Fld := ⟨0x400500, 0, 1, .rc, 0, false⟩
def Reg.TIME_PTP_RXSTAT.PORT : Fld := ⟨0x400500, 1, 1, .rc, 0, false⟩
def Reg.TIME_PTP_RXSTAT.LEN : Fld := ⟨0x400500, 2, 9, .rc, 0, false⟩
def Reg.TIME_PTP_RXSTAT.QUEUED : Fld := ⟨0x400500, 16, 8, .ro, 0, false⟩

/-! TIME_PTP_RX_NS (11_reticle_time.md) -/
def Reg.TIME_PTP_RX_NS.NS : Fld := ⟨0x400504, 0, 30, .ro, 0, false⟩

/-! TIME_PTP_RX_SEC_LO (11_reticle_time.md) -/
def Reg.TIME_PTP_RX_SEC_LO.SEC : Fld := ⟨0x400508, 0, 32, .ro, 0, false⟩

/-! TIME_PTP_RX_SEC_HI (11_reticle_time.md) -/
def Reg.TIME_PTP_RX_SEC_HI.SEC : Fld := ⟨0x40050C, 0, 16, .ro, 0, false⟩
def Reg.TIME_PTP_RX_SEC_HI.FRAC : Fld := ⟨0x40050C, 16, 16, .ro, 0, false⟩

/-! TIME_PTP_RXDATAi (11_reticle_time.md) -/
def Reg.TIME_PTP_RXDATAi.DATA (i : Nat) : Fld := ⟨0x400540 + 4 * i, 0, 32, .ro, 0, false⟩

/-! TIME_OFS_ACC (11_reticle_time.md) -/
def Reg.TIME_OFS_ACC.CNT : Fld := ⟨0x400700, 0, 32, .ro, 0, false⟩

/-! TIME_OFS_SPIKE (11_reticle_time.md) -/
def Reg.TIME_OFS_SPIKE.CNT : Fld := ⟨0x400704, 0, 32, .ro, 0, false⟩

/-! TIME_OFS_DISCARD (11_reticle_time.md) -/
def Reg.TIME_OFS_DISCARD.CNT : Fld := ⟨0x400708, 0, 32, .ro, 0, false⟩

/-! TIME_OFS_IGN (11_reticle_time.md) -/
def Reg.TIME_OFS_IGN.CNT : Fld := ⟨0x40070C, 0, 32, .ro, 0, false⟩

/-! TIME_STEPS (11_reticle_time.md) -/
def Reg.TIME_STEPS.CNT : Fld := ⟨0x400710, 0, 32, .ro, 0, false⟩

/-! TIME_HOLD_ENTRY (11_reticle_time.md) -/
def Reg.TIME_HOLD_ENTRY.CNT : Fld := ⟨0x400714, 0, 32, .ro, 0, false⟩

/-! TIME_PPS_MISS (11_reticle_time.md) -/
def Reg.TIME_PPS_MISS.CNT : Fld := ⟨0x400718, 0, 32, .ro, 0, false⟩

/-! TIME_PTP_RXDROP (11_reticle_time.md) -/
def Reg.TIME_PTP_RXDROP.CNT : Fld := ⟨0x40071C, 0, 32, .ro, 0, false⟩

/-! TIME_PTP_TXDROP (11_reticle_time.md) -/
def Reg.TIME_PTP_TXDROP.CNT : Fld := ⟨0x400720, 0, 32, .ro, 0, false⟩

/-- Rows of the TIME registers (base, stride and count of each index, width, fields). -/
def regRowsTime0 : List RegRow := [
  ⟨0x400000, 0, 1, 0, 0, 1, 0, 32, fun _ _ => [Reg.TIME_CTRL.SET, Reg.TIME_CTRL.SET_TICK, Reg.TIME_CTRL.STEP]⟩,
  ⟨0x400004, 0, 1, 0, 0, 1, 0, 32, fun _ _ => [Reg.TIME_STAT.STATE, Reg.TIME_STAT.HOLD_Q, Reg.TIME_STAT.STEER_LOST, Reg.TIME_STAT.SET_ERR, Reg.TIME_STAT.STEP_ERR, Reg.TIME_STAT.BIG_OFS]⟩,
  ⟨0x400010, 0, 1, 0, 0, 1, 0, 32, fun _ _ => [Reg.TIME_NOW_NS.NS]⟩,
  ⟨0x400014, 0, 1, 0, 0, 1, 0, 32, fun _ _ => [Reg.TIME_NOW_SEC_LO.SEC]⟩,
  ⟨0x400018, 0, 1, 0, 0, 1, 0, 32, fun _ _ => [Reg.TIME_NOW_SEC_HI.SEC, Reg.TIME_NOW_SEC_HI.FRAC]⟩,
  ⟨0x400020, 0, 1, 0, 0, 1, 0, 32, fun _ _ => [Reg.TIME_TB_NS.NS]⟩,
  ⟨0x400024, 0, 1, 0, 0, 1, 0, 32, fun _ _ => [Reg.TIME_TB_SEC_LO.SEC]⟩,
  ⟨0x400028, 0, 1, 0, 0, 1, 0, 32, fun _ _ => [Reg.TIME_TB_SEC_HI.SEC, Reg.TIME_TB_SEC_HI.FRAC]⟩,
  ⟨0x40002C, 0, 1, 0, 0, 1, 0, 32, fun _ _ => [Reg.TIME_TICK_ERR.ERR]⟩,
  ⟨0x400030, 0, 1, 0, 0, 1, 0, 32, fun _ _ => [Reg.TIME_SET_NS.NS]⟩,
  ⟨0x400034, 0, 1, 0, 0, 1, 0, 32, fun _ _ => [Reg.TIME_SET_SEC_LO.SEC]⟩,
  ⟨0x400038, 0, 1, 0, 0, 1, 0, 32, fun _ _ => [Reg.TIME_SET_SEC_HI.SEC]⟩,
  ⟨0x400040, 0, 1, 0, 0, 1, 0, 32, fun _ _ => [Reg.TIME_STEP_NS.STEP]⟩,
  ⟨0x400044, 0, 1, 0, 0, 1, 0, 32, fun _ _ => [Reg.TIME_STEP_CFG.APT_LIM]⟩,
  ⟨0x400050, 0, 1, 0, 0, 1, 0, 32, fun _ _ => [Reg.TIME_FREQ.FREQ]⟩,
  ⟨0x400054, 0, 1, 0, 0, 1, 0, 32, fun _ _ => [Reg.TIME_FREQ_EFF.FREQ]⟩,
  ⟨0x400060, 0, 1, 0, 0, 1, 0, 32, fun _ _ => [Reg.TIME_SERVO.SRC, Reg.TIME_SERVO.OUT, Reg.TIME_SERVO.STEP_EN, Reg.TIME_SERVO.DISCARD]⟩,
  ⟨0x400064, 0, 1, 0, 0, 1, 0, 32, fun _ _ => [Reg.TIME_GAIN.KP, Reg.TIME_GAIN.KI]⟩,
  ⟨0x400068, 0, 1, 0, 0, 1, 0, 32, fun _ _ => [Reg.TIME_LIM.LIM]⟩,
  ⟨0x40006C, 0, 1, 0, 0, 1, 0, 32, fun _ _ => [Reg.TIME_LOCK.LOCK_NS, Reg.TIME_LOCK.LOCK_CNT]⟩,
  ⟨0x400070, 0, 1, 0, 0, 1, 0, 32, fun _ _ => [Reg.TIME_HOLD.HOLD_TO, Reg.TIME_HOLD.AVG]⟩,
  ⟨0x400074, 0, 1, 0, 0, 1, 0, 32, fun _ _ => [Reg.TIME_FILT.SPIKE, Reg.TIME_FILT.SPIKE_N]⟩,
  ⟨0x400078, 0, 1, 0, 0, 1, 0, 32, fun _ _ => [Reg.TIME_STEP_THR.THR]⟩,
  ⟨0x400080, 0, 1, 0, 0, 1, 0, 32, fun _ _ => [Reg.TIME_OFS_FRAC.FRAC]⟩]

/-- Rows of the TIME registers (base, stride and count of each index, width, fields). -/
def regRowsTime1 : List RegRow := [
  ⟨0x400084, 0, 1, 0, 0, 1, 0, 32, fun _ _ => [Reg.TIME_OFS_NS.NS]⟩,
  ⟨0x400088, 0, 1, 0, 0, 1, 0, 32, fun _ _ => [Reg.TIME_SERVO_OUT.Y]⟩,
  ⟨0x40008C, 0, 1, 0, 0, 1, 0, 32, fun _ _ => [Reg.TIME_SERVO_AVG.Y]⟩,
  ⟨0x400090, 0, 1, 0, 0, 1, 0, 32, fun _ _ => [Reg.TIME_LAST_OFS.NS]⟩,
  ⟨0x4000A0, 0, 1, 0, 0, 1, 0, 32, fun _ _ => [Reg.TIME_VCXO.EN, Reg.TIME_VCXO.REF, Reg.TIME_VCXO.GAIN]⟩,
  ⟨0x4000A4, 0, 1, 0, 0, 1, 0, 32, fun _ _ => [Reg.TIME_VCXO_MID.MID]⟩,
  ⟨0x4000A8, 0, 1, 0, 0, 1, 0, 32, fun _ _ => [Reg.TIME_VCXO_CODE.CODE]⟩,
  ⟨0x4000B0, 0, 1, 0, 0, 1, 0, 32, fun _ _ => [Reg.TIME_PPS_IN.EN, Reg.TIME_PPS_IN.POL, Reg.TIME_PPS_IN.DLY]⟩,
  ⟨0x4000B4, 0, 1, 0, 0, 1, 0, 32, fun _ _ => [Reg.TIME_PPS_IN_NS.NS]⟩,
  ⟨0x4000C0, 0, 1, 0, 0, 1, 0, 32, fun _ _ => [Reg.TIME_PPS_OUT.EN, Reg.TIME_PPS_OUT.QUAL, Reg.TIME_PPS_OUT.WIDTH]⟩,
  ⟨0x4000C4, 0, 1, 0, 0, 1, 0, 32, fun _ _ => [Reg.TIME_PPS_OFS.OFS]⟩,
  ⟨0x4000D0, 0, 1, 0, 0, 1, 0, 32, fun _ _ => [Reg.TIME_TICK_OUT.EN, Reg.TIME_TICK_OUT.DIV_M1, Reg.TIME_TICK_OUT.WIDTH]⟩,
  ⟨0x4000D4, 0, 1, 0, 0, 1, 0, 32, fun _ _ => [Reg.TIME_TICK_PHASE.PHASE]⟩,
  ⟨0x400200, 64, 2, 0, 0, 1, 0, 32, fun i _ => [Reg.TIME_PTPp_CFG.EN i, Reg.TIME_PTPp_CFG.L2 i, Reg.TIME_PTPp_CFG.UDP4 i, Reg.TIME_PTPp_CFG.UDP6 i, Reg.TIME_PTPp_CFG.VLAN_EN i, Reg.TIME_PTPp_CFG.ASYM_EN i, Reg.TIME_PTPp_CFG.VLAN i]⟩,
  ⟨0x400208, 64, 2, 0, 0, 1, 0, 32, fun i _ => [Reg.TIME_PTPp_ASYM.ASYM i]⟩,
  ⟨0x40020C, 64, 2, 0, 0, 1, 0, 32, fun i _ => [Reg.TIME_PTPp_CNT.RX i, Reg.TIME_PTPp_CNT.TX i]⟩,
  ⟨0x400300, 0, 1, 0, 0, 1, 0, 32, fun _ _ => [Reg.TIME_PTP_CTRL.OWNER]⟩,
  ⟨0x400304, 0, 1, 0, 0, 1, 0, 32, fun _ _ => [Reg.TIME_PTP_TXCTL.LEN, Reg.TIME_PTP_TXCTL.PORT, Reg.TIME_PTP_TXCTL.ONE_STEP, Reg.TIME_PTP_TXCTL.GO, Reg.TIME_PTP_TXCTL.BUSY, Reg.TIME_PTP_TXCTL.TAG]⟩,
  ⟨0x400308, 0, 1, 0, 0, 1, 0, 32, fun _ _ => [Reg.TIME_PTP_TXTS_NS.NS]⟩,
  ⟨0x40030C, 0, 1, 0, 0, 1, 0, 32, fun _ _ => [Reg.TIME_PTP_TXTS_SEC_LO.SEC]⟩,
  ⟨0x400310, 0, 1, 0, 0, 1, 0, 32, fun _ _ => [Reg.TIME_PTP_TXTS_SEC_HI.SEC, Reg.TIME_PTP_TXTS_SEC_HI.FRAC]⟩,
  ⟨0x400314, 0, 1, 0, 0, 1, 0, 32, fun _ _ => [Reg.TIME_PTP_TXTS_STAT.TAG, Reg.TIME_PTP_TXTS_STAT.VALID]⟩,
  ⟨0x400340, 4, 64, 0, 0, 1, 0, 32, fun i _ => [Reg.TIME_PTP_TXBUFi.DATA i]⟩,
  ⟨0x400500, 0, 1, 0, 0, 1, 0, 32, fun _ _ => [Reg.TIME_PTP_RXSTAT.VALID, Reg.TIME_PTP_RXSTAT.PORT, Reg.TIME_PTP_RXSTAT.LEN, Reg.TIME_PTP_RXSTAT.QUEUED]⟩]

/-- Rows of the TIME registers (base, stride and count of each index, width, fields). -/
def regRowsTime2 : List RegRow := [
  ⟨0x400504, 0, 1, 0, 0, 1, 0, 32, fun _ _ => [Reg.TIME_PTP_RX_NS.NS]⟩,
  ⟨0x400508, 0, 1, 0, 0, 1, 0, 32, fun _ _ => [Reg.TIME_PTP_RX_SEC_LO.SEC]⟩,
  ⟨0x40050C, 0, 1, 0, 0, 1, 0, 32, fun _ _ => [Reg.TIME_PTP_RX_SEC_HI.SEC, Reg.TIME_PTP_RX_SEC_HI.FRAC]⟩,
  ⟨0x400540, 4, 64, 0, 0, 1, 0, 32, fun i _ => [Reg.TIME_PTP_RXDATAi.DATA i]⟩,
  ⟨0x400700, 0, 1, 0, 0, 1, 0, 32, fun _ _ => [Reg.TIME_OFS_ACC.CNT]⟩,
  ⟨0x400704, 0, 1, 0, 0, 1, 0, 32, fun _ _ => [Reg.TIME_OFS_SPIKE.CNT]⟩,
  ⟨0x400708, 0, 1, 0, 0, 1, 0, 32, fun _ _ => [Reg.TIME_OFS_DISCARD.CNT]⟩,
  ⟨0x40070C, 0, 1, 0, 0, 1, 0, 32, fun _ _ => [Reg.TIME_OFS_IGN.CNT]⟩,
  ⟨0x400710, 0, 1, 0, 0, 1, 0, 32, fun _ _ => [Reg.TIME_STEPS.CNT]⟩,
  ⟨0x400714, 0, 1, 0, 0, 1, 0, 32, fun _ _ => [Reg.TIME_HOLD_ENTRY.CNT]⟩,
  ⟨0x400718, 0, 1, 0, 0, 1, 0, 32, fun _ _ => [Reg.TIME_PPS_MISS.CNT]⟩,
  ⟨0x40071C, 0, 1, 0, 0, 1, 0, 32, fun _ _ => [Reg.TIME_PTP_RXDROP.CNT]⟩,
  ⟨0x400720, 0, 1, 0, 0, 1, 0, 32, fun _ _ => [Reg.TIME_PTP_TXDROP.CNT]⟩]

/-- Every register of the block TIME. -/
def regRowsTime : List RegRow := regRowsTime0 ++ regRowsTime1 ++ regRowsTime2

/-! CLK_CTRL (12_clock_synthesizer.md) -/
def Reg.CLK_CTRL.RELOCK : Fld := ⟨0x300000, 0, 1, .w1s, 0, false⟩

/-! CLK_STAT (12_clock_synthesizer.md) -/
def Reg.CLK_STAT.LOCK : Fld := ⟨0x300004, 0, 1, .ro, 0, false⟩
def Reg.CLK_STAT.RELOCKING : Fld := ⟨0x300004, 1, 1, .ro, 1, false⟩
def Reg.CLK_STAT.HOLD : Fld := ⟨0x300004, 2, 1, .ro, 0, false⟩
def Reg.CLK_STAT.REF_AMBIGUOUS : Fld := ⟨0x300004, 3, 1, .ro, 0, false⟩
def Reg.CLK_STAT.ALT_OK : Fld := ⟨0x300004, 4, 1, .ro, 0, false⟩
def Reg.CLK_STAT.SEL : Fld := ⟨0x300004, 5, 1, .ro, 0, false⟩
def Reg.CLK_STAT.CFG_ERR : Fld := ⟨0x300004, 6, 2, .w1c, 0, false⟩
def Reg.CLK_STAT.KVCO : Fld := ⟨0x300004, 8, 8, .ro, 0, false⟩

/-! CLK_PLL (12_clock_synthesizer.md) -/
def Reg.CLK_PLL.N : Fld := ⟨0x300010, 0, 10, .rw, 192, false⟩

/-! CLK_CP (12_clock_synthesizer.md) -/
def Reg.CLK_CP.ICP : Fld := ⟨0x300014, 0, 5, .rw, 15, false⟩

/-! CLK_REFr_CFG (12_clock_synthesizer.md) -/
def Reg.CLK_REFr_CFG.PRE (r : Nat) : Fld := ⟨0x300020 + 16 * r, 0, 2, .rw, 1, false⟩
def Reg.CLK_REFr_CFG.REF_DIV (r : Nat) : Fld := ⟨0x300020 + 16 * r, 2, 8, .rw, 1, false⟩
def Reg.CLK_REFr_CFG.FREQ (r : Nat) : Fld := ⟨0x300020 + 16 * r, 10, 22, .rw, 0x7800, false⟩

/-! CLK_REFr_STAT (12_clock_synthesizer.md) -/
def Reg.CLK_REFr_STAT.STATE (r : Nat) : Fld := ⟨0x300024 + 16 * r, 0, 2, .ro, 0, false⟩
def Reg.CLK_REFr_STAT.FAILS (r : Nat) : Fld := ⟨0x300024 + 16 * r, 4, 4, .ro, 0, false⟩

/-! CLK_REFr_ERR (12_clock_synthesizer.md) -/
def Reg.CLK_REFr_ERR.DT (r : Nat) : Fld := ⟨0x300028 + 16 * r, 0, 32, .ro, 0x80000000, false⟩

/-! CLK_REFSEL (12_clock_synthesizer.md) -/
def Reg.CLK_REFSEL.PREF : Fld := ⟨0x300040, 0, 1, .rw, 0, false⟩
def Reg.CLK_REFSEL.REVERT : Fld := ⟨0x300040, 1, 1, .rw, 0, false⟩
def Reg.CLK_REFSEL.FORCE : Fld := ⟨0x300040, 2, 1, .w1s, 0, false⟩

/-! CLK_REFMON (12_clock_synthesizer.md) -/
def Reg.CLK_REFMON.LIMIT_PPB : Fld := ⟨0x300044, 0, 16, .rw, 0x7D0, false⟩
def Reg.CLK_REFMON.PERSIST : Fld := ⟨0x300044, 16, 4, .rw, 3, false⟩
def Reg.CLK_REFMON.QUAL : Fld := ⟨0x300044, 20, 4, .rw, 5, false⟩

/-! CLK_REFMON_SLOPE (12_clock_synthesizer.md) -/
def Reg.CLK_REFMON_SLOPE.SLOPE_PPB : Fld := ⟨0x300048, 0, 16, .rw, 200, false⟩

/-! CLK_REF_DIFF (12_clock_synthesizer.md) -/
def Reg.CLK_REF_DIFF.D01 : Fld := ⟨0x30004C, 0, 32, .ro, 0x80000000, false⟩

/-! CLK_OUTn_CFG (12_clock_synthesizer.md) -/
def Reg.CLK_OUTn_CFG.EN (n : Nat) : Fld := ⟨0x300100 + 16 * n, 0, 1, .rw, 0, false⟩
def Reg.CLK_OUTn_CFG.SRC (n : Nat) : Fld := ⟨0x300100 + 16 * n, 1, 2, .rw, 0, false⟩
def Reg.CLK_OUTn_CFG.FMT (n : Nat) : Fld := ⟨0x300100 + 16 * n, 3, 3, .rw, 0, false⟩
def Reg.CLK_OUTn_CFG.DIV (n : Nat) : Fld := ⟨0x300100 + 16 * n, 8, 12, .rw, 48, false⟩

/-! CLK_OUTn_STAT (12_clock_synthesizer.md) -/
def Reg.CLK_OUTn_STAT.RUN (n : Nat) : Fld := ⟨0x300104 + 16 * n, 0, 1, .ro, 0, false⟩
def Reg.CLK_OUTn_STAT.SHORT (n : Nat) : Fld := ⟨0x300104 + 16 * n, 1, 1, .ro, 0, false⟩
def Reg.CLK_OUTn_STAT.CFG_ERR (n : Nat) : Fld := ⟨0x300104 + 16 * n, 2, 1, .ro, 0, false⟩

/-! CLK_LOSS_CNT (12_clock_synthesizer.md) -/
def Reg.CLK_LOSS_CNT.CNT : Fld := ⟨0x300200, 0, 32, .ro, 0, false⟩

/-! CLK_DRIFT_CNT (12_clock_synthesizer.md) -/
def Reg.CLK_DRIFT_CNT.CNT : Fld := ⟨0x300204, 0, 32, .ro, 0, false⟩

/-! CLK_AMBIG_CNT (12_clock_synthesizer.md) -/
def Reg.CLK_AMBIG_CNT.CNT : Fld := ⟨0x300208, 0, 32, .ro, 0, false⟩

/-! CLK_SWITCH_CNT (12_clock_synthesizer.md) -/
def Reg.CLK_SWITCH_CNT.CNT : Fld := ⟨0x30020C, 0, 32, .ro, 0, false⟩

/-! CLK_HOLD_CNT (12_clock_synthesizer.md) -/
def Reg.CLK_HOLD_CNT.CNT : Fld := ⟨0x300210, 0, 32, .ro, 0, false⟩

/-! CLK_LOL_CNT (12_clock_synthesizer.md) -/
def Reg.CLK_LOL_CNT.CNT : Fld := ⟨0x300214, 0, 32, .ro, 0, false⟩

/-! CLK_SHORT_CNT (12_clock_synthesizer.md) -/
def Reg.CLK_SHORT_CNT.CNT : Fld := ⟨0x300218, 0, 32, .ro, 0, false⟩

/-- Rows of the CLK registers (base, stride and count of each index, width, fields). -/
def regRowsClk0 : List RegRow := [
  ⟨0x300000, 0, 1, 0, 0, 1, 0, 32, fun _ _ => [Reg.CLK_CTRL.RELOCK]⟩,
  ⟨0x300004, 0, 1, 0, 0, 1, 0, 32, fun _ _ => [Reg.CLK_STAT.LOCK, Reg.CLK_STAT.RELOCKING, Reg.CLK_STAT.HOLD, Reg.CLK_STAT.REF_AMBIGUOUS, Reg.CLK_STAT.ALT_OK, Reg.CLK_STAT.SEL, Reg.CLK_STAT.CFG_ERR, Reg.CLK_STAT.KVCO]⟩,
  ⟨0x300010, 0, 1, 0, 0, 1, 0, 32, fun _ _ => [Reg.CLK_PLL.N]⟩,
  ⟨0x300014, 0, 1, 0, 0, 1, 0, 32, fun _ _ => [Reg.CLK_CP.ICP]⟩,
  ⟨0x300020, 16, 2, 0, 0, 1, 0, 32, fun i _ => [Reg.CLK_REFr_CFG.PRE i, Reg.CLK_REFr_CFG.REF_DIV i, Reg.CLK_REFr_CFG.FREQ i]⟩,
  ⟨0x300024, 16, 2, 0, 0, 1, 0, 32, fun i _ => [Reg.CLK_REFr_STAT.STATE i, Reg.CLK_REFr_STAT.FAILS i]⟩,
  ⟨0x300028, 16, 2, 0, 0, 1, 0, 32, fun i _ => [Reg.CLK_REFr_ERR.DT i]⟩,
  ⟨0x300040, 0, 1, 0, 0, 1, 0, 32, fun _ _ => [Reg.CLK_REFSEL.PREF, Reg.CLK_REFSEL.REVERT, Reg.CLK_REFSEL.FORCE]⟩,
  ⟨0x300044, 0, 1, 0, 0, 1, 0, 32, fun _ _ => [Reg.CLK_REFMON.LIMIT_PPB, Reg.CLK_REFMON.PERSIST, Reg.CLK_REFMON.QUAL]⟩,
  ⟨0x300048, 0, 1, 0, 0, 1, 0, 32, fun _ _ => [Reg.CLK_REFMON_SLOPE.SLOPE_PPB]⟩,
  ⟨0x30004C, 0, 1, 0, 0, 1, 0, 32, fun _ _ => [Reg.CLK_REF_DIFF.D01]⟩,
  ⟨0x300100, 16, 8, 0, 0, 1, 0, 32, fun i _ => [Reg.CLK_OUTn_CFG.EN i, Reg.CLK_OUTn_CFG.SRC i, Reg.CLK_OUTn_CFG.FMT i, Reg.CLK_OUTn_CFG.DIV i]⟩,
  ⟨0x300104, 16, 8, 0, 0, 1, 0, 32, fun i _ => [Reg.CLK_OUTn_STAT.RUN i, Reg.CLK_OUTn_STAT.SHORT i, Reg.CLK_OUTn_STAT.CFG_ERR i]⟩,
  ⟨0x300200, 0, 1, 0, 0, 1, 0, 32, fun _ _ => [Reg.CLK_LOSS_CNT.CNT]⟩,
  ⟨0x300204, 0, 1, 0, 0, 1, 0, 32, fun _ _ => [Reg.CLK_DRIFT_CNT.CNT]⟩,
  ⟨0x300208, 0, 1, 0, 0, 1, 0, 32, fun _ _ => [Reg.CLK_AMBIG_CNT.CNT]⟩,
  ⟨0x30020C, 0, 1, 0, 0, 1, 0, 32, fun _ _ => [Reg.CLK_SWITCH_CNT.CNT]⟩,
  ⟨0x300210, 0, 1, 0, 0, 1, 0, 32, fun _ _ => [Reg.CLK_HOLD_CNT.CNT]⟩,
  ⟨0x300214, 0, 1, 0, 0, 1, 0, 32, fun _ _ => [Reg.CLK_LOL_CNT.CNT]⟩,
  ⟨0x300218, 0, 1, 0, 0, 1, 0, 32, fun _ _ => [Reg.CLK_SHORT_CNT.CNT]⟩]

/-- Every register of the block CLK. -/
def regRowsClk : List RegRow := regRowsClk0

/-! WDN_CTRL (13_redundancy.md) -/
def Reg.WDN_CTRL.HANDOVER : Fld := ⟨0x200000, 0, 1, .w1s, 0, false⟩
def Reg.WDN_CTRL.RESTART : Fld := ⟨0x200000, 1, 1, .w1s, 0, false⟩
def Reg.WDN_CTRL.CCA_EN : Fld := ⟨0x200000, 8, 1, .rw, 1, false⟩
def Reg.WDN_CTRL.CCB_EN : Fld := ⟨0x200000, 9, 1, .rw, 1, false⟩

/-! WDN_STAT (13_redundancy.md) -/
def Reg.WDN_STAT.HOLDER : Fld := ⟨0x200004, 0, 1, .ro, 0, false⟩
def Reg.WDN_STAT.CCA_STATE : Fld := ⟨0x200004, 1, 3, .ro, 1, false⟩
def Reg.WDN_STAT.CCB_STATE : Fld := ⟨0x200004, 4, 3, .ro, 1, false⟩
def Reg.WDN_STAT.FROZEN : Fld := ⟨0x200004, 7, 1, .ro, 0, false⟩
def Reg.WDN_STAT.ATTEMPTS : Fld := ⟨0x200004, 8, 2, .ro, 0, false⟩
def Reg.WDN_STAT.FAIL : Fld := ⟨0x200004, 10, 1, .ro, 0, false⟩
def Reg.WDN_STAT.HO_REFUSED : Fld := ⟨0x200004, 11, 1, .w1c, 0, false⟩

/-! WDN_CFG (13_redundancy.md) -/
def Reg.WDN_CFG.MISS_LIMIT : Fld := ⟨0x200008, 0, 4, .rw, 8, false⟩
def Reg.WDN_CFG.AUTO_RESTART : Fld := ⟨0x200008, 4, 1, .rw, 1, false⟩

/-! WDN_LEASE_TICK (13_redundancy.md) -/
def Reg.WDN_LEASE_TICK.TICK : Fld := ⟨0x200010, 0, 64, .ro, 0, false⟩

/-! WDN_TWL_STAT (13_redundancy.md) -/
def Reg.WDN_TWL_STAT.HELD : Fld := ⟨0x200020, 0, 1, .ro, 0, false⟩
def Reg.WDN_TWL_STAT.PENDING : Fld := ⟨0x200020, 1, 1, .ro, 0, false⟩
def Reg.WDN_TWL_STAT.WIT : Fld := ⟨0x200020, 2, 1, .ro, 0, false⟩
def Reg.WDN_TWL_STAT.ELIGIBLE : Fld := ⟨0x200020, 3, 1, .ro, 0, false⟩

/-! WDN_FORCE_CTRL (13_redundancy.md) -/
def Reg.WDN_FORCE_CTRL.CODE : Fld := ⟨0x200100, 0, 8, .wo, 0, false⟩
def Reg.WDN_FORCE_CTRL.ARMED : Fld := ⟨0x200100, 8, 1, .ro, 0, false⟩
def Reg.WDN_FORCE_CTRL.ACTIVE : Fld := ⟨0x200100, 9, 1, .ro, 0, false⟩
def Reg.WDN_FORCE_CTRL.DENIED : Fld := ⟨0x200100, 10, 1, .w1c, 0, false⟩
def Reg.WDN_FORCE_CTRL.BUSY : Fld := ⟨0x200100, 11, 1, .ro, 0, false⟩

/-! WDN_FORCE_CHAL (13_redundancy.md) -/
def Reg.WDN_FORCE_CHAL.CHAL : Fld := ⟨0x200104, 0, 64, .ro, 0, false⟩

/-! WDN_FORCE_DUR (13_redundancy.md) -/
def Reg.WDN_FORCE_DUR.SEC : Fld := ⟨0x20010C, 0, 17, .rw, 0xE10, false⟩

/-! WDN_FORCE_LEFT (13_redundancy.md) -/
def Reg.WDN_FORCE_LEFT.SEC : Fld := ⟨0x200110, 0, 17, .ro, 0, false⟩

/-! WDN_FORCE_SIGi (13_redundancy.md) -/
def Reg.WDN_FORCE_SIGi.SIG (i : Nat) : Fld := ⟨0x200140 + 4 * i, 0, 32, .rw, 0, false⟩

/-! WDN_CMT_MISS (13_redundancy.md) -/
def Reg.WDN_CMT_MISS.CNT : Fld := ⟨0x200200, 0, 32, .ro, 0, false⟩

/-! WDN_CMT_LATE (13_redundancy.md) -/
def Reg.WDN_CMT_LATE.CNT : Fld := ⟨0x200204, 0, 32, .ro, 0, false⟩

/-! WDN_FAILOVER (13_redundancy.md) -/
def Reg.WDN_FAILOVER.CNT : Fld := ⟨0x200208, 0, 32, .ro, 0, false⟩

/-! WDN_HANDOVER (13_redundancy.md) -/
def Reg.WDN_HANDOVER.CNT : Fld := ⟨0x20020C, 0, 32, .ro, 0, false⟩

/-! WDN_NO_STBY (13_redundancy.md) -/
def Reg.WDN_NO_STBY.CNT : Fld := ⟨0x200210, 0, 32, .ro, 0, false⟩

/-! WDN_STBY_LOST (13_redundancy.md) -/
def Reg.WDN_STBY_LOST.CNT : Fld := ⟨0x200214, 0, 32, .ro, 0, false⟩

/-! WDN_HALT_FAULT (13_redundancy.md) -/
def Reg.WDN_HALT_FAULT.CNT : Fld := ⟨0x200218, 0, 32, .ro, 0, false⟩

/-! WDN_SELF_RESET (13_redundancy.md) -/
def Reg.WDN_SELF_RESET.CNT : Fld := ⟨0x20021C, 0, 32, .ro, 0, false⟩

/-! WDN_TWL_NOGRANT (13_redundancy.md) -/
def Reg.WDN_TWL_NOGRANT.CNT : Fld := ⟨0x200220, 0, 32, .ro, 0, false⟩

/-! WDN_TWL_LAPSE (13_redundancy.md) -/
def Reg.WDN_TWL_LAPSE.CNT : Fld := ⟨0x200224, 0, 32, .ro, 0, false⟩

/-! WDN_FORCE_DENY (13_redundancy.md) -/
def Reg.WDN_FORCE_DENY.CNT : Fld := ⟨0x200228, 0, 32, .ro, 0, false⟩

/-- Rows of the WDN registers (base, stride and count of each index, width, fields). -/
def regRowsWdn0 : List RegRow := [
  ⟨0x200000, 0, 1, 0, 0, 1, 0, 32, fun _ _ => [Reg.WDN_CTRL.HANDOVER, Reg.WDN_CTRL.RESTART, Reg.WDN_CTRL.CCA_EN, Reg.WDN_CTRL.CCB_EN]⟩,
  ⟨0x200004, 0, 1, 0, 0, 1, 0, 32, fun _ _ => [Reg.WDN_STAT.HOLDER, Reg.WDN_STAT.CCA_STATE, Reg.WDN_STAT.CCB_STATE, Reg.WDN_STAT.FROZEN, Reg.WDN_STAT.ATTEMPTS, Reg.WDN_STAT.FAIL, Reg.WDN_STAT.HO_REFUSED]⟩,
  ⟨0x200008, 0, 1, 0, 0, 1, 0, 32, fun _ _ => [Reg.WDN_CFG.MISS_LIMIT, Reg.WDN_CFG.AUTO_RESTART]⟩,
  ⟨0x200010, 0, 1, 0, 0, 1, 0, 64, fun _ _ => [Reg.WDN_LEASE_TICK.TICK]⟩,
  ⟨0x200020, 0, 1, 0, 0, 1, 0, 32, fun _ _ => [Reg.WDN_TWL_STAT.HELD, Reg.WDN_TWL_STAT.PENDING, Reg.WDN_TWL_STAT.WIT, Reg.WDN_TWL_STAT.ELIGIBLE]⟩,
  ⟨0x200100, 0, 1, 0, 0, 1, 0, 32, fun _ _ => [Reg.WDN_FORCE_CTRL.CODE, Reg.WDN_FORCE_CTRL.ARMED, Reg.WDN_FORCE_CTRL.ACTIVE, Reg.WDN_FORCE_CTRL.DENIED, Reg.WDN_FORCE_CTRL.BUSY]⟩,
  ⟨0x200104, 0, 1, 0, 0, 1, 0, 64, fun _ _ => [Reg.WDN_FORCE_CHAL.CHAL]⟩,
  ⟨0x20010C, 0, 1, 0, 0, 1, 0, 32, fun _ _ => [Reg.WDN_FORCE_DUR.SEC]⟩,
  ⟨0x200110, 0, 1, 0, 0, 1, 0, 32, fun _ _ => [Reg.WDN_FORCE_LEFT.SEC]⟩,
  ⟨0x200140, 4, 24, 0, 0, 1, 0, 32, fun i _ => [Reg.WDN_FORCE_SIGi.SIG i]⟩,
  ⟨0x200200, 0, 1, 0, 0, 1, 0, 32, fun _ _ => [Reg.WDN_CMT_MISS.CNT]⟩,
  ⟨0x200204, 0, 1, 0, 0, 1, 0, 32, fun _ _ => [Reg.WDN_CMT_LATE.CNT]⟩,
  ⟨0x200208, 0, 1, 0, 0, 1, 0, 32, fun _ _ => [Reg.WDN_FAILOVER.CNT]⟩,
  ⟨0x20020C, 0, 1, 0, 0, 1, 0, 32, fun _ _ => [Reg.WDN_HANDOVER.CNT]⟩,
  ⟨0x200210, 0, 1, 0, 0, 1, 0, 32, fun _ _ => [Reg.WDN_NO_STBY.CNT]⟩,
  ⟨0x200214, 0, 1, 0, 0, 1, 0, 32, fun _ _ => [Reg.WDN_STBY_LOST.CNT]⟩,
  ⟨0x200218, 0, 1, 0, 0, 1, 0, 32, fun _ _ => [Reg.WDN_HALT_FAULT.CNT]⟩,
  ⟨0x20021C, 0, 1, 0, 0, 1, 0, 32, fun _ _ => [Reg.WDN_SELF_RESET.CNT]⟩,
  ⟨0x200220, 0, 1, 0, 0, 1, 0, 32, fun _ _ => [Reg.WDN_TWL_NOGRANT.CNT]⟩,
  ⟨0x200224, 0, 1, 0, 0, 1, 0, 32, fun _ _ => [Reg.WDN_TWL_LAPSE.CNT]⟩,
  ⟨0x200228, 0, 1, 0, 0, 1, 0, 32, fun _ _ => [Reg.WDN_FORCE_DENY.CNT]⟩]

/-- Every register of the block WDN. -/
def regRowsWdn : List RegRow := regRowsWdn0

/-! MIR_CTRL (13_redundancy.md) -/
def Reg.MIR_CTRL.TWIN : Fld := ⟨0x1300000, 0, 1, .rwl, 0, false⟩
def Reg.MIR_CTRL.CNT_MIRROR : Fld := ⟨0x1300000, 1, 1, .rw, 0, true⟩
def Reg.MIR_CTRL.SEED : Fld := ⟨0x1300000, 2, 1, .rw, 0, false⟩
def Reg.MIR_CTRL.PAIR_SLOT : Fld := ⟨0x1300000, 4, 12, .rwl, 0, false⟩
def Reg.MIR_CTRL.YIELD : Fld := ⟨0x1300000, 16, 1, .w1s, 0, false⟩

/-! MIR_STAT (13_redundancy.md) -/
def Reg.MIR_STAT.LINK : Fld := ⟨0x1300004, 0, 2, .ro, 0, false⟩
def Reg.MIR_STAT.ROLE : Fld := ⟨0x1300004, 2, 2, .ro, 0, false⟩
def Reg.MIR_STAT.SIDE : Fld := ⟨0x1300004, 4, 1, .ro, 0, false⟩
def Reg.MIR_STAT.TWIN_LOST : Fld := ⟨0x1300004, 5, 1, .ro, 0, false⟩
def Reg.MIR_STAT.CFG_DIFFER : Fld := ⟨0x1300004, 6, 1, .ro, 0, false⟩
def Reg.MIR_STAT.FW_DIFFER : Fld := ⟨0x1300004, 7, 1, .ro, 0, false⟩
def Reg.MIR_STAT.STBY_OK : Fld := ⟨0x1300004, 8, 1, .ro, 0, false⟩
def Reg.MIR_STAT.RESYNC_STAGE : Fld := ⟨0x1300004, 9, 2, .ro, 0, false⟩
def Reg.MIR_STAT.YIELD_REFUSED : Fld := ⟨0x1300004, 11, 1, .w1c, 0, false⟩

/-! MIR_CFG (13_redundancy.md) -/
def Reg.MIR_CFG.RESYNC_PAGES : Fld := ⟨0x1300008, 0, 8, .rw, 16, false⟩
def Reg.MIR_CFG.LOST_TICKS : Fld := ⟨0x1300008, 8, 4, .rw, 2, false⟩

/-! MIR_SPLIT (13_redundancy.md) -/
def Reg.MIR_SPLIT.JUMP_BLK : Fld := ⟨0x130000C, 0, 16, .rw, 0x400, false⟩

/-! MIR_SEQ_TX (13_redundancy.md) -/
def Reg.MIR_SEQ_TX.SEQ : Fld := ⟨0x1300010, 0, 64, .ro, 0, false⟩

/-! MIR_SEQ_ACK (13_redundancy.md) -/
def Reg.MIR_SEQ_ACK.ACK : Fld := ⟨0x1300018, 0, 64, .ro, 0, false⟩

/-! MIR_BURSTS (13_redundancy.md) -/
def Reg.MIR_BURSTS.CNT : Fld := ⟨0x1300200, 0, 32, .ro, 0, false⟩

/-! MIR_NAK_TX (13_redundancy.md) -/
def Reg.MIR_NAK_TX.CNT : Fld := ⟨0x1300204, 0, 32, .ro, 0, false⟩

/-! MIR_NAK_RX (13_redundancy.md) -/
def Reg.MIR_NAK_RX.CNT : Fld := ⟨0x1300208, 0, 32, .ro, 0, false⟩

/-! MIR_RETX (13_redundancy.md) -/
def Reg.MIR_RETX.CNT : Fld := ⟨0x130020C, 0, 32, .ro, 0, false⟩

/-! MIR_BUBBLE (13_redundancy.md) -/
def Reg.MIR_BUBBLE.CNT : Fld := ⟨0x1300210, 0, 32, .ro, 0, false⟩

/-! MIR_BURST_FULL (13_redundancy.md) -/
def Reg.MIR_BURST_FULL.CNT : Fld := ⟨0x1300214, 0, 32, .ro, 0, false⟩

/-! MIR_MIC_FAIL (13_redundancy.md) -/
def Reg.MIR_MIC_FAIL.CNT : Fld := ⟨0x1300218, 0, 32, .ro, 0, false⟩

/-! MIR_REC_UNK (13_redundancy.md) -/
def Reg.MIR_REC_UNK.CNT : Fld := ⟨0x130021C, 0, 32, .ro, 0, false⟩

/-! MIR_LINK_DOWN (13_redundancy.md) -/
def Reg.MIR_LINK_DOWN.CNT : Fld := ⟨0x1300220, 0, 32, .ro, 0, false⟩

/-! MIR_RESYNC (13_redundancy.md) -/
def Reg.MIR_RESYNC.CNT : Fld := ⟨0x1300224, 0, 32, .ro, 0, false⟩

/-! MIR_SPLIT_HOLD (13_redundancy.md) -/
def Reg.MIR_SPLIT_HOLD.CNT : Fld := ⟨0x1300228, 0, 32, .ro, 0, false⟩

/-! MIR_FOLLOW_RX (13_redundancy.md) -/
def Reg.MIR_FOLLOW_RX.CNT : Fld := ⟨0x130022C, 0, 32, .ro, 0, false⟩

/-! MIR_YIELD (13_redundancy.md) -/
def Reg.MIR_YIELD.CNT : Fld := ⟨0x1300230, 0, 32, .ro, 0, false⟩

/-- Rows of the MIR registers (base, stride and count of each index, width, fields). -/
def regRowsMir0 : List RegRow := [
  ⟨0x1300000, 0, 1, 0, 0, 1, 0, 32, fun _ _ => [Reg.MIR_CTRL.TWIN, Reg.MIR_CTRL.CNT_MIRROR, Reg.MIR_CTRL.SEED, Reg.MIR_CTRL.PAIR_SLOT, Reg.MIR_CTRL.YIELD]⟩,
  ⟨0x1300004, 0, 1, 0, 0, 1, 0, 32, fun _ _ => [Reg.MIR_STAT.LINK, Reg.MIR_STAT.ROLE, Reg.MIR_STAT.SIDE, Reg.MIR_STAT.TWIN_LOST, Reg.MIR_STAT.CFG_DIFFER, Reg.MIR_STAT.FW_DIFFER, Reg.MIR_STAT.STBY_OK, Reg.MIR_STAT.RESYNC_STAGE, Reg.MIR_STAT.YIELD_REFUSED]⟩,
  ⟨0x1300008, 0, 1, 0, 0, 1, 0, 32, fun _ _ => [Reg.MIR_CFG.RESYNC_PAGES, Reg.MIR_CFG.LOST_TICKS]⟩,
  ⟨0x130000C, 0, 1, 0, 0, 1, 0, 32, fun _ _ => [Reg.MIR_SPLIT.JUMP_BLK]⟩,
  ⟨0x1300010, 0, 1, 0, 0, 1, 0, 64, fun _ _ => [Reg.MIR_SEQ_TX.SEQ]⟩,
  ⟨0x1300018, 0, 1, 0, 0, 1, 0, 64, fun _ _ => [Reg.MIR_SEQ_ACK.ACK]⟩,
  ⟨0x1300200, 0, 1, 0, 0, 1, 0, 32, fun _ _ => [Reg.MIR_BURSTS.CNT]⟩,
  ⟨0x1300204, 0, 1, 0, 0, 1, 0, 32, fun _ _ => [Reg.MIR_NAK_TX.CNT]⟩,
  ⟨0x1300208, 0, 1, 0, 0, 1, 0, 32, fun _ _ => [Reg.MIR_NAK_RX.CNT]⟩,
  ⟨0x130020C, 0, 1, 0, 0, 1, 0, 32, fun _ _ => [Reg.MIR_RETX.CNT]⟩,
  ⟨0x1300210, 0, 1, 0, 0, 1, 0, 32, fun _ _ => [Reg.MIR_BUBBLE.CNT]⟩,
  ⟨0x1300214, 0, 1, 0, 0, 1, 0, 32, fun _ _ => [Reg.MIR_BURST_FULL.CNT]⟩,
  ⟨0x1300218, 0, 1, 0, 0, 1, 0, 32, fun _ _ => [Reg.MIR_MIC_FAIL.CNT]⟩,
  ⟨0x130021C, 0, 1, 0, 0, 1, 0, 32, fun _ _ => [Reg.MIR_REC_UNK.CNT]⟩,
  ⟨0x1300220, 0, 1, 0, 0, 1, 0, 32, fun _ _ => [Reg.MIR_LINK_DOWN.CNT]⟩,
  ⟨0x1300224, 0, 1, 0, 0, 1, 0, 32, fun _ _ => [Reg.MIR_RESYNC.CNT]⟩,
  ⟨0x1300228, 0, 1, 0, 0, 1, 0, 32, fun _ _ => [Reg.MIR_SPLIT_HOLD.CNT]⟩,
  ⟨0x130022C, 0, 1, 0, 0, 1, 0, 32, fun _ _ => [Reg.MIR_FOLLOW_RX.CNT]⟩,
  ⟨0x1300230, 0, 1, 0, 0, 1, 0, 32, fun _ _ => [Reg.MIR_YIELD.CNT]⟩]

/-- Every register of the block MIR. -/
def regRowsMir : List RegRow := regRowsMir0

/-! FW_CTRL (14_firmware_facets_lifecycle.md) -/
def Reg.FW_CTRL.LOAD : Fld := ⟨0x1800000, 0, 1, .w1s, 0, false⟩
def Reg.FW_CTRL.ACTIVATE : Fld := ⟨0x1800000, 1, 1, .w1s, 0, false⟩
def Reg.FW_CTRL.ABORT : Fld := ⟨0x1800000, 2, 1, .w1s, 0, false⟩
def Reg.FW_CTRL.COMMIT_SVN : Fld := ⟨0x1800000, 3, 1, .w1s, 0, false⟩
def Reg.FW_CTRL.FACET_LOAD : Fld := ⟨0x1800000, 4, 1, .w1s, 0, false⟩
def Reg.FW_CTRL.COLD : Fld := ⟨0x1800000, 5, 1, .w1s, 0, false⟩

/-! FW_STAT (14_firmware_facets_lifecycle.md) -/
def Reg.FW_STAT.LOAD_STATE : Fld := ⟨0x1800004, 0, 3, .ro, 0, false⟩
def Reg.FW_STAT.LOAD_ERR : Fld := ⟨0x1800004, 3, 4, .ro, 0, false⟩
def Reg.FW_STAT.ACT_STATE : Fld := ⟨0x1800004, 7, 3, .ro, 0, false⟩
def Reg.FW_STAT.ACT_ERR : Fld := ⟨0x1800004, 10, 4, .w1c, 0, false⟩
def Reg.FW_STAT.FLASH_DONE : Fld := ⟨0x1800004, 14, 1, .ro, 0, false⟩
def Reg.FW_STAT.BOOT_SLOT : Fld := ⟨0x1800004, 15, 2, .ro, 3, false⟩
def Reg.FW_STAT.RECOVERY : Fld := ⟨0x1800004, 17, 1, .ro, 0, false⟩
def Reg.FW_STAT.RUN_BANK : Fld := ⟨0x1800004, 18, 1, .ro, 0, false⟩
def Reg.FW_STAT.FW_READY : Fld := ⟨0x1800004, 19, 1, .ro, 0, false⟩

/-! FW_PKG_ADDR (14_firmware_facets_lifecycle.md) -/
def Reg.FW_PKG_ADDR.ADDR : Fld := ⟨0x1800008, 0, 64, .rw, 0, false⟩

/-! FW_PKG_LEN (14_firmware_facets_lifecycle.md) -/
def Reg.FW_PKG_LEN.LEN : Fld := ⟨0x1800010, 0, 23, .rw, 0, false⟩

/-! FW_RUN_VER (14_firmware_facets_lifecycle.md) -/
def Reg.FW_RUN_VER.VER : Fld := ⟨0x1800020, 0, 32, .ro, 0, false⟩

/-! FW_STG_VER (14_firmware_facets_lifecycle.md) -/
def Reg.FW_STG_VER.VER : Fld := ⟨0x1800024, 0, 32, .ro, 0, false⟩

/-! FW_RUN_SCHEMA (14_firmware_facets_lifecycle.md) -/
def Reg.FW_RUN_SCHEMA.VER : Fld := ⟨0x1800028, 0, 32, .ro, 0, false⟩

/-! FW_SVN (14_firmware_facets_lifecycle.md) -/
def Reg.FW_SVN.SVN : Fld := ⟨0x180002C, 0, 7, .ro, Config.svnFuses, false⟩

/-! FW_ACT_CFG (14_firmware_facets_lifecycle.md) -/
def Reg.FW_ACT_CFG.MAX_TICKS : Fld := ⟨0x1800030, 0, 16, .rw, 0x320, false⟩

/-! FW_FCT_ADDR (14_firmware_facets_lifecycle.md) -/
def Reg.FW_FCT_ADDR.ADDR : Fld := ⟨0x1800040, 0, 64, .rw, 0, false⟩

/-! FW_FCT_LEN (14_firmware_facets_lifecycle.md) -/
def Reg.FW_FCT_LEN.LEN : Fld := ⟨0x1800048, 0, 19, .rw, 0, false⟩

/-! FW_FCT_STAT (14_firmware_facets_lifecycle.md) -/
def Reg.FW_FCT_STAT.STATE : Fld := ⟨0x180004C, 0, 2, .ro, 0, false⟩
def Reg.FW_FCT_STAT.ERR : Fld := ⟨0x180004C, 2, 4, .ro, 0, false⟩
def Reg.FW_FCT_STAT.FACET : Fld := ⟨0x180004C, 6, 4, .ro, 0, false⟩
def Reg.FW_FCT_STAT.PENDING : Fld := ⟨0x180004C, 10, 1, .ro, 0, false⟩

/-! FW_FACET_CFG (14_firmware_facets_lifecycle.md) -/
def Reg.FW_FACET_CFG.LEAD : Fld := ⟨0x1800054, 0, 4, .rw, 4, false⟩

/-! FW_FACET_REQ (14_firmware_facets_lifecycle.md) -/
def Reg.FW_FACET_REQ.MASK : Fld := ⟨0x1800050, 1, 15, .rw, 0, false⟩
def Reg.FW_FACET_REQ.GO : Fld := ⟨0x1800050, 16, 1, .w1s, 0, false⟩
def Reg.FW_FACET_REQ.LATE : Fld := ⟨0x1800050, 17, 1, .w1c, 0, false⟩

/-! FW_FACET_CELL (14_firmware_facets_lifecycle.md) -/
def Reg.FW_FACET_CELL.CELL : Fld := ⟨0x1800058, 0, 40, .rw, 0, false⟩

/-! FW_FACET_ACTIVE (14_firmware_facets_lifecycle.md) -/
def Reg.FW_FACET_ACTIVE.MASK : Fld := ⟨0x1800060, 1, 15, .ro, 0, false⟩
def Reg.FW_FACET_ACTIVE.HOST : Fld := ⟨0x1800060, 16, 1, .ro, 0, false⟩

/-! FW_FACET_LOADED (14_firmware_facets_lifecycle.md) -/
def Reg.FW_FACET_LOADED.LOADED : Fld := ⟨0x1800064, 0, 16, .ro, 0, false⟩

/-! FW_TT_CTRL (14_firmware_facets_lifecycle.md) -/
def Reg.FW_TT_CTRL.EN : Fld := ⟨0x1800068, 0, 1, .rw, 1, false⟩
def Reg.FW_TT_CTRL.HOLD : Fld := ⟨0x1800068, 1, 1, .rw, 0, false⟩
def Reg.FW_TT_CTRL.OFS_EN : Fld := ⟨0x1800068, 2, 1, .rw, 0, false⟩

/-! FW_TT_OFS (14_firmware_facets_lifecycle.md) -/
def Reg.FW_TT_OFS.OFS : Fld := ⟨0x180006C, 0, 32, .rw, 0, false⟩

/-! FW_DEFLIST (14_firmware_facets_lifecycle.md) -/
def Reg.FW_DEFLIST.ITEM : Fld := ⟨0x1800070, 0, 16, .rc, 0, false⟩
def Reg.FW_DEFLIST.INDEX : Fld := ⟨0x1800070, 16, 16, .rc, 0, false⟩
def Reg.FW_DEFLIST.FACET : Fld := ⟨0x1800070, 32, 4, .rc, 0, false⟩
def Reg.FW_DEFLIST.DROPPED : Fld := ⟨0x1800070, 36, 1, .rc, 0, false⟩
def Reg.FW_DEFLIST.VALID : Fld := ⟨0x1800070, 63, 1, .rc, 0, false⟩

/-! FW_CFG_DIGESTi (14_firmware_facets_lifecycle.md) -/
def Reg.FW_CFG_DIGESTi.DIGEST (i : Nat) : Fld := ⟨0x1800080 + 4 * i, 0, 32, .ro, 0, false⟩

/-! FW_LOADS (14_firmware_facets_lifecycle.md) -/
def Reg.FW_LOADS.CNT : Fld := ⟨0x1800200, 0, 32, .ro, 0, false⟩

/-! FW_LOAD_FAIL (14_firmware_facets_lifecycle.md) -/
def Reg.FW_LOAD_FAIL.CNT : Fld := ⟨0x1800204, 0, 32, .ro, 0, false⟩

/-! FW_ACTIVATIONS (14_firmware_facets_lifecycle.md) -/
def Reg.FW_ACTIVATIONS.CNT : Fld := ⟨0x1800208, 0, 32, .ro, 0, false⟩

/-! FW_ACT_ABORT (14_firmware_facets_lifecycle.md) -/
def Reg.FW_ACT_ABORT.CNT : Fld := ⟨0x180020C, 0, 32, .ro, 0, false⟩

/-! FW_REVERIFY (14_firmware_facets_lifecycle.md) -/
def Reg.FW_REVERIFY.CNT : Fld := ⟨0x1800210, 0, 32, .ro, 0, false⟩

/-! FW_FACET_SWITCH (14_firmware_facets_lifecycle.md) -/
def Reg.FW_FACET_SWITCH.CNT : Fld := ⟨0x1800214, 0, 32, .ro, 0, false⟩

/-! FW_FACET_LATE (14_firmware_facets_lifecycle.md) -/
def Reg.FW_FACET_LATE.CNT : Fld := ⟨0x1800218, 0, 32, .ro, 0, false⟩

/-! FW_FACET_ABSENT (14_firmware_facets_lifecycle.md) -/
def Reg.FW_FACET_ABSENT.CNT : Fld := ⟨0x180021C, 0, 32, .ro, 0, false⟩

/-- Rows of the FW registers (base, stride and count of each index, width, fields). -/
def regRowsFw0 : List RegRow := [
  ⟨0x1800000, 0, 1, 0, 0, 1, 0, 32, fun _ _ => [Reg.FW_CTRL.LOAD, Reg.FW_CTRL.ACTIVATE, Reg.FW_CTRL.ABORT, Reg.FW_CTRL.COMMIT_SVN, Reg.FW_CTRL.FACET_LOAD, Reg.FW_CTRL.COLD]⟩,
  ⟨0x1800004, 0, 1, 0, 0, 1, 0, 32, fun _ _ => [Reg.FW_STAT.LOAD_STATE, Reg.FW_STAT.LOAD_ERR, Reg.FW_STAT.ACT_STATE, Reg.FW_STAT.ACT_ERR, Reg.FW_STAT.FLASH_DONE, Reg.FW_STAT.BOOT_SLOT, Reg.FW_STAT.RECOVERY, Reg.FW_STAT.RUN_BANK, Reg.FW_STAT.FW_READY]⟩,
  ⟨0x1800008, 0, 1, 0, 0, 1, 0, 64, fun _ _ => [Reg.FW_PKG_ADDR.ADDR]⟩,
  ⟨0x1800010, 0, 1, 0, 0, 1, 0, 32, fun _ _ => [Reg.FW_PKG_LEN.LEN]⟩,
  ⟨0x1800020, 0, 1, 0, 0, 1, 0, 32, fun _ _ => [Reg.FW_RUN_VER.VER]⟩,
  ⟨0x1800024, 0, 1, 0, 0, 1, 0, 32, fun _ _ => [Reg.FW_STG_VER.VER]⟩,
  ⟨0x1800028, 0, 1, 0, 0, 1, 0, 32, fun _ _ => [Reg.FW_RUN_SCHEMA.VER]⟩,
  ⟨0x180002C, 0, 1, 0, 0, 1, 0, 32, fun _ _ => [Reg.FW_SVN.SVN]⟩,
  ⟨0x1800030, 0, 1, 0, 0, 1, 0, 32, fun _ _ => [Reg.FW_ACT_CFG.MAX_TICKS]⟩,
  ⟨0x1800040, 0, 1, 0, 0, 1, 0, 64, fun _ _ => [Reg.FW_FCT_ADDR.ADDR]⟩,
  ⟨0x1800048, 0, 1, 0, 0, 1, 0, 32, fun _ _ => [Reg.FW_FCT_LEN.LEN]⟩,
  ⟨0x180004C, 0, 1, 0, 0, 1, 0, 32, fun _ _ => [Reg.FW_FCT_STAT.STATE, Reg.FW_FCT_STAT.ERR, Reg.FW_FCT_STAT.FACET, Reg.FW_FCT_STAT.PENDING]⟩,
  ⟨0x1800054, 0, 1, 0, 0, 1, 0, 32, fun _ _ => [Reg.FW_FACET_CFG.LEAD]⟩,
  ⟨0x1800050, 0, 1, 0, 0, 1, 0, 32, fun _ _ => [Reg.FW_FACET_REQ.MASK, Reg.FW_FACET_REQ.GO, Reg.FW_FACET_REQ.LATE]⟩,
  ⟨0x1800058, 0, 1, 0, 0, 1, 0, 64, fun _ _ => [Reg.FW_FACET_CELL.CELL]⟩,
  ⟨0x1800060, 0, 1, 0, 0, 1, 0, 32, fun _ _ => [Reg.FW_FACET_ACTIVE.MASK, Reg.FW_FACET_ACTIVE.HOST]⟩,
  ⟨0x1800064, 0, 1, 0, 0, 1, 0, 32, fun _ _ => [Reg.FW_FACET_LOADED.LOADED]⟩,
  ⟨0x1800068, 0, 1, 0, 0, 1, 0, 32, fun _ _ => [Reg.FW_TT_CTRL.EN, Reg.FW_TT_CTRL.HOLD, Reg.FW_TT_CTRL.OFS_EN]⟩,
  ⟨0x180006C, 0, 1, 0, 0, 1, 0, 32, fun _ _ => [Reg.FW_TT_OFS.OFS]⟩,
  ⟨0x1800070, 0, 1, 0, 0, 1, 0, 64, fun _ _ => [Reg.FW_DEFLIST.ITEM, Reg.FW_DEFLIST.INDEX, Reg.FW_DEFLIST.FACET, Reg.FW_DEFLIST.DROPPED, Reg.FW_DEFLIST.VALID]⟩,
  ⟨0x1800080, 4, 12, 0, 0, 1, 0, 32, fun i _ => [Reg.FW_CFG_DIGESTi.DIGEST i]⟩,
  ⟨0x1800200, 0, 1, 0, 0, 1, 0, 32, fun _ _ => [Reg.FW_LOADS.CNT]⟩,
  ⟨0x1800204, 0, 1, 0, 0, 1, 0, 32, fun _ _ => [Reg.FW_LOAD_FAIL.CNT]⟩,
  ⟨0x1800208, 0, 1, 0, 0, 1, 0, 32, fun _ _ => [Reg.FW_ACTIVATIONS.CNT]⟩]

/-- Rows of the FW registers (base, stride and count of each index, width, fields). -/
def regRowsFw1 : List RegRow := [
  ⟨0x180020C, 0, 1, 0, 0, 1, 0, 32, fun _ _ => [Reg.FW_ACT_ABORT.CNT]⟩,
  ⟨0x1800210, 0, 1, 0, 0, 1, 0, 32, fun _ _ => [Reg.FW_REVERIFY.CNT]⟩,
  ⟨0x1800214, 0, 1, 0, 0, 1, 0, 32, fun _ _ => [Reg.FW_FACET_SWITCH.CNT]⟩,
  ⟨0x1800218, 0, 1, 0, 0, 1, 0, 32, fun _ _ => [Reg.FW_FACET_LATE.CNT]⟩,
  ⟨0x180021C, 0, 1, 0, 0, 1, 0, 32, fun _ _ => [Reg.FW_FACET_ABSENT.CNT]⟩]

/-- Every register of the block FW. -/
def regRowsFw : List RegRow := regRowsFw0 ++ regRowsFw1

/-! LC_STATE (14_firmware_facets_lifecycle.md) -/
def Reg.LC_STATE.STATE : Fld := ⟨0x1700000, 0, 3, .ro, Config.lcState, false⟩
def Reg.LC_STATE.ROLLED : Fld := ⟨0x1700000, 3, 1, .ro, 0, false⟩
def Reg.LC_STATE.SLOTS_USED : Fld := ⟨0x1700000, 4, 4, .ro, Config.lcSlotsUsed, false⟩
def Reg.LC_STATE.BUSY : Fld := ⟨0x1700000, 8, 1, .ro, 0, false⟩
def Reg.LC_STATE.DENIED : Fld := ⟨0x1700000, 9, 1, .w1c, 0, false⟩
def Reg.LC_STATE.ERR : Fld := ⟨0x1700000, 10, 3, .ro, 0, false⟩

/-! LC_REQ (14_firmware_facets_lifecycle.md) -/
def Reg.LC_REQ.CODE : Fld := ⟨0x1700004, 0, 8, .wo, 0, false⟩
def Reg.LC_REQ.TARGET : Fld := ⟨0x1700004, 8, 3, .rw, 0, false⟩
def Reg.LC_REQ.ARMED : Fld := ⟨0x1700004, 11, 1, .ro, 0, false⟩

/-! LC_CHAL (14_firmware_facets_lifecycle.md) -/
def Reg.LC_CHAL.CHAL : Fld := ⟨0x1700008, 0, 64, .ro, 0, false⟩

/-! LC_SIGi (14_firmware_facets_lifecycle.md) -/
def Reg.LC_SIGi.SIG (i : Nat) : Fld := ⟨0x1700040 + 4 * i, 0, 32, .rw, 0, false⟩

/-! LC_PROV_ARGi (14_firmware_facets_lifecycle.md) -/
def Reg.LC_PROV_ARGi.ARG (i : Nat) : Fld := ⟨0x1700100 + 4 * i, 0, 32, .rw, 0, false⟩

/-- Rows of the LC registers (base, stride and count of each index, width, fields). -/
def regRowsLc0 : List RegRow := [
  ⟨0x1700000, 0, 1, 0, 0, 1, 0, 32, fun _ _ => [Reg.LC_STATE.STATE, Reg.LC_STATE.ROLLED, Reg.LC_STATE.SLOTS_USED, Reg.LC_STATE.BUSY, Reg.LC_STATE.DENIED, Reg.LC_STATE.ERR]⟩,
  ⟨0x1700004, 0, 1, 0, 0, 1, 0, 32, fun _ _ => [Reg.LC_REQ.CODE, Reg.LC_REQ.TARGET, Reg.LC_REQ.ARMED]⟩,
  ⟨0x1700008, 0, 1, 0, 0, 1, 0, 64, fun _ _ => [Reg.LC_CHAL.CHAL]⟩,
  ⟨0x1700040, 4, 24, 0, 0, 1, 0, 32, fun i _ => [Reg.LC_SIGi.SIG i]⟩,
  ⟨0x1700100, 4, 54, 0, 0, 1, 0, 32, fun i _ => [Reg.LC_PROV_ARGi.ARG i]⟩]

/-- Every register of the block LC. -/
def regRowsLc : List RegRow := regRowsLc0

/-! PWR_REQ (15_power.md) -/
def Reg.PWR_REQ.TARGET : Fld := ⟨0x100000, 0, 3, .rw, 0, false⟩
def Reg.PWR_REQ.GO : Fld := ⟨0x100000, 3, 1, .w1s, 0, false⟩

/-! PWR_STAT (15_power.md) -/
def Reg.PWR_STAT.STATE : Fld := ⟨0x100004, 0, 3, .ro, 0, false⟩
def Reg.PWR_STAT.BUSY : Fld := ⟨0x100004, 3, 1, .ro, 0, false⟩
def Reg.PWR_STAT.RUN_TARGET : Fld := ⟨0x100004, 4, 3, .ro, 0, false⟩
def Reg.PWR_STAT.QVALID : Fld := ⟨0x100004, 7, 1, .ro, 0, false⟩
def Reg.PWR_STAT.Q_TARGET : Fld := ⟨0x100004, 8, 3, .ro, 0, false⟩
def Reg.PWR_STAT.LAST_RESULT : Fld := ⟨0x100004, 11, 3, .ro, 0, false⟩
def Reg.PWR_STAT.PAD_HELD : Fld := ⟨0x100004, 14, 1, .ro, 0, false⟩
def Reg.PWR_STAT.RELEASE_READY : Fld := ⟨0x100004, 15, 1, .ro, 0, false⟩
def Reg.PWR_STAT.OFF_READY : Fld := ⟨0x100004, 16, 1, .ro, 0, false⟩

/-! PWR_DOM_ON (15_power.md) -/
def Reg.PWR_DOM_ON.ON : Fld := ⟨0x100008, 0, 32, .ro, 0xFFFFFFFF, false⟩

/-! PWR_TRIM_KEEP (15_power.md) -/
def Reg.PWR_TRIM_KEEP.KEEP : Fld := ⟨0x10000C, 1, 31, .rw, 0, false⟩

/-! PWR_HUSH_SETi (15_power.md) -/
def Reg.PWR_HUSH_SETi.ENG (i : Nat) : Fld := ⟨0x100010 + 4 * i, 0, 32, .rw, 0, false⟩

/-! PWR_WAKE_CFG (15_power.md) -/
def Reg.PWR_WAKE_CFG.TARGET : Fld := ⟨0x100020, 0, 2, .rw, 0, false⟩
def Reg.PWR_WAKE_CFG.TIMER_EN : Fld := ⟨0x100020, 2, 1, .rw, 0, false⟩

/-! PWR_WAKE_GPIO (15_power.md) -/
def Reg.PWR_WAKE_GPIO.EN : Fld := ⟨0x100024, 0, 16, .rw, 0, false⟩
def Reg.PWR_WAKE_GPIO.EDGE : Fld := ⟨0x100024, 16, 16, .rw, 0, false⟩

/-! PWR_WAKE_TICK (15_power.md) -/
def Reg.PWR_WAKE_TICK.TICK : Fld := ⟨0x100028, 0, 64, .rw, 0, false⟩

/-! PWR_LAST_WAKE (15_power.md) -/
def Reg.PWR_LAST_WAKE.SRC : Fld := ⟨0x100030, 0, 3, .ro, 0, false⟩
def Reg.PWR_LAST_WAKE.GPIO : Fld := ⟨0x100030, 4, 4, .ro, 0, false⟩
def Reg.PWR_LAST_WAKE.ALL : Fld := ⟨0x100030, 8, 5, .ro, 0, false⟩

/-! PWR_LAST_WAKE_TICK (15_power.md) -/
def Reg.PWR_LAST_WAKE_TICK.TICK : Fld := ⟨0x100034, 0, 32, .ro, 0, false⟩

/-! PWR_PAD_RELEASE (15_power.md) -/
def Reg.PWR_PAD_RELEASE.RELEASE : Fld := ⟨0x100040, 0, 1, .w1s, 0, false⟩

/-! PWR_OFF_CFG (15_power.md) -/
def Reg.PWR_OFF_CFG.GPIO : Fld := ⟨0x100044, 0, 4, .rw, 0, false⟩
def Reg.PWR_OFF_CFG.EN : Fld := ⟨0x100044, 4, 1, .rw, 0, false⟩

/-! PWR_REFCNTr (15_power.md) -/
def Reg.PWR_REFCNTr.COUNT (r : Nat) : Fld := ⟨0x100100 + 4 * r, 0, 32, .ro, 0, false⟩

/-! PWR_REFLOGi_TICK (15_power.md) -/
def Reg.PWR_REFLOGi_TICK.TICK (i : Nat) : Fld := ⟨0x100200 + 16 * i, 0, 32, .ro, 0, false⟩

/-! PWR_REFLOGi_INFO (15_power.md) -/
def Reg.PWR_REFLOGi_INFO.TARGET (i : Nat) : Fld := ⟨0x100204 + 16 * i, 0, 3, .ro, 0, false⟩
def Reg.PWR_REFLOGi_INFO.REQUESTER (i : Nat) : Fld := ⟨0x100204 + 16 * i, 3, 2, .ro, 0, false⟩
def Reg.PWR_REFLOGi_INFO.REFUSER (i : Nat) : Fld := ⟨0x100204 + 16 * i, 8, 3, .ro, 0, false⟩
def Reg.PWR_REFLOGi_INFO.VALID (i : Nat) : Fld := ⟨0x100204 + 16 * i, 31, 1, .ro, 0, false⟩

/-! PWR_REFLOGi_NAME0 (15_power.md) -/
def Reg.PWR_REFLOGi_NAME0.NAME (i : Nat) : Fld := ⟨0x100208 + 16 * i, 0, 32, .ro, 0, false⟩

/-! PWR_REFLOGi_NAME1 (15_power.md) -/
def Reg.PWR_REFLOGi_NAME1.NAME (i : Nat) : Fld := ⟨0x10020C + 16 * i, 0, 32, .ro, 0, false⟩

/-! PWR_TRANS (15_power.md) -/
def Reg.PWR_TRANS.CNT : Fld := ⟨0x100300, 0, 32, .ro, 0, false⟩

/-! PWR_MERGED (15_power.md) -/
def Reg.PWR_MERGED.CNT : Fld := ⟨0x100304, 0, 32, .ro, 0, false⟩

/-! PWR_REPLACED (15_power.md) -/
def Reg.PWR_REPLACED.CNT : Fld := ⟨0x100308, 0, 32, .ro, 0, false⟩

/-! PWR_WAKES (15_power.md) -/
def Reg.PWR_WAKES.CNT : Fld := ⟨0x10030C, 0, 32, .ro, 0, false⟩

/-! PWR_PARK (15_power.md) -/
def Reg.PWR_PARK.CNT : Fld := ⟨0x100310, 0, 32, .ro, 0, false⟩

/-! PWR_UNPARK (15_power.md) -/
def Reg.PWR_UNPARK.CNT : Fld := ⟨0x100314, 0, 32, .ro, 0, false⟩

/-! PWR_PARK_LATE (15_power.md) -/
def Reg.PWR_PARK_LATE.CNT : Fld := ⟨0x100318, 0, 32, .ro, 0, false⟩

/-- Rows of the PWR registers (base, stride and count of each index, width, fields). -/
def regRowsPwr0 : List RegRow := [
  ⟨0x100000, 0, 1, 0, 0, 1, 0, 32, fun _ _ => [Reg.PWR_REQ.TARGET, Reg.PWR_REQ.GO]⟩,
  ⟨0x100004, 0, 1, 0, 0, 1, 0, 32, fun _ _ => [Reg.PWR_STAT.STATE, Reg.PWR_STAT.BUSY, Reg.PWR_STAT.RUN_TARGET, Reg.PWR_STAT.QVALID, Reg.PWR_STAT.Q_TARGET, Reg.PWR_STAT.LAST_RESULT, Reg.PWR_STAT.PAD_HELD, Reg.PWR_STAT.RELEASE_READY, Reg.PWR_STAT.OFF_READY]⟩,
  ⟨0x100008, 0, 1, 0, 0, 1, 0, 32, fun _ _ => [Reg.PWR_DOM_ON.ON]⟩,
  ⟨0x10000C, 0, 1, 0, 0, 1, 0, 32, fun _ _ => [Reg.PWR_TRIM_KEEP.KEEP]⟩,
  ⟨0x100010, 4, 4, 0, 0, 1, 0, 32, fun i _ => [Reg.PWR_HUSH_SETi.ENG i]⟩,
  ⟨0x100020, 0, 1, 0, 0, 1, 0, 32, fun _ _ => [Reg.PWR_WAKE_CFG.TARGET, Reg.PWR_WAKE_CFG.TIMER_EN]⟩,
  ⟨0x100024, 0, 1, 0, 0, 1, 0, 32, fun _ _ => [Reg.PWR_WAKE_GPIO.EN, Reg.PWR_WAKE_GPIO.EDGE]⟩,
  ⟨0x100028, 0, 1, 0, 0, 1, 0, 64, fun _ _ => [Reg.PWR_WAKE_TICK.TICK]⟩,
  ⟨0x100030, 0, 1, 0, 0, 1, 0, 32, fun _ _ => [Reg.PWR_LAST_WAKE.SRC, Reg.PWR_LAST_WAKE.GPIO, Reg.PWR_LAST_WAKE.ALL]⟩,
  ⟨0x100034, 0, 1, 0, 0, 1, 0, 32, fun _ _ => [Reg.PWR_LAST_WAKE_TICK.TICK]⟩,
  ⟨0x100040, 0, 1, 0, 0, 1, 0, 32, fun _ _ => [Reg.PWR_PAD_RELEASE.RELEASE]⟩,
  ⟨0x100044, 0, 1, 0, 0, 1, 0, 32, fun _ _ => [Reg.PWR_OFF_CFG.GPIO, Reg.PWR_OFF_CFG.EN]⟩,
  ⟨0x100100, 4, 6, 1, 0, 1, 0, 32, fun i _ => [Reg.PWR_REFCNTr.COUNT i]⟩,
  ⟨0x100200, 16, 16, 0, 0, 1, 0, 32, fun i _ => [Reg.PWR_REFLOGi_TICK.TICK i]⟩,
  ⟨0x100204, 16, 16, 0, 0, 1, 0, 32, fun i _ => [Reg.PWR_REFLOGi_INFO.TARGET i, Reg.PWR_REFLOGi_INFO.REQUESTER i, Reg.PWR_REFLOGi_INFO.REFUSER i, Reg.PWR_REFLOGi_INFO.VALID i]⟩,
  ⟨0x100208, 16, 16, 0, 0, 1, 0, 32, fun i _ => [Reg.PWR_REFLOGi_NAME0.NAME i]⟩,
  ⟨0x10020C, 16, 16, 0, 0, 1, 0, 32, fun i _ => [Reg.PWR_REFLOGi_NAME1.NAME i]⟩,
  ⟨0x100300, 0, 1, 0, 0, 1, 0, 32, fun _ _ => [Reg.PWR_TRANS.CNT]⟩,
  ⟨0x100304, 0, 1, 0, 0, 1, 0, 32, fun _ _ => [Reg.PWR_MERGED.CNT]⟩,
  ⟨0x100308, 0, 1, 0, 0, 1, 0, 32, fun _ _ => [Reg.PWR_REPLACED.CNT]⟩,
  ⟨0x10030C, 0, 1, 0, 0, 1, 0, 32, fun _ _ => [Reg.PWR_WAKES.CNT]⟩,
  ⟨0x100310, 0, 1, 0, 0, 1, 0, 32, fun _ _ => [Reg.PWR_PARK.CNT]⟩,
  ⟨0x100314, 0, 1, 0, 0, 1, 0, 32, fun _ _ => [Reg.PWR_UNPARK.CNT]⟩,
  ⟨0x100318, 0, 1, 0, 0, 1, 0, 32, fun _ _ => [Reg.PWR_PARK_LATE.CNT]⟩]

/-- Every register of the block PWR. -/
def regRowsPwr : List RegRow := regRowsPwr0

/-! MEM_STAT (16_integrity_diagnostics_debug.md) -/
def Reg.MEM_STAT.INIT_DONE : Fld := ⟨0x1400000, 0, 1, .ro, 0, false⟩
def Reg.MEM_STAT.DRAM_OK : Fld := ⟨0x1400000, 1, 1, .ro, 0, false⟩
def Reg.MEM_STAT.DRAM_SIZE : Fld := ⟨0x1400000, 2, 2, .ro, 0, false⟩
def Reg.MEM_STAT.SELF_REFRESH : Fld := ⟨0x1400000, 4, 1, .ro, 0, false⟩

/-! MEM_DRAM_CFG (16_integrity_diagnostics_debug.md) -/
def Reg.MEM_DRAM_CFG.TRAIN : Fld := ⟨0x1400004, 0, 1, .w1s, 0, false⟩

/-! MEM_SCRUB (16_integrity_diagnostics_debug.md) -/
def Reg.MEM_SCRUB.EN : Fld := ⟨0x1400010, 0, 1, .rw, 1, false⟩
def Reg.MEM_SCRUB.RATE : Fld := ⟨0x1400010, 4, 12, .rw, 128, false⟩

/-! MEM_SCRUB_STAT (16_integrity_diagnostics_debug.md) -/
def Reg.MEM_SCRUB_STAT.PASSES : Fld := ⟨0x1400014, 0, 32, .ro, 0, false⟩

/-! MEM_DSCRUB (16_integrity_diagnostics_debug.md) -/
def Reg.MEM_DSCRUB.EN : Fld := ⟨0x1400018, 0, 1, .rw, 1, false⟩
def Reg.MEM_DSCRUB.RATE : Fld := ⟨0x1400018, 4, 8, .rw, 1, false⟩

/-! MEM_ECC_LOG (16_integrity_diagnostics_debug.md) -/
def Reg.MEM_ECC_LOG.REGION : Fld := ⟨0x1400020, 0, 4, .rc, 0, false⟩
def Reg.MEM_ECC_LOG.ZERO : Fld := ⟨0x1400020, 4, 4, .rc, 0, false⟩
def Reg.MEM_ECC_LOG.READER : Fld := ⟨0x1400020, 8, 8, .rc, 0, false⟩
def Reg.MEM_ECC_LOG.VALID : Fld := ⟨0x1400020, 16, 1, .rc, 0, false⟩
def Reg.MEM_ECC_LOG.ADDR : Fld := ⟨0x1400020, 32, 32, .rc, 0, false⟩

/-! MEM_WINw_BASE (16_integrity_diagnostics_debug.md) -/
def Reg.MEM_WINw_BASE.BASE (w : Nat) : Fld := ⟨0x1400100 + 16 * w, 0, 7, .rw, 8 * w, false⟩

/-! MEM_WINw_CTRL (16_integrity_diagnostics_debug.md) -/
def Reg.MEM_WINw_CTRL.OPEN (w : Nat) : Fld := ⟨0x1400104 + 16 * w, 0, 1, .w1s, 0, false⟩
def Reg.MEM_WINw_CTRL.CLOSE (w : Nat) : Fld := ⟨0x1400104 + 16 * w, 1, 1, .w1s, 0, false⟩

/-! MEM_WINw_STAT (16_integrity_diagnostics_debug.md) -/
def Reg.MEM_WINw_STAT.STATE (w : Nat) : Fld := ⟨0x1400108 + 16 * w, 0, 2, .ro, 0, false⟩
def Reg.MEM_WINw_STAT.ERR (w : Nat) : Fld := ⟨0x1400108 + 16 * w, 2, 1, .w1c, 0, false⟩

/-! MEM_CE_CNTr (16_integrity_diagnostics_debug.md) -/
def Reg.MEM_CE_CNTr.CNT (r : Nat) : Fld := ⟨0x1400200 + 4 * r, 0, 32, .ro, 0, false⟩

/-! MEM_UE_CNTr (16_integrity_diagnostics_debug.md) -/
def Reg.MEM_UE_CNTr.CNT (r : Nat) : Fld := ⟨0x1400240 + 4 * r, 0, 32, .ro, 0, false⟩

/-! MEM_UNMAPPED_CNT (16_integrity_diagnostics_debug.md) -/
def Reg.MEM_UNMAPPED_CNT.CNT : Fld := ⟨0x1400280, 0, 32, .ro, 0, false⟩

/-- Rows of the MEM registers (base, stride and count of each index, width, fields). -/
def regRowsMem0 : List RegRow := [
  ⟨0x1400000, 0, 1, 0, 0, 1, 0, 32, fun _ _ => [Reg.MEM_STAT.INIT_DONE, Reg.MEM_STAT.DRAM_OK, Reg.MEM_STAT.DRAM_SIZE, Reg.MEM_STAT.SELF_REFRESH]⟩,
  ⟨0x1400004, 0, 1, 0, 0, 1, 0, 32, fun _ _ => [Reg.MEM_DRAM_CFG.TRAIN]⟩,
  ⟨0x1400010, 0, 1, 0, 0, 1, 0, 32, fun _ _ => [Reg.MEM_SCRUB.EN, Reg.MEM_SCRUB.RATE]⟩,
  ⟨0x1400014, 0, 1, 0, 0, 1, 0, 32, fun _ _ => [Reg.MEM_SCRUB_STAT.PASSES]⟩,
  ⟨0x1400018, 0, 1, 0, 0, 1, 0, 32, fun _ _ => [Reg.MEM_DSCRUB.EN, Reg.MEM_DSCRUB.RATE]⟩,
  ⟨0x1400020, 0, 1, 0, 0, 1, 0, 64, fun _ _ => [Reg.MEM_ECC_LOG.REGION, Reg.MEM_ECC_LOG.ZERO, Reg.MEM_ECC_LOG.READER, Reg.MEM_ECC_LOG.VALID, Reg.MEM_ECC_LOG.ADDR]⟩,
  ⟨0x1400100, 16, 2, 0, 0, 1, 0, 32, fun i _ => [Reg.MEM_WINw_BASE.BASE i]⟩,
  ⟨0x1400104, 16, 2, 0, 0, 1, 0, 32, fun i _ => [Reg.MEM_WINw_CTRL.OPEN i, Reg.MEM_WINw_CTRL.CLOSE i]⟩,
  ⟨0x1400108, 16, 2, 0, 0, 1, 0, 32, fun i _ => [Reg.MEM_WINw_STAT.STATE i, Reg.MEM_WINw_STAT.ERR i]⟩,
  ⟨0x1400200, 4, 10, 0, 0, 1, 0, 32, fun i _ => [Reg.MEM_CE_CNTr.CNT i]⟩,
  ⟨0x1400240, 4, 10, 0, 0, 1, 0, 32, fun i _ => [Reg.MEM_UE_CNTr.CNT i]⟩,
  ⟨0x1400280, 0, 1, 0, 0, 1, 0, 32, fun _ _ => [Reg.MEM_UNMAPPED_CNT.CNT]⟩]

/-- Every register of the block MEM. -/
def regRowsMem : List RegRow := regRowsMem0

/-! LPE_CTRL (16_integrity_diagnostics_debug.md) -/
def Reg.LPE_CTRL.SEAL : Fld := ⟨0x1500000, 0, 1, .w1s, 0, false⟩
def Reg.LPE_CTRL.EXPORT : Fld := ⟨0x1500000, 1, 1, .w1s, 0, false⟩

/-! LPE_CFG (16_integrity_diagnostics_debug.md) -/
def Reg.LPE_CFG.PERIOD : Fld := ⟨0x1500004, 0, 16, .rw, 0xE10, false⟩

/-! LPE_STAT (16_integrity_diagnostics_debug.md) -/
def Reg.LPE_STAT.SEALS : Fld := ⟨0x1500008, 0, 24, .ro, 0, false⟩
def Reg.LPE_STAT.FRESH : Fld := ⟨0x1500008, 24, 1, .ro, 0, false⟩

/-! LPE_EXP_ADDR (16_integrity_diagnostics_debug.md) -/
def Reg.LPE_EXP_ADDR.ADDR : Fld := ⟨0x1500010, 0, 64, .rw, 0, false⟩

/-! LPE_SEL (16_integrity_diagnostics_debug.md) -/
def Reg.LPE_SEL.ID : Fld := ⟨0x1500020, 0, 12, .rw, 0, false⟩
def Reg.LPE_SEL.BIN : Fld := ⟨0x1500020, 16, 5, .rw, 0, false⟩
def Reg.LPE_SEL.HIDDEN : Fld := ⟨0x1500020, 31, 1, .ro, 0, false⟩

/-! LPE_VAL_LO (16_integrity_diagnostics_debug.md) -/
def Reg.LPE_VAL_LO.VAL : Fld := ⟨0x1500024, 0, 32, .ro, 0, false⟩

/-! LPE_VAL_HI (16_integrity_diagnostics_debug.md) -/
def Reg.LPE_VAL_HI.VAL : Fld := ⟨0x1500028, 0, 16, .ro, 0, false⟩

/-- Rows of the LPE registers (base, stride and count of each index, width, fields). -/
def regRowsLpe0 : List RegRow := [
  ⟨0x1500000, 0, 1, 0, 0, 1, 0, 32, fun _ _ => [Reg.LPE_CTRL.SEAL, Reg.LPE_CTRL.EXPORT]⟩,
  ⟨0x1500004, 0, 1, 0, 0, 1, 0, 32, fun _ _ => [Reg.LPE_CFG.PERIOD]⟩,
  ⟨0x1500008, 0, 1, 0, 0, 1, 0, 32, fun _ _ => [Reg.LPE_STAT.SEALS, Reg.LPE_STAT.FRESH]⟩,
  ⟨0x1500010, 0, 1, 0, 0, 1, 0, 64, fun _ _ => [Reg.LPE_EXP_ADDR.ADDR]⟩,
  ⟨0x1500020, 0, 1, 0, 0, 1, 0, 32, fun _ _ => [Reg.LPE_SEL.ID, Reg.LPE_SEL.BIN, Reg.LPE_SEL.HIDDEN]⟩,
  ⟨0x1500024, 0, 1, 0, 0, 1, 0, 32, fun _ _ => [Reg.LPE_VAL_LO.VAL]⟩,
  ⟨0x1500028, 0, 1, 0, 0, 1, 0, 32, fun _ _ => [Reg.LPE_VAL_HI.VAL]⟩]

/-- Every register of the block LPE. -/
def regRowsLpe : List RegRow := regRowsLpe0

/-! DBG_CTRL (16_integrity_diagnostics_debug.md) -/
def Reg.DBG_CTRL.HOLD_LEASE : Fld := ⟨0x1600000, 0, 1, .rw, 0, false⟩

/-! DBG_AUTH_CTRL (16_integrity_diagnostics_debug.md) -/
def Reg.DBG_AUTH_CTRL.CODE : Fld := ⟨0x1600010, 0, 8, .wo, 0, false⟩
def Reg.DBG_AUTH_CTRL.LEVEL : Fld := ⟨0x1600010, 8, 2, .rw, 0, false⟩
def Reg.DBG_AUTH_CTRL.CUR : Fld := ⟨0x1600010, 10, 2, .ro, 0, false⟩
def Reg.DBG_AUTH_CTRL.BUSY : Fld := ⟨0x1600010, 12, 1, .ro, 0, false⟩
def Reg.DBG_AUTH_CTRL.DENIED : Fld := ⟨0x1600010, 13, 1, .w1c, 0, false⟩

/-! DBG_AUTH_CHAL (16_integrity_diagnostics_debug.md) -/
def Reg.DBG_AUTH_CHAL.CHAL : Fld := ⟨0x1600018, 0, 64, .ro, 0, false⟩

/-! DBG_AUTH_DUR (16_integrity_diagnostics_debug.md) -/
def Reg.DBG_AUTH_DUR.SEC : Fld := ⟨0x1600020, 0, 17, .rw, 0xE10, false⟩

/-! DBG_AUTH_SIGi (16_integrity_diagnostics_debug.md) -/
def Reg.DBG_AUTH_SIGi.SIG (i : Nat) : Fld := ⟨0x1600040 + 4 * i, 0, 32, .rw, 0, false⟩

/-! DBG_QV_ADDR (16_integrity_diagnostics_debug.md) -/
def Reg.DBG_QV_ADDR.ADDR : Fld := ⟨0x1600100, 0, 34, .rw, 0, false⟩
def Reg.DBG_QV_ADDR.SPACE : Fld := ⟨0x1600100, 48, 2, .rw, 0, false⟩

/-! DBG_QV_CTRL (16_integrity_diagnostics_debug.md) -/
def Reg.DBG_QV_CTRL.GO : Fld := ⟨0x1600108, 0, 1, .w1s, 0, false⟩
def Reg.DBG_QV_CTRL.CONSUME : Fld := ⟨0x1600108, 1, 1, .rw, 0, false⟩
def Reg.DBG_QV_CTRL.WRITE : Fld := ⟨0x1600108, 2, 1, .rw, 0, false⟩
def Reg.DBG_QV_CTRL.WORDS : Fld := ⟨0x1600108, 4, 4, .rw, 0, false⟩

/-! DBG_QV_STAT (16_integrity_diagnostics_debug.md) -/
def Reg.DBG_QV_STAT.DONE : Fld := ⟨0x160010C, 0, 1, .ro, 0, false⟩
def Reg.DBG_QV_STAT.POISON : Fld := ⟨0x160010C, 1, 1, .ro, 0, false⟩
def Reg.DBG_QV_STAT.DENIED : Fld := ⟨0x160010C, 2, 1, .w1c, 0, false⟩

/-! DBG_QV_DATAi (16_integrity_diagnostics_debug.md) -/
def Reg.DBG_QV_DATAi.DATA (i : Nat) : Fld := ⟨0x1600140 + 4 * i, 0, 32, .rw, 0, false⟩

/-! DBG_CCc_CTRL (16_integrity_diagnostics_debug.md) -/
def Reg.DBG_CCc_CTRL.HALT (c : Nat) : Fld := ⟨0x1600200 + 16 * c, 0, 1, .w1s, 0, false⟩
def Reg.DBG_CCc_CTRL.STEP (c : Nat) : Fld := ⟨0x1600200 + 16 * c, 1, 1, .w1s, 0, false⟩
def Reg.DBG_CCc_CTRL.RESUME (c : Nat) : Fld := ⟨0x1600200 + 16 * c, 2, 1, .w1s, 0, false⟩

/-! DBG_CCc_STAT (16_integrity_diagnostics_debug.md) -/
def Reg.DBG_CCc_STAT.HALTED (c : Nat) : Fld := ⟨0x1600204 + 16 * c, 0, 1, .ro, 0, false⟩
def Reg.DBG_CCc_STAT.PATH (c : Nat) : Fld := ⟨0x1600204 + 16 * c, 1, 1, .ro, 0, false⟩
def Reg.DBG_CCc_STAT.LOCKS (c : Nat) : Fld := ⟨0x1600204 + 16 * c, 8, 7, .ro, 0, false⟩

/-! DBG_LOCK_STATi (16_integrity_diagnostics_debug.md) -/
def Reg.DBG_LOCK_STATi.HELD_B (i : Nat) : Fld := ⟨0x1600300 + 4 * i, 0, 32, .ro, 0, false⟩

/-! DBG_LOCK_OWNi (16_integrity_diagnostics_debug.md) -/
def Reg.DBG_LOCK_OWNi.STBY_B (i : Nat) : Fld := ⟨0x1600308 + 4 * i, 0, 32, .ro, 0, false⟩

/-- Rows of the DBG registers (base, stride and count of each index, width, fields). -/
def regRowsDbg0 : List RegRow := [
  ⟨0x1600000, 0, 1, 0, 0, 1, 0, 32, fun _ _ => [Reg.DBG_CTRL.HOLD_LEASE]⟩,
  ⟨0x1600010, 0, 1, 0, 0, 1, 0, 32, fun _ _ => [Reg.DBG_AUTH_CTRL.CODE, Reg.DBG_AUTH_CTRL.LEVEL, Reg.DBG_AUTH_CTRL.CUR, Reg.DBG_AUTH_CTRL.BUSY, Reg.DBG_AUTH_CTRL.DENIED]⟩,
  ⟨0x1600018, 0, 1, 0, 0, 1, 0, 64, fun _ _ => [Reg.DBG_AUTH_CHAL.CHAL]⟩,
  ⟨0x1600020, 0, 1, 0, 0, 1, 0, 32, fun _ _ => [Reg.DBG_AUTH_DUR.SEC]⟩,
  ⟨0x1600040, 4, 24, 0, 0, 1, 0, 32, fun i _ => [Reg.DBG_AUTH_SIGi.SIG i]⟩,
  ⟨0x1600100, 0, 1, 0, 0, 1, 0, 64, fun _ _ => [Reg.DBG_QV_ADDR.ADDR, Reg.DBG_QV_ADDR.SPACE]⟩,
  ⟨0x1600108, 0, 1, 0, 0, 1, 0, 32, fun _ _ => [Reg.DBG_QV_CTRL.GO, Reg.DBG_QV_CTRL.CONSUME, Reg.DBG_QV_CTRL.WRITE, Reg.DBG_QV_CTRL.WORDS]⟩,
  ⟨0x160010C, 0, 1, 0, 0, 1, 0, 32, fun _ _ => [Reg.DBG_QV_STAT.DONE, Reg.DBG_QV_STAT.POISON, Reg.DBG_QV_STAT.DENIED]⟩,
  ⟨0x1600140, 4, 16, 0, 0, 1, 0, 32, fun i _ => [Reg.DBG_QV_DATAi.DATA i]⟩,
  ⟨0x1600200, 16, 2, 0, 0, 1, 0, 32, fun i _ => [Reg.DBG_CCc_CTRL.HALT i, Reg.DBG_CCc_CTRL.STEP i, Reg.DBG_CCc_CTRL.RESUME i]⟩,
  ⟨0x1600204, 16, 2, 0, 0, 1, 0, 32, fun i _ => [Reg.DBG_CCc_STAT.HALTED i, Reg.DBG_CCc_STAT.PATH i, Reg.DBG_CCc_STAT.LOCKS i]⟩,
  ⟨0x1600300, 4, 2, 0, 0, 1, 0, 32, fun i _ => [Reg.DBG_LOCK_STATi.HELD_B i]⟩,
  ⟨0x1600308, 4, 2, 0, 0, 1, 0, 32, fun i _ => [Reg.DBG_LOCK_OWNi.STBY_B i]⟩]

/-- Every register of the block DBG. -/
def regRowsDbg : List RegRow := regRowsDbg0

end Sys2Proof.Machine
end

