-- ==== Sys2Proof/Machine/State.lean ====
section
/-! DEFINITION. The state of the block, its value when PORST_N is released, and the reasons a command can stop. -/

namespace Sys2Proof.Machine

/-- What is common to every block: ticks elapsed since power-on (never loaded, unlike SYS_TICK_NOW), the count from which
free values are drawn, and the functions of 64-bit registers' read latches and held words. -/
structure CoreS where
  ticks : Nat
  free : Nat
  latch : Tab Nat
  lowHeld : Tab Nat
deriving DecidableEq, Repr, Inhabited

/-- The block's state. `regs` holds every register field that does not hold its reset value (key `Fld.key`); `inForce` the
values still in force of tick-aligned fields written since the last boundary (R16). -/
structure State where
  regs : Tab Nat
  inForce : Tab Nat
  core : CoreS
  time : TimeS
  clock : ClkS
  rsi : RsiS
  prsm : PrsmS
  rx : RxS
  mac : MacS
  txc : TxcS
  hif : HifS
  tm : TmS
  fwd : FwdS
  fld : FldS
  sec : SecS
  kv : KvS
  wdn : WdnS
  mir : MirS
  fw : FwS
  lc : LcS
  otp : OtpS
  pwr : PwrS
  dbg : DbgS
  lpe : LpeS
  mem : MemS
  out : List Output
  pending : List Instr
deriving DecidableEq, Repr, Inhabited

/-- The block when PORST_N is released (R12): every register field holds its reset value, every table and queue is empty, and no
block has begun to work. The synthesizer has its boot plan (R374), the composition intake is open (R34), the vault holds KEK_D and a
seeded DRBG (R240, R245) and slot 0 (R230), the pins are at rest. The fuses are those of the part modelled (log entry 4); its flash is
readable and blank (log entry 35). -/
def State.reset : State where
  regs := []
  inForce := []
  core := { ticks := 0, free := 0, latch := [], lowHeld := [] }
  time := default
  clock := { (default : ClkS) with n := 192, icp := 15, pre := 1, rdiv := 1 }
  rsi := default
  prsm := default
  rx := default
  mac := default
  txc := default
  hif := { (default : HifS) with intakeOpen := true, pcie := PcieS.atReset }
  tm := default
  fwd := default
  fld := default
  sec := default
  kv := { (default : KvS) with kekD := true, drbg := true
                               slots := [(0, { (default : Slot) with active := true, usage := .unwrap, imported := true, tenant := 256 })] }
  wdn := default
  mir := default
  fw := { (default : FwS) with flash := true }
  lc := default
  otp := { epoch := Config.epochFuses, svn := Config.svnFuses, pairs := [], pay0 := .blank, pay1 := .blank }
  pwr := default
  dbg := default
  lpe := default
  mem := default
  out := []
  pending := []

/-- Why a command faults. No command of this block ends in a fault; the type has the one constructor that names an
impossible stop. -/
inductive Fault where
  /-- Raised by no command. Safe. -/
  | none
deriving DecidableEq, Repr

/-- Why a command is refused. -/
inductive Refusal where
  /-- The command has no meaning in this model yet. Raised by the dispatch only. Safe: the model stops. -/
  | notModelled (mnemonic : String)
deriving DecidableEq, Repr

end Sys2Proof.Machine
end

