-- ==== Sys2Proof/Machine/Ops.lean ====
section
/-! DEFINITION. The shared operations over the register store, the clock and the outputs. Every meaning reads and writes
register fields through these. -/

namespace Sys2Proof.Machine

/-! ## Fields -/

/-- What a read of the field returns (R9, R12): the stored value, or the reset value where none is stored. -/
def State.get (s : State) (f : Fld) : Nat := (s.regs.find? f.key).getD f.rst

/-- The value in force (R16): for a tick-aligned field written since the last boundary, the value from before the write. -/
def State.eff (s : State) (f : Fld) : Nat := (s.inForce.find? f.key).getD (s.get f)

/-- One-bit fields as truth values: as stored, and in force. -/
def State.on (s : State) (f : Fld) : Bool := s.get f != 0
def State.effOn (s : State) (f : Fld) : Bool := s.eff f != 0

/-- The store with a field holding the low bits of a value that fit it. A field at its reset value is not listed. -/
def regsPut (r : Tab Nat) (f : Fld) (v : Nat) : Tab Nat :=
  if v % 2 ^ f.w = f.rst then r.erase f.key else r.insert f.key (v % 2 ^ f.w)

/-- The part itself sets a field. -/
def State.put (s : State) (f : Fld) (v : Nat) : State := { s with regs := regsPut s.regs f v }

/-- The part sets a one-bit field. -/
def State.putB (s : State) (f : Fld) (b : Bool) : State := s.put f (b2n b)

/-- The host stores a field. Of a tick-aligned field the old value stays in force until the next boundary (R16). -/
def State.hostPut (s : State) (f : Fld) (v : Nat) : State :=
  if f.ta && (s.inForce.find? f.key).isNone then
    { s with inForce := s.inForce.insert f.key (s.get f), regs := regsPut s.regs f v }
  else { s with regs := regsPut s.regs f v }

/-- A saturating counter (the counter tables: 32 bits, saturating) goes up by `n`. -/
def State.incBy (s : State) (f : Fld) (n : Nat) : State := s.put f (min (s.get f + n) (2 ^ f.w - 1))

/-- A saturating counter goes up by one. -/
def State.inc (s : State) (f : Fld) : State := s.incBy f 1

/-- A counter that wraps goes up by one. -/
def State.incWrap (s : State) (f : Fld) : State := s.put f (s.get f + 1)

/-- Counts when a condition holds. -/
def State.incIf (s : State) (b : Bool) (f : Fld) : State := if b then s.inc f else s

/-- Adds an integer to a field read as two's complement. -/
def State.getS (s : State) (f : Fld) : Int := toSigned f.w (s.get f)
def State.effS (s : State) (f : Fld) : Int := toSigned f.w (s.eff f)
def State.putS (s : State) (f : Fld) (v : Int) : State := s.put f (ofSigned f.w v)

/-! ## Time -/

/-- The tick count (SYS_TICK_NOW, R18). -/
def State.tick (s : State) : Nat := s.get Reg.SYS_TICK_NOW.TICK

/-- The tick-offset counter (SYS_TICK_OFFSET, R17). -/
def State.ofs (s : State) : Nat := s.get Reg.SYS_TICK_OFFSET.CLOCKS

/-- Processing clocks elapsed since power-on. -/
def State.clk (s : State) : Nat := s.core.ticks * Config.tickClocks + s.ofs

/-- Microseconds, milliseconds and seconds elapsed since power-on, each rounded down (8 ticks make 1 ms, 8,000 make 1 s). -/
def State.ms (s : State) : Nat := s.core.ticks / 8
def State.secs (s : State) : Nat := s.core.ticks / 8000

/-- A command that names the tick offset at which it happens moves the tick-offset counter there; the counter never goes
back in a tick and stays below 122,880 (R17). -/
def State.at (s : State) (ofs : Nat) : State :=
  s.put Reg.SYS_TICK_OFFSET.CLOCKS (max s.ofs (min ofs (Config.tickClocks - 1)))

/-- Units of Reticle time: 2^−48 ns, and a second in them (R342). -/
def unitNs : Nat := 2 ^ 48
def unitSec : Nat := 1000000000 * unitNs

/-- How far Reticle time advances in `n` processing clocks at rate correction `y` in ppb (R342). -/
def advance (n : Nat) (y : Rat) : Nat :=
  if y = 0 then n * 3125 * unitNs / 3072 else (((n * 3125 * unitNs : Nat) : Rat) / 3072 * (1 + y / 1000000000)).floor.toNat

/-- Reticle time at the current processing clock in units of 2^−48 ns (R341, R342, R345). -/
def State.now (s : State) : Nat :=
  (s.time.sec * 1000000000 + s.time.ns) * unitNs + s.time.frac + (if s.time.going then advance s.ofs s.time.rate else 0)

/-- The seconds, the nanoseconds and the fraction in 2^−16 ns of a Reticle time, and the time in 2^−16 ns. -/
def secOf (t : Nat) : Nat := t / unitSec % 2 ^ 48
def nsOf (t : Nat) : Nat := t % unitSec / unitNs
def fracOf (t : Nat) : Nat := t % unitNs / 2 ^ 32
def in16 (t : Nat) : Nat := t / 2 ^ 32

/-- The seconds of Reticle time now. -/
def State.nowSec (s : State) : Nat := secOf s.now

/-! ## Loupe (R489 to R491) -/

/-- A Loupe counter, 48 bits and saturating. Loupe stands still while PD30 is off. -/
def lpeBy (id n : Nat) (s : State) : State :=
  if s.pwr.off.contains 30 then s
  else { s with lpe := { s.lpe with cnt := s.lpe.cnt.set id (min (s.lpe.cnt.get id + n) (2 ^ 48 - 1)) } }
def lpe (id : Nat) (s : State) : State := lpeBy id 1 s

/-- A sample of a histogram adds 1 to its bin. -/
def lpeHist (id bin : Nat) (s : State) : State := lpe (0x10000 + 32 * id + min bin 31) s

/-! ## Outputs and outcomes -/

/-- The part puts something out. -/
def State.emit (s : State) (o : Output) : State := { s with out := s.out ++ [o] }

/-- Draws the next number from the free-value count (log entry 3). -/
def State.drawn (s : State) : State := { s with core := { s.core with free := s.core.free + 1 } }

/-- What the one-time-programmable memory holds after a command: fuses and record pairs that were in use stay so (R245, R440, R451). -/
def OtpS.keep (old new : OtpS) : OtpS :=
  { new with epoch := max old.epoch new.epoch, svn := max old.svn new.svn,
             pairs := if new.pairs.length < old.pairs.length then old.pairs else new.pairs }

/-- What every command leaves alone: the queue is not the command's to change, and what is programmed once stays. -/
def settle (s t : State) : State := { t with pending := s.pending, otp := s.otp.keep t.otp }

/-- A command's effect as an outcome: the outputs of the command before are gone, those of this one are listed. While PORST_N is low
the part does nothing (R510, log entry 34). -/
def run (f : State → State) (s : State) : Host.Outcome State Fault Refusal :=
  .next (settle s (if s.pwr.porstLow then { s with out := [] } else f { s with out := [] }))

/-- The effect of a command at a supply or at PORST_N or TAMPER_N, which act at all times. -/
def runPin (f : State → State) (s : State) : Host.Outcome State Fault Refusal := .next (settle s (f { s with out := [] }))

/-- Runs a list of steps in order. -/
def steps (l : List (State → State)) (s : State) : State := l.foldl (fun t f => f t) s

/-- Runs a step for each number of a list in order. -/
def forEach {α : Type} (l : List α) (f : α → State → State) (s : State) : State := l.foldl (fun t a => f a t) s

/-- Runs a step under a condition. -/
def when (b : Bool) (f : State → State) (s : State) : State := if b then f s else s

/-- Element `i` of a list with `x` in its place; the list is first filled up with `d` to hold it. -/
def listSet {α : Type} (l : List α) (d : α) (i : Nat) (x : α) : List α :=
  (l ++ List.replicate (i + 1 - l.length) d).set i x

/-- Whether a number list holds a number, and the list with it put in or taken out (no repeats). -/
def setAdd (l : List Nat) (i : Nat) : List Nat := if l.contains i then l else l ++ [i]
def setDel (l : List Nat) (i : Nat) : List Nat := l.filter (fun j => j != i)

/-- `n` octets of a number, the least significant first, as every multi-octet field of a burst is (R403). -/
def octetsLe (n v : Nat) : List Nat := (List.range n).map (fun i => v / 256 ^ i % 256)

end Sys2Proof.Machine
end

