-- ==== Sys2Proof/Machine/Access.lean ====
section
/-! DEFINITION. Access to the register windows of blocks whose power domain is off (R38, R39, R454). -/

namespace Sys2Proof.Machine

/-- The power domains that hold the register at a PF BAR0 address (R454): it answers while one of them is on. Blocks of PD00 have
none listed. The tuners of a quadrant are taken to be 32 in order (log entry 14). -/
def windowDomains (a : Nat) : List Nat :=
  let o := a % 0x100000
  match a / 0x100000 with
  | 3 => [29]
  | 5 => [31]
  | 6 => if 0x2000 ≤ o then [31] else if 0x1000 ≤ o then [11 + min 127 ((o - 0x1000) / 0x10) / 32] else [11 + min 7 (o / 0x40) / 2]
  | 7 => if 0x8000 ≤ o then [3] else [3 + o / 0x1000]
  | 8 => [15]
  | 9 => [17]
  | 10 => if 0x2000 ≤ o && decide (o < 0x4000) then [3 + min 127 ((o - 0x2000) / 0x20) / 16] else [3]
  | 11 => [18]
  | 13 => if 0x140 ≤ o && decide (o < 0x180) then [21] else [20]
  | 14 => [20]
  | 15 => [22]
  | 16 => [22]
  | 17 => [23]
  | 18 => [24]
  | 19 => [25]
  | 20 => [26]
  | 21 => [30]
  | 22 => [30]
  | 24 => [1, 2]
  | _ => []

/-- The window at an address answers. -/
def windowOn (s : State) (a : Nat) : Bool :=
  let d := windowDomains a
  d.isEmpty || d.any (fun k => !s.pwr.off.contains k)

/-- A write to the window of a block that is off is ignored and counted; otherwise it does what it does (R39). -/
def regAccess (a : Nat) (f : State → State) (s : State) : State :=
  if windowOn s a then f s else s.inc Reg.HIF_PD_OFF_ACC.CNT

end Sys2Proof.Machine
end

