-- ==== Sys2Proof/Machine/Ldpc.lean ====
section
/-! DEFINITION. The LDPC codes of the LD PHY, their decoder, and the checks of a header and a payload (R119, R121, R128 to R132,
R136). -/

namespace Sys2Proof.Machine

/-- The header code (R129): rows of block column and shift. -/
def baseHdr : List (List (Nat × Nat)) :=
  [[(0, 3), (1, 11), (3, 1), (4, 0)],
   [(1, 6), (2, 14), (4, 0), (5, 0)],
   [(0, 9), (2, 1), (5, 0), (6, 0)],
   [(0, 13), (1, 4), (6, 0), (7, 0)],
   [(1, 15), (2, 7), (3, 0), (7, 0), (8, 0)],
   [(0, 0), (2, 10), (8, 0), (9, 0)],
   [(0, 5), (1, 8), (9, 0), (10, 0)],
   [(1, 2), (2, 12), (10, 0), (11, 0)],
   [(0, 14), (2, 6), (3, 1), (11, 0)]]

/-- The rate-1/2 payload code (R130). -/
def base12 : List (List (Nat × Nat)) :=
  [[(0, 17), (2, 42), (4, 5), (7, 58), (9, 30), (11, 11), (12, 1), (13, 0)],
   [(1, 23), (3, 9), (5, 50), (8, 36), (10, 2), (13, 0), (14, 0)],
   [(0, 61), (2, 14), (6, 27), (8, 45), (11, 8), (14, 0), (15, 0)],
   [(1, 33), (4, 56), (5, 19), (7, 3), (9, 47), (10, 25), (15, 0), (16, 0)],
   [(0, 12), (3, 38), (6, 52), (9, 21), (11, 60), (16, 0), (17, 0)],
   [(2, 29), (4, 7), (7, 44), (8, 16), (10, 55), (17, 0), (18, 0)],
   [(0, 4), (1, 48), (5, 31), (6, 13), (9, 62), (11, 26), (12, 0), (18, 0), (19, 0)],
   [(2, 39), (3, 20), (7, 1), (8, 57), (10, 34), (19, 0), (20, 0)],
   [(0, 51), (4, 24), (5, 10), (6, 41), (11, 18), (20, 0), (21, 0)],
   [(1, 6), (2, 59), (3, 28), (8, 15), (9, 40), (10, 49), (21, 0), (22, 0)],
   [(0, 35), (4, 46), (6, 22), (7, 63), (10, 0), (22, 0), (23, 0)],
   [(1, 53), (3, 32), (5, 43), (9, 37), (11, 22), (12, 1), (23, 0)]]

/-- The rate-2/3 payload code (R131). -/
def base23 : List (List (Nat × Nat)) :=
  [[(0, 25), (1, 3), (3, 47), (5, 18), (7, 60), (9, 9), (12, 33), (14, 52), (16, 1), (17, 0)],
   [(2, 41), (4, 14), (6, 57), (8, 6), (10, 29), (11, 50), (13, 21), (15, 38), (17, 0), (18, 0)],
   [(0, 8), (2, 55), (3, 19), (6, 34), (8, 62), (9, 11), (13, 45), (14, 27), (18, 0), (19, 0)],
   [(1, 36), (4, 2), (5, 59), (7, 23), (10, 48), (11, 15), (12, 40), (15, 7), (19, 0), (20, 0)],
   [(0, 53), (1, 20), (4, 44), (6, 12), (9, 31), (10, 58), (13, 4), (15, 26), (16, 0), (20, 0), (21, 0)],
   [(2, 17), (3, 61), (5, 30), (7, 10), (8, 39), (11, 24), (12, 1), (14, 46), (21, 0), (22, 0)],
   [(0, 37), (2, 5), (5, 43), (7, 28), (9, 56), (10, 13), (12, 22), (15, 51), (22, 0), (23, 0)],
   [(1, 63), (3, 32), (4, 26), (6, 49), (8, 16), (11, 42), (13, 35), (14, 0), (16, 1), (23, 0)]]

/-- The rate-5/6 payload code (R132). -/
def base56 : List (List (Nat × Nat)) :=
  [[(1, 13), (2, 48), (3, 27), (5, 5), (6, 60), (7, 34), (9, 19), (10, 42), (11, 8), (13, 55), (14, 31), (15, 2), (17, 46), (18, 23), (19, 57), (20, 1), (21, 0)],
   [(0, 40), (2, 9), (3, 62), (4, 17), (6, 28), (7, 51), (8, 3), (10, 36), (11, 14), (12, 59), (14, 22), (15, 45), (16, 11), (18, 33), (19, 6), (21, 0), (22, 0)],
   [(0, 21), (1, 54), (3, 38), (4, 1), (5, 47), (7, 12), (8, 29), (9, 63), (11, 16), (12, 7), (13, 39), (15, 26), (16, 52), (17, 4), (19, 30), (20, 0), (22, 0), (23, 0)],
   [(0, 58), (1, 24), (2, 35), (4, 43), (5, 10), (6, 18), (8, 49), (9, 0), (10, 61), (12, 32), (13, 15), (14, 53), (16, 37), (17, 20), (18, 44), (20, 1), (23, 0)]]

/-- A code's base matrix, its lifting size and its length: 0 header, 1 rate 1/2, 2 rate 2/3, 3 rate 5/6. -/
def ldpcBase (code : Nat) : List (List (Nat × Nat)) :=
  match code with
  | 0 => baseHdr
  | 1 => base12
  | 2 => base23
  | _ => base56
def ldpcZ (code : Nat) : Nat := if code = 0 then 16 else 64
def ldpcN (code : Nat) : Nat := if code = 0 then 192 else 1536

/-- Row `i` of a layer: the bits it checks (R128). -/
def ldpcRow (z : Nat) (layer : List (Nat × Nat)) (i : Nat) : List Nat := layer.map (fun e => e.1 * z + (i + e.2) % z)

/-- All rows of a code, layer by layer. -/
def ldpcRows (code : Nat) : List (List Nat) :=
  (ldpcBase code).flatMap (fun layer => (List.range (ldpcZ code)).map (ldpcRow (ldpcZ code) layer))

def ratAbs (x : Rat) : Rat := if x < 0 then -x else x

/-- Whether an odd number of values is negative. -/
def oddNeg (l : List Rat) : Bool := (l.filter (fun x => decide (x < 0))).length % 2 == 1

/-- The check message to one edge: 0.75 times the sign product and the least magnitude of the other edges (R136). -/
def chkMsg (q : List Rat) (i : Nat) : Rat :=
  let o := q.eraseIdx i
  let m := match o with
    | [] => 0
    | x :: l => l.foldl (fun a y => min a (ratAbs y)) (ratAbs x)
  if oddNeg o then -(3 / 4) * m else 3 / 4 * m

/-- One row: its check messages and the values of its bits. -/
def ldpcStep (llr : List Rat) (row : List Nat) (chk : List Rat) : List Rat × List Rat :=
  let q := (List.range row.length).map (fun i => llr.getD (row.getD i 0) 0 - chk.getD i 0)
  let c := (List.range row.length).map (chkMsg q)
  let llr' := (List.range row.length).foldl (fun l i => l.set (row.getD i 0) (q.getD i 0 + c.getD i 0)) llr
  (llr', c)

/-- One iteration: every row once, in order. -/
def ldpcIter (rows : List (List Nat)) (llr : List Rat) (chk : List (List Rat)) : List Rat × List (List Rat) :=
  (rows.zip chk).foldl (fun a rc => let (l, c) := ldpcStep a.1 rc.1 rc.2; (l, a.2 ++ [c])) (llr, [])

def hardBits (llr : List Rat) : List Bool := llr.map (fun x => decide (x < 0))

def parityOk (rows : List (List Nat)) (bits : List Bool) : Bool :=
  rows.all (fun r => (r.filter (fun i => bits.getD i false)).length % 2 == 0)

/-- Iterations until the parity checks hold or the limit is reached: how many ran, whether the codeword converged, and the bits
decided. -/
def ldpcLoop (rows : List (List Nat)) : (fuel done : Nat) → List Rat → List (List Rat) → Nat × Bool × List Bool
  | 0, done, llr, _ => (done, false, hardBits llr)
  | fuel + 1, done, llr, chk =>
    let (l, c) := ldpcIter rows llr chk
    if parityOk rows (hardBits l) then (done + 1, true, hardBits l) else ldpcLoop rows fuel (done + 1) l c

/-- Layered min-sum on a code's soft values, each a signed byte saturated at ±127 (R136). -/
def ldpcDecode (code limit : Nat) (soft : List Int) : Nat × Bool × List Bool :=
  let rows := ldpcRows code
  let llr : List Rat := soft.map (fun x => ((max (-127) (min 127 x) : Int) : Rat))
  ldpcLoop rows limit 0 llr (rows.map (fun r => r.map (fun _ => 0)))

/-- Soft values of a payload codeword with its fill bits in place (R122, R136). -/
def withFill (k bits : Nat) (soft : List Int) : List Int := soft.take bits ++ List.replicate (k - bits) 127 ++ soft.drop bits

/-- Bits, first the least significant, as a number. -/
def bitsNat (l : List Bool) : Nat := l.foldr (fun b a => b2n b + 2 * a) 0

/-- HCRC of the header bits h0 to h37 (R119). -/
def hcrc (h : List Bool) : Nat :=
  (h.take 38).foldl (fun crc b =>
    let fb := bitAt crc 9 != b
    let c := crc * 2 % 1024
    if fb then c ^^^ 0x233 else c) 0x3FF

def hcrcOk (h : List Bool) : Bool := hcrc h == bitsNat ((h.drop 38).take 10)

/-- Header fields (R118). -/
def hVer (h : List Bool) : Nat := bitsNat (h.take 2)
def hPm (h : List Bool) : Nat := bitsNat ((h.drop 2).take 3)
def hLen (h : List Bool) : Nat := bitsNat ((h.drop 5).take 11)
def hDir (h : List Bool) : Bool := h.getD 16 false
def hAr (h : List Bool) : Bool := h.getD 17 false
def hNode (h : List Bool) : Nat := bitsNat ((h.drop 18).take 18)

/-- The 32-bit CRC of IEEE 802.3 over octets (R121). -/
def crc32Octet (c x : Nat) : Nat :=
  (List.range 8).foldl (fun c _ => if c % 2 = 1 then (c / 2) ^^^ 0xEDB88320 else c / 2) (c ^^^ x)
def crc32 (l : List Nat) : Nat := (l.foldl crc32Octet 0xFFFFFFFF) ^^^ 0xFFFFFFFF

/-- The two-octet FCS of IEEE 802.15.4 over octets, the CRC of x^16 + x^12 + x^5 + 1 from 0, least significant bits first (R83; PRESUMED, log
entry 8: the standard's, which the spec names). -/
def crc16Octet (c x : Nat) : Nat :=
  (List.range 8).foldl (fun c _ => if c % 2 = 1 then (c / 2) ^^^ 0x8408 else c / 2) (c ^^^ x)
def crc16 (l : List Nat) : Nat := l.foldl crc16Octet 0

/-- The octets of a payload bit stream, each least significant bit first. -/
def streamOctets (n : Nat) (bits : List Bool) : List Nat := (List.range n).map (fun i => bitsNat ((bits.drop (8 * i)).take 8))

/-- The frame CRC of a payload bit stream of `len` PSDU octets matches. -/
def frameCrcOk (len : Nat) (bits : List Bool) : Bool :=
  let o := streamOctets (len + 4) bits
  crc32 (o.take len) == (o.drop len).foldr (fun x a => x + 256 * a) 0

/-- Data bits of payload codeword `c` of `n` that carry `b` bits (R122). -/
def cwBits (b n c : Nat) : Nat := b / n + (if c < b - n * (b / n) then 1 else 0)

end Sys2Proof.Machine
end

