-- ==== Sys2Proof/Machine/LdFrame.lean ====
section
/-! DEFINITION. The LD frame as chips, from its fields to its symbols, and back from chips to soft values (R111 to R126). -/

namespace Sys2Proof.Machine

/-- k of a payload mode, its spreading factor, and the code (0 header, 1 rate 1/2, 2 rate 2/3, 3 rate 5/6) (R114). -/
def ldK (pm : Nat) : Nat := [768, 768, 1024, 768, 1024, 768, 1024, 1280].getD pm 768
def ldSf (pm : Nat) : Nat := [8, 4, 4, 2, 2, 1, 1, 1].getD pm 8
def ldCode (pm : Nat) : Nat := [1, 1, 2, 1, 2, 1, 2, 3].getD pm 1

/-- Payload codewords C and chips of a PSDU of `len` octets (R122, R126, R127). -/
def ldCws (pm len : Nat) : Nat := (8 * (len + 4) + ldK pm - 1) / ldK pm
def ldPay (pm len : Nat) : Nat := 8 * (len + 4) + ldCws pm len * (1536 - ldK pm)
def ldChips (npre pm len : Nat) : Nat :=
  let d := 768 + ldSf pm * ldPay pm len
  64 * npre + 32 + d + 16 * ((d - 1) / 240)

/-! ## Sequences (R116, R117, R125) -/

/-- Bits of a number, the least significant first. -/
def bitsLsb (n v : Nat) : List Bool := (List.range n).map (bitAt v)

/-- The m-sequence of x^6 + x + 1: s[n+6] = s[n+1] XOR s[n], bit 0 of the state being s[n]. -/
def mSeq : (n st : Nat) → List Bool
  | 0, _ => []
  | n + 1, st => bitAt st 0 :: mSeq n (st / 2 + 32 * b2n (bitAt st 1 != bitAt st 0))

/-- P: 63 chips of the m-sequence from state 1, and a 0 chip (R116). -/
def ldP : List Bool := mSeq 63 1 ++ [false]

/-- The sync words (R117), bit 31 first. -/
def syncUp : Nat := 0x3B5CA1E4
def syncDn : Nat := 0xA4E35C1B
def syncChips (w : Nat) : List Bool := (bitsLsb 32 w).reverse

/-- One step of the scrambler of R125: its output and its next state. -/
def scramOut (st : Nat) : Bool := bitAt st 8 != bitAt st 4
def scramStep (st : Nat) : Nat := (2 * st + b2n (scramOut st)) % 512

/-- The scrambler's output from a state on, and its state after a number of data chips. -/
def scramSeq : (n st : Nat) → List Bool
  | 0, _ => []
  | n + 1, st => scramOut st :: scramSeq n (scramStep st)
def scramAfter : (n st : Nat) → Nat
  | 0, st => st
  | n + 1, st => scramAfter n (scramStep st)
def scramSeed : Nat := 0x1FF

/-! ## Header and payload bits (R118, R119, R121 to R123, R128) -/

/-- The 48 header bits with HCRC. -/
def headerBits (pm len : Nat) (dir ar : Bool) (node : Nat) : List Bool :=
  let h := bitsLsb 2 0 ++ bitsLsb 3 pm ++ bitsLsb 11 len ++ [dir, ar] ++ bitsLsb 18 node ++ [false, false]
  h ++ bitsLsb 10 (hcrc h)

/-- The sum over GF(2) of some bits of a codeword; a bit that the list does not reach is 0. -/
def xorAt (x : List Bool) (ix : List Nat) : Bool := ix.foldl (fun a i => a != x.getD i false) false

/-- The codeword of an information part (R128): all block rows together give the first parity block, then each row the next one. -/
def ldpcEncode (code : Nat) (info : List Bool) : List Bool :=
  let z := ldpcZ code
  let base := ldpcBase code
  let p0 := (List.range z).map (fun i => base.foldl (fun a row => a != xorAt info (ldpcRow z row i)) false)
  base.dropLast.foldl (fun x row => x ++ (List.range z).map (fun i => xorAt x (ldpcRow z row i))) (info ++ p0)

/-- The payload bit stream of a PSDU (R121). -/
def payloadBits (psdu : List Nat) : List Bool :=
  psdu.flatMap (bitsLsb 8) ++ bitsLsb 32 (crc32 psdu)

/-- The first data bit of payload codeword `c` (R122). -/
def cwStart (b n c : Nat) : Nat := c * (b / n) + min c (b - n * (b / n))

/-- What codeword `c` of a payload sends: its data bits and its parity part, the fill bits left out (R122). -/
def payloadCw (pm n : Nat) (stream : List Bool) (c : Nat) : List Bool :=
  let k := ldK pm
  let d := (stream.drop (cwStart stream.length n c)).take (cwBits stream.length n c)
  d ++ (ldpcEncode (ldCode pm) (d ++ List.replicate (k - d.length) false)).drop k

/-! ## Chips (R111, R124 to R126) -/

def spread (sf : Nat) (l : List Bool) : List Bool := l.flatMap (fun b => List.replicate sf b)

/-- The data chips of a frame before scrambling: the header spread by 4, the payload by its mode's factor. -/
def dataChips (pm : Nat) (hdr : List Bool) (psdu : List Nat) : List Bool :=
  let stream := payloadBits psdu
  let n := ldCws pm psdu.length
  spread 4 (ldpcEncode 0 hdr) ++ spread (ldSf pm) ((List.range n).flatMap (payloadCw pm n stream))

def scramble (l : List Bool) : List Bool := (l.zip (scramSeq l.length scramSeed)).map (fun x => x.1 != x.2)

/-- A pilot field follows every 240th data chip that has one after it (R126). -/
def withPilots : (fuel : Nat) → List Bool → List Bool
  | 0, l => l
  | f + 1, l => if l.length ≤ 240 then l else l.take 240 ++ ldP.take 16 ++ withPilots f (l.drop 240)

/-- The chips of a frame the part sends: DIR = 1 and SYNC_DN (R111, R117, R118). -/
def ldFrame (npre pm : Nat) (ar : Bool) (node : Nat) (psdu : List Nat) : List Bool :=
  let d := scramble (dataChips pm (headerBits pm psdu.length true ar node) psdu)
  (List.replicate npre ldP).flatten ++ syncChips syncDn ++ withPilots (d.length / 240) d

/-! ## Symbols (R112) -/

/-- j^i times a complex number. -/
def turn (i : Nat) (x : Cpx) : Cpx :=
  match i % 4 with
  | 0 => x
  | 1 => (-x.2, x.1)
  | 2 => (-x.1, -x.2)
  | _ => (x.2, -x.1)

/-- a_i = (1 − 2c_i) · j^i of the chips from number `i` on. -/
def ldSyms (i : Nat) (chips : List Bool) : List Cpx := chips.zipIdx.map (fun x => turn (i + x.2) (if x.1 then (-1, 0) else (1, 0)))

/-- s(t) at t = n · Tc / 2, as the factors of 1 and of √½: p is √½ half a chip and one and a half chips after a chip's start, and 1 one
chip after it. `a` are the symbols and the last one of them goes before the first, as in a run of preamble repetitions. -/
def halfSine (a : List Cpx) : List (Cpx × Cpx) :=
  (List.range a.length).flatMap (fun i =>
    let x := a.getD i (0, 0)
    let y := a.getD ((i + a.length - 1) % a.length) (0, 0)
    [(y, (0, 0)), ((0, 0), (x.1 + y.1, x.2 + y.2))])

/-- The detection reference: one repetition of P at two samples a chip (R116). -/
def ldRef : List (Cpx × Cpx) := halfSine (ldSyms 0 ldP)

/-! ## Soft values (R91, R124 to R126, R136) -/

/-- Place of a data chip among the chips from the first header chip on, pilot fields counted. -/
def chipPlace (d : Nat) : Nat := d + 16 * (d / 240)

def ratConjMul (h x : Cpx) : Rat × Rat := (((h.1 * x.1 + h.2 * x.2 : Int) : Rat), ((h.1 * x.2 - h.2 * x.1 : Int) : Rat))

/-- A stream's part in the combined sample: conj(h) / σ² times the sample, nothing for an INVALID stream (R91, R93). -/
def weighed (valid : Bool) (h : Cpx) (var : Nat) (x : Cpx) : Rat × Rat :=
  if valid then let y := ratConjMul h x; (y.1 / max 1 var, y.2 / max 1 var) else (0, 0)

/-- The soft value of chip `i` from the combined sample, positive for chip value 0: the part of z · j^(−i) on the real axis. -/
def chipSoft (i : Nat) (z : Rat × Rat) : Int :=
  rounded (Config.softGain * (match i % 4 with
    | 0 => z.1
    | 1 => z.2
    | 2 => -z.1
    | _ => -z.2))

/-- Soft values of the coded bits whose data chips begin at number `d`, from those of the chips received from there on: pilots stripped,
descrambled, and the SF chips of each bit summed, saturated at ±127. -/
def despread (sf d n : Nat) (chips : List Int) : List Int :=
  let scram := scramSeq (sf * n) (scramAfter d scramSeed)
  (List.range n).map (fun b => max (-127) (min 127 ((List.range sf).foldl (fun a j =>
    let i := sf * b + j
    let c := chips.getD (chipPlace (d + i) - chipPlace d) 0
    a + (if scram.getD i false then -c else c)) 0)))

/-- The first data chip of the payload codeword `c` of a frame (R122, R123). -/
def cwChip (pm len c : Nat) : Nat :=
  768 + ldSf pm * (cwStart (8 * (len + 4)) (ldCws pm len) c + c * (1536 - ldK pm))

end Sys2Proof.Machine
end

