-- ==== Sys2Proof/Machine/Layouts.lean ====
section
/-! DEFINITION. Records, packets and ring entries as the 32-bit words that pass between the part and host memory (R108, R242, R300, R303 to R315,
R339). -/

namespace Sys2Proof.Machine

/-- The sixteen words of a metadata record (R108). -/
def recPack (r : MetaRec) : List Nat :=
  [r.engine % 128 + 2 ^ 8 * (r.phy % 4) + 2 ^ 10 * (r.mode % 32) + 2 ^ 15 * b2n r.hdrOk + 2 ^ 16 * (r.status % 256) + 2 ^ 24 * b2n r.divv +
     2 ^ 25 * b2n r.captor + 2 ^ 26 * b2n r.isHeld + 2 ^ 27 * b2n r.sicRec + 2 ^ 28 * b2n r.specUsed + 2 ^ 29 * b2n r.specHit +
     2 ^ 30 * b2n r.specSquash,
   r.length % 2 ^ 16 + 2 ^ 16 * (r.tuner % 128) + 2 ^ 24 * (r.portA % 8) + 2 ^ 27 * (r.portB % 8) + 2 ^ 30 * (r.band % 4),
   r.rssi % 2 ^ 12 + 2 ^ 12 * (r.lqi % 256) + 2 ^ 20 * (r.snr % 2 ^ 12),
   r.cfo % 2 ^ 20 + 2 ^ 20 * (r.cfoDrift % 2 ^ 12),
   r.iterHdr % 256 + 2 ^ 8 * (r.iterMax % 256) + 2 ^ 16 * (r.iterSum % 2 ^ 12),
   r.cwCount % 2 ^ 12 + 2 ^ 16 * (r.fseq % 2 ^ 16),
   r.linkFseq % 2 ^ 16 + 2 ^ 16 * (r.capMargin % 256) + 2 ^ 24 * (r.sicOut % 8),
   r.tsNs % 2 ^ 30, r.tsSec % 2 ^ 32, r.tsSec / 2 ^ 32 % 2 ^ 16 + 2 ^ 16 * (r.tsFrac % 2 ^ 16), r.dueTick % 2 ^ 32, r.arrOfs % 2 ^ 32,
   r.rssiA % 2 ^ 12 + 2 ^ 12 * (r.rssiB % 2 ^ 12), r.timingDrift % 2 ^ 16, r.evm % 2 ^ 16, 0]

/-- Word `i` of a packet's octets, in their order from bits [7:0], the last word filled up with zeros. Of a packet that the part did not decompress the
model holds an IPv6 header's Traffic Class, payload length, hop limit and addresses; the other octets are free values (log entry 20). -/
def packetWord (p : Packet) (i : Nat) : Nat :=
  let f := if p.text.isEmpty then Config.pktWord p.body i else (List.range 4).foldl (fun a k => a + 256 ^ k * p.text.getD (4 * i + k) 0) 0
  let pay := p.len - 40
  let w := if !p.hasIp || 10 ≤ i then f
    else if i = 0 then 0x60 + p.tclass / 16 % 16 + 256 * (p.tclass % 16 * 16 + f % 16) + 65536 * (f / 65536 % 65536)
    else if i = 1 then pay / 256 % 256 + 256 * (pay % 256) + 65536 * (f / 65536 % 256) + 2 ^ 24 * (p.hlim % 256)
    else if i < 6 then bitsAt p.src (32 * (i - 2)) 32
    else bitsAt p.dst (32 * (i - 6)) 32
  if p.len ≤ 4 * i then 0 else w % 2 ^ (8 * min 4 (p.len - 4 * i))

/-- The words of a packet. -/
def packetWords (p : Packet) : List Nat := (List.range ((p.len + 3) / 4)).map (packetWord p)

/-- Word `i` of a node secret record (R242); the octets of a wrapped key are free values (log entry 33). -/
def secretWord (r : NodeSecret) (i : Nat) : Nat :=
  let key (w : WrappedKey) : List Nat := [w.kek, w.key, w.gen, b2n w.staged, w.endpoint]
  if i < 6 then Config.secretWord (key r.wkey) i
  else if i < 12 then r.wstg.elim 0 (fun w => Config.secretWord (key w) (i - 6))
  else if i = 12 then r.hw % 2 ^ 32
  else if i = 13 then r.gen % 256 + 256 * (b2n r.valid + 2 * b2n r.wstg.isSome) + 65536 * (r.tenant % 65536)
  else 0

/-- The words of a telemetry record without PHASE (R339). -/
def telPack (r : TelRec) : List Nat :=
  [r.tenant % 512 + 2 ^ 9 * b2n r.isTq + 2 ^ 10 * (r.queue % 32) + 2 ^ 15 * (r.port % 4) + 2 ^ 17 * b2n r.held, r.tick % 2 ^ 32,
   r.depthW % 2 ^ 18, r.maxW % 2 ^ 18, r.holUs % 2 ^ 32, r.arr % 2 ^ 16 + 2 ^ 16 * (r.dep % 2 ^ 16), r.drop % 2 ^ 16 + 2 ^ 16 * (r.depthP % 2 ^ 16),
   r.defer % 2 ^ 16]

/-- `n` words of a list, filled up with zeros. -/
def wordsTo (n : Nat) (l : List Nat) : List Nat := (List.range n).map (fun i => l.getD i 0)

/-- The words of a ring entry with PHASE 0, which is bit 31 of the last (R303, R307, R309, R311, R313, R314, R339). -/
def Entry.words : Entry → List Nat
  | .txcpl cookie status ring retries frags slot =>
    [cookie % 2 ^ 32, cookie / 2 ^ 32 % 2 ^ 32, status % 256 + 2 ^ 8 * (ring % 16) + 2 ^ 12 * (retries % 16) + 2 ^ 16 * (frags % 2 ^ 16), slot % 2 ^ 16]
  | .rxcpl slot frags len hasRec prio mpl status tenant tick =>
    [slot % 2 ^ 16 + 2 ^ 16 * (frags % 2 ^ 16),
     len % 2 ^ 11 + 2 ^ 11 * b2n hasRec + 2 ^ 12 * (prio % 8) + 2 ^ 15 * b2n mpl + 2 ^ 16 * (status % 256) + 2 ^ 24 * (tenant % 256), tick % 2 ^ 32, 0]
  | .cmdcpl tag code status result => (tag % 2 ^ 16 + 2 ^ 16 * (code % 256) + 2 ^ 24 * (status % 256)) :: (wordsTo 14 result ++ [0])
  | .evt code fn arg0 arg1 => [code % 256 + 2 ^ 8 * (fn % 512), arg0 % 2 ^ 32, arg1 % 2 ^ 32, 0]
  | .tel r => telPack r
  | .rev r => recPack r
  | .sbk endpoint r epoch tick =>
    (List.range 16).map (secretWord r) ++ wordsTo 16 [endpoint % 2 ^ 32, epoch % 256, tick % 2 ^ 32, tick / 2 ^ 32 % 2 ^ 32]

/-- Octets of an entry of a ring (R289). -/
def ringBytes (r : Nat) : Nat := [32, 32, 32, 32, 8, 128, 16, 16, 64, 16, 32, 64, 16, 128].getD r 0

/-- The descriptor that eight words hold (R300). -/
def descUnpack (d : RawDesc) : Desc :=
  let w (i : Nat) : Nat := d.words.getD i 0
  { addr := w 0 + 2 ^ 32 * w 1, ty := bitsAt (w 2) 28 4, len := bitsAt (w 2) 0 11, profile := bitsAt (w 2) 12 4, queue := bitsAt (w 2) 16 5,
    ar := bitAt (w 2) 24, lifetime := bitsAt (w 3) 0 16, cookie := w 4 + 2 ^ 32 * w 5, tenant := bitsAt (w 6) 0 8,
    pkt := d.pkt.map (fun p => { p with len := bitsAt (w 2) 0 11 }) }

/-- The header of a CMD entry (R310). The fields from byte 8 on, which have no places of their own in the spec, come with the command that carries it
out. -/
def cmdUnpack (w : List Nat) : CmdEntry :=
  { code := bitsAt (w.getD 0 0) 0 8, tag := bitsAt (w.getD 0 0) 16 16, tenant := bitsAt (w.getD 1 0) 0 8, asPf := bitAt (w.getD 1 0) 8 }

end Sys2Proof.Machine
end

