-- ==== Sys2Proof/Machine/HostOps.lean ====
section
/-! DEFINITION. Rings, completions, events, overruns and interrupts of the host interface (chapter 9, R23). -/

namespace Sys2Proof.Machine

/-! ## Rings -/

def ringTXCPL : Nat := 6
def ringRXCPL : Nat := 7
def ringCMDCPL : Nat := 8
def ringEVT : Nat := 9
def ringTEL : Nat := 10
def ringREV : Nat := 11
def ringEXC : Nat := 12
def ringSBK : Nat := 13

/-- Rings 0 to 5 are filled by the host, 6 to 13 by the part (R289). -/
def hostProduced (r : Nat) : Bool := r ≤ 5

/-- The function has the ring: rings 11 to 13 are the PF's only, 14 and 15 no function's (R289). -/
def ringExists (fn r : Nat) : Bool := if fn = 0 then r ≤ 13 else r ≤ 10

/-- A ring's size, 2^LOG2SZ with LOG2SZ from 6 to 16 (R290). -/
def ringSize (s : State) (fn r : Nat) : Nat := 2 ^ (min 16 (max 6 (s.get (Reg.HIF_Rr_CFG.LOG2SZ fn r))))

/-- The function is there: the PF, or a VF that the SR-IOV capability enables (R286), and not in D3hot, in which it neither answers nor sends
(PRESUMED, log entry 46). -/
def fnOn (s : State) (fn : Nat) : Bool :=
  (fn == 0 || (s.hif.pcie.vfEn && decide (fn ≤ s.hif.pcie.numVfs))) && !s.hif.pcie.d3.contains fn

/-- The ring is enabled and not stopped by an error (R297: STATE 1 is running), and its function is there. -/
def ringRunning (s : State) (fn r : Nat) : Bool :=
  fnOn s fn && ringExists fn r && s.on (Reg.HIF_Rr_CFG.EN fn r) && s.get (Reg.HIF_Rr_STAT.STATE fn r) == 1

/-- P − C modulo 2^32. -/
def posDiff (p c : Nat) : Nat := (p + 2 ^ 32 - c) % 2 ^ 32

/-- Free entries of a part-produced ring, by the consumer position of the last doorbell record read (R292). -/
def ringFree (s : State) (fn r : Nat) : Nat :=
  ringSize s fn r - posDiff (s.get (Reg.HIF_Rr_POS.POS fn r)) (s.get (Reg.HIF_Rr_HPOS.HPOS fn r))

/-- The MSI-X entry of a ring: a VEC beyond the function's table is treated as 0 (R316). -/
def ringVec (s : State) (fn r : Nat) : Nat :=
  let v := s.get (Reg.HIF_Rr_CFG.VEC fn r)
  if fn = 0 then v else if v < 7 then v else 0

/-- Changes what the host interface holds for a function. -/
def modFn (fn : Nat) (f : FnS → FnS) (s : State) : State :=
  { s with hif := { s.hif with fns := s.hif.fns.upd fn f } }

/-- Changes the PCI Express capabilities. -/
def modPcie (f : PcieS → PcieS) (s : State) : State := { s with hif := { s.hif with pcie := f s.hif.pcie } }

/-- A message of an MSI-X entry: sent, or pending while the entry or its function is masked; a function without MSI-X sends none (R316; PRESUMED, log
entry 46). -/
def msixSend (fn vec : Nat) (s : State) : State :=
  let x := s.hif.pcie.msix.get (256 * fn + vec)
  if !s.hif.pcie.msixOn.contains fn then s
  else if x.clear && !s.hif.pcie.msixMask.contains fn then s.emit (.msix fn vec x.addr x.data)
  else modPcie (fun c => { c with msix := c.msix.set (256 * fn + vec) { x with pend := true } }) s

/-- The host address of the slot of a position (R290). -/
def slotAddr (s : State) (fn r p : Nat) : Nat := s.get (Reg.HIF_Rr_BASE.ADDR fn r) / 4096 * 4096 + p % ringSize s fn r * ringBytes r

/-- Writes one entry at the producer position: first its other words, then the word that holds the phase of that pass. It is signalled at once, or with
the tick's message when COAL = 1 (R291, R316, R317). -/
def ringWrite (fn r : Nat) (e : Entry) (s : State) : State :=
  let p := s.get (Reg.HIF_Rr_POS.POS fn r)
  let phase := b2n (p / ringSize s fn r % 2 == 0)
  let a := slotAddr s fn r p
  let w := e.words
  let s := s.emit (.hostWrite fn a w.dropLast)
  let s := s.emit (.hostWrite fn (a + 4 * (w.length - 1)) [w.getLastD 0 + 2 ^ 31 * phase])
  let s := s.incWrap (Reg.HIF_Rr_POS.POS fn r)
  if s.on (Reg.HIF_Rr_CFG.COAL fn r) then modFn fn (fun q => { q with coal := setAdd q.coal r }) s
  else msixSend fn (ringVec s fn r) s

/-- The ring can take an entry now. -/
def ringTakes (s : State) (fn r : Nat) : Bool := ringRunning s fn r && decide (0 < ringFree s fn r)

/-! ## Tenants -/

/-- The function that serves a tenant: VF t + 1, or the PF under proxy (R286, R287). -/
def tenantFn (s : State) (t : Nat) : Nat := if s.on (Reg.HIF_Tt_CFG.PROXY t) then 0 else t + 1

/-- A tenant counter of 64 bits, saturating, at an offset of the counter page (R41, R340). -/
def tcntInc (t ofs n : Nat) (s : State) : State :=
  let k := t * 0x2000 + ofs
  { s with hif := { s.hif with tcnt := s.hif.tcnt.set k (min (s.hif.tcnt.get k + n) (2 ^ 64 - 1)) } }

/-- A function's counter: functions 1 to 256 have tenant counter pages, the PF has none (R41, and the tenant counter page of chapter 9). -/
def fnCnt (fn ofs n : Nat) (s : State) : State := if fn = 0 then s else tcntInc (fn - 1) ofs n s

/-! ## Events (R313) -/

/-- An event on one function: written to its EVT ring, or dropped and counted in EVT_LOST (R292, R305). -/
def raiseOn (fn code about a0 a1 : Nat) (s : State) : State :=
  if ringTakes s fn ringEVT then ringWrite fn ringEVT (.evt code about (a0 % 2 ^ 32) (a1 % 2 ^ 32)) s
  else fnCnt fn 0x2048 1 s

/-- An event on the PF about itself. -/
def raisePf (code a0 a1 : Nat) (s : State) : State := raiseOn 0 code 0 a0 a1 s

/-- An event on a tenant's function; under proxy it goes to the PF and names function t + 1. -/
def raiseTenant (t code a0 a1 : Nat) (s : State) : State := raiseOn (tenantFn s t) code (t + 1) a0 a1 s

/-- RING_ERR: the ring stops with a code, and the function and the PF hear of it (R297; DEDUCED: log entry 54). -/
def ringError (fn r code : Nat) (s : State) : State :=
  let s := (s.put (Reg.HIF_Rr_STAT.STATE fn r) 2).put (Reg.HIF_Rr_STAT.ERR fn r) code
  let s := fnCnt fn 0x2050 1 (s.inc Reg.HIF_RING_ERR.CNT)
  let s := if fn = 0 then s else raiseOn (tenantFn s (fn - 1)) 0x44 fn (r + 16 * code) fn s
  raiseOn 0 0x44 fn (r + 16 * code) fn s

/-- An access to LPDDR5X outside an OPEN window (R486): counted, and the first of a tick raises MEM_UNMAPPED with the low bits of the
refused address and the block's window code. `ix` is the record's place in window `w`. -/
def memRefuse (w ix code : Nat) (s : State) : State :=
  let s := s.inc Reg.MEM_UNMAPPED_CNT.CNT
  if s.mem.unmappedAt = some s.core.ticks then s
  else raisePf 0x48 (s.get (Reg.MEM_WINw_BASE.BASE w) * 2 ^ 26 + 64 * ix) code
    { s with mem := { s.mem with unmappedAt := some s.core.ticks } }

/-! ## Overruns (R23) -/

/-- An overrun sets its SYS_OVR_STAT bit and records the tick count in SYS_OVR_TICK. An enabled bit that becomes set raises
SYS_OVR on the PF (R313). -/
def overrun (bit : Fld) (s : State) : State :=
  let was := s.on bit
  let s := (lpe (0x010 + bit.lo) s)
  let s := (s.put bit 1).put Reg.SYS_OVR_TICK.TICK s.tick
  if !was && bitAt (s.get Reg.SYS_OVR_IRQ.EN) bit.lo then raisePf 0x40 (2 ^ bit.lo) (s.tick % 2 ^ 32) s else s

/-! ## Completions -/

/-- A descriptor's one completion (R303): written to TXCPL, held while the ring is off (R305), or discarded for a function
that was reset since the fetch (R285, R288). -/
def completeTx (d : DescRef) (status retries frags : Nat) (s : State) : State :=
  if d.discard then s else
  let s := modFn d.fn (fun q => { q with outstanding := q.outstanding - 1 }) s
  let s := tcntInc d.tenant (if status = 0 then 0x2018 else 0x2020) 1 s
  let e : Entry := .txcpl d.cookie status d.ring (min retries 15) (frags % 2 ^ 16) d.slot
  if ringTakes s d.fn ringTXCPL && (s.hif.fns.get d.fn).heldTx.isEmpty then ringWrite d.fn ringTXCPL e s
  else modFn d.fn (fun q => { q with heldTx := q.heldTx ++ [e] }) s

/-- A command's one completion (R311), under the same rules. -/
def completeCmd (fn tag code tenant status : Nat) (discard : Bool) (result : List Nat) (s : State) : State :=
  if discard then s else
  let s := modFn fn (fun q => { q with cmdOut := q.cmdOut - 1 }) s
  let s := if tenant < 256 then tcntInc tenant 0x2028 1 s else s
  let e : Entry := .cmdcpl tag code status (if status = 0 then result else [])
  if ringTakes s fn ringCMDCPL && (s.hif.fns.get fn).heldCmd.isEmpty then ringWrite fn ringCMDCPL e s
  else modFn fn (fun q => { q with heldCmd := q.heldCmd ++ [e] }) s

/-- The entries held for a ring that is enabled again go to it first, in the order in which they fell due, as far as it has room
(R305, R292). -/
def flushHeld (fn r : Nat) (s : State) : State :=
  if r = ringTXCPL then
    forEach (s.hif.fns.get fn).heldTx (fun e s =>
      if ringTakes s fn r then ringWrite fn r e (modFn fn (fun q => { q with heldTx := q.heldTx.drop 1 }) s) else s) s
  else if r = ringCMDCPL then
    forEach (s.hif.fns.get fn).heldCmd (fun e s =>
      if ringTakes s fn r then ringWrite fn r e (modFn fn (fun q => { q with heldCmd := q.heldCmd.drop 1 }) s) else s) s
  else s

/-! ## Command rings (R292, R302, R310) -/

def ringCMD : Nat := 5

/-- The tenant that a ring command acts for; 256 is the PF. -/
def CmdEntry.ten (e : CmdEntry) (fn : Nat) : Nat :=
  if fn = 0 then (if e.asPf && decide (0x41 ≤ e.code) then 256 else e.tenant) else fn - 1

/-- The code is one of R310's. -/
def cmdKnown (code : Nat) : Bool := (0x20 ≤ code && code ≤ 0x27) || (0x41 ≤ code && code ≤ 0x4B)

/-- CMD is running and CMDCPL has room for one command more than are fetched and not completed (R292). -/
def cmdRoom (s : State) (fn : Nat) : Bool :=
  ringRunning s fn ringCMD && ringRunning s fn ringCMDCPL && decide ((s.hif.fns.get fn).cmdOut < ringFree s fn ringCMDCPL)

/-- The entry at the front of CMD is fetched. -/
def cmdTake (fn : Nat) (s : State) : State :=
  let s := s.emit (.hostRead fn (slotAddr s fn ringCMD (s.get (Reg.HIF_Rr_POS.POS fn ringCMD))) (ringBytes ringCMD))
  modFn fn (fun q => { q with cmdQ := q.cmdQ.drop 1, cmdOut := q.cmdOut + 1 }) (s.incWrap (Reg.HIF_Rr_POS.POS fn ringCMD))

/-- Entries at the front that no unit takes: one that cannot be read stops the ring (R297), an unknown code completes BAD_PARAM
(R310), a command for a tenant without a host path DENIED (R287). -/
def cmdSettle (fn : Nat) : List (Option CmdEntry) → State → State
  | [], s => s
  | none :: _, s => modFn fn (fun q => { q with cmdQ := [] }) (ringError fn ringCMD 4 s)
  | some e :: l, s =>
    if !cmdRoom s fn then s
    else if !cmdKnown e.code then cmdSettle fn l (completeCmd fn e.tag e.code (e.ten fn) 0x31 false [] (cmdTake fn s))
    else if e.ten fn < 256 && !s.on (Reg.HIF_Tt_CFG.EN (e.ten fn)) then
      cmdSettle fn l (completeCmd fn e.tag e.code (e.ten fn) 0x30 false [] (cmdTake fn s))
    else s

/-- The command of a function that starts next, if it has the code given. -/
def cmdNext (s : State) (fn code : Nat) : Option CmdEntry :=
  match (s.hif.fns.get fn).cmdQ with
  | some e :: _ => if cmdRoom s fn && e.code == code then some e else none
  | _ => none

/-- A metadata record of a frame that is not released goes to the PF's REV ring, or is dropped and counted (R305, R309).
The PF has no EVT_LOST register to show it. -/
def revRecord (r : MetaRec) (s : State) : State :=
  if ringTakes s 0 ringREV then ringWrite 0 ringREV (.rev r) s else s

/-! ## Position records (R298) -/

/-- The sixteen positions of a function's rings as its position record shows them. -/
def positions (s : State) (fn : Nat) : List Nat :=
  (List.range 16).map (fun r => if ringExists fn r then s.get (Reg.HIF_Rr_POS.POS fn r) else 0)

/-- Writes a function's position record when a position has changed. -/
def posRecord (fn : Nat) (s : State) : State :=
  let w := positions s fn
  let old := (s.hif.fns.get fn).lastPos
  if w = (if old.isEmpty then List.replicate 16 0 else old) then s
  else (modFn fn (fun q => { q with lastPos := w }) s).emit (.hostWrite fn (s.get (Reg.HIF_FN_POSADDR.ADDR fn) / 64 * 64) w)

/-- The functions that are sampled (R295). -/
def activeFns (s : State) : List Nat :=
  (List.range 257).filter (fun f => fnOn s f && s.on (Reg.HIF_FN_CTRL.EN f))

/-- The functions that may have a position record or a message to write: those with a position, and those that the interface holds something for. -/
def posFns (s : State) : List Nat :=
  (List.range 257).filter (fun f => fnOn s f && ((s.hif.fns.find? f).isSome || (List.range 16).any (fun r => s.on (Reg.HIF_Rr_POS.POS f r))))

end Sys2Proof.Machine
end

