-- ==== Sys2Proof/Machine/QueueOps.lean ====
section
/-! DEFINITION. Priorities, admission, token buckets, schedulers and delivery (chapter 10, R306 to R308). -/

namespace Sys2Proof.Machine

/-- Words of 64 bytes that a number of octets fills. -/
def wordsOf (octets : Nat) : Nat := (octets + 63) / 64

/-- A packet's priority: PMAP of the top three bits of its Traffic Class; 0 without an IPv6 header (R319). -/
def priority (s : State) (t : Nat) (p : Packet) : Nat :=
  if p.hasIp then bitsAt (s.eff (Reg.TM_Tt_PMAP.MAP t)) (3 * (p.tclass / 32 % 8)) 3 else 0

/-- The TQ that a map register names for a priority (R320). -/
def mapQueue (map prio : Nat) : Nat := bitsAt map (5 * prio) 5

/-- TM_POOL.FREE as `n` words of the pool's 196,608 are in use: a composed frame may be larger than its reservation and than the pool (R322). -/
def poolUse (n : Nat) (s : State) : State := { s.put Reg.TM_POOL.FREE (196608 - n) with tm := { s.tm with used := n } }

/-- Takes words from the pool, and gives them back. -/
def poolTake (w : Nat) (s : State) : State := poolUse (s.tm.used + w) s
def poolGive (w : Nat) (s : State) : State := poolUse (s.tm.used - w) s

/-! ## Frame queues -/

def modFq (set : Nat) (f : FqSet → FqSet) (s : State) : State :=
  { s with tm := { s.tm with fq := s.tm.fq.upd set f } }

/-- Words a frame-queue set holds, the packet being read included. -/
def FqSet.depth (q : FqSet) : Nat :=
  (q.pkts.map (·.words)).foldl (· + ·) 0 + (match q.reading with | some (p, _) => p.words | none => 0)

/-- The packets of one priority of a set, the one being read included. -/
def FqSet.ofPrio (q : FqSet) (prio : Nat) : List FqPkt :=
  ((match q.reading with | some (p, _) => [p] | none => []) ++ q.pkts).filter (fun p => p.prio == prio)

def FqSet.depthOf (q : FqSet) (prio : Nat) : Nat := ((q.ofPrio prio).map (·.words)).foldl (· + ·) 0

/-- FQ_Tt_STAT and FQ_Tt_WORDS as the set stands (R324). -/
def fqSync (set : Nat) (s : State) : State :=
  let q := s.tm.fq.get set
  let all := q.pkts ++ (match q.reading with | some (p, _) => [p] | none => [])
  let ne := ((List.range 8).map (fun p => if all.any (fun x => x.prio == p) then 2 ^ p else 0)).foldl (· + ·) 0
  ((s.put (Reg.FQ_Tt_STAT.PKTS set) (min 65535 all.length)).put (Reg.FQ_Tt_STAT.NONEMPTY set) ne).put
    (Reg.FQ_Tt_WORDS.WORDS set) q.depth

/-- The telemetry counts of one priority of a set change. -/
def fqTel (set prio : Nat) (f : QTel → QTel) (s : State) : State :=
  modFq set (fun q => { q with tel := listSet q.tel default prio (f (q.tel.getD prio default)) }) s

/-- A tenant counter of a frame-queue priority: 0 ENQ, 1 DEQ, 2 DROP, 3 OCTETS (R340). Set 256 has no counter page. -/
def fqCnt (set prio which n : Nat) (s : State) : State :=
  if set < 256 then tcntInc set (0x2800 + 0x20 * prio + 8 * which) n s else s

/-- The frame-queue packet that a host-bound packet of a tenant becomes (R323). -/
def fqPktOf (s : State) (t : Nat) (p : Packet) (rec? : Option MetaRec) (frags : Nat) (mpl : Bool) (source : Nat) : FqPkt :=
  { prio := priority s t p, words := wordsOf p.len + 1, pkt := p, mrec := rec?, tenant := t, frags := frags, mpl := mpl,
    source := source, clk := s.clk, tick := s.tick % 2 ^ 32 }

/-- Of two packets of one set, the one the read rule takes first (R325). -/
def fqBefore (a b : FqPkt) : Bool :=
  decide (b.prio < a.prio) ||
  (a.prio == b.prio && (decide (a.clk < b.clk) || (a.clk == b.clk && decide (a.source < b.source))))

/-- The next packet of a set under the read rule, with the rest in order (R325). -/
def fqNext : List FqPkt → Option (FqPkt × List FqPkt)
  | [] => none
  | p :: l =>
    match fqNext l with
    | none => some (p, [])
    | some (q, r) => if fqBefore q p then some (q, p :: r) else some (p, l)

/-- A packet leaves its set: its words return to the pool and its departure counts. -/
def fqLeave (set : Nat) (p : FqPkt) (s : State) : State :=
  let s := poolGive p.words s
  let s := fqTel set p.prio (fun t => { t with dep := t.dep + 1 }) (fqCnt set p.prio 1 1 (s.inc Reg.FQ_DEQ.CNT))
  let s := fqCnt set p.prio 3 (64 + p.pkt.len + s.eff (Reg.TM_Pp_CFG.OVH 2)) s
  fqSync set s

/-! ## Token buckets (R329 to R331) -/

/-- The places where buckets stand (R331). -/
inductive Bucket where
  | port (p : Nat)
  | tenant (t p : Nat)
  | queue (t q : Nat)
  | air (t : Nat)
  | policer (t : Nat)
deriving DecidableEq, Repr

def Bucket.key : Bucket → Nat
  | .port p => p
  | .tenant t p => 16 + 3 * t + p
  | .queue t q => 1024 + 32 * t + q
  | .air t => 16384 + t
  | .policer t => 16640 + t

def Bucket.ofKey (k : Nat) : Bucket :=
  if k < 16 then .port k
  else if k < 1024 then .tenant ((k - 16) / 3) ((k - 16) % 3)
  else if k < 16384 then .queue ((k - 1024) / 32) ((k - 1024) % 32)
  else if k < 16640 then .air (k - 16384)
  else .policer (k - 16640)

def Bucket.enFld : Bucket → Fld
  | .port p => Reg.TM_Pp_CFG.SH_EN p
  | .tenant t p => Reg.TM_Tt_SHRp.EN t p
  | .queue t q => Reg.TM_Tt_Qq_SHR.EN t q
  | .air t => Reg.TM_Tt_AIRR.EN t
  | .policer t => Reg.TM_Tt_POLR.EN t

def Bucket.rateFld : Bucket → Fld
  | .port p => Reg.TM_Pp_RATE.RATE p
  | .tenant t p => Reg.TM_Tt_SHRp.RATE t p
  | .queue t q => Reg.TM_Tt_Qq_SHR.RATE t q
  | .air t => Reg.TM_Tt_AIRR.RATE t
  | .policer t => Reg.TM_Tt_POLR.RATE t

def Bucket.burstFld : Bucket → Fld
  | .port p => Reg.TM_Pp_BURST.BURST p
  | .tenant t p => Reg.TM_Tt_SHBp.BURST t p
  | .queue t q => Reg.TM_Tt_Qq_SHB.BURST t q
  | .air t => Reg.TM_Tt_AIRB.BURST t
  | .policer t => Reg.TM_Tt_POLB.BURST t

/-- A bucket's signed token count in sixteenths; one that is enabled starts at 16 × BURST. -/
def tokens (s : State) (b : Bucket) : Int := (s.tm.tokens.find? b.key).getD (16 * s.get b.burstFld : Nat)

def setTokens (b : Bucket) (n : Int) (s : State) : State :=
  { s with tm := { s.tm with tokens := s.tm.tokens.insert b.key n } }

/-- A shaper lets a packet go while its count is not negative; a bucket that is off always does. -/
def eligible (s : State) (b : Bucket) : Bool := !s.on b.enFld || decide (0 ≤ tokens s b)

/-- A departure of `c` units; a bucket that is off keeps no count. -/
def charge (b : Bucket) (c : Nat) (s : State) : State :=
  if s.on b.enFld then setTokens b (tokens s b - 16 * c) s else s

/-- A write of a bucket's EN: from 0 to 1 the count starts at 16 × BURST, to 0 it ends. -/
def bucketEnable (b : Bucket) (was now : Bool) (s : State) : State :=
  if now && !was then setTokens b (16 * s.get b.burstFld : Nat) s
  else if !now then { s with tm := { s.tm with tokens := s.tm.tokens.erase b.key } }
  else s

/-- The refill of every counting bucket at a tick boundary. -/
def refillAll (s : State) : State :=
  { s with tm := { s.tm with tokens := s.tm.tokens.map (fun e =>
      let b := Bucket.ofKey e.1
      (e.1, min (e.2 + (s.get b.rateFld : Nat)) (16 * s.get b.burstFld : Nat))) } }

/-! ## Traffic-manager queues -/

def tqKey (t q : Nat) : Nat := 32 * t + q

def modTq (t q : Nat) (f : TqS → TqS) (s : State) : State :=
  { s with tm := { s.tm with tq := s.tm.tq.upd (tqKey t q) f } }

def tqOf (s : State) (t q : Nat) : TqS := s.tm.tq.get (tqKey t q)

/-- A TQ's depth in words: packets, frames and reservations (R321, R322). -/
def TqS.depth (x : TqS) : Nat :=
  (x.eth.map (·.words)).foldl (· + ·) 0 + (x.air.map (·.words)).foldl (· + ·) 0 + x.reserved

def tqSync (t q : Nat) (s : State) : State :=
  let x := tqOf s t q
  s.put (Reg.TM_Tt_Qq_STAT.PKTS t q) (min 65535 (x.eth.length + x.air.length))

def tqTel (t q : Nat) (f : QTel → QTel) (s : State) : State := modTq t q (fun x => { x with tel := f x.tel }) s

/-- A tenant counter of a TQ: 0 ENQ, 1 DEQ, 2 DROP, 3 UNITS (R340). -/
def tqCnt (t q which n : Nat) (s : State) : State := tcntInc t (0x2400 + 0x20 * q + 8 * which) n s

/-- Whether a TQ can take a number of words (R321). -/
def tqFits (s : State) (t q w : Nat) : Bool :=
  decide ((tqOf s t q).depth + w ≤ s.get (Reg.TM_Tt_Qq_CFG.LIMIT t q)) && decide (w ≤ s.get Reg.TM_POOL.FREE)

/-- The drop of a packet that a TQ does not admit, on the limit or on the pool. -/
def tqDrop (t q w : Nat) (s : State) : State :=
  let byLimit := decide (s.get (Reg.TM_Tt_Qq_CFG.LIMIT t q) < (tqOf s t q).depth + w)
  let s := s.inc (if byLimit then Reg.TM_TAIL_DROP.CNT else Reg.TM_POOL_DROP.CNT)
  tqTel t q (fun x => { x with drop := x.drop + 1 }) (tqCnt t q 2 1 s)


/-- A packet that a map sends to a queue not configured for its way out is dropped (R320). -/
def mapErr (t : Nat) (s : State) : State := tcntInc t 0x2918 1 (s.inc Reg.TM_MAP_ERR.CNT)

/-! ## Schedulers (R332, R333) -/

def portHost : Nat := 2

def leafHost (t : Nat) : Nat := 8192 + t

/-- A weight of 0 is treated as 1. -/
def weight1 (n : Nat) : Nat := if n = 0 then 1 else n

def tqPort (s : State) (k : Nat) : Nat := s.eff (Reg.TM_Tt_Qq_CFG.PORT (k / 32) (k % 32))
def tqClass (s : State) (k : Nat) : Nat := s.eff (Reg.TM_Tt_Qq_CFG.CLASS (k / 32) (k % 32))
def tqWeight (s : State) (k : Nat) : Nat := weight1 (s.eff (Reg.TM_Tt_Qq_CFG.WEIGHT (k / 32) (k % 32)))
def classWeight (s : State) (t c : Nat) : Nat := weight1 (bitsAt (s.eff (Reg.TM_Tt_CWT.W t)) (8 * c) 8)
def tenantWeight (s : State) (t p : Nat) : Nat :=
  weight1 (s.eff (if p = 0 then Reg.TM_Tt_WT.W_ETH0 t else if p = 1 then Reg.TM_Tt_WT.W_ETH1 t else Reg.TM_Tt_WT.W_HOST t))

def ratio (a b : Nat) : Rat := (a : Rat) / (b : Rat)

def sumNat (l : List Nat) : Nat := l.foldl (· + ·) 0

/-- The leaves active at the last boundary, with the leaf itself if it was not (R332: the share it would have if it alone
became active). -/
def activeWith (s : State) (k : Nat) : List Nat := if s.tm.active.contains k then s.tm.active else k :: s.tm.active

/-- The share φ of a leaf in the mode in force (R332). -/
def share (s : State) (k : Nat) : Rat :=
  let act := activeWith s k
  if 8192 ≤ k then
    let t := k - 8192
    let w := tenantWeight s t portHost
    if s.eff Reg.TM_CTRL.MODE = 0 then (w : Rat)
    else ratio w (sumNat ((act.filter (fun j => decide (8192 ≤ j))).map (fun j => tenantWeight s (j - 8192) portHost)))
  else if s.eff Reg.TM_CTRL.MODE = 0 then (tqWeight s k : Rat)
  else
    let p := tqPort s k
    let onPort := act.filter (fun j => decide (j < 8192) && tqPort s j == p)
    let sameT := onPort.filter (fun j => j / 32 == k / 32)
    let sameC := sameT.filter (fun j => tqClass s j == tqClass s k)
    let classes := (sameT.map (tqClass s)).foldl setAdd []
    let tenants := (onPort.map (· / 32)).foldl setAdd []
    ratio (tqWeight s k) (sumNat (sameC.map (tqWeight s))) *
    ratio (classWeight s (k / 32) (tqClass s k)) (sumNat (classes.map (classWeight s (k / 32)))) *
    ratio (tenantWeight s (k / 32) p) (sumNat (tenants.map (fun t => tenantWeight s t p)))

def leafOf (s : State) (k : Nat) : LeafS := s.tm.leaves.get k

def setLeaf (k : Nat) (l : LeafS) (s : State) : State := { s with tm := { s.tm with leaves := s.tm.leaves.set k l } }

/-- A packet of charge `c` becomes the head of leaf `k` on port `p`: its finish tag (R333). -/
def headTag (p k c : Nat) (s : State) : State :=
  let l := leafOf s k
  setLeaf k { l with fhead := some (max (s.tm.vtime.getD 0 p) l.fprev + (c : Rat) / share s k) } s

/-- The head of leaf `k` is sent: V and Fprev take its tag. -/
def sentTag (p k : Nat) (s : State) : State :=
  let l := leafOf s k
  let f := l.fhead.getD l.fprev
  let s := setLeaf k { fprev := f, fhead := none } s
  { s with tm := { s.tm with vtime := s.tm.vtime.setD 0 p f } }

/-- Of the candidates, the leaf with the least finish tag; ties to the lower key, which is the lower tenant and then the
lower queue (R333). -/
def leastTag (s : State) : List Nat → Option Nat
  | [] => none
  | k :: l =>
    match leastTag s l with
    | none => some k
    | some j =>
      let fk := (leafOf s k).fhead.getD 0
      let fj := (leafOf s j).fhead.getD 0
      if decide (fj < fk) || (fj == fk && decide (j < k)) then some j else some k

/-- Octets of the Ethernet frame that carries a packet, from destination address to FCS with the VLAN tag, 64 at least (R330; the lengths of the
fields are IEEE 802.3's: PRESUMED, log entry 10). -/
def ethOctets (p : Packet) : Nat := max 64 (22 + p.len)

/-- The charge of a packet on an Ethernet port (R330). -/
def ethCharge (s : State) (p : Nat) (x : EthPkt) : Nat := x.octets + s.eff (Reg.TM_Pp_CFG.OVH p)

/-- A packet of the tenant enters the queue to Ethernet port `p` that the tenant's map names for its priority (R319 to
R321). -/
def ethEnqueue (t p nh : Nat) (pkt : Packet) (s : State) : State :=
  let q := mapQueue (s.eff (if p = 0 then Reg.TM_Tt_EMAP0.MAP t else Reg.TM_Tt_EMAP1.MAP t)) (priority s t pkt)
  if s.eff (Reg.TM_Tt_Qq_CFG.PORT t q) ≠ p then mapErr t s else
  let w := wordsOf (ethOctets pkt)
  if !tqFits s t q w then tqDrop t q w s else
  let x : EthPkt := { pkt := pkt, nh := nh, octets := ethOctets pkt, words := w, clk := s.clk }
  let first := (tqOf s t q).eth.isEmpty
  let s := poolTake w (modTq t q (fun y => { y with eth := y.eth ++ [x] }) s)
  let s := tqTel t q (fun y => { y with held := true, arr := y.arr + 1, maxW := max y.maxW (tqOf s t q).depth }) (tqCnt t q 0 1 s)
  let s := if first then headTag p (tqKey t q) (ethCharge s p x) s else s
  tqSync t q s

/-- The leaves of an Ethernet port whose head may leave (R331, R333). -/
def ethEligible (s : State) (p : Nat) : List Nat :=
  ((s.tm.tq.filter (fun e => !e.2.eth.isEmpty)).map (·.1)).filter (fun k =>
    tqPort s k == p && eligible s (.port p) && eligible s (.tenant (k / 32) p) && eligible s (.queue (k / 32) (k % 32)))

/-- An Ethernet port takes the packet its scheduler chooses (R333); a port that is down selects nothing (R334). -/
def ethSelect (p : Nat) (s : State) : State :=
  if !s.effOn Reg.TM_CTRL.EN || !s.tm.linkUp.contains p then s else
  match leastTag s (ethEligible s p) with
  | none => s
  | some k =>
    let t := k / 32
    let q := k % 32
    match (tqOf s t q).eth with
    | [] => s
    | x :: rest =>
      let c := ethCharge s p x
      let s := sentTag p k (modTq t q (fun y => { y with eth := rest }) s)
      let s := charge (.queue t q) c (charge (.tenant t p) c (charge (.port p) c s))
      let s := tqCnt t q 3 c (tqCnt t q 1 1 (tqTel t q (fun y => { y with dep := y.dep + 1 }) (poolGive x.words s)))
      let s := match rest with
        | [] => s
        | y :: _ => headTag p k (ethCharge s p y) s
      (tqSync t q s).emit (.eth p t q x.octets (s.get (Reg.FWD_NHr_MAC.MAC x.nh)) (Config.vlan t) x.pkt)

/-! ## Delivery to the host (R307, R308, R326) -/

/-- The next packet of a set to be handed out: one already begun by polling goes first (R325). -/
def fqHead (s : State) (set : Nat) : Option FqPkt :=
  let q := s.tm.fq.get set
  match q.reading with
  | some (p, _) => some p
  | none => (fqNext q.pkts).map (·.1)

def hostCharge (s : State) (p : FqPkt) : Nat := 64 + p.pkt.len + s.eff (Reg.TM_Pp_CFG.OVH portHost)

/-- When another packet has become the head of a tenant's set than `old`, its finish tag is formed (R333). -/
def hostTag (set : Nat) (old : Option FqPkt) (s : State) : State :=
  match fqHead s set with
  | some p => if set < 256 && old != some p then headTag portHost (leafHost set) (hostCharge s p) s else s
  | none => s

/-- Admission of a host-bound packet (R321): whole or not at all, with its completion at once and its notice (R324, R327).
With FQ_CTRL.EN = 0 nothing is admitted. -/
def fqAdmit (set : Nat) (p : FqPkt) (s : State) : State :=
  let q := s.tm.fq.get set
  let drop (f : Fld) (s : State) : State :=
    fqTel set p.prio (fun t => { t with drop := t.drop + 1 }) (fqCnt set p.prio 2 1 (s.inc f))
  if !s.effOn Reg.FQ_CTRL.EN then s
  else if s.get (Reg.FQ_Tt_CFG.LIMIT set) < q.depth + p.words then drop Reg.FQ_DROP.CNT s
  else if s.get Reg.TM_POOL.FREE < p.words then drop Reg.FQ_DROP_POOL.CNT s
  else
    let old := fqHead s set
    let s := hostTag set old (modFq set (fun q => { q with pkts := q.pkts ++ [p] }) s)
    let s := poolTake p.words s
    let s := fqTel set p.prio (fun t => { t with arr := t.arr + 1, maxW := max t.maxW ((s.tm.fq.get set).depthOf p.prio) }) s
    let s := fqCnt set p.prio 0 1 s
    fqSync set ((s.inc Reg.FQ_ENQ.CNT).inc Reg.FQ_NOTICE.CNT)

/-- The function a frame-queue set is delivered to: the PF for set 256. -/
def setFn (s : State) (set : Nat) : Nat := if set = 256 then 0 else tenantFn s set

/-- The ring that gets the set's entries (R309). -/
def setRing (set : Nat) : Nat := if set = 256 then ringEXC else ringRXCPL

/-- The function can take a packet of the set: it has a buffer and a free entry (R308), the tenant has a host path (R287)
and the set is not polled (R328). -/
def canDeliver (s : State) (set : Nat) : Bool :=
  let fn := setFn s set
  (set == 256 || s.on (Reg.HIF_Tt_CFG.EN set)) &&
  !(s.hif.fns.get fn).buffers.isEmpty && ringTakes s fn (setRing set) &&
  !(s.on Reg.FQ_POLL_SEL.EN && s.get Reg.FQ_POLL_SEL.SET == set)

/-- Writes a packet into a host buffer: its record, where it has one, from byte 0 and its octets from byte 64 (R307). -/
def bufferWrite (fn addr : Nat) (p : FqPkt) (s : State) : State :=
  (p.mrec.elim s (fun r => s.emit (.hostWrite fn addr (recPack r)))).emit (.hostWrite fn (addr + 64) (packetWords p.pkt))

/-- Delivers a set's next packet into the function's next buffer with one RXCPL entry (R307). -/
def deliver (set : Nat) (s : State) : State :=
  let q := s.tm.fq.get set
  match (match q.reading with
      | some (p, _) => some (p, q.pkts)
      | none => fqNext q.pkts), (s.hif.fns.get (setFn s set)).buffers with
  | some (p, rest), (slot, addr) :: bs =>
    let fn := setFn s set
    let s := modFq set (fun x => { x with pkts := rest, reading := none }) s
    let s := modFn fn (fun f => { f with buffers := bs }) s
    let s := bufferWrite fn addr p s
    let s := ringWrite fn (setRing set) (.rxcpl slot (p.frags % 2 ^ 16) (p.pkt.len % 2 ^ 11) p.mrec.isSome p.prio p.mpl 0
      (p.tenant % 256) p.tick) s
    let s := if set < 256 then tcntInc set 0x2008 p.pkt.len (tcntInc set 0x2000 1 s) else s
    hostTag set none (fqLeave set p s)
  | _, _ => s

/-- The host port takes the packet its scheduler chooses: set 256 before every tenant set (R326, R333). -/
def hostSelect (s : State) : State :=
  if (fqHead s 256).isSome && canDeliver s 256 && eligible s (.port portHost) then
    match fqHead s 256 with
    | some p => deliver 256 (charge (.port portHost) (hostCharge s p) s)
    | none => s
  else
    let sets := (s.tm.fq.map (·.1)).filter (fun t =>
      decide (t < 256) && (fqHead s t).isSome && canDeliver s t && eligible s (.port portHost) &&
        eligible s (.tenant t portHost))
    match leastTag s (sets.map leafHost) with
    | none => s
    | some k =>
      let t := k - 8192
      match fqHead s t with
      | none => s
      | some p =>
        let c := hostCharge s p
        deliver t (charge (.tenant t portHost) c (charge (.port portHost) c (sentTag portHost k s)))

end Sys2Proof.Machine
end

