-- ==== Sys2Proof/Machine/SixLow.lean ====
section
/-! DEFINITION. 6LoWPAN as octets (R273, R274): IPHC and the compressed next headers of RFC 6282, the fragment headers of RFC 4944, and what the part reads
of an IPv6 packet. PRESUMED (log entry 53): the encodings, which the spec takes from these two. -/

namespace Sys2Proof.Machine

/-- The octets of a number, the lowest first. -/
def octets (n v : Nat) : List Nat := (List.range n).map (fun i => v / 2 ^ (8 * i) % 256)

/-- The number whose octets these are, the lowest first. -/
def ofOctets (l : List Nat) : Nat := l.foldr (fun x a => x + 256 * a) 0

/-- The number whose octets these are, the highest first. -/
def netNat (l : List Nat) : Nat := l.foldl (fun a x => 256 * a + x) 0

/-- The octets of a number, the highest first. -/
def netOctets (n v : Nat) : List Nat := (octets n v).reverse

/-- The first `n` octets and the rest; none where there are fewer. -/
def takeOctets (n : Nat) (l : List Nat) : Option (List Nat × List Nat) := if n ≤ l.length then some (l.take n, l.drop n) else none

/-- What addresses are decompressed with: the prefix of a context as 8 octets, and the interface identifiers that the frame, or the header around it,
gives the source and the destination. -/
structure SixCtx where
  ctx : Nat → List Nat
  src : List Nat
  dst : List Nat

/-- The identifier of 16 bits (RFC 4944, RFC 6282): 0000:00ff:fe00:XXXX. -/
def iid16 (l : List Nat) : List Nat := [0, 0, 0, 0xFF, 0xFE, 0] ++ l

def linkLocal : List Nat := [0xFE, 0x80, 0, 0, 0, 0, 0, 0]

/-- A unicast address by its mode: under `pfx` the identifier is carried with 64 or 16 bits or is `link`'s; with mode 0 it is `full`'s. -/
def sixUnicast (full : Option (List Nat × List Nat)) (pfx link : List Nat) (mode : Nat) (l : List Nat) : Option (List Nat × List Nat) :=
  match mode with
  | 0 => full
  | 1 => (takeOctets 8 l).map (fun x => (pfx ++ x.1, x.2))
  | 2 => (takeOctets 2 l).map (fun x => (pfx ++ iid16 x.1, x.2))
  | _ => some (pfx ++ link, l)

/-- A multicast address by DAC and DAM. -/
def sixMulticast (c : SixCtx) (dac : Bool) (mode dci : Nat) (l : List Nat) : Option (List Nat × List Nat) :=
  if dac then
    if mode ≠ 0 then none else (takeOctets 6 l).map (fun x => ([0xFF] ++ x.1.take 2 ++ [64] ++ c.ctx dci ++ x.1.drop 2, x.2))
  else match mode with
    | 0 => takeOctets 16 l
    | 1 => (takeOctets 6 l).map (fun x => ([0xFF] ++ x.1.take 1 ++ List.replicate 9 0 ++ x.1.drop 1, x.2))
    | 2 => (takeOctets 4 l).map (fun x => ([0xFF] ++ x.1.take 1 ++ List.replicate 11 0 ++ x.1.drop 1, x.2))
    | _ => (takeOctets 1 l).map (fun x => ([0xFF, 2] ++ List.replicate 13 0 ++ x.1, x.2))

/-- Traffic Class and Flow Label by TF; ECN comes first in the encoding and last in the Traffic Class. -/
def sixTraffic (tf : Nat) (l : List Nat) : Option ((Nat × Nat) × List Nat) :=
  let tc (x : Nat) : Nat := x % 64 * 4 + x / 64
  match tf with
  | 0 => (takeOctets 4 l).map (fun x => ((tc (x.1.getD 0 0), netNat (x.1.drop 1) % 2 ^ 20), x.2))
  | 1 => (takeOctets 3 l).map (fun x => ((x.1.getD 0 0 / 64, netNat x.1 % 2 ^ 20), x.2))
  | 2 => (takeOctets 1 l).map (fun x => ((tc (x.1.getD 0 0), 0), x.2))
  | _ => some ((0, 0), l)

/-- An extension header with its Hdr Ext Len and, where padding was left out, Pad1 or PadN. -/
def extHeader (nh : Nat) (data : List Nat) : List Nat :=
  let n := (data.length + 9) / 8 * 8
  let pad := n - 2 - data.length
  [nh, n / 8 - 1] ++ data ++ (if pad = 0 then [] else if pad = 1 then [0] else [1, pad - 2] ++ List.replicate (pad - 2) 0)

/-- The two ports of a compressed UDP header. -/
def udpPorts (p : Nat) (l : List Nat) : Option (List Nat × List Nat) :=
  match p with
  | 0 => takeOctets 4 l
  | 1 => (takeOctets 3 l).map (fun x => (x.1.take 2 ++ [0xF0] ++ x.1.drop 2, x.2))
  | 2 => (takeOctets 3 l).map (fun x => ([0xF0] ++ x.1, x.2))
  | _ => (takeOctets 1 l).map (fun x => ([0xF0, 0xB0 + x.1.getD 0 0 / 16, 0xF0, 0xB0 + x.1.getD 0 0 % 16], x.2))

/-- The protocol number of the extension header that an EID names. -/
def eidProto (eid : Nat) : Nat := [0, 43, 44, 60, 135].getD eid 0

/-- A compressed UDP header (its first octet taken) and what follows it. A checksum that was left out is 0 here. `more` octets of the datagram come in later
fragments. -/
def sixUdp (more b : Nat) (l : List Nat) : Option (Nat × List Nat) := do
  let (ports, l) ← udpPorts (b % 4) l
  let (sum, l) ← if b / 4 % 2 = 1 then some ([0, 0], l) else takeOctets 2 l
  some (17, ports ++ netOctets 2 (8 + l.length + more) ++ sum ++ l)

/-- The header that an IPHC encoding (its first octet taken) stands for, before its payload: the octets as a function of payload length and next
header, whether the next header is compressed, the next header that is carried, the two addresses' identifiers, and what follows. -/
def sixHeader (c : SixCtx) (b : Nat) (l : List Nat) : Option ((Nat → Nat → List Nat) × Bool × Nat × (List Nat × List Nat) × List Nat) := do
  let (m, l) ← takeOctets 1 l
  let m := m.getD 0 0
  let (ids, l) ← if m / 128 = 1 then takeOctets 1 l else some ([0], l)
  let sci := ids.getD 0 0 / 16
  let dci := ids.getD 0 0 % 16
  let (tr, l) ← sixTraffic (b / 8 % 4) l
  let (nh, l) ← if b / 4 % 2 = 1 then some ([0], l) else takeOctets 1 l
  let (hl, l) ← if b % 4 = 0 then takeOctets 1 l else some ([[0, 1, 64, 255].getD (b % 4) 0], l)
  let sac := m / 64 % 2 = 1
  let (src, l) ← sixUnicast (if sac then some (List.replicate 16 0, l) else takeOctets 16 l) (if sac then c.ctx sci else linkLocal) c.src (m / 16 % 4) l
  let dac := m / 4 % 2 == 1
  let (dst, l) ←
    if m / 8 % 2 = 1 then sixMulticast c dac (m % 4) dci l
    else sixUnicast (if dac then none else takeOctets 16 l) (if dac then c.ctx dci else linkLocal) c.dst (m % 4) l
  some (fun len n => netOctets 4 (6 * 2 ^ 28 + tr.1 * 2 ^ 20 + tr.2) ++ netOctets 2 len ++ [n] ++ hl ++ src ++ dst, b / 4 % 2 == 1, nh.getD 0 0, (src.drop 8, dst.drop 8), l)

/-- Decompression: with `iphc` of an IPHC encoding to an IPv6 packet (protocol 41), else of a compressed next header to its protocol and octets. -/
def sixRun (more : Nat) : (fuel : Nat) → (iphc : Bool) → SixCtx → List Nat → Option (Nat × List Nat)
  | 0, _, _, _ => none
  | _ + 1, _, _, [] => none
  | fuel + 1, true, c, b :: l => do
    if b / 32 ≠ 3 then none else
    let (head, comp, nh, iids, l) ← sixHeader c b l
    let (nh, body) ← if comp then sixRun more fuel false { c with src := iids.1, dst := iids.2 } l else some (nh, l)
    some (41, head (body.length + more) nh ++ body)
  | fuel + 1, false, c, b :: l =>
    if b / 8 = 30 then sixUdp more b l
    else if b / 16 ≠ 14 then none
    else
      let eid := b / 2 % 8
      if eid = 7 then (if b % 2 = 1 then none else sixRun more fuel true c l)
      else if 5 ≤ eid then none
      else do
        let (nh, l) ← if b % 2 = 1 then some ([0], l) else takeOctets 1 l
        let (n, l) ← takeOctets 1 l
        let (data, l) ← takeOctets (if eid = 2 then 6 else n.getD 0 0) l
        let (nh, body) ← if b % 2 = 1 then sixRun more fuel false c l else some (nh.getD 0 0, l)
        some (eidProto eid, (if eid = 2 then [nh] ++ n ++ data else extHeader nh data) ++ body)

/-- A datagram, or its first fragment of a datagram of `size` octets, decompressed: IPHC, or the octets of an IPv6 packet behind their dispatch. -/
def sixExpand (c : SixCtx) (size : Option Nat) (l : List Nat) : Option (List Nat) :=
  match l with
  | 0x41 :: o => some o
  | _ =>
    let run (more : Nat) : Option (List Nat) := (sixRun more 32 true c l).map (·.2)
    (run 0).bind (fun o => run (size.elim 0 (· - o.length)))

/-- What a frame's 6LoWPAN octets are (RFC 4944): a whole datagram, or a fragment with its tag, size and offset, and the octets behind the fragment header. -/
inductive SixFrame where
  | whole (l : List Nat)
  | frag (tag size ofs : Nat) (l : List Nat)
deriving DecidableEq, Repr

def sixFrame : List Nat → SixFrame
  | a :: b :: c :: d :: l =>
    if a / 8 = 24 then .frag (256 * c + d) (a % 8 * 256 + b) 0 l
    else if a / 8 = 28 then
      match l with
      | o :: l => .frag (256 * c + d) (a % 8 * 256 + b) (8 * o) l
      | [] => .whole []
    else .whole (a :: b :: c :: d :: l)
  | l => .whole l

/-- The octets that a fragment stands for in its datagram. -/
def fragOctets (c : SixCtx) (size ofs : Nat) (l : List Nat) : Option (List Nat) := if ofs = 0 then sixExpand c (some size) l else some l

/-! ## What the part reads of a packet -/

/-- The MPL option among the options of a hop-by-hop header: its seed, of the source's address where it names none, and its sequence number. -/
def mplOption (src : Nat) : (fuel : Nat) → List Nat → Option (Nat × Nat)
  | 0, _ => none
  | fuel + 1, 0 :: l => mplOption src fuel l
  | fuel + 1, ty :: n :: l =>
    if ty = 0x6D then
      match l with
      | f :: seq :: o => if l.length < n then none else some (if f / 64 = 0 then src else netNat (o.take ([0, 2, 8, 16].getD (f / 64) 0)), seq)
      | _ => none
    else mplOption src fuel (l.drop n)
  | _, _ => none

/-- The chain of next headers from a protocol on: the type of an ICMPv6 message, an MPL option, and whether there is a routing header. -/
def headerChain (src : Nat) : (fuel proto : Nat) → List Nat → Option Nat × Option (Nat × Nat) × Bool
  | 0, _, _ => (none, none, false)
  | fuel + 1, proto, l =>
    let next := headerChain src fuel (l.getD 0 59)
    if proto = 58 then (l.head?, none, false)
    else if proto = 44 then next (l.drop 8)
    else if proto = 0 || proto = 43 || proto = 60 || proto = 135 then
      let n := 8 * (l.getD 1 0 + 1)
      let r := next (l.drop n)
      (r.1, if proto = 0 then (mplOption src n ((l.take n).drop 2)).orElse (fun _ => r.2.1) else r.2.1, proto == 43 || r.2.2)
    else (none, none, false)

/-- The sum of 16-bit words with the carry brought round. -/
def onesSum (l : List Nat) : Nat :=
  let n := (l.zipIdx.map (fun x => if x.2 % 2 = 0 then 256 * x.1 else x.1)).foldl (· + ·) 0
  let f (v : Nat) : Nat := v % 65536 + v / 65536
  f (f (f n))

/-- The checksum of a UDP message that begins at an offset of a packet and runs to its end. -/
def udpSum (o : List Nat) (at' : Nat) : Nat :=
  let m := o.drop at'
  let v := 65535 - onesSum ((o.drop 8).take 32 ++ netOctets 4 m.length ++ [0, 0, 0, 17] ++ m)
  if v = 0 then 65535 else v

/-- The place of a packet's UDP header behind its chain of headers, from a place and a protocol on. -/
def udpPlace (o : List Nat) : (fuel at' proto : Nat) → Option Nat
  | 0, _, _ => none
  | fuel + 1, n, proto =>
    if proto = 17 then some n
    else if proto = 0 || proto = 43 || proto = 60 || proto = 135 then udpPlace o fuel (n + 8 * (o.getD (n + 1) 0 + 1)) (o.getD n 59)
    else if proto = 44 then udpPlace o fuel (n + 8) (o.getD n 59)
    else none

/-- A packet whose UDP checksum was left out gets it. -/
def fillSum (o : List Nat) : List Nat :=
  match udpPlace o 16 40 (o.getD 6 59) with
  | some n => if o.getD (n + 6) 0 = 0 && o.getD (n + 7) 0 = 0 && n + 8 ≤ o.length then o.take (n + 6) ++ netOctets 2 (udpSum o n) ++ o.drop (n + 8) else o
  | none => o

/-- The packet of an IPv6 header and its payload as octets; none where they are no IPv6 packet of that length. -/
def packetOf (o : List Nat) : Option Packet :=
  if o.length < 40 || o.getD 0 0 / 16 ≠ 6 || netNat ((o.drop 4).take 2) + 40 ≠ o.length then none else
  let src := ofOctets ((o.drop 8).take 16)
  let chain := headerChain src 16 (o.getD 6 59) (o.drop 40)
  some { hasIp := true, tclass := o.getD 0 0 % 16 * 16 + o.getD 1 0 / 16, src := src, dst := ofOctets ((o.drop 24).take 16), hlim := o.getD 7 0,
         len := o.length, icmpType := chain.1, mpl := chain.2.1, routed := chain.2.2, ethLen := 0, body := 0, text := fillSum o }

end Sys2Proof.Machine
end

