-- ==== Sys2Proof/Machine/FwdOps.lean ====
section
/-! DEFINITION. The node table, the exact-match tables, learning and packet forwarding (chapter 8). -/

namespace Sys2Proof.Machine

/-! ## Node table (R249 to R253) -/

def nthOf (s : State) (n : Nat) : NtH := s.fwd.nth.get n
def ntcOf (s : State) (e : Nat) : NtC := s.fwd.ntc.get e

def modFwd (f : FwdS → FwdS) (s : State) : State := { s with fwd := f s.fwd }

/-- A write to NT-H or NT-C marks the copies that speculative slots hold of the entry stale (R267). -/
def staleNode (n : Nat) (s : State) : State :=
  modFwd (fun w => { w with slots := w.slots.map (fun e => (e.1, if e.2.node = n then { e.2 with stale := true } else e.2)) }) s
def staleEndpoint (ep : Nat) (s : State) : State :=
  modFwd (fun w => { w with slots := w.slots.map (fun e => (e.1, if e.2.endpoint = ep then { e.2 with stale := true } else e.2)) }) s

/-- A write to an NT-H entry, by any of its writers (R251, R267). -/
def setNth (n : Nat) (x : NtH) (s : State) : State := staleNode n (modFwd (fun w => { w with nth := w.nth.set n x }) s)

def writeNth (n : Nat) (x : NtH) (s : State) : State := setNth n x s

/-- Every copy of the speculative slots is stale (R267). -/
def staleAll (s : State) : State :=
  modFwd (fun w => { w with slots := w.slots.map (fun x => (x.1, { x.2 with stale := true })) }) s

/-- The NT-C window is open (R252). -/
def ntcOpen (s : State) : Bool := s.on Reg.FWD_STAT.NTC_OPEN

/-- A read of an NT-C entry while its window is not open is refused: it returns zeros, as `ntcOf` then does (R486). -/
def ntcRead (ep : Nat) (s : State) : State := if ntcOpen s then s else memRefuse 0 ep 0x0D s

/-- A write to an NT-C entry; one outside the open window is discarded (R486). -/
def writeNtc (ep : Nat) (x : NtC) (s : State) : State :=
  if ntcOpen s then staleEndpoint ep (modFwd (fun w => { w with ntc := w.ntc.set ep x }) s) else memRefuse 0 ep 0x0D s

/-- The node is a node of a tenant: VALID and JOINED (R252). -/
def NtH.joined (x : NtH) : Bool := x.valid && x.state == 2

/-! ## Pipelines (R254) -/

def pipeOf (s : State) (p : Nat) : PipeS := if p = 0 then s.fwd.p0 else s.fwd.p1

def modPipe (p : Nat) (f : PipeS → PipeS) (s : State) : State :=
  modFwd (fun w => if p = 0 then { w with p0 := f w.p0 } else { w with p1 := f w.p1 }) s

/-- The pipeline serving a tenant since the last tick boundary. -/
def pipeServing (s : State) (t : Nat) : Nat := (s.fwd.serving.find? t).getD (t % 2)

/-! ## Hashing (R257) -/

/-- One bit of the reflected CRC-32C. -/
def crc32cBit (c : Nat) : Nat := if c % 2 = 1 then (c / 2) ^^^ 0x82F63B78 else c / 2

def crc32cOctet (c x : Nat) : Nat :=
  crc32cBit (crc32cBit (crc32cBit (crc32cBit (crc32cBit (crc32cBit (crc32cBit (crc32cBit (c ^^^ x))))))))

def crc32c (start : Nat) (msg : List Nat) : Nat := (msg.foldl crc32cOctet start) ^^^ 0xFFFFFFFF

def emtMsg (ty tenant key : Nat) : List Nat := ty :: tenant :: octets 16 key

/-- h1 and the two candidate buckets of a key. -/
def emtHash (s : State) (p ty tenant key : Nat) : Nat × Nat × Nat :=
  let m := emtMsg ty tenant key
  let h1 := crc32c (s.get (Reg.FWD_EMTp_SEED1.SEED p)) m
  let h2 := crc32c (s.get (Reg.FWD_EMTp_SEED2.SEED p)) (m ++ [0xA5])
  let b1 := h1 * 98304 / 2 ^ 32
  let b2 := h2 * 98304 / 2 ^ 32
  (h1, b1, if b2 = b1 then (b1 + 49152) % 98304 else b2)

/-! ## Exact-match tables (R256, R258) -/

def EmtEntry.sameKey (a b : EmtEntry) : Bool := a.ty == b.ty && a.tenant == b.tenant && a.key == b.key

/-- The entry is well formed: its TYPE is 1 to 4 and permits its ORIGIN. -/
def EmtEntry.okForm (e : EmtEntry) : Bool :=
  match e.ty with
  | 1 => e.origin == 0 || e.origin == 2
  | 2 => e.origin == 1
  | 3 => e.origin == 1
  | 4 => e.origin == 2
  | _ => false

def slotsOf (b : Nat) : List Nat := [4 * b, 4 * b + 1, 4 * b + 2, 4 * b + 3]

def emtAt (s : State) (p k : Nat) : EmtEntry := (pipeOf s p).emt.get k

/-- The first slot that holds the key, b1 before b2 (R258). -/
def emtFind (s : State) (p ty tenant key : Nat) : Option Nat :=
  let (_, b1, b2) := emtHash s p ty tenant key
  (slotsOf b1 ++ slotsOf b2).find? (fun k =>
    let e := emtAt s p k
    e.valid && e.ty == ty && e.tenant == tenant && e.key == key)

/-- A lookup: the entry found in the table of pipeline `p`, or a miss. The key carries the tenant (R255). -/
def emtLookup (s : State) (p ty tenant key : Nat) : Option EmtEntry := (emtFind s p ty tenant key).map (emtAt s p)

/-- FWD_EMTp_NUM and FWD_EMTp_NSTAT as the table stands. -/
def emtSync (p : Nat) (s : State) : State :=
  let l := (pipeOf s p).emt
  (s.put (Reg.FWD_EMTp_NUM.USED p) (l.filter (fun e => e.2.valid)).length).put (Reg.FWD_EMTp_NSTAT.STATIC p)
    (l.filter (fun e => e.2.valid && e.2.origin == 2)).length

/-- A write to a table entry marks the copies that speculative slots hold of it stale (R267). -/
def emtStale (e : EmtEntry) (s : State) : State :=
  modFwd (fun w => { w with
    slots := w.slots.map (fun x => (x.1, if e.ty = 1 && x.2.tenant = e.tenant && x.2.ntc.iid = e.key then { x.2 with stale := true } else x.2)) }) s

/-- A table command or a firmware write on the table or tables that TABLE names touches the key and SID of entries: the differences found there
are not confirmed in this pass (R271). -/
def diffTouch (table : Nat) (l : List EmtEntry) (s : State) : State :=
  let hit (d : Diff) : Bool := (table == 2 || d.table == table) && l.any (fun e =>
    (d.ty == e.ty && d.tenant == e.tenant && d.key == e.key) || (e.origin == 2 && d.sid == e.sid))
  modFwd (fun w => { w with diffs := w.diffs.map (fun d => if hit d then { d with touched := true } else d) }) s

/-- Writes one slot of a table. -/
def emtPut (p k : Nat) (e : EmtEntry) (s : State) : State :=
  emtSync p (emtStale e (modPipe p (fun x => { x with emt := x.emt.set k e }) s))

/-- Clears one slot of a table. -/
def emtClear (p k : Nat) (s : State) : State :=
  emtSync p (modPipe p (fun x => { x with emt := x.emt.set k default }) (emtStale (emtAt s p k) s))

/-- The lowest free slot of a bucket. -/
def freeSlot (s : State) (p b : Nat) : Option Nat := (slotsOf b).find? (fun k => !(emtAt s p k).valid)

/-- The bucket of an entry that is not `cur`. -/
def otherBucket (s : State) (p cur : Nat) (e : EmtEntry) : Nat :=
  let (_, b1, b2) := emtHash s p e.ty e.tenant e.key
  if b1 = cur then b2 else b1

/-- The search of R259 for a relocation path: the slots to move, first to last, and whether the last one's other bucket has
a free slot. -/
def relocSearch (s : State) (p h1 : Nat) : (fuel step cur : Nat) → (prev : Option Nat) → List Nat → List Nat × Bool
  | 0, _, _, _, acc => (acc, false)
  | fuel + 1, step, cur, prev, acc =>
    let i0 := (step + h1 % 4) % 4
    let i := if some (otherBucket s p cur (emtAt s p (4 * cur + i0))) = prev then (i0 + 1) % 4 else i0
    let k := 4 * cur + i
    let nxt := otherBucket s p cur (emtAt s p k)
    if (freeSlot s p nxt).isSome then (acc ++ [k], true)
    else relocSearch s p h1 fuel (step + 1) nxt (some cur) (acc ++ [k])

/-- Moves the entry at a slot into the lowest free slot of its other bucket and clears the old place (R259). -/
def relocMove (p k : Nat) (s : State) : State :=
  let e := emtAt s p k
  match freeSlot s p (otherBucket s p (k / 4) e) with
  | some j => modPipe p (fun x => { x with emt := (x.emt.set j e).set k default }) s
  | none => s

/-- The least recently used LEARNED entry of the buckets visited: its slot (R260). Age is taken modulo 2^16 seconds. -/
def lruLearned (s : State) (p : Nat) : List Nat → Option Nat
  | [] => none
  | k :: l =>
    let e := emtAt s p k
    let rest := lruLearned s p l
    if e.valid && e.origin == 0 then
      match rest with
      | none => some k
      | some j =>
        let age (x : EmtEntry) := (s.nowSec + 2 ^ 16 - x.lastUse % 2 ^ 16) % 2 ^ 16
        if age e < age (emtAt s p j) then some j else some k
    else rest

/-- What an insertion came to: the status codes of R268. -/
def stOk : Nat := 0
def stNotFound : Nat := 1
def stExists : Nat := 2
def stFull : Nat := 3
def stBadEntry : Nat := 4
def stOrigin : Nat := 5
def stOff : Nat := 6

/-- An insertion into one table (R259, R260) with its outcome. -/
def emtInsert (p : Nat) (e : EmtEntry) (s : State) : State × Nat :=
  if (emtFind s p e.ty e.tenant e.key).isSome then (s, stExists) else
  let (h1, b1, b2) := emtHash s p e.ty e.tenant e.key
  match freeSlot s p b1, freeSlot s p b2 with
  | some k, _ => (emtPut p k e s, stOk)
  | none, some k => (emtPut p k e s, stOk)
  | none, none =>
    let kicks := max 1 (s.get (Reg.FWD_EMTp_CTRL.MAX_KICKS p))
    let (path, found) := relocSearch s p h1 kicks 0 b1 none []
    if found then (emtPut p (path.headD (4 * b1)) e (forEach path.reverse (relocMove p) s), stOk)
    else if e.origin = 0 then
      let buckets := path.map (· / 4) ++ (path.getLast?.map (fun k => otherBucket s p (k / 4) (emtAt s p k))).toList
      match lruLearned s p ((buckets.foldl setAdd []).flatMap slotsOf) with
      | none => (s.inc Reg.FWD_LEARN_FAIL.CNT, stFull)
      | some k =>
        let s := (emtClear p k s).inc Reg.FWD_LEARN_EVICT.CNT
        let pre := path.take ((buckets.findIdx? (· == k / 4)).getD 0)
        let s := forEach pre.reverse (relocMove p) s
        (emtPut p (if pre.isEmpty then k else path.headD k) e s, stOk)
    else (raisePf 0x41 p 0 (s.put (Reg.FWD_EMTp_STAT.NEED_REHASH p) 1), stFull)

/-- A confirmed use writes LAST_USE (R264). -/
def emtUsed (p k : Nat) (s : State) : State :=
  emtStale (emtAt s p k) (modPipe p (fun x => { x with emt := x.emt.upd k (fun e => { e with lastUse := s.nowSec % 2 ^ 16 }) }) s)

/-! ## Cold-entry caches (R253) -/

/-- The entry of a confirmed NT-C read enters the pipeline's cache, least recently used out. -/
def cacheTouch (p ep : Nat) (s : State) : State :=
  modPipe p (fun x =>
    let l := setDel x.cache ep ++ [ep]
    { x with cache := if l.length > 2048 then l.drop 1 else l }) s

/-- A confirmed read of an NT-C entry (R253, R486). -/
def confirmedRead (p ep : Nat) (s : State) : State := if ntcOpen s then cacheTouch p ep s else ntcRead ep s

/-! ## Addresses (R273, R275, R276) -/

/-- The first 64 bits of an address as FWD_Tt_PFX holds them. -/
def addrPfx (a : Nat) : Nat := a % 2 ^ 64

/-- The interface identifier of an address as a number, octet 8 the most significant. -/
def addrIid (a : Nat) : Nat := ofOctets (octets 8 (a / 2 ^ 64)).reverse

/-- The address of a prefix and an interface identifier. -/
def mkAddr (pfx iid : Nat) : Nat := pfx % 2 ^ 64 + 2 ^ 64 * ofOctets (octets 8 iid).reverse

def isMulticast (a : Nat) : Bool := a % 256 == 0xFF

def isLinkLocal (a : Nat) : Bool := a % 256 == 0xFE && a / 256 % 256 / 64 == 2

/-- The interface identifier made from an extended address (R192, R216): bit 57 inverted. -/
def euiIid (eui : Nat) : Nat := eui ^^^ 0x0200000000000000

/-- The root's interface identifier. -/
def rootIid (s : State) : Nat := euiIid (s.get Reg.MAC_ROOT_EXT.ADDR)

/-- The root's address in a tenant's prefix. -/
def rootAddr (s : State) (t : Nat) : Nat := mkAddr (s.eff (Reg.FWD_Tt_PFX.PFX t)) (rootIid s)

/-- A tenant's IPHC context: context 0 is FWD_Tt_PFX, 1 to 15 are firmware's (R273). -/
def ctxPfx (s : State) (t c : Nat) : Nat := if c = 0 then s.eff (Reg.FWD_Tt_PFX.PFX t) else s.fwd.iphc.get (16 * t + c)

/-- The identifier of a short address (RFC 4944), and those that IPHC derives from the link layer: on the LD PHY of the sender's EUI64 and of
MAC_ROOT_EXT, otherwise of the frame's addresses (R273). -/
def shortIid (a : Nat) : Nat := 0x000000FFFE000000 + a
def linkIid (ld : Bool) (own : Nat) : Addr → Nat
  | .ext a => if ld then own else euiIid a
  | .short a => if ld then own else shortIid a
  | .none => own

/-- What the addresses of a frame from a node of a tenant are decompressed with (R273). -/
def sixCtx (s : State) (ld : Bool) (t node : Nat) (p : Psdu) : SixCtx :=
  { ctx := fun c => octets 8 (ctxPfx s t c)
    src := netOctets 8 (linkIid ld (euiIid (nthOf s node).eui) p.src)
    dst := netOctets 8 (linkIid ld (rootIid s) p.dst) }

def inTenantPfx (s : State) (t a : Nat) : Bool := addrPfx a == s.eff (Reg.FWD_Tt_PFX.PFX t)

/-- The indexed form 0x0000_00FF_FE00_0000 + e. -/
def indexedIid (iid : Nat) : Option Nat :=
  if 0x000000FFFE000000 ≤ iid && iid ≤ 0x000000FFFE000000 + 0x7FFFFF then some (iid - 0x000000FFFE000000) else none

/-! ## Resolution and paths (R276, R277) -/

/-- The endpoint of an identifier in the tenant's mesh: from the index, or from the MESH_IID entry with its slot. -/
def resolveIid (s : State) (t iid : Nat) : Option (Nat × Option Nat) :=
  match (if s.on (Reg.FWD_Tt_CFG.IDX_IID t) then indexedIid iid else none) with
  | some e => some (e, none)
  | none =>
    let p := pipeServing s t
    (emtFind s p 1 t iid).map (fun k => ((emtAt s p k).result, some k))

/-- The path from an endpoint up its PARENT chain: endpoints from the first hop to the destination. `seen` holds the
endpoints already visited, the lowest first. -/
def pathUp (s : State) (t : Nat) : (fuel e : Nat) → List Nat → Option (List Nat)
  | 0, _, _ => none
  | fuel + 1, e, seen =>
    let c := ntcOf s e
    if seen.contains e || !(c.valid && c.routed && c.isLocal && c.tenant == t && decide (s.nowSec % 2 ^ 32 ≤ c.expireS)) then none
    else if c.parentRoot then some (e :: seen)
    else pathUp s t fuel c.parent (e :: seen)

/-- The NT-C entries that the walk reads. -/
def pathReads (s : State) (t : Nat) : (fuel e : Nat) → List Nat → List Nat
  | 0, _, _ => []
  | fuel + 1, e, seen =>
    let c := ntcOf s e
    if seen.contains e then []
    else if !(c.valid && c.routed && c.isLocal && c.tenant == t && decide (s.nowSec % 2 ^ 32 ≤ c.expireS)) || c.parentRoot then [e]
    else e :: pathReads s t fuel c.parent (e :: seen)

def maxHops (s : State) : Nat := min 32 (max 1 (s.get Reg.FWD_SRH.MAX_HOPS))

/-- What a unicast downlink destination comes to. -/
inductive Route where
  | none
  | loop
  | away (nh : Nat)
  | path (endpoint : Nat) (slot : Option Nat) (hops : List Nat)
deriving DecidableEq, Repr, Inhabited

/-- The resolution of R276: `fromBackhaul` packets never go to another root. -/
def resolve (s : State) (t : Nat) (fromBackhaul : Bool) (p : Packet) : Route :=
  if !inTenantPfx s t p.dst then .none else
  match resolveIid s t (addrIid p.dst) with
  | none => .none
  | some (e, k) =>
    let c := ntcOf s e
    if !(c.valid && c.tenant == t) then .none
    else if !c.isLocal then (if fromBackhaul then .loop else .away c.homeNh)
    else
      match pathUp s t (maxHops s) e [] with
      | none => .none
      | some hops =>
        if p.routed then (if hops.length = 1 then .path e k hops else .none) else .path e k hops

/-- The NT-C reads of a resolution: they enter the pipeline's cache (R253), and are refused while the window is not open (R486). -/
def resolveRead (t : Nat) (p : Packet) (s : State) : State :=
  if !inTenantPfx s t p.dst then s else
  match resolveIid s t (addrIid p.dst) with
  | none => s
  | some (e, _) =>
    if !ntcOpen s then ntcRead e s else
    let c := ntcOf s e
    forEach (if c.valid && c.tenant == t && c.isLocal then pathReads s t (maxHops s) e [] else [e]) (cacheTouch (pipeServing s t)) s

/-- The first-hop node of a path. -/
def firstHop (s : State) (hops : List Nat) : Nat := (ntcOf s (hops.headD 0)).node

/-! ## The routing header (R278) -/

/-- The leading octets that two addresses share, at most 15. -/
def sharedOctets (a b : Nat) : Nat := min 15 (((octets 16 a).zip (octets 16 b)).takeWhile (fun x => x.1 == x.2)).length

/-- The routing header of a path: none for one hop, and none for a packet that brings its own. -/
def srhOf (s : State) (t : Nat) (hops : List Nat) (p : Packet) : Option Srh :=
  if hops.length ≤ 1 || p.routed then none else
  let a := hops.map (fun e => mkAddr (s.eff (Reg.FWD_Tt_PFX.PFX t)) (ntcOf s e).iid)
  let dst := a.headD 0
  let l := a.drop 1
  let out := s.on Reg.FWD_SRH.ENCAP
  some { encap := out, src := if out then rootAddr s t else p.src, dst := dst, hlim := if out then 64 else p.hlim,
         cmprI := (l.dropLast.map (sharedOctets dst)).foldl min 15, cmprE := sharedOctets dst (l.getLastD 0), addrs := l }

/-! ## The backhaul (R275) -/

/-- A packet sent towards the backhaul through a next-hop record: hop limit down by one, a disabled record drops it. -/
def toNextHop (t nh : Nat) (decHlim : Bool) (p : Packet) (s : State) : State :=
  if decHlim && p.hlim ≤ 1 then s.inc Reg.FWD_HLIM.CNT
  else if !s.on (Reg.FWD_NHr_CFG.EN nh) then s.inc Reg.FWD_NOROUTE.CNT
  else ethEnqueue t (s.get (Reg.FWD_NHr_CFG.PORT nh)) nh (if decHlim then { p with hlim := p.hlim - 1 } else p) s

/-! ## Learning (R263 to R265) -/

/-- One learning request is carried out: insert, refresh, or replace a learned entry whose result differs. -/
def learnOne (p : Nat) (r : LearnReq) (s : State) : State :=
  match emtFind s p 1 r.tenant r.iid with
  | some k =>
    let e := emtAt s p k
    if e.origin = 0 then emtPut p k { e with result := r.endpoint, lastUse := s.nowSec % 2 ^ 16 } s
    else emtUsed p k s
  | none => (emtInsert p
      { valid := true, origin := 0, ty := 1, tenant := r.tenant, tables := 0, key := r.iid, result := r.endpoint, action := 0,
        nh := 0, sid := 0, lastUse := s.nowSec % 2 ^ 16 } s).1

/-- A pipeline's queued learning requests in order of arrival (R261); a table under rebuild learns nothing (R262). -/
def learnRun (p : Nat) (s : State) : State :=
  let q := if s.on (Reg.FWD_EMTp_CTRL.REBUILD p) then [] else (pipeOf s p).learnQ
  forEach q (learnOne p) (modPipe p (fun x => { x with learnQ := [] }) s)

/-- Clocks of an insertion (R259). -/
def insertClocks (s : State) (p : Nat) : Nat := 16 + 8 * max 1 (s.get (Reg.FWD_EMTp_CTRL.MAX_KICKS p))

/-- The requests that are finished by now, one after the other, each in the clocks of an insertion: how many, and the clock of the last. -/
def learnDone (s : State) (p : Nat) : (last : Nat) → List LearnReq → Nat × Nat
  | last, [] => (0, last)
  | last, r :: l =>
    let fin := max last r.clk + insertClocks s p
    if s.clk < fin then (0, last) else
    let x := learnDone s p fin l
    (x.1 + 1, x.2)

/-- A pipeline's finished requests have had their effect (R261, R265; log entry 53). -/
def learnSettle (p : Nat) (s : State) : State :=
  let q := (pipeOf s p).learnQ
  let d := learnDone s p (pipeOf s p).learnEnd q
  forEach (q.take d.1) (learnOne p) (modPipe p (fun x => { x with learnQ := q.drop d.1, learnEnd := d.2 }) s)

/-- A released uplink frame asks its pipeline to learn its sender. -/
def learnAsk (t iid endpoint : Nat) (s : State) : State :=
  if !s.on Reg.FWD_CTRL.LEARN_EN || (indexedIid iid).isSome then s else
  let p := pipeServing s t
  if s.on (Reg.FWD_EMTp_CTRL.REBUILD p) then s
  else
  let s := learnSettle p s
  if (pipeOf s p).learnQ.length ≥ 64 then s.inc Reg.FWD_LEARN_DROP.CNT
  else modPipe p (fun x => { x with learnQ := x.learnQ ++ [⟨t, iid, endpoint, s.clk⟩] }) s

/-! ## JOIN entries (R251, R254, R262) -/

/-- The JOIN entries of a node: by extended address, and by short address where it has one. -/
def joinEntries (n : Nat) (x : NtH) : List EmtEntry :=
  { (default : EmtEntry) with valid := true, origin := 1, ty := 2, tenant := x.tenant, key := x.eui, result := n } ::
  (if x.short = 0xFFFE then [] else
    [{ (default : EmtEntry) with valid := true, origin := 1, ty := 3, tenant := x.tenant, key := x.short, result := n }])

/-- A confirmed use of the entry that named a released frame's sender (R193, R264). -/
def senderUsed (fr : Frame) (s : State) : State :=
  let p := pipeServing s fr.tenant
  let used (ty key : Nat) : State := (emtFind s p ty fr.tenant key).elim s (fun k => emtUsed p k s)
  if fr.mrec.phy = 3 then s else
  match fr.psdu.src with
  | .short a => used 3 a
  | .ext a => used 2 a
  | .none => s

/-- Installs the JOIN entries of the JOINED nodes of the tenants that `sel` names, from NT-H. -/
def joinInstall (p : Nat) (sel : Nat → Bool) (s : State) : State :=
  forEach (s.fwd.nth.filter (fun e => e.2.joined && sel e.2.tenant)) (fun e s =>
    forEach (joinEntries e.1 e.2) (fun x s => (emtInsert p x s).1) s) s

/-! ## Flood engine (R280 to R283) -/

def modFld (f : FldS → FldS) (s : State) : State := { s with fld := f s.fld }

def fldSync (s : State) : State :=
  (s.put Reg.FLD_STAT.SEEN_USED s.fld.seen.length).put Reg.FLD_STAT.BUF_USED s.fld.buf.length

def iMin (s : State) (t : Nat) : Nat := max 1 (s.get (Reg.FLD_Tt_IMIN.IMIN t))

/-- Buffers a message and starts its Trickle timer. -/
def floodBuffer (m : FloodMsg) (s : State) : State :=
  fldSync (modFld (fun f => { f with buf := f.buf ++ [{ m with start := s.ms, interval := iMin s m.tenant }] }) s)

/-- The flood engine has space for a message of a tenant: of up to 1,280 octets, 256 in all and QUOTA of the tenant (R280). -/
def floodRoom (s : State) (t len : Nat) : Bool :=
  decide (len ≤ 1280) && decide (s.fld.buf.length < 256) &&
  decide ((s.fld.buf.filter (fun m => m.tenant == t)).length < s.get (Reg.FLD_Tt_CFG.QUOTA t))

/-- A packet with the MPL option of a seed and a sequence number: a hop-by-hop header of 8 octets with the option of S = 0 and its padding
(RFC 7731; PRESUMED, log entry 53). -/
def Packet.withMpl (p : Packet) (seed seq : Nat) : Packet := { p with mpl := some (seed, seq), len := p.len + 8 }

/-- Seeds a multicast message with the root's address in the tenant prefix as seed-id (R280): whether it found space. The message with its option
is what the buffer holds. -/
def floodSeed (t : Nat) (p : Packet) (s : State) : State × Bool :=
  let seq := s.get (Reg.FLD_Tt_SEQ.NEXT t)
  let m := p.withMpl (rootAddr s t) seq
  if !floodRoom s t m.len then (s.inc Reg.FLD_BUF_FULL.CNT, false) else
  let s := (s.put (Reg.FLD_Tt_SEQ.NEXT t) ((seq + 1) % 256)).inc Reg.FLD_SEEDED.CNT
  (floodBuffer { (default : FloodMsg) with tenant := t, seed := rootAddr s t, seq := seq, hlim := p.hlim, pkt := m } s, true)

/-- 8-bit serial arithmetic: `a` is older than `b`. -/
def serialOlder (a b : Nat) : Bool := decide (128 ≤ (a + 256 - b) % 256)

/-- The buffer holds the message (R281). -/
def floodHas (s : State) (t seed seq : Nat) : Bool := s.fld.buf.any (fun m => m.tenant == t && m.seed == seed && m.seq == seq)

/-- A received MPL message is new (R282). One that the buffer holds, seeded by the part itself, is a copy and so not new (log entry 53). -/
def mplNew (s : State) (t seed seq : Nat) : Bool :=
  !floodHas s t seed seq &&
  !s.fld.seen.any (fun x => x.tenant == t && x.seed == seed && x.seq == seq) &&
  !s.fld.seeds.any (fun x => x.tenant == t && x.seed == seed && serialOlder seq x.minSeq)

/-- Processing clocks of a second. -/
def secClocks : Nat := 8000 * Config.tickClocks

/-- Entries past their life leave the seen cache; their seeds' MinSequence follows (R283). -/
def seenExpire (s : State) : State :=
  let gone := s.fld.seen.filter (fun x => decide (x.expire ≤ s.clk))
  let bump (l : List Seed) (x : Seen) : List Seed :=
    l.map (fun y => if y.tenant = x.tenant && y.seed = x.seed && !serialOlder x.seq y.minSeq then { y with minSeq := (x.seq + 1) % 256 } else y)
  fldSync (modFld (fun f => { f with
    seen := f.seen.filter (fun x => decide (s.clk < x.expire))
    seeds := gone.foldl bump f.seeds }) s)

/-- Inserts a message in the seen cache, the oldest entry out of a full one; the seed becomes the most recently heard, and a
full seed table loses the least recently heard. A seed's MinSequence follows the entries that leave the cache. -/
def seenInsert (t seed seq : Nat) (s : State) : State :=
  let life := max 1 (s.get Reg.FLD_SEEN_CFG.LIFE)
  let full := decide (65536 ≤ s.fld.seen.length)
  let bump (l : List Seed) (x : Seen) : List Seed :=
    l.map (fun y => if y.tenant = x.tenant && y.seed = x.seed && !serialOlder x.seq y.minSeq then { y with minSeq := (x.seq + 1) % 256 } else y)
  let seeds := if full then (s.fld.seen.take 1).foldl bump s.fld.seeds else s.fld.seeds
  let mine := (seeds.find? (fun y => y.tenant == t && y.seed == seed)).getD ⟨t, seed, seq⟩
  let others := seeds.filter (fun y => !(y.tenant == t && y.seed == seed))
  let evict := decide (4096 ≤ others.length)
  let s := (s.incIf full Reg.FLD_SEEN_EVICT.CNT).incIf evict Reg.FLD_SEED_EVICT.CNT
  fldSync (modFld (fun f => { f with
    seen := (if full then f.seen.drop 1 else f.seen) ++ [⟨t, seed, seq, s.clk + life * secClocks⟩],
    seeds := (if evict then others.drop 1 else others) ++ [mine] }) s)

/-- Delivers a packet to a tenant's host queues. -/
def toHost (t : Nat) (p : Packet) (r : Option MetaRec) (frags : Nat) (mpl : Bool) (source : Nat) (s : State) : State :=
  fqAdmit t (fqPktOf s t p r frags mpl source) s

/-- A packet of `frags` frames for the PF's exception ring goes to set 256 (R309, R320). -/
def toException (t : Nat) (p : Packet) (r : Option MetaRec) (frags source : Nat) (s : State) : State :=
  fqAdmit 256 (fqPktOf s t p r frags false source) s

/-- A seed of the seed table is heard: it becomes the most recently heard (R283). -/
def seedHeard (t seed : Nat) (s : State) : State :=
  let mine (y : Seed) : Bool := y.tenant == t && y.seed == seed
  modFld (fun f => { f with seeds := f.seeds.filter (fun y => !mine y) ++ f.seeds.filter mine }) s

/-- An MPL data message is judged at the commit of the frame that carries it: a new one enters the seen cache, in the same burst as the commit,
and a copy too says that its seed was heard (R282, R283). -/
def mplJudge (t seed seq : Nat) (s : State) : State × Bool :=
  let s := seenExpire s
  if mplNew s t seed seq then (seenInsert t seed seq s, true) else (seedHeard t seed s, false)

/-- The MPL message of a released frame, once its insertion is acknowledged (R282, R283): a new one goes to the host and the buffer, another counts
as a copy. -/
def mplReceive (t seed seq : Nat) (fresh : Bool) (p : Packet) (r : Option MetaRec) (frags : Nat) (s : State) : State :=
  if fresh then
    let s := s.inc Reg.FLD_NEW.CNT
    let s := when (s.on (Reg.FLD_Tt_CFG.HOST_DELIVER t)) (toHost t p r frags true 2) s
    if s.on (Reg.FLD_Tt_CFG.FWD_EN t) && decide (1 < p.hlim) then
      if floodRoom s t p.len then
        floodBuffer { (default : FloodMsg) with tenant := t, seed := seed, seq := seq, hlim := p.hlim - 1, pkt := { p with hlim := p.hlim - 1 } } s
      else s.inc Reg.FLD_BUF_FULL.CNT
    else s
  else modFld (fun f => { f with buf := f.buf.map (fun m => if m.tenant = t && m.seed = seed && m.seq = seq
      then { m with heard := m.heard + 1 } else m) }) (s.inc Reg.FLD_DUP.CNT)

/-! ## Downlink and uplink forwarding -/

/-- A packet that is to go to the air from the backhaul or turned round enters composition through the TQ that the air map
names (R320, R321). Such a packet has the transmit settings that `prof` gives. -/
def airEnqueue (src : DlSrc) (t node : Nat) (prof : Nat) (ar : Bool) (srh : Option Srh) (p : Packet) (s : State) : State :=
  let q := mapQueue (s.eff (Reg.TM_Tt_AMAP.MAP t)) (priority s t p)
  if s.eff (Reg.TM_Tt_Qq_CFG.PORT t q) ≠ 2 then mapErr t s else
  let w := wordsOf p.len + 1
  if !tqFits s t q w then tqDrop t q w s else
  let s := poolTake w (modTq t q (fun x => { x with reserved := x.reserved + w }) s)
  let s := tqTel t q (fun x => { x with maxW := max x.maxW (tqOf s t q).depth }) s
  let d : FDesc :=
    { src := src, tenant := t, node := node, queue := q, profile := prof, ar := ar, bcast := false, lifetime := 65535, words := w,
      tick := s.core.ticks, compTick := if s.hif.intakeOpen then s.core.ticks else s.core.ticks + 1, made := 0, total := 0, tried := none, srh := srh, sizes := [], pkt := p }
  { s with hif := { s.hif with fetched := s.hif.fetched ++ [d] } }

/-- A unicast packet of the backhaul or turned round: resolved and queued, or dropped and counted (R276). -/
def downlinkIn (t : Nat) (fromBackhaul : Bool) (prof : Nat) (ar : Bool) (p : Packet) (s : State) : State :=
  let s := resolveRead t p s
  match resolve s t fromBackhaul p with
  | .none => s.inc Reg.FWD_NOROUTE.CNT
  | .loop => s.inc Reg.FWD_NH_LOOP.CNT
  | .away nh =>
    let s := match resolveIid s t (addrIid p.dst) with
      | some (_, some k) => emtUsed (pipeServing s t) k s
      | _ => s
    toNextHop t nh (!fromBackhaul) p s
  | .path _ k hops =>
    let p' := if fromBackhaul then { p with hlim := p.hlim - 1 } else p
    if fromBackhaul && p.hlim ≤ 1 then s.inc Reg.FWD_HLIM.CNT
    else
      let s := match k with
        | some k => emtUsed (pipeServing s t) k s
        | none => s
      airEnqueue (if fromBackhaul then .backhaul t else .turned t) t (firstHop s hops) prof ar (srhOf s t hops p') p' s

/-- A decompressed uplink packet takes the first row of R275 that matches it. `source` is the pipeline; `mpl` says that an MPL message is new, none
where the flood engine did not judge it. -/
def uplinkForward (t : Nat) (p : Packet) (mpl : Option Bool) (r : Option MetaRec) (frags : Nat) (prof : Nat) (ar : Bool) (s : State) : State :=
  let source := pipeServing s t
  if p.icmpType = some 155 then (s.inc Reg.FWD_UP_FW.CNT).emit (.toFirmware "rpl" (t :: p.text))
  else if p.icmpType = some 159 then toException t p r frags source s
  else match p.mpl with
  | some (seed, seq) => mpl.elim s (fun fresh => mplReceive t seed seq fresh p r frags s)
  | none =>
    let host := fun (s : State) => toHost t p r frags false source (s.inc Reg.FWD_UP_HOST.CNT)
    if (inTenantPfx s t p.dst && addrIid p.dst == rootIid s) || isLinkLocal p.dst then host s
    else if inTenantPfx s t p.dst then
      if s.on (Reg.FWD_Tt_CFG.P2P t) then downlinkIn t false prof ar p (s.inc Reg.FWD_TURN.CNT)
      else s.inc Reg.FWD_P2P_DROP.CNT
    else if isMulticast p.dst then host s
    else
      match emtFind s source 4 t p.dst with
      | some k =>
        let e := emtAt s source k
        let s := emtUsed source k (s.inc Reg.FWD_UP_STATIC.CNT)
        if e.action = 0 then toHost t p r frags false source s
        else if e.action = 1 then toNextHop t e.nh true p s
        else s
      | none =>
        let s := s.inc Reg.FWD_UP_DEF.CNT
        match s.get (Reg.FWD_Tt_CFG.DEF t) with
        | 0 => toHost t p r frags false source s
        | 1 => toNextHop t (s.get (Reg.FWD_Tt_CFG.DEF_NH t)) true p s
        | _ => s

/-! ## Reassembly (R274) -/

/-- Contexts past their timeout go (R274). -/
def reassemblyExpire (s : State) : State :=
  let gone := s.fwd.reasm.filter (fun c => decide (c.deadline ≤ s.clk))
  modFwd (fun w => { w with reasm := w.reasm.filter (fun c => decide (s.clk < c.deadline)) }) (s.incBy Reg.FWD_REASM_TO.CNT gone.length)

/-- A released fragment with its octets: the reassembly contexts after it, and where its datagram is now whole the datagram and its frame count. One
that reaches past the datagram's size is discarded as an overlapping one is. -/
def fragmentIn (t endpoint tag size ofs : Nat) (o : List Nat) (s : State) : State × Option (List Nat × Nat) :=
  let s := reassemblyExpire s
  let mine (c : Reasm) : Bool := c.tenant == t && c.endpoint == endpoint && c.tag == tag && c.size == size
  let len := o.length
  match s.fwd.reasm.find? mine with
  | some c =>
    if size < ofs + len || c.held.any (fun h => decide (ofs < h.1 + h.2.length) && decide (h.1 < ofs + len)) then (s, none)
    else
      let c' := { c with held := c.held.filter (fun h => decide (h.1 < ofs)) ++ (ofs, o) :: c.held.filter (fun h => decide (ofs < h.1)), frames := c.frames + 1 }
      if size ≤ sumNat (c'.held.map (·.2.length)) then
        (modFwd (fun w => { w with reasm := w.reasm.filter (fun x => !mine x) }) s, some (c'.held.flatMap (·.2), c'.frames))
      else (modFwd (fun w => { w with reasm := w.reasm.map (fun x => if mine x then c' else x) }) s, none)
  | none =>
    if size > 1280 || decide (2048 ≤ s.fwd.reasm.length) then (s.inc Reg.FWD_REASM_FULL.CNT, none)
    else if size < ofs + len then (s, none)
    else if len = size then (s, some (o, 1))
    else
      (modFwd (fun w => { w with reasm := w.reasm ++ [⟨t, endpoint, tag, size, [(ofs, o)],
        s.clk + max 1 (s.get Reg.FWD_REASM.TIMEOUT) * secClocks, 1⟩] }) s, none)

end Sys2Proof.Machine
end

