-- ==== Sys2Proof/Machine/RedOps.lean ====
section
/-! DEFINITION. Cluster states, mirror receivers and the posting of mirror records (R386, R399, R401, R404, R224). -/

namespace Sys2Proof.Machine

/-- A power domain is on (R454). -/
def pdOn (s : State) (d : Nat) : Bool := !s.pwr.off.contains d

/-! ## Clusters (R386) -/

def clOFF : Nat := 0
def clBOOT : Nat := 1
def clRESYNC : Nat := 2
def clCAUGHT_UP : Nat := 3
def clACTIVE : Nat := 4
def clFAILED : Nat := 5
def clHALTED : Nat := 6

/-- The state of cluster 0 (CC-A) or 1 (CC-B). -/
def clState (s : State) (c : Nat) : Nat := s.get (if c = 0 then Reg.WDN_STAT.CCA_STATE else Reg.WDN_STAT.CCB_STATE)

def clEnFld (c : Nat) : Fld := if c = 0 then Reg.WDN_CTRL.CCA_EN else Reg.WDN_CTRL.CCB_EN

/-- The cluster that holds the cluster lease. -/
def clHolder (s : State) : Nat := s.get Reg.WDN_STAT.HOLDER

/-- The other cluster. -/
def clStandby (s : State) : Nat := 1 - clHolder s

def clActive (s : State) : Bool := clState s (clHolder s) == clACTIVE

def modWdn (f : WdnS → WdnS) (s : State) : State := { s with wdn := f s.wdn }
def modMir (f : MirS → MirS) (s : State) : State := { s with mir := f s.mir }

/-- Bits set among 32. -/
def ones32 (n : Nat) : Nat := ((List.range 32).filter (bitAt n)).length

/-- DBG_CCc_STAT.LOCKS counts the locks of each cluster (R503): the standby's are those of DBG_LOCK_OWN. -/
def lockSync (s : State) : State :=
  let held (i : Nat) : Nat := s.get (Reg.DBG_LOCK_STATi.HELD_B i)
  let stby := ones32 (s.get (Reg.DBG_LOCK_OWNi.STBY_B 0)) + ones32 (s.get (Reg.DBG_LOCK_OWNi.STBY_B 1))
  let all := ones32 (held 0) + ones32 (held 1)
  (s.put (Reg.DBG_CCc_STAT.LOCKS (clHolder s)) (all - stby)).put (Reg.DBG_CCc_STAT.LOCKS (1 - clHolder s)) stby

/-- A cluster takes or frees a hardware lock that no other cluster holds (R503). -/
def lockSet (l : Nat) (take stby : Bool) (s : State) : State :=
  let i := l % 64 / 32
  let b := 2 ^ (l % 32)
  let held := s.get (Reg.DBG_LOCK_STATi.HELD_B i)
  let own := s.get (Reg.DBG_LOCK_OWNi.STBY_B i)
  if take then
    if bitAt held (l % 32) then s else
    lockSync ((s.put (Reg.DBG_LOCK_STATi.HELD_B i) (held + b)).put (Reg.DBG_LOCK_OWNi.STBY_B i) (if stby then own + b else own))
  else if bitAt held (l % 32) && bitAt own (l % 32) == stby then
    lockSync ((s.put (Reg.DBG_LOCK_STATi.HELD_B i) (held - b)).put (Reg.DBG_LOCK_OWNi.STBY_B i) (if stby then own - b else own))
  else s

/-- A standby's locks are freed when it becomes FAILED (R503). -/
def lockFree (s : State) : State :=
  lockSync (forEach [0, 1] (fun i s =>
    (s.put (Reg.DBG_LOCK_STATi.HELD_B i) (s.get (Reg.DBG_LOCK_STATi.HELD_B i) - s.get (Reg.DBG_LOCK_OWNi.STBY_B i))).put
      (Reg.DBG_LOCK_OWNi.STBY_B i) 0) s)

/-- When the lease moves, the locks of the old active cluster pass to the new one, which keeps its own (R503). -/
def lockPass (s : State) : State := lockSync ((s.put (Reg.DBG_LOCK_OWNi.STBY_B 0) 0).put (Reg.DBG_LOCK_OWNi.STBY_B 1) 0)

/-- A cluster enters a state. MIR_STAT.STBY_OK shows whether the internal standby is CAUGHT_UP, FW_STAT.FW_READY whether a cluster is
ACTIVE. -/
def setCluster (c st : Nat) (s : State) : State :=
  let s := s.put (if c = 0 then Reg.WDN_STAT.CCA_STATE else Reg.WDN_STAT.CCB_STATE) st
  let s := if st = clFAILED && c != clHolder s then lockFree s else s
  let ok := clState s 0 == clCAUGHT_UP || clState s 1 == clCAUGHT_UP
  let s := s.putB Reg.MIR_STAT.STBY_OK ok
  let s := s.putB Reg.FW_STAT.FW_READY (clState s 0 == clACTIVE || clState s 1 == clACTIVE)
  modWdn (fun w => { w with caughtSince := if ok then (if st = clCAUGHT_UP then some s.core.ticks else w.caughtSince) else none }) s

/-- An internal standby that is CAUGHT_UP, which alone is eligible (R386). -/
def stbyOk (s : State) : Bool := clState s (clStandby s) == clCAUGHT_UP

/-! ## Mirror paths -/

def pathOf (s : State) (p : Nat) : PathS := if p = 0 then s.mir.int else s.mir.twin

def modPath (p : Nat) (f : PathS → PathS) (s : State) : State :=
  modMir (fun m => if p = 0 then { m with int := f m.int } else { m with twin := f m.twin }) s

def linkLINKED : Nat := 3

def twinLinked (s : State) : Bool := s.on Reg.MIR_CTRL.TWIN && s.get Reg.MIR_STAT.LINK == linkLINKED

/-- The path has a receiver: a standby in RESYNC or CAUGHT_UP, or a linked twin that is not lost (R401). -/
def pathHasReceiver (s : State) (p : Nat) : Bool :=
  if p = 0 then clState s (clStandby s) == clCAUGHT_UP || clState s (clStandby s) == clRESYNC
  else twinLinked s && !s.on Reg.MIR_STAT.TWIN_LOST

/-- This part is the holder or single: a follower sends no records (R401). -/
def isFollower (s : State) : Bool :=
  s.on Reg.MIR_CTRL.TWIN && (s.get Reg.MIR_STAT.ROLE == 2 || s.get Reg.MIR_STAT.ROLE == 3)

/-- The twin is CAUGHT_UP and counts as a receiver to wait for (R224). -/
def twinOk (s : State) : Bool :=
  twinLinked s && !s.on Reg.MIR_STAT.TWIN_LOST && s.mir.peerCaughtUp && s.effOn Reg.MIR_CTRL.CNT_MIRROR && !isFollower s

/-- The receivers whose acknowledgement a commit or a lease waits for: those that are CAUGHT_UP when it is written (R224). -/
def mirWaits (s : State) : List Nat := (if stbyOk s then [0] else []) ++ (if twinOk s then [1] else [])

/-- An activation runs: BOOTING, STREAMING, HANDOVER or RESTARTING (R437). -/
def activating (s : State) : Bool := 1 ≤ s.get Reg.FW_STAT.ACT_STATE && s.get Reg.FW_STAT.ACT_STATE ≤ 4

/-- Queues a record for the next burst of every path that carries it (R401, R404). FC commits go to the twin only with
CNT_MIRROR = 1 (R399). -/
def mirPost (r : MirRec) (s : State) : State :=
  let toTwin := match r with
    | .fcCommit .. => s.effOn Reg.MIR_CTRL.CNT_MIRROR
    | _ => true
  let toStandby := match r with
    | .fwDelta .. => !activating s
    | _ => true
  let s := when (r.onPath 0 && toStandby && pathHasReceiver s 0) (modPath 0 (fun p => { p with queue := p.queue ++ [r] })) s
  when (r.onPath 1 && toTwin && !isFollower s && pathHasReceiver s 1) (modPath 1 (fun p => { p with queue := p.queue ++ [r] })) s

/-- A fresh name for a frame or lease that waits for mirroring. -/
def mirId (s : State) : Nat × State := (s.mir.nextId, modMir (fun m => { m with nextId := m.nextId + 1 }) s)

/-- A node-table write by firmware, mirrored to the twin (R399, R404). -/
def fwNth (n : Nat) (x : NtH) (s : State) : State := mirPost (.nth n x) (writeNth n x s)
def fwNtc (e : Nat) (x : NtC) (s : State) : State := mirPost (.ntc e x) (writeNtc e x s)

/-! ## What the part was provisioned with (R450 to R453) -/

/-- A pair is committed when its intent record is complete and a commit position names it (R451). -/
def LcPair.committed (p : LcPair) : Bool := p.intent == .complete && (p.c0 == .complete || p.c1 == .complete)

/-- The provisioning payload in force: the copy that the committed PROVISIONED intent names (R453). -/
def provPayload (s : State) : Option (List Nat) :=
  match (s.otp.pairs.filter (fun p => p.committed && p.dst == 1)).getLast? with
  | none => none
  | some p => match (if p.copy = 0 then s.otp.pay0 else s.otp.pay1) with
    | .ok w => some w
    | _ => none

/-- The hashes of the operator public key and of the operator facet public key, as words of the payload (R452). -/
def operatorKey (s : State) : Option (List Nat) := (provPayload s).map (fun w => (w.drop 30).take 12)
def facetKey (s : State) : Option (List Nat) := (provPayload s).map (fun w => (w.drop 42).take 12)

/-- A signature over octets verifies under the key that a hash names; with no such key none does. The signer's number is 2 for the operator facet
key, 3 for the operator key (log entry 6). -/
def signedBy (signer : Nat) (key : Option (List Nat)) (msg sig : List Nat) : Bool :=
  match key with
  | none => false
  | some k => Config.sigVerify (signer :: k ++ msg) sig

def operatorSigned (s : State) (msg sig : List Nat) : Bool := signedBy 3 (operatorKey s) msg sig

/-- The octets that an array of registers holds, register i octets 4i to 4i + 3. -/
def octetsOf (s : State) (f : Nat → Fld) (n : Nat) : List Nat := (List.range n).flatMap (fun i => octetsLe 4 (s.get (f i)))

end Sys2Proof.Machine
end

