-- ==== Sys2Proof/Machine/SecOps.lean ====
section
/-! DEFINITION. Keys, counters, the receive check and the transmit key of the security engine (chapter 7). -/

namespace Sys2Proof.Machine

def modSec (f : SecS → SecS) (s : State) : State := { s with sec := f s.sec }
def modKv (f : KvS → KvS) (s : State) : State := { s with kv := f s.kv }

def zeroised (s : State) : Bool := s.on Reg.KV_STATE.STATE

/-- The security engine's counters stand still while PD18 is off (R527). -/
def secInc (f : Fld) (s : State) : State := s.incIf (pdOn s 18) f
def secIncBy (f : Fld) (n : Nat) (s : State) : State := if pdOn s 18 then s.incBy f n else s

/-! ## Key references -/

/-- A node key's reference in the counter table: slots are 0 to 4095, node keys 4096 + endpoint. -/
def nodeRef (endpoint : Nat) : Nat := 4096 + endpoint

def slotOf (s : State) (k : Nat) : Slot := s.kv.slots.get k
def modSlot (k : Nat) (f : Slot → Slot) (s : State) : State :=
  let s := modKv (fun v => { v with slots := v.slots.upd k f }) s
  s.put Reg.KV_SLOTS_USED.USED (s.kv.slots.filter (fun e => e.2.active)).length

def epoch (s : State) : Nat := s.get Reg.KV_STATE.EPOCH

/-- A wrapped node key unwraps: KEK_D is there and of the record's epoch, and the place, endpoint and generation are those
bound by the wrap (R243, R245). -/
def unwraps (s : State) (w : WrappedKey) (endpoint gen : Nat) (staged : Bool) : Bool :=
  s.kv.kekD && w.kek == epoch s && w.endpoint == endpoint && w.gen == gen && w.staged == staged && decide (epoch s < 64)

/-- The node key of an endpoint for a tenant (R212, R243). -/
def nodeKeyOf (s : State) (endpoint tenant : Nat) : Option Nat :=
  let r := s.kv.secrets.get endpoint
  if r.valid && r.tenant == tenant && unwraps s r.wkey endpoint r.gen false then some r.wkey.key else none

def nodeStagedOf (s : State) (endpoint : Nat) : Option Nat :=
  let r := s.kv.secrets.get endpoint
  match r.wstg with
  | some w => if unwraps s w endpoint r.gen true then some w.key else none
  | none => none

/-- The key bits behind a reference. -/
def keyBits (s : State) (ref tenant : Nat) : Option Nat :=
  if ref < 4096 then (if (slotOf s ref).active then some (slotOf s ref).key else none)
  else nodeKeyOf s (ref - 4096) tenant

/-! ## Secret backup (R314) -/

def sbkEntry (s : State) (ep : Nat) : Entry := .sbk ep (s.kv.secrets.get ep) (epoch s) s.tick

/-- The list of waiting indices is full: SBK_OVERFLOW, and the pass over every VALID record that follows writes them all. -/
def sbkOverflow (s : State) : State :=
  let s := (raisePf 0x47 s.hif.sbkWait.length 0 s).put Reg.HIF_STAT.SBK_OVF 1
  { s with hif := { s.hif with sbkWait := [], sbkPass := [], sbkAll := false } }

/-- A changed record waits for, or goes at once to, the PF's SBK ring. One that waits already is read when it is written; before the pass over every
VALID record begins, it will be part of it. -/
def sbkPush (ep : Nat) (s : State) : State :=
  if s.on Reg.HIF_STAT.SBK_OVF && !s.hif.sbkAll then s
  else if s.hif.sbkWait.contains ep || s.hif.sbkPass.contains ep then s
  else if s.hif.sbkWait.isEmpty && s.hif.sbkPass.isEmpty && ringTakes s 0 ringSBK then ringWrite 0 ringSBK (sbkEntry s ep) s
  else
    let s := { s with hif := { s.hif with sbkWait := s.hif.sbkWait ++ [ep] } }
    if s.hif.sbkWait.length < 65536 then s else sbkOverflow s

/-- The waiting records go to SBK as it has room, those of a pass first; once the pass has written all of them, SBK_OVF clears. -/
def sbkDrain (s : State) : State :=
  let s := forEach s.hif.sbkPass (fun ep s =>
    if ringTakes s 0 ringSBK then ringWrite 0 ringSBK (sbkEntry s ep) { s with hif := { s.hif with sbkPass := s.hif.sbkPass.drop 1 } } else s) s
  let s := if s.hif.sbkAll && s.hif.sbkPass.isEmpty then { s.put Reg.HIF_STAT.SBK_OVF 0 with hif := { s.hif with sbkAll := false } } else s
  if s.hif.sbkPass.isEmpty then
    forEach s.hif.sbkWait (fun ep s =>
      if ringTakes s 0 ringSBK then ringWrite 0 ringSBK (sbkEntry s ep) { s with hif := { s.hif with sbkWait := s.hif.sbkWait.drop 1 } } else s) s
  else s

/-- Window 1, which holds the node-secret region, is OPEN (R485). -/
def secretsOpen (s : State) : Bool := s.get (Reg.MEM_WINw_STAT.STATE 1) == 3

/-- Writes a node secret record and backs it up (R244). -/
def secretPut (ep : Nat) (r : NodeSecret) (s : State) : State :=
  if !secretsOpen s then memRefuse 1 ep 0x0C s else
  sbkPush ep (modKv (fun v => { v with secrets := v.secrets.set ep r }) s)

/-! ## Counters (R223 to R228) -/

def ctrOf (s : State) (ref : Nat) : CounterS := s.sec.ctr.get ref

def modCtr (ref : Nat) (f : CounterS → CounterS) (s : State) : State :=
  modSec (fun c => { c with ctr := c.ctr.upd ref f }) s

/-- The highest valid reservation of a fingerprint in the journal, 0 if there is none (R227, R228). -/
def journalRes (s : State) (fpr : Nat) : Nat :=
  (s.sec.journal.filter (fun e => e.2.2 && e.1 == fpr)).foldl (fun a e => max a e.2.1) 0

/-- SEC_STAT.CB_PEND: leases waiting, saturating. -/
def cbPendSync (s : State) : State :=
  s.put Reg.SEC_STAT.CB_PEND (min 65535 (s.sec.ctr.filter (fun e => e.2.lease.isSome)).length)

/-- The key can send with no further counter: its last block is used up (R226). -/
def exhausted (c : CounterS) : Bool := decide (0xFFFFFC00 ≤ c.hw) && c.next == c.limit && c.lease.isNone

/-- The tenant a key belongs to; 256 is the PF. -/
def keyTenant (s : State) (ref : Nat) : Nat := if ref < 4096 then (slotOf s ref).tenant else (s.kv.secrets.get (ref - 4096)).tenant

/-- The last block of a key is used up: KV_STATE.EXHAUST_EVT is set and the event raised (R226, R313). -/
def exhaustNote (ref : Nat) (s : State) : State :=
  let slot := decide (ref < 4096)
  let arg := if slot then ref else (ntcOf s (ref - 4096)).node
  let s := raisePf 0x45 arg (b2n (!slot)) (s.put Reg.KV_STATE.EXHAUST_EVT 1)
  if keyTenant s ref < 256 then raiseTenant (keyTenant s ref) 0x45 arg (b2n (!slot)) s else s

/-- The keys that have used up their last block since a state. -/
def exhaustNotes (old s : State) : State :=
  forEach ((s.sec.ctr.filter (fun e => exhausted e.2 && !exhausted (ctrOf old e.1))).map (·.1)) exhaustNote s

/-- A key that is loaded starts its counters at its reservation (R228). -/
def loadKey (ref key : Nat) (s : State) : State :=
  let r := journalRes s (Config.fpr key)
  when (decide (0xFFFFFC00 ≤ r)) (exhaustNote ref)
    (cbPendSync (modCtr ref (fun _ => { next := r, limit := r, hw := r, twinHw := r, lease := none }) s))

/-- A lease with nothing left to wait for makes its block usable (R223). -/
def leaseSettle (ref : Nat) (s : State) : State :=
  match (ctrOf s ref).lease with
  | some l => if l.waits.isEmpty && !l.journal then
      cbPendSync (modCtr ref (fun c => { c with limit := l.hw, lease := none }) s) else s
  | none => s

/-- The split bound (R419): while TWIN_LOST is set no block goes further than JUMP_BLK blocks past what the twin last
acknowledged. -/
def splitHolds (s : State) (c : CounterS) (hw : Nat) : Bool :=
  s.on Reg.MIR_STAT.TWIN_LOST && decide (c.twinHw + max 1 (s.get Reg.MIR_SPLIT.JUMP_BLK) * 1024 < hw)

/-- Leases a new block for a key whose usable counters run low (R223, R226, R227, R419). A node key's HW stands in its record: while window 1 is not
OPEN nothing is leased. -/
def leaseBlock (ref tenant : Nat) (s : State) : State :=
  let c := ctrOf s ref
  let low := max 1 (s.get Reg.SEC_CB_CFG.LOW)
  if c.lease.isSome || low < c.limit - c.next || 0xFFFFFC00 ≤ c.hw || splitHolds s c (c.hw + 1024) then s
  else if decide (4096 ≤ ref) && !secretsOpen s then memRefuse 1 (ref - 4096) 0x0C s else
  match keyBits s ref tenant with
  | none => s
  | some k =>
    let hw := c.hw + 1024
    let fp := Config.fpr k
    let (id, s) := mirId s
    let waits := mirWaits s
    let l : Lease := { id := id, hw := hw, waits := waits, journal := decide (journalRes s fp < hw), bubble := false }
    let s := modCtr ref (fun c => { c with hw := hw, lease := some l }) (secInc Reg.SEC_CB_LEASE.CNT s)
    let s := if 4096 ≤ ref then
      let r := s.kv.secrets.get (ref - 4096)
      secretPut (ref - 4096) { r with hw := hw } s else s
    leaseSettle ref (cbPendSync (mirPost (.cbLease id ref fp hw) s))

/-! ## The key cache (R213) -/

/-- A frame is using a node key: one that waits for its release, or whose acknowledgement is still to be launched. -/
def keyInUse (s : State) (endpoint : Nat) : Bool :=
  s.sec.release.any (fun f => f.keyRef == some (nodeRef endpoint)) || s.mac.acks.any (fun a => a.keyRef == some (nodeRef endpoint))

/-- A node key enters the key cache, or becomes its most recently used; of a full cache the least recently used leaves that no frame is using
(R213), with its block but not its HW. A key that comes anew has no block: NEXT and LIMIT start at its HW, which never goes back (R225, R422). -/
def cacheKey (endpoint : Nat) (s : State) : State :=
  let had := s.sec.cache.contains endpoint
  let l := setDel s.sec.cache endpoint ++ [endpoint]
  let full := decide (16384 < l.length)
  let out := if full then (l.find? (fun e => !keyInUse s e)).getD (l.headD 0) else endpoint
  let s := modSec (fun c => { c with cache := if full then setDel l out else l }) s
  let s := when full (modCtr (nodeRef out) (fun c => { c with next := c.hw, limit := c.hw, lease := none })) s
  if had then s else
    let hw := max (s.kv.secrets.get endpoint).hw (ctrOf s (nodeRef endpoint)).hw
    modCtr (nodeRef endpoint) (fun c => if c.hw = hw && c.lease.isSome then c else { c with next := hw, limit := hw, hw := hw }) s

/-- SEC loads a node key from its record: what does not unwrap counts and is no key (R243). A record in a window that is not OPEN is not read (R486). -/
def loadNodeKey (ep : Nat) (s : State) : State :=
  let r := s.kv.secrets.get ep
  if !r.valid then s
  else if s.sec.cache.contains ep then cacheKey ep s
  else if !secretsOpen s then memRefuse 1 ep 0x0B s
  else if unwraps s r.wkey ep r.gen false then cacheKey ep s
  else secInc Reg.SEC_UNWRAP_FAIL.CNT s

/-- The RX_NODE windows of the cell that have begun and whose node keys are still to be loaded. -/
def keyWindows (s : State) : List WinS :=
  s.mac.wins.filter (fun x => x.w.kind == 0 && !x.used &&
    decide (s.mac.cellTick * Config.tickClocks + (x.lo.toNat * 98304 + 99999) / 100000 ≤ s.clk))

/-- The node keys of the RX_NODE windows begun by now enter the key cache, in the order of their starts, each once (R213). -/
def windowKeys (s : State) : State :=
  forEach (keyWindows s) (fun x s => loadNodeKey (nthOf s x.w.node).endpoint
    { s with mac := { s.mac with wins := s.mac.wins.map (fun y => if y = x then { y with used := true } else y) } }) s

/-- Takes a key's next counter, a node key's through the key cache (R213), and a use of a slot key with USE_COUNT ≠ 0 (R221, R230); then leases
ahead (R223). None where no counter is usable. -/
def takeCounter (ref tenant : Nat) (s : State) : State × Option Nat :=
  let s := leaseBlock ref tenant (when (decide (4096 ≤ ref)) (cacheKey (ref - 4096)) s)
  let c := ctrOf s ref
  if c.next < c.limit then
    let s := modCtr ref (fun c => { c with next := c.next + 1 }) s
    let s := if ref < 4096 && (slotOf s ref).useCount ≠ 0 then
      modSlot ref (fun k => { k with useCount := k.useCount - 1, depleted := k.useCount == 1 }) s else s
    let s := leaseBlock ref tenant s
    (when (exhausted (ctrOf s ref)) (exhaustNote ref) s, some c.next)
  else (s, none)

/-- A taking of the cluster or transmit lease makes every block void, at the high-water marks received mirrored (R225): a lease that the
standby has not acknowledged is not among them. -/
def voidBlocks (s : State) : State :=
  let open' := s.sec.ctr.filter (fun e => e.2.next ≠ e.2.hw || e.2.limit ≠ e.2.hw || e.2.lease.isSome)
  let old := s
  let s := secIncBy Reg.SEC_CB_VOID.CNT open'.length s
  exhaustNotes old (cbPendSync (modSec (fun c => { c with ctr := c.ctr.map (fun e =>
    let hw := match e.2.lease with
      | some l => if l.waits.contains 0 then l.hw - 1024 else e.2.hw
      | none => e.2.hw
    (e.1, { e.2 with next := hw, limit := hw, hw := hw, lease := none })) }) s))

/-- A part that takes the transmit lease unlinked first raises every HW by the jump, a node key's in its record too (R419). -/
def jumpBlocks (s : State) : State :=
  let j := max 1 (s.get Reg.MIR_SPLIT.JUMP_BLK) * 1024
  let s := forEach (List.filter (fun e => e.2.valid) s.kv.secrets) (fun e s => secretPut e.1 { e.2 with hw := min 0xFFFFFC00 (e.2.hw + j) } s) s
  modSec (fun c => { c with ctr := c.ctr.map (fun e => (e.1, { e.2 with hw := min 0xFFFFFC00 (e.2.hw + j) })) }) s

/-! ## Receiving (R211, R215, R218, R526, R527) -/

/-- The slot that a key identifier names for a tenant: the lowest-numbered that matches (R211 case 2). -/
def rxSlot (s : State) (t kim ix src : Nat) : Option Nat :=
  (List.find? (fun e => e.2.active && e.2.tenant == t && e.2.kim == kim && e.2.keyIndex == ix &&
    (kim == 1 || e.2.keySource == src) && e.2.usage != .unwrap) s.kv.slots).map (·.1)

/-- The key of a received frame (R211, R212): its reference. -/
def rxKey (s : State) (f : Frame) : Option Nat :=
  let p := f.psdu
  if !f.isJoin && s.effOn (Reg.SEC_Tt_CFG.NODE_KEYS f.tenant) && p.kim == 1 && p.keyIndex == s.eff (Reg.SEC_Tt_CFG.NODE_KIDX f.tenant) then
    let ep := (nthOf s f.node).endpoint
    if (nodeKeyOf s ep f.tenant).isSome then some (nodeRef ep) else none
  else rxSlot s f.tenant p.kim p.keyIndex p.keySource

/-- The header breaks a limit of R215 or R216, or its level is below the tenant's. -/
def rxPolicyBad (s : State) (f : Frame) : Bool :=
  let p := f.psdu
  !(p.level == 5 || p.level == 6 || p.level == 7) || !(p.kim == 1 || p.kim == 2 || p.kim == 3) || p.fcSuppressed || p.asnNonce ||
  decide (p.level < max 5 (s.eff (Reg.SEC_Tt_CFG.MIN_LEVEL f.tenant))) || (f.mrec.phy == 3 && p.kim != 1)

/-! ## Nonce, authenticated data and MIC (R215 to R217) -/

/-- Octets of a number, the most significant first: the byte order of the standard's nonce. -/
def octetsBe (n v : Nat) : List Nat := (List.range n).map (fun i => v / 256 ^ (n - 1 - i) % 256)

/-- The 13-octet CCM* nonce: source extended address, frame counter, security level (R217). -/
def ccmNonce (ext fc level : Nat) : List Nat := octetsBe 8 ext ++ octetsBe 4 fc ++ [level]

/-- Octets of the MIC by security level, and of the auxiliary security header by key identifier mode: the control octet, the counter and
the key identifier. -/
def micLen (level : Nat) : Nat := [4, 8, 16].getD (level - 5) 4
def auxLen (kim : Nat) : Nat := 5 + [0, 1, 5, 9].getD kim 0

/-- The extended address in a received frame's nonce: the one the frame carries, else its node's EUI-64, and on the LD PHY always NODE's
(R216), but for a join frame (R526). -/
def srcExt (s : State) (f : Frame) : Nat :=
  match f.psdu.src with
  | .ext a => if f.mrec.phy = 3 && !f.isJoin then (nthOf s f.node).eui else a
  | _ => (nthOf s f.node).eui
def rxNonce (s : State) (f : Frame) : List Nat := ccmNonce (srcExt s f) f.psdu.fc f.psdu.level

/-- The frame's MIC verifies under a key: it was made with that key, the nonce that the receiver forms, the MHR as received as authenticated
data, and the length of its level (R217). -/
def micOk (s : State) (f : Frame) (key : Nat) : Bool :=
  f.psdu.macKey == key && f.psdu.macNonce == rxNonce s f && f.psdu.macAad == f.psdu.mhr && f.psdu.macLen == micLen f.psdu.level

/-- The security engine receives: SEC_CTRL and its power domain (R527). -/
def secRxOn (s : State) : Bool := s.effOn Reg.SEC_CTRL.EN && s.effOn Reg.SEC_CTRL.RX_EN && pdOn s 18
def secTxOn (s : State) : Bool := s.effOn Reg.SEC_CTRL.EN && s.effOn Reg.SEC_CTRL.TX_EN && pdOn s 18

/-- What the receive check comes to: the status and counter of a failure, or the key that protected the frame. -/
inductive SecRes where
  | fail (status : Nat) (cnt : Fld)
  | plain
  | ok (ref bits : Nat) (hit : Option Bool)
deriving DecidableEq, Repr

def stMIC_FAIL : Nat := 0x0B
def stREPLAY : Nat := 0x0C

/-- The counter is not newer than the node's (R218 steps 4 and 6). -/
def replayed (x : NtH) (fc : Nat) : Bool := x.fcValid && decide (fc ≤ x.fcIn)

/-- Steps 1 to 5 of R218, with R526 for join frames, R527 and R247. -/
def secCheck (s : State) (f : Frame) : SecRes :=
  let p := f.psdu
  if !p.secured then
    if f.isJoin && s.effOn (Reg.SEC_Tt_CFG.JOIN_PLAIN f.tenant) then .plain else .fail stMIC_FAIL Reg.SEC_UNSECURED.CNT
  else if !secRxOn s then .fail stMIC_FAIL Reg.SEC_NOKEY.CNT
  else if rxPolicyBad s f then .fail stMIC_FAIL Reg.SEC_POLICY.CNT
  else if zeroised s then .fail stMIC_FAIL Reg.SEC_ZEROISED.CNT
  else match rxKey s f with
  | none => .fail stMIC_FAIL Reg.SEC_NOKEY.CNT
  | some ref =>
    if !f.isJoin && p.fc == 0xFFFFFFFF then .fail stREPLAY Reg.SEC_FC_MAX.CNT
    else if !f.isJoin && replayed (nthOf s f.node) p.fc then .fail stREPLAY Reg.SEC_REPLAY.CNT
    else
      let staged := if ref < 4096 then (if (slotOf s ref).stagedLive then (slotOf s ref).staged else none)
        else if s.kv.stagedNew.contains (ref - 4096) then none else nodeStagedOf s (ref - 4096)
      let cur := keyBits s ref f.tenant
      if staged.any (micOk s f) then .ok ref p.macKey (some true)
      else if cur.any (micOk s f) then .ok ref p.macKey (if staged.isSome then some false else none)
      else .fail stMIC_FAIL Reg.SEC_MIC_FAIL.CNT

/-! ## Transmitting (R221, R230) -/

/-- The lowest slot that a key index selects for transmit. -/
def txSlot (s : State) (t ix : Nat) (ld : Bool) : Option Nat :=
  (List.find? (fun e => e.2.active && e.2.tenant == t && e.2.usage == .frame && e.2.keyIndex == ix && (!ld || e.2.kim == 1)) s.kv.slots).map (·.1)

/-- The key a downlink frame is sent under. A destination that holds a node key of another tenant has none (R212). -/
def txKey (s : State) (t endpoint : Nat) (bcast ld : Bool) : Option Nat :=
  let r := s.kv.secrets.get endpoint
  if !bcast && s.effOn (Reg.SEC_Tt_CFG.NODE_KEYS t) && (nodeKeyOf s endpoint r.tenant).isSome then
    (if r.tenant = t then some (nodeRef endpoint) else none)
  else txSlot s t (s.eff (if bcast then Reg.SEC_Tt_TX.KIDX_BC t else Reg.SEC_Tt_TX.KIDX_UC t)) ld

/-- The level a tenant's frames are sent with, and the nonce of a frame that the part sends (R216, R217, R221). -/
def txLevel (s : State) (t : Nat) : Nat := max 5 (s.eff (Reg.SEC_Tt_TX.LEVEL t))
def txNonce (s : State) (level fc : Nat) : List Nat := ccmNonce (s.get Reg.MAC_ROOT_EXT.ADDR) fc level

/-- The key identifier mode of a key, a node key's being 1, and the octets that securing adds to a frame. -/
def kimOf (s : State) (ref : Nat) : Nat := if ref < 4096 then (slotOf s ref).kim else 1

/-- The security of a frame sent under a key with a counter of it: the key identity of its slot, or of a node key its tenant's index (R211, R221,
R222). -/
def secHdr (s : State) (t ref fc level : Nat) : SecHdr :=
  let k := slotOf s ref
  let slot := decide (ref < 4096)
  { level := level, kim := kimOf s ref, keyIndex := if slot then k.keyIndex else s.eff (Reg.SEC_Tt_CFG.NODE_KIDX t),
    keySource := if slot && k.kim != 1 then k.keySource else 0, fc := fc, key := (keyBits s ref t).getD 0, nonce := txNonce s level fc }

/-- The octets of an auxiliary security header (R215): the control octet, the counter, the key source and the key index. -/
def auxOctets (h : SecHdr) : List Nat :=
  let le (n v : Nat) : List Nat := (List.range n).map (fun i => v / 256 ^ i % 256)
  [h.level + 8 * h.kim] ++ le 4 h.fc ++ le ([0, 0, 4, 8].getD h.kim 0) h.keySource ++ [h.keyIndex % 256]
def secOctets (s : State) (t ref : Nat) : Nat := auxLen (kimOf s ref) + micLen (txLevel s t)

/-- The destination's record would give its key but does not unwrap (R243). -/
def txUnwrapBad (s : State) (t endpoint : Nat) : Bool :=
  let r := s.kv.secrets.get endpoint
  secTxOn s && s.effOn (Reg.SEC_Tt_CFG.NODE_KEYS t) && r.valid && r.tenant == t && !unwraps s r.wkey endpoint r.gen false

/-- A key that may take no further counter: depleted (R230) or exhausted (R226). -/
def keySpent (s : State) (ref : Nat) : Bool := (ref < 4096 && (slotOf s ref).depleted) || exhausted (ctrOf s ref)

end Sys2Proof.Machine
end

