-- ==== Sys2Proof/Machine/PrismOps.lean ====
section
/-! DEFINITION. The sample interface and Prism: ports, parameter sets, SYSREF, tuners and their validation (chapter 2). -/

namespace Sys2Proof.Machine

def modRsi (f : RsiS → RsiS) (s : State) : State := { s with rsi := f s.rsi }
def modPrsm (f : PrsmS → PrsmS) (s : State) : State := { s with prsm := f s.prsm }

/-! ## Rounding (R65, R524) -/

/-- The integer nearest to x / d, ties away from zero. -/
def roundDiv (x : Int) (d : Nat) : Int :=
  if 0 ≤ x then (2 * x + d) / (2 * d) else -((2 * (-x) + d) / (2 * d))

/-- A signed value saturated to `w` bits. -/
def satS (w : Nat) (x : Int) : Int := max (-(2 ^ (w - 1) : Int)) (min x (2 ^ (w - 1) - 1))

/-- A power of 0.001 dBFS steps as the 9-bit field of −0.25 dBFS steps (R65, R110): 0x1FF below −127.75 dBFS, 0 at or above 0. -/
def dbfsField (p : Int) : Nat := if 0 ≤ p then 0 else if p < -127750 then 0x1FF else (roundDiv (-p) 250).toNat

/-! ## Parameter sets (R43, R44, R46) -/

/-- Port states (R53). -/
def psDISABLED : Nat := 0
def psTRAINING : Nat := 1
def psDISCOVERY : Nat := 2
def psALIGNING : Nat := 3
def psUP : Nat := 4
def psDOWN : Nat := 5

/-- Decimation or interpolation factor of a set. -/
def setFactor (set : Nat) : Nat := [0, 4, 5, 6, 1, 2, 4, 0].getD set 0

/-- The LEMC length of a set in device clocks as numerator and denominator (R46): E multiblocks of 32, 128/5 or 64/3 device
clocks in 64b/66b mode, K frames in 8b/10b mode. -/
def lemcFrac (set sBit em1 km1 : Nat) : Nat × Nat :=
  match set with
  | 1 => (32 * (em1 + 1), 1)
  | 2 => (128 * (em1 + 1), 5)
  | 3 => (64 * (em1 + 1), 3)
  | 4 => (4 * (sBit + 1) * (km1 + 1), 2)
  | 5 => (4 * (sBit + 1) * (km1 + 1), 4)
  | 6 => (4 * (sBit + 1) * (km1 + 1), 8)
  | _ => (0, 1)

/-- N_LEMC where the rule of R46 holds. -/
def lemc (set sBit em1 km1 : Nat) : Option Nat :=
  let (n, d) := lemcFrac set sBit em1 km1
  if n % d == 0 && 0 < n / d && n / d ≤ 512 && 30720 % (n / d) == 0 then some (n / d) else none

/-- An RX port (below 8) or TX port (8 + n): its fields. -/
def portEn (p : Nat) : Fld := if p < 8 then Reg.RSI_RXn_CFG.EN p else Reg.RSI_TXn_CFG.EN (p - 8)
def portSet (p : Nat) : Fld := if p < 8 then Reg.RSI_RXn_CFG.SET p else Reg.RSI_TXn_CFG.SET (p - 8)
def portState (p : Nat) : Fld := if p < 8 then Reg.RSI_RXn_STAT.STATE p else Reg.RSI_TXn_STAT.STATE (p - 8)
def portErr (p : Nat) : Fld := if p < 8 then Reg.RSI_RXn_STAT.CFG_ERR p else Reg.RSI_TXn_STAT.CFG_ERR (p - 8)

def portLemc (s : State) (p : Nat) : Option Nat :=
  if p < 8 then lemc (s.get (portSet p)) (s.get (Reg.RSI_RXn_CFG.S p)) (s.get (Reg.RSI_RXn_CFG.E_M1 p)) (s.get (Reg.RSI_RXn_CFG.K_M1 p))
  else lemc (s.get (portSet p)) (s.get (Reg.RSI_TXn_CFG.S (p - 8))) (s.get (Reg.RSI_TXn_CFG.E_M1 (p - 8))) (s.get (Reg.RSI_TXn_CFG.K_M1 (p - 8)))

/-- Another port of the same direction uses this odd port's lane with set P6 (R44). -/
def laneTaken (s : State) (p : Nat) : Bool :=
  p % 2 == 1 && s.on (portEn (p - 1)) && s.get (portSet (p - 1)) == 6

/-- CFG_ERR of a port as its configuration stands (R44, R46, R59, R61). DESIGN CHOICE: of several that hold it shows the first in the
order 1, 2, 3, 4 (log entry 50). -/
def portCfgErr (s : State) (p : Nat) : Nat :=
  let set := s.get (portSet p)
  if set = 0 ∨ set = 7 ∨ (set = 6 ∧ p % 2 = 1) then 1 else
  match portLemc s p with
  | none => 2
  | some n =>
    if laneTaken s p then 3
    else if p < 8 then (if n ≤ s.get (Reg.RSI_RXn_DLY.RBD p) then 4 else 0)
    else (if s.get (Reg.RSI_TXn_DLY.TXDLY (p - 8)) < n then 4 else 0)

def gridOf (s : State) (p : Nat) : Option Nat := s.rsi.grid.find? p

/-- RSI_SYSREF_STAT.NEEDED: a port waits in ALIGNING (R58). -/
def needSync (s : State) : State :=
  s.putB Reg.RSI_SYSREF_STAT.NEEDED ((List.range 12).any (fun p => s.get (portState p) == psALIGNING))

/-- The power domain of the Prism quadrant that serves an RX port pair: PD11 to PD14. -/
def quadPd (p : Nat) : Nat := 11 + p / 2

/-- PD31 and an RX port's quadrant are on (R53). -/
def portPowered (s : State) (p : Nat) : Bool := pdOn s 31 && (8 ≤ p || pdOn s (quadPd p))

/-- A port enters a state. An RX port that goes DOWN is noted for the tuners' moves, one that is DISABLED is not moved from (R76, R522), and
one that is UP delivers samples; a port that leaves UP or ALIGNING loses its grid. -/
def setPort (p st : Nat) (s : State) : State :=
  let was := s.get (portState p)
  let s := s.put (portState p) st
  let s := when (st != psUP && st != psALIGNING) (modRsi (fun r => { r with grid := r.grid.erase p })) s
  let s := when (p < 8 && was != psDOWN && st == psDOWN) (modRsi (fun r => { r with wentDown := setAdd r.wentDown p })) s
  let s := when (p < 8 && st == psUP) (modRsi (fun r => { r with fed := setAdd r.fed p })) s
  let s := when (st == psDISABLED) (modRsi (fun r => { r with wentDown := setDel r.wentDown p })) s
  needSync s

/-- An enabled port leaves DISABLED, or stays there with its CFG_ERR; while its quadrant or PD31 is off it is DOWN (R53). -/
def trainPort (p : Nat) (s : State) : State :=
  let e := portCfgErr s p
  let s := s.put (portErr p) e
  if s.on (portEn p) && s.on Reg.RSI_CTRL.EN && e == 0 then setPort p (if portPowered s p then psTRAINING else psDOWN) s
  else setPort p psDISABLED s

def rxUp (s : State) (p : Nat) : Bool := s.get (Reg.RSI_RXn_STAT.STATE p) == psUP
def txUp (s : State) (p : Nat) : Bool := s.get (Reg.RSI_TXn_STAT.STATE p) == psUP

/-- T_fe and T_ifx in processing clocks (R59). -/
def tFe (set : Nat) : Nat := 64 * setFactor set

/-- D of R59. -/
def rxLat (s : State) (p : Nat) : Nat :=
  let n := (portLemc s p).getD 1
  (s.get (Reg.RSI_RXn_DLY.RBD p) + n - s.get (Reg.RSI_RXn_DLY.ARR p) % n) % n

/-- T_jesd and T_jesd_tx in processing clocks, of which a device clock has four (R59, R61). -/
def tJesd (s : State) (p : Nat) : Nat := 4 * rxLat s p + tFe (s.get (Reg.RSI_RXn_CFG.SET p))
def tJesdTx (s : State) (p : Nat) : Nat := tFe (s.get (Reg.RSI_TXn_CFG.SET p)) + 4 * s.get (Reg.RSI_TXn_DLY.TXDLY p)

/-- LAT and MARGIN_LOW of an RX port follow D (R59). -/
def showLat (p : Nat) (s : State) : State :=
  let d := rxLat s p
  (s.put (Reg.RSI_RXn_STAT.LAT p) d).putB (Reg.RSI_RXn_STAT.MARGIN_LOW p) (decide (d < 8) || decide ((portLemc s p).getD 1 < d + 8))

/-! ## Tuners (R66 to R70, R73 to R77) -/

def tuOf (s : State) (n : Nat) : TuS := s.prsm.tu.get n
def modTu (n : Nat) (f : TuS → TuS) (s : State) : State := modPrsm (fun x => { x with tu := x.tu.upd n f }) s

/-- Passband edges of the chains in Hz (R71). -/
def chainEdge (c : Nat) : Nat := [75000, 150000, 250000, 300000, 480000, 640000, 1050000].getD c 0

def tuEn (s : State) (n : Nat) : Bool := s.effOn (Reg.PRSM_TUn_CFG.EN n)
def tuPort (s : State) (n : Nat) : Nat :=
  if s.on (Reg.PRSM_TUn_STAT.ON_ALT n) then s.eff (Reg.PRSM_TUn_CFG.ALT_PORT n) else s.eff (Reg.PRSM_TUn_CFG.PORT n)
def tuChain (s : State) (n : Nat) : Nat := s.eff (Reg.PRSM_TUn_CFG.CHAIN n)
def tuPair (s : State) (n : Nat) : Bool := s.effOn (Reg.PRSM_TUn_CFG.MODE n)

/-- An absolute frequency or offset in units of 1 Hz / 2^32 and of 122.88 MHz / 2^32. -/
def bigHz (hz : Nat) : Int := (hz : Int) * 2 ^ 32

/-- The offset set for the tuner on its own port: the sequencer's or PRSM_TUn_FREQ (R66, R69). -/
def tuOwnOfs (s : State) (n : Nat) : Int :=
  match (if s.effOn (Reg.PRSM_TUn_CFG.HOP n) then (tuOf s n).hopOfs else none) with
  | some o => o
  | none => toSigned 32 (s.eff (Reg.PRSM_TUn_FREQ.FREQ n))

/-- The offset the mixer uses: negated for a converter that delivers an inverted spectrum (R66). -/
def mixOfs (s : State) (port : Nat) (ofs : Int) : Int := if s.effOn (Reg.PRSM_PORTn_CFG.SPEC_INV port) then -ofs else ofs

/-- The tuner's absolute frequency in Hz / 2^32. -/
def tuAbs (s : State) (n : Nat) : Int :=
  bigHz (s.eff (Reg.PRSM_PORTn_FC.FC (s.eff (Reg.PRSM_TUn_CFG.PORT n)))) + tuOwnOfs s n * 122880000

/-- The offset in force: on the alternate port the one that keeps the absolute frequency (R76). -/
def tuOfs (s : State) (n : Nat) : Int :=
  if s.on (Reg.PRSM_TUn_STAT.ON_ALT n) then
    roundDiv (tuAbs s n - bigHz (s.eff (Reg.PRSM_PORTn_FC.FC (s.eff (Reg.PRSM_TUn_CFG.ALT_PORT n))))) 122880000
  else tuOwnOfs s n

/-- The absolute frequency that results from the port and offset in use. -/
def tuAbsNow (s : State) (n : Nat) : Int :=
  bigHz (s.eff (Reg.PRSM_PORTn_FC.FC (tuPort s n))) + tuOfs s n * 122880000

/-- R68: the tuner and its partner match. One with MODE = 1 does not match a partner that is off (log entry 50). -/
def pairMatch (s : State) (n : Nat) : Bool :=
  let a := n / 2 * 2
  let b := a + 1
  tuEn s a && tuEn s b && tuPair s a && tuPair s b && tuChain s a == tuChain s b &&
  s.effOn (Reg.PRSM_TUn_CFG.HOP a) == s.effOn (Reg.PRSM_TUn_CFG.HOP b) && tuPort s a != tuPort s b &&
  s.eff (Reg.PRSM_PORTn_CFG.BAND (tuPort s a)) == s.eff (Reg.PRSM_PORTn_CFG.BAND (tuPort s b)) &&
  decide ((tuAbsNow s a - tuAbsNow s b).natAbs ≤ 2 ^ 32)

/-- The engines a tuner's configuration names. -/
def tuTargets (s : State) (n : Nat) : List Nat :=
  if tuPair s n then [n / 2 * 2, n / 2 * 2 + 1] else [s.eff (Reg.PRSM_TUn_CFG.ENGINE n)]

/-- Another enabled tuner, not of the same pair, names one of the tuner's engines. -/
def engineConflict (s : State) (n : Nat) : Bool :=
  (List.range 128).any (fun m => m != n && tuEn s m && !(tuPair s n && tuPair s m && m / 2 == n / 2) &&
    (tuTargets s m).any (fun e => (tuTargets s n).contains e))

/-- The power domain of an engine: PD03 to PD10 (R82). -/
def cePd (e : Nat) : Nat := 3 + e / 16

/-- The first rule of R67 that an enabled tuner fails, 0 for none. A tuner with MODE = 0 whose partner has MODE = 1 fails with it while the
partner is enabled (log entry 50). -/
def tuCheck (s : State) (n : Nat) : Nat :=
  let p := tuPort s n
  if 64 ≤ ((List.range n).filter (fun m => tuEn s m && tuPort s m == p)).length then 1
  else if tuChain s n ≤ 6 && decide (49152000 * 2 ^ 32 < (tuOfs s n).natAbs * 122880000 + chainEdge (tuChain s n) * 2 ^ 32) then 2
  else if !rxUp s p then 3
  else if (tuPair s n || (tuPair s (n / 2 * 2) && tuEn s (n / 2 * 2) && n % 2 == 1) ||
      (tuPair s (n / 2 * 2 + 1) && tuEn s (n / 2 * 2 + 1) && n % 2 == 0)) && !pairMatch s n then 4
  else if engineConflict s n then 5
  else if 6 < tuChain s n then 6
  else if (tuTargets s n).any (fun e => !pdOn s (cePd e)) then 7
  else 0

/-- The tuner outputs VALID samples. -/
def tuValid (s : State) (n : Nat) : Bool := s.get (Reg.PRSM_TUn_STAT.STATE n) == 2 && !(tuOf s n).lost

/-- The tuners `a` and `a + 1` run as a diversity pair (R68): the one with the pair's configuration that still runs says so. -/
def pairRuns (s : State) (a : Nat) : Bool := [a, a + 1].any (fun n => (tuOf s n).runs.any (·.pair))

/-- The tuner or pair that feeds an engine: the tuner, or the even tuner of the pair (R68, R79). -/
def feedOf (s : State) (e : Nat) : Option Nat :=
  let a := e / 2 * 2
  if pairRuns s a then some a
  else List.find? (fun n => (tuOf s n).runs.any (fun r => !r.pair && r.engine == e)) (List.range 128)

/-- The engine belongs to a diversity pair, in MRC or in SELECT mode (R91, R92). -/
def inPair (s : State) (e : Nat) : Bool := pairRuns s (e / 2 * 2)
def inMrc (s : State) (e : Nat) : Bool := inPair s e && s.eff (Reg.CE_DIV.MODE (e / 2 * 2)) == 0
def inSelect (s : State) (e : Nat) : Bool := inPair s e && s.eff (Reg.CE_DIV.MODE (e / 2 * 2)) == 1

/-- The tuner whose stream an engine takes: in SELECT mode the one of its own number, in MRC mode the even one and its partner (R91, R92). -/
def streamOf (s : State) (e : Nat) : Option Nat :=
  if inSelect s e then (if (tuOf s e).runs.isSome then some e else none) else feedOf s e

/-- The chain of a tuner's output: that it runs with, or that of its configuration. -/
def outChain (s : State) (n : Nat) : Nat := (tuOf s n).runs.elim (tuChain s n) (·.chain)

/-- The samples a tuner has put out since they were counted last are counted, and those that are INVALID in PRSM_TUn_INV (R73, R75). A tuner
that is off puts out none. -/
def tuCount (n : Nat) (s : State) : State :=
  let st := s.get (Reg.PRSM_TUn_STAT.STATE n)
  let t := tuOf s n
  let c := outChain s n
  let k := samplesIn c s.clk - samplesIn c t.mark
  let bad := if st = 3 || t.lost then k else if st = 1 then min k t.fill else 0
  if st = 0 then s else
  let tag (k : Nat) (b : Bool) : List (Nat × Bool) := if k = 0 then [] else [(k, b)]
  modTu n (fun t => { t with
    mark := max t.mark s.clk
    fill := if st = 1 then t.fill - bad else t.fill
    tags := t.tags ++ tag bad false ++ tag (k - bad) true }) (s.incBy (Reg.PRSM_TUn_INV.INVALID n) bad)

/-- A tuner restarts from zeroed state (R73, R75). The first start of a tuner that was off is no restart (log entry 50). -/
def tuRestart (n : Nat) (s : State) : State :=
  let s := modTu n (fun t => { t with fill := Config.chainLfd (outChain s n) }) (tuCount n s)
  (s.put (Reg.PRSM_TUn_STAT.STATE n) 1).inc (Reg.PRSM_TUn_STAT.RESTARTS n)

end Sys2Proof.Machine
end

