-- ==== Sys2Proof/Machine/Windows.lean ====
section
/-! DEFINITION. The Aperture windows and the windows of a cell (R181, R182, R188, R190, R195). -/

namespace Sys2Proof.Machine

/-- The cell's length in ns. -/
def cellNs (s : State) : Nat := s.mac.len * 125000

/-! ## Aperture (R188, R189) -/

def dtTicks (s : State) (x : NtH) : Nat := (s.tick % 2 ^ 48 + 2 ^ 48 - x.tLast) % 2 ^ 48

def aptStale (s : State) (x : NtH) : Bool :=
  x.aptN == 0 || x.aptM || decide (max 1 (s.get Reg.MAC_APT_CFG2.T_STALE) * 8000 < dtTicks s x)

/-- Centre offset and half-width in ns (R188). -/
def aptWindow (s : State) (x : NtH) : Int × Nat :=
  let g0j := (s.get Reg.MAC_APT_CFG0.G0 + s.get Reg.MAC_APT_CFG0.J) * 1000
  let wmax := max (s.get Reg.MAC_APT_CFG1.W_MAX * 1000) g0j
  if aptStale s x then (0, s.get Reg.MAC_APT_CFG1.W_WIDE * 1000) else
  let dt := dtTicks s x
  let dd := if s.get Reg.MAC_APT_CFG0.CONF_MIN ≤ x.aptN then x.aptD.natAbs
    else max x.aptD.natAbs (s.get Reg.MAC_APT_CFG2.D_INIT * 1000)
  let base := if x.aptP then 8000 * x.aptO else 16000 * x.aptO
  let c := roundDiv (base + 2 * x.aptD * dt) 16000
  let w := roundDiv (16000 * (g0j : Int) + 2 * dd * dt + (if x.aptP then 8000 * (x.aptO.natAbs : Int) else 0)) 16000
  (c, min w.toNat wmax)

/-! ## Windows in force (R181, R182, R190, R195) -/

/-- The window with its span, centre and half-width as computed at this boundary. TX_DATA windows are shifted later. -/
def winSpan (s : State) (w : Window) : WinS :=
  if w.kind = 0 then
    let (c, h) := aptWindow s (nthOf s w.node)
    let n : Int := w.ofs * 1000
    { w := w, lo := n + c - h - w.lead * 1000, hi := n + c + h, centre := c, half := h, dead := false, used := false, follow := none, offer := none }
  else
    { w := w, lo := w.ofs * 1000, hi := (w.ofs + w.span) * 1000, centre := 0, half := 0, dead := false, used := false, follow := none, offer := none }

/-- The end of a window's span: of a transmit window with ACKW = 1, with the ACK wait (R181, R182). -/
def spanEnd (s : State) (w : Window) (hi : Int) : Int :=
  if w.kind ≠ 0 && w.ackw then hi + (s.get Reg.MAC_TX_RETRY.ACK_DELAY * 1000 + s.get Reg.MAC_TX_RETRY.ACK_WAIT * 500 : Nat) else hi
def checkEnd (s : State) (x : WinS) : Int := spanEnd s x.w x.hi

/-- The span in which R182 checks a window: a TX_DATA window's as planned, before the Aperture shift. -/
def planLo (x : WinS) : Int := if x.w.kind = 3 then (x.w.ofs * 1000 : Nat) else x.lo
def planEnd (s : State) (x : WinS) : Int := if x.w.kind = 3 then spanEnd s x.w ((x.w.ofs + x.w.span) * 1000 : Nat) else checkEnd s x

/-- The engine is off: not enabled in force, or without its power domain (R82). -/
def engOff (s : State) (e : Nat) : Bool := !s.effOn (Reg.CE_MODE.EN e) || !pdOn s (3 + e / 16)

def overlaps (a b c d : Int) : Bool := decide (a < d) && decide (c < b)

/-- A window fails the check of R182 against those accepted before it. -/
def winBad (s : State) (acc : List WinS) (x : WinS) : Bool :=
  decide (128 ≤ x.w.engine) || decide (6 < x.w.kind) || decide (256 ≤ x.w.tenant) || decide (16 ≤ x.w.prof) ||
  decide (planLo x < 0) || decide ((cellNs s : Int) < planEnd s x) ||
  acc.any (fun y => y.w.engine == x.w.engine && overlaps (planLo x) (planEnd s x) (planLo y) (planEnd s y)) ||
  engOff s x.w.engine ||
  ((x.w.kind == 0 || x.w.kind == 3) && !((nthOf s x.w.node).valid && (nthOf s x.w.node).tenant == x.w.tenant)) ||
  decide (4 ≤ (acc.filter (fun y => y.w.engine == x.w.engine)).length)

/-- The windows of a list that pass, added to those accepted, and the number that fail. -/
def checkWins (s : State) : List Window → List WinS → Nat → List WinS × Nat
  | [], acc, bad => (acc, bad)
  | w :: l, acc, bad =>
    let x := winSpan s w
    if winBad s acc x then checkWins s l acc (bad + 1) else checkWins s l (acc ++ [x]) bad

/-- A window goes behind the windows that begin no later. -/
def sortIn (x : WinS) : List WinS → List WinS
  | [] => [x]
  | y :: l => if x.lo < y.lo then x :: y :: l else y :: sortIn x l

/-- A TX_DATA window shifted by its node's centre offset (R190). -/
def shiftWin (s : State) (x : WinS) : WinS :=
  if x.w.kind ≠ 3 then x else
  let c := (aptWindow s (nthOf s x.w.node)).1
  { x with lo := x.lo + c, hi := x.hi + c, centre := c }

/-- Places the shifted windows of a list in order of their planned starts: a TX_DATA window is cut at the cell's end and at the start of the
engine's next window by the plan, and carries nothing where it would begin before the cell or before the end of a window of the engine that the plan
puts before it (R190). `acc` holds the windows already placed. -/
def placeWins (s : State) : List WinS → List WinS → List WinS
  | [], acc => acc
  | x :: l, acc =>
    if x.w.kind ≠ 3 then placeWins s l (acc ++ [x]) else
    let mine (y : WinS) : Bool := y.w.engine == x.w.engine
    let prevEnd := (acc.filter mine).foldl (fun a y => max a (checkEnd s y)) 0
    let nextLo := (l.filter mine).foldl (fun a y => min a y.lo) (cellNs s : Int)
    placeWins s l (acc ++ [{ x with hi := min x.hi nextLo, dead := decide (x.lo < prevEnd) }])

def shiftWins (s : State) (l : List WinS) : List WinS := placeWins s ((l.foldr sortIn []).map (shiftWin s)) []

/-- The follow-on windows of the new cell beside its plan: those that overlap a window of the plan, its ACK wait with it, are dropped (R195). In a
cell that runs the default plan, which launches nothing (R184), all of them are. -/
def placeFollows (s : State) (wins : List WinS) (planned : Bool) (l : List WinS) : List WinS × Nat :=
  let keep := l.filter (fun f => planned && !wins.any (fun y => y.w.engine == f.w.engine && overlaps f.lo f.hi (planLo y) (planEnd s y)))
  (keep, l.length - keep.length)

/-- The windows of a cell from its plan and the follow-on windows, the number of windows of the plan that fail and of follow-ons lost. -/
def planWins (s : State) (planned : Bool) (plan : List Window) (follows : List WinS) : List WinS × Nat × Nat :=
  let (wins, bad) := checkWins s plan [] 0
  let (kept, lost) := placeFollows s wins planned follows
  (shiftWins s (wins ++ kept), bad, lost)

end Sys2Proof.Machine
end

