-- ==== Sys2Proof/Machine/TxOps.lean ====
section
/-! DEFINITION. Completion of downlink frames, airtime, duty-cycle budgets, launches, abandonment and the FE_CTL pins (chapter 5,
R335 to R337). -/

namespace Sys2Proof.Machine

def modTxc (f : TxcS → TxcS) (s : State) : State := { s with txc := f s.txc }
def modMac (f : MacS → MacS) (s : State) : State := { s with mac := f s.mac }

/-! ## The transmit lease (R178, R410, R411) -/

/-- The part holds an unexpired transmit lease: with TWIN = 0 the Warden's, once a cluster has taken its lease and while the
Warden has not failed; in a twin pair the witness's. -/
def holdsTx (s : State) : Bool :=
  if s.on Reg.MIR_CTRL.TWIN then (match s.wdn.leaseEnd with | some e => decide (s.clk < e) | none => false)
  else s.on Reg.WDN_TWL_STAT.HELD && !s.on Reg.WDN_STAT.FAIL

/-- The part may launch: it holds the lease, no planned twin handover has begun (R416), and the composer is on and enabled. -/
def mayLaunch (s : State) : Bool := holdsTx s && !s.wdn.yieldDue && pdOn s 17 && s.on Reg.TXC_CTRL.EN

/-! ## Outcomes of downlink frames (R279, R303) -/

/-- Completion status codes (R318). -/
def stTOO_LONG : Nat := 0x20
def stOUT_OF_BAND : Nat := 0x21
def stNO_ROUTE : Nat := 0x22
def stNO_ACK : Nat := 0x23
def stEXPIRED : Nat := 0x24
def stMASK_GATED : Nat := 0x25
def stDESC_ERR : Nat := 0x26
def stDMA_ERR : Nat := 0x27
def stFLUSHED : Nat := 0x28
def stDENIED : Nat := 0x30
def stBAD_PARAM : Nat := 0x31
def stNO_SPACE : Nat := 0x32

/-- One frame of a descriptor has its final outcome; the descriptor completes with its last frame (R279). -/
def descFrame (r : DescRef) (status retries : Nat) (s : State) : State :=
  match s.tm.runs.find? (fun x => x.ref.id == r.id) with
  | none => s
  | some x =>
    let x' := { x with left := x.left - 1, status := if x.status = 0 then status else x.status, retries := retries }
    if x'.left = 0 then
      completeTx x.ref x'.status x'.retries x'.frags { s with tm := { s.tm with runs := s.tm.runs.filter (fun y => y.ref.id != r.id) } }
    else { s with tm := { s.tm with runs := s.tm.runs.map (fun y => if y.ref.id = r.id then x' else y) } }

/-- A composed frame leaves the traffic manager for good: its words return to the pool, and its descriptor learns of it. The outcome
of a firmware frame goes to firmware. -/
def airFinal (f : AirFrame) (status : Nat) (s : State) : State :=
  match f.src with
  | .firmware t => s.emit (.toFirmware "sent" [t, f.node, status, f.seq])
  | _ =>
    let s := tqSync f.tenant f.queue (poolGive f.words s)
    let s := tqTel f.tenant f.queue (fun x => { x with dep := x.dep + 1 }) (tqCnt f.tenant f.queue 1 1 s)
    match f.src with
    | .desc r => descFrame r status f.retries s
    | _ => s

/-- Waiting frames in composition order. -/
def airInsert (f : AirFrame) : List AirFrame → List AirFrame
  | [] => [f]
  | g :: l => if f.order < g.order then f :: g :: l else g :: airInsert f l

/-- A firmware frame as a frame on the air, and back. -/
def fwAir (f : FwFrame) : AirFrame :=
  { (default : AirFrame) with
    src := .firmware f.tenant, tenant := f.tenant, node := f.node, bcast := f.bcast, profile := f.prof
    psduLen := f.len, ar := f.ar, secured := f.secured, seq := f.seq, retries := f.retries, sec := f.sec }
def airFw (f : AirFrame) : FwFrame :=
  { (default : FwFrame) with
    tenant := f.tenant, node := f.node, prof := f.profile, len := f.psduLen, secured := f.secured, bcast := f.bcast, ar := f.ar
    seq := f.seq, retries := f.retries, sec := f.sec }

/-- A frame returns to its place in its queue (R164, R179, R203). -/
def airReturn (f : AirFrame) (s : State) : State :=
  match f.src with
  | .firmware _ => modMac (fun c => { c with fwq := airFw f :: c.fwq }) s
  | _ =>
    let s := modTq f.tenant f.queue (fun x => { x with air := airInsert f x.air }) s
    tqSync f.tenant f.queue (tqTel f.tenant f.queue (fun x => { x with held := true, maxW := max x.maxW (tqOf s f.tenant f.queue).depth }) s)

/-- The frames of a tenant that wait for a node. -/
def airFor (s : State) (t n : Nat) : List AirFrame :=
  (List.range 32).flatMap (fun q => (tqOf s t q).air.filter (fun f => f.node == n && !f.bcast))

/-- The node's oldest waiting frame across the tenant's queues (R335). -/
def airHead (s : State) (t n : Nat) : Option AirFrame :=
  (airFor s t n).foldl
    (fun best f => match best with
      | none => some f
      | some g => if f.order < g.order then some f else some g) none

/-- Takes a waiting frame out of its queue; its words stay in the pool. -/
def airTake (f : AirFrame) (s : State) : State :=
  tqSync f.tenant f.queue (modTq f.tenant f.queue (fun x => { x with air := x.air.filter (fun g => g.order != f.order) }) s)

/-- Frames whose lifetime has ended complete EXPIRED (R35, R336). -/
def expireAir (s : State) : State :=
  let gone := s.tm.tq.flatMap (fun e => e.2.air.filter (fun f => decide (f.expire ≤ s.core.ticks)))
  forEach gone (fun f s => tcntInc f.tenant 0x2920 1 (airFinal f stEXPIRED ((airTake f s).inc Reg.TM_EXPIRED.CNT))) s

/-! ## Profiles and airtime (R151, R157 to R161) -/

/-- The fields of a transmit profile in force: PHY, MODE, BANK, RAMP_LEG, RAMP_LEN, FE_BITS, GAIN, NPRE, MOD_IDX, FEC_RSC. -/
def profOf (s : State) (p : Nat) : List Nat :=
  [s.eff (Reg.TXC_PROFp_A.PHY p), s.eff (Reg.TXC_PROFp_A.MODE p), s.eff (Reg.TXC_PROFp_A.BANK p),
   s.eff (Reg.TXC_PROFp_A.RAMP_LEG p), s.eff (Reg.TXC_PROFp_A.RAMP_LEN p), s.eff (Reg.TXC_PROFp_A.FE_BITS p),
   s.eff (Reg.TXC_PROFp_A.GAIN p), s.eff (Reg.TXC_PROFp_B.NPRE p), s.eff (Reg.TXC_PROFp_B.MOD_IDX p),
   s.eff (Reg.TXC_PROFp_B.FEC_RSC p)]

def pfPhy (f : List Nat) : Nat := f.getD 0 0
def pfMode (f : List Nat) : Nat := f.getD 1 0
def pfBank (f : List Nat) : Nat := f.getD 2 0
def pfLeg (f : List Nat) : Bool := f.getD 3 0 == 1
def pfRamp (f : List Nat) : Nat := f.getD 4 0
def pfFe (f : List Nat) : Nat := f.getD 5 0
def pfGain (f : List Nat) : Nat := f.getD 6 0
def pfNpre (f : List Nat) : Nat := f.getD 7 0
def pfIdx (f : List Nat) : Nat := f.getD 8 0
def pfRsc (f : List Nat) : Nat := f.getD 9 0

/-- A shaping bank's active coefficient (R156). -/
def coefOf (s : State) (b i : Nat) : Nat := (s.txc.fir.find? (64 * b + i)).getD (Config.firReset b i)
def coefs (s : State) (b : Nat) : List Nat := (List.range 64).map (coefOf s b)
def coefSum (l : List Nat) : Int := (l.map (toSigned 18)).foldl (· + ·) 0

/-- A profile passes validation at launch (R151). -/
def profOk (s : State) (f : List Nat) : Bool :=
  match pfPhy f with
  | 0 => decide (pfMode f % 8 ≤ 4) && decide (4 ≤ pfNpre f) && decide (pfNpre f ≤ 1000) && decide (0 < coefSum (coefs s (pfBank f)))
  | 1 => decide (pfMode f / 4 ≤ 6) && Config.ofdmMcsOk (pfMode f % 4) (pfMode f / 4)
  | 2 => pfMode f == 0 || pfMode f == 16
  | _ => decide (4 ≤ pfNpre f) && decide (pfNpre f ≤ 64)

/-- A bit's time on SUN FSK and a chip's time on LD, in thirds of a nanosecond, in which every one is whole. -/
def fskBit (mode : Nat) : Nat := [60000, 30000, 20000, 15000, 10000].getD (mode % 8) 60000
def ldChip (cls : Nat) : Nat := [30000, 15000, 9375, 7500].getD (cls % 4) 30000
def ldRate (cls : Nat) : Nat := [100000, 200000, 320000, 400000].getD (cls % 4) 100000

/-- SFD octets: 2 for the mode of the spec's example, else as the standard gives. -/
def fskSfdOctets (mode : Nat) : Nat := if mode % 16 = 2 then 2 else Config.fskSfd mode

/-- T_air in thirds of a nanosecond (R160). -/
def tAir (f : List Nat) (len : Nat) : Nat :=
  match pfPhy f with
  | 0 =>
    if pfMode f / 16 % 2 = 1 then (8 * (pfNpre f + fskSfdOctets (pfMode f)) + Config.fskCoded (pfRsc f) len) * fskBit (pfMode f)
    else 8 * (pfNpre f + fskSfdOctets (pfMode f) + 2 + len) * fskBit (pfMode f)
  | 1 => Config.ofdmSymbols (pfMode f) len * 360000
  | 2 => (6 + len) * 96000
  | _ => ldChips (pfNpre f) (pfMode f / 4) len * ldChip (pfMode f)

/-- T_r, the ramp-down (R157, R158). -/
def tRamp (f : List Nat) : Nat := if pfLeg f then 48000 else (pfRamp f + 1) * 3000

/-- T_on (R159), and a time in thirds of a nanosecond as processing clocks (983.04 in a µs), rounded up. -/
def tOn (f : List Nat) (len : Nat) : Nat := tAir f len + tRamp f
def t3Clocks (t : Nat) : Nat := (t * 98304 + 299999) / 300000

/-- B_h in Hz / 128 (R161). -/
def halfBw (f : List Nat) : Nat :=
  match pfPhy f with
  | 0 => (3000000000 / fskBit (pfMode f)) / (if pfMode f / 8 % 2 = 1 then 2 else 1) * (64 + pfIdx f)
  | 1 => [547000, 276000, 141000, 78000].getD (pfMode f % 4) 0 * 128
  | 2 => 1000000 * 128
  | _ => 96 * ldRate (pfMode f)

/-! ## Duty-cycle budgets (R166 to R170) -/

def sbOf (s : State) (k : Nat) : SbS := s.txc.sb.get k
def modSb (k : Nat) (f : SbS → SbS) (s : State) : State := modTxc (fun x => { x with sb := x.sb.upd k f }) s

def sbEnFld (k : Nat) : Fld := Reg.TXC_SBb_sCFG.EN (k / 16) (k % 16)
def sbUsedFld (k : Nat) : Fld := Reg.TXC_SBb_sUSED.USED (k / 16) (k % 16)

/-- WIN and DUTY as the field notes treat them. -/
def clampWin (w : Nat) : Nat := min 3600 (max 1 w)
def clampDuty (d : Nat) : Nat := min 100000 d

def sbBudget (x : SbS) : Nat := clampWin x.win * clampDuty x.duty
/-- SW in ticks. -/
def sbSw (x : SbS) : Nat := (clampWin x.win * 8000 + 59) / 60
/-- The turn of the sub-window of a tick; its index is the turn modulo 60. -/
def sbTurn (s : State) (x : SbS) : Nat := s.tick / sbSw x
def sbUsed (x : SbS) : Nat := sumNat x.sw
def sbAccounted (x : SbS) : Bool := decide (clampDuty x.duty < 100000)

/-- TXC_SBb_sUSED and TXC_SBb_sAVAIL of an entry. DESIGN CHOICE (log entry 51): AVAIL reads 0 where USED exceeds BUDGET. -/
def sbSync (k : Nat) (s : State) : State :=
  let x := sbOf s k
  let s := s.put (sbUsedFld k) (sbUsed x)
  s.put (Reg.TXC_SBb_sAVAIL.AVAIL (k / 16) (k % 16))
    (if !s.on (sbEnFld k) then 0 else if sbAccounted x then sbBudget x - sbUsed x else 0xFFFFFFFF)

/-- The configuration of an entry as its registers hold it, with given sub-windows. Its sub-window has begun in this tick. -/
def sbFromRegs (s : State) (k : Nat) (sw : List Nat) : SbS :=
  { sw := sw, lo := s.get (Reg.TXC_SBb_sLO.LO (k / 16) (k % 16)), hi := s.get (Reg.TXC_SBb_sHI.HI (k / 16) (k % 16)),
    duty := s.get (Reg.TXC_SBb_sCFG.DUTY (k / 16) (k % 16)), win := s.get (Reg.TXC_SBb_sCFG.WIN (k / 16) (k % 16)),
    wrote := false, rolled := s.core.ticks + 1 }

/-- Every sub-window at zero but the current one, which takes the total (R169). -/
def sbFold (s : State) (x : SbS) (total : Nat) : SbS :=
  { x with sw := listSet (List.replicate 60 0) 0 (sbTurn s x % 60) total }

/-- The charges in an entry of the transmissions in flight, made anew from the turn of each. -/
def sbCharges (k : Nat) (f : Nat → Option Nat) (s : State) : State :=
  modTxc (fun t => { t with mods := t.mods.map (fun e => (e.1, { e.2 with charges := e.2.charges.filterMap (fun c =>
    if c.1 = k then (f c.2.1).map (fun turn => (k, turn, c.2.2)) else some c) })) }) s

/-- An enabled entry takes its parameters and starts again with its history (R169). What transmissions in flight were charged lies in the current
sub-window from now on, where it has not left the window. -/
def sbRestart (k : Nat) (s : State) : State :=
  let x := sbOf s k
  let y := sbFold s (sbFromRegs s k x.sw) (sbUsed x)
  sbSync k (modSb k (fun _ => y) (sbCharges k (fun turn => if sbTurn s x < turn + 60 then some (sbTurn s y) else none) s))

/-- Parameters written since the last boundary take effect, whatever was written (R169). -/
def sbTake (k : Nat) (s : State) : State := if s.on (sbEnFld k) && (sbOf s k).wrote then sbRestart k s else s

/-- An entry that is enabled starts at zero (R169): nothing that was charged before is in it. -/
def sbStart (k : Nat) (s : State) : State :=
  sbSync k (modTxc (fun t => { t with sbAt := t.sbAt.erase k }) (modSb k (fun _ => sbFromRegs s k (List.replicate 60 0)) (sbCharges k (fun _ => none) s)))

/-- LO, HI, DUTY or WIN of an entry is written. -/
def sbWrote (k : Nat) (s : State) : State := modSb k (fun x => { x with wrote := true }) s

/-- The rollover of one entry at a boundary, once in a tick and before any launch in it (R166). -/
def sbRoll (k : Nat) (s : State) : State :=
  let x := sbOf s k
  if s.on (sbEnFld k) && s.tick % sbSw x == 0 && x.rolled != s.core.ticks + 1 then
    sbSync k (modSb k (fun x => { x with sw := listSet x.sw 0 (sbTurn s x % 60) 0, rolled := s.core.ticks + 1 }) s)
  else s

def chargeUnits (onAir : Nat) : Nat := (onAir + 29999) / 30000

/-- The enabled sub-bands of a band that [f − B, f + B) overlaps, and whether one contains it whole (R168). Edges in Hz, B in
Hz / 128. -/
def sbOccupied (s : State) (b f bw : Nat) : List Nat :=
  ((List.range 16).map (fun e => 16 * b + e)).filter (fun k => s.on (sbEnFld k) &&
    decide ((sbOf s k).lo * 128 < f * 128 + bw) && decide (f * 128 < (sbOf s k).hi * 128 + bw))
def sbContained (s : State) (b f bw : Nat) : Bool :=
  ((List.range 16).map (fun e => 16 * b + e)).any (fun k => s.on (sbEnFld k) &&
    decide ((sbOf s k).lo * 128 + bw ≤ f * 128) && decide (f * 128 + bw ≤ (sbOf s k).hi * 128))

def bandAccounted (s : State) (b : Nat) : Bool := s.effOn (Reg.TXC_BANDb_DC.EN b)

/-- Every sub-band occupied has budget for a charge, now and, for a frame with a window, at the boundary that began the tick as well (R162,
R165, R166). -/
def budgetOk (s : State) (now : Bool) (b f bw units : Nat) : Bool :=
  !bandAccounted s b || (sbOccupied s b f bw).all (fun k =>
    let x := sbOf s k
    !sbAccounted x || (decide (sbUsed x + units ≤ sbBudget x) &&
      (now || decide ((s.txc.sbAt.find? k).getD (sbUsed x) + units ≤ sbBudget x))))

/-- Charges a transmission, and the refund of what an abandoned one did not send (R166). -/
def sbCharge (units k : Nat) (s : State) : State :=
  sbSync k (modSb k (fun x => let i := sbTurn s x % 60; { x with sw := listSet x.sw 0 i (x.sw.getD i 0 + units) }) s)
def sbRefund (units k turn : Nat) (s : State) : State :=
  let x := sbOf s k
  if sbTurn s x < turn + 60 then
    sbSync k (modSb k (fun x => { x with sw := listSet x.sw 0 (turn % 60) (x.sw.getD (turn % 60) 0 - units) }) s)
  else s

/-! ## Launch (R147, R148, R151, R162, R165, R168, R173, R175, R178) -/

/-- What the tests at launch come to. They are made in this order (log entry 9). -/
inductive Verdict where
  | go (m : Nat)
  | lease | prof | ofs | gate | fit | oob | budget | fe | noMod
deriving DecidableEq, Repr

/-- The lowest free modulator open to the transmission, counted down for acknowledgements in the reserved ones first (R148). -/
def freeMod (s : State) (isAck : Bool) : Option Nat :=
  let rsv := min 16 (s.eff Reg.TXC_CTRL.ACK_RSV)
  let free (m : Nat) : Bool := (s.txc.mods.find? m).isNone
  match (List.range (32 - rsv)).find? free with
  | some m => if isAck then (match ((List.range rsv).map (fun i => 31 - i)).find? free with | some r => some r | none => some m) else some m
  | none => if isAck then ((List.range rsv).map (fun i => 31 - i)).find? free else none

/-- The engine whose hop group counts for an engine: of a diversity pair the even one (R185). -/
def hopEngine (s : State) (e : Nat) : Nat := if inPair s e then e / 2 * 2 else e

/-- A hop register's value in the cell: a write waits for the next cell (R187). -/
def hopGet (s : State) (f : Fld) : Nat := (s.mac.hopOld.find? f.key).getD (s.get f)

/-- The band context and frequency of an engine's transmissions in the cell (R147, R185). -/
def engBand (s : State) (e : Nat) : Nat := hopGet s (Reg.MAC_HOPg_CFG.BAND (s.eff (Reg.MAC_ENGn_CFG.HOPG (hopEngine s e))))
def chanFreq (s : State) (b i : Nat) : Nat := hopGet s (Reg.MAC_BANDb_CH0.CH0 b) + i * hopGet s (Reg.MAC_BANDb_SPC.SPC b)
def engFreq (s : State) (e : Nat) : Nat := chanFreq s (engBand s e) (s.get (Reg.MAC_ENGn_STAT.CUR_CH e))

def bandPort (s : State) (b : Nat) : Nat := s.eff (Reg.TXC_BANDb_CFG.TXPORT b)

/-- A transmission's offset from its port's centre in Hz. -/
def portOfs (s : State) (p f : Nat) : Int := (f : Int) - (s.eff (Reg.TXC_PORTp_FC.FC p) : Int)

/-- Offset and port state (R147): |f − FC| + B ≤ 49.152 MHz, and the port enabled and UP. -/
def ofsOk (s : State) (p f bw : Nat) : Bool :=
  decide ((portOfs s p f).natAbs * 128 + bw ≤ 49152000 * 128) && s.effOn (Reg.TXC_PORTp_CFG.EN p) && txUp s p

/-- The active spans on a port, as profile bits, start and end clock at the JESD output: transmissions in flight and ended ones, of an abandoned one
with the 1 µs in which its samples go to zero (R174). -/
def txSpans (s : State) (p : Nat) : List (Nat × Nat × Nat) :=
  ((s.txc.mods.filter (fun e => e.2.port == p)).map (fun e =>
    (e.2.feBits, e.2.start + tJesdTx s p, e.2.start + tJesdTx s p + t3Clocks e.2.onAir))) ++
  ((s.txc.tails.filter (fun e => e.tx.port == p)).map (fun e =>
    (e.tx.feBits, e.tx.start + tJesdTx s p, e.stop + (if e.cut then Config.usClocks 1 else 0) + tJesdTx s p)))

def feLead (s : State) (n : Nat) : Nat := s.eff (Reg.TXC_FEn_TIME.LEAD n)
def feLag (s : State) (n : Nat) : Nat := s.eff (Reg.TXC_FEn_TIME.LAG n)

/-- The widest LEAD and LAG of the pins that follow a port's transmissions. -/
def fePortMax (s : State) (p : Nat) (f : Nat → Nat) : Nat :=
  ((List.range 16).filter (fun n => s.get (Reg.TXC_FEn_CFG.PORT n) == p &&
    (s.get (Reg.TXC_FEn_CFG.SRC n) == 1 || s.get (Reg.TXC_FEn_CFG.SRC n) == 2))).foldl (fun a n => max a (f n)) 0

/-- A transmission launched now would overlap one of other profile bits (R175). -/
def feConflict (s : State) (p bits : Nat) : Bool :=
  let lead := fePortMax s p (feLead s)
  let lag := fePortMax s p (feLag s)
  (txSpans s p).any (fun x => x.1 != bits && decide (s.clk + tJesdTx s p < x.2.2 + lag + lead))

/-- The tests at launch. `now` says that the budget is tested at the launch alone (R165, R206); `room` is the length of the transmit window in ns,
none for an acknowledgement (R165). -/
def verdict (s : State) (isAck now : Bool) (e prof len : Nat) (room : Option Nat) : Verdict :=
  let b := engBand s e
  let p := bandPort s b
  let f := engFreq s e
  let pf := profOf s prof
  let on' := tOn pf len
  if !mayLaunch s then .lease
  else if !profOk s pf then .prof
  else if !ofsOk s p f (halfBw pf) then .ofs
  else if s.on (Reg.TXC_MASKp_STAT.GATED p) then .gate
  else if (match room with | some r => decide (r * 3 < on' + s.eff (Reg.TXC_BANDb_CFG.GUARD b) * 3000) | none => false) then .fit
  else if bandAccounted s b && !sbContained s b f (halfBw pf) then .oob
  else if !budgetOk s now b f (halfBw pf) (chargeUnits on') then .budget
  else if feConflict s p (pfFe pf) then .fe
  else match freeMod s isAck with
    | some m => .go m
    | none => .noMod

/-- The counter of each failed test. -/
def verdictCount (isAck : Bool) : Verdict → Option Fld
  | .go _ => none
  | .lease => none
  | .prof => some Reg.TXC_PROF_ERR.CNT
  | .ofs => some Reg.TXC_OFS_ERR.CNT
  | .gate => some Reg.TXC_DEFER_GATE.CNT
  | .fit => some Reg.TX_DEFER_FIT.CNT
  | .oob => some Reg.TXC_OOB.CNT
  | .budget => some (if isAck then Reg.TXC_ACK_SUPP.CNT else Reg.TXC_DEFER_DC.CNT)
  | .fe => some Reg.TXC_DEFER_FE.CNT
  | .noMod => some Reg.TXC_NO_MOD.CNT

def countVerdict (isAck : Bool) (v : Verdict) (s : State) : State :=
  match verdictCount isAck v with
  | some f => s.inc f
  | none => s

/-- The frame leaves its queue on a failed test: its profile or its frequency can never do (R151, R168). Every other failure defers it
(R164). -/
def Verdict.drops : Verdict → Bool
  | .prof | .oob => true
  | _ => false

/-! ## What a window would send -/

/-- A number of processing clocks in ns, rounded down, and the nanoseconds since the start of the cell (R180). -/
def clocksNs (c : Nat) : Nat := c * 100000 / 98304
def cellNow (s : State) : Nat := clocksNs (s.clk - s.mac.cellTick * Config.tickClocks)

/-- The first clock at or after an instant of the cell. -/
def winClk (s : State) (ns : Int) : Nat := s.mac.cellTick * Config.tickClocks + (ns.toNat * 98304 + 99999) / 100000

/-- The length of a transmit window, and what is left of it for a launch that follows an idle CCA (R162, R206). -/
def winRoom (x : WinS) : Nat := (x.hi - x.lo).toNat
def csmaRoom (s : State) (x : WinS) : Nat := (x.hi - (cellNow s : Int)).toNat

/-- A flood message with a transmission due in a tenant's window: one that fired before the window starts (R281), or one to be sent again. -/
def floodDue (s : State) (x : WinS) : Option FloodMsg :=
  s.fld.buf.find? (fun m => m.tenant == x.w.tenant && m.fired && (m.kept.isSome || decide (m.fireClk ≤ winClk s x.lo)))

/-- Octets of a frame's MHR before its auxiliary security header: on the LD PHY frame control, sequence number and destination PAN ID (R192). -/
def mhrLen (phy : Nat) (bcast : Bool) : Nat := if phy = 3 then 5 else Config.mhrLen phy bcast

/-- The PSDU length of a flood frame: without security, and with the header and MIC of its security, or of the broadcast key that would send it now
(R215, R217, R281). -/
def floodLen (s : State) (prof : Nat) (m : FloodMsg) : Nat :=
  Config.floodLen m.tenant m.seed m.seq + (match m.kept with
    | some h => auxLen h.kim + micLen h.level
    | none => (txKey s m.tenant 0 true (pfPhy (profOf s prof) == 3)).elim 0 (secOctets s m.tenant))

/-- The tenant's oldest firmware frame, and a standalone acknowledgement that waits for a node (R200). -/
def fwNext (s : State) (t : Nat) : Option FwFrame := s.mac.fwq.find? (fun f => !f.isAck && f.tenant == t)
def ackNext (s : State) (t n : Nat) : Option FwFrame := s.mac.fwq.find? (fun f => f.isAck && f.tenant == t && f.node == n)

/-- A node's frame is offered to the composer: at the boundary that began the tick its buckets were eligible (R336). -/
def airEligible (s : State) (f : AirFrame) : Bool :=
  !s.tm.short.contains (Bucket.queue f.tenant f.queue).key && !s.tm.short.contains (Bucket.air f.tenant).key

/-- The frame that a TX_DATA or follow-on window has been offered, while it waits; where the tick of its start has not begun, the one that would be
offered now (R336). -/
def winCandidate (s : State) (x : WinS) : Option AirFrame :=
  match x.offer with
  | some o => o.bind (fun k => (airFor s x.w.tenant x.w.node).find? (fun f => f.order == k))
  | none => (airHead s x.w.tenant x.w.node).filter (airEligible s)

/-- The profile and PSDU length of the frame that a transmit window would launch; none in a TX_CSMA window, which draws its instant. -/
def winFrame (s : State) (x : WinS) : Option (Nat × Nat) :=
  match x.w.kind with
  | 3 => match ackNext s x.w.tenant x.w.node with
    | some f => some (f.prof, f.len)
    | none => (winCandidate s x).map (fun f => (f.profile, f.psduLen))
  | 4 => (fwNext s x.w.tenant).map (fun f => (x.w.prof, f.len))
  | 6 => (floodDue s x).map (fun m => (x.w.prof, floodLen s x.w.prof m))
  | _ => none

/-! ## FE_CTL (R174 to R177) -/

/-- A launch that is still to come, as the tests stand now: its profile bits, and its span at the JESD output of its port. -/
def planSpan (s : State) (isAck : Bool) (e prof len at' : Nat) (room : Option Nat) : Option (Nat × Nat × Nat × Nat) :=
  match verdict s isAck isAck e prof len room with
  | .go _ =>
    let p := bandPort s (engBand s e)
    let pf := profOf s prof
    some (p, pfFe pf, at' + tJesdTx s p, at' + tJesdTx s p + t3Clocks (tOn pf len))
  | _ => none

/-- The windows of the cell after this one as they stand now (R181), in ns from the start of this cell. -/
def nextWins (s : State) : List WinS :=
  if !s.mac.running then [] else
  match s.mac.plans.find? (fun p => p.cell == s.mac.cell + 1) with
  | none => []
  | some p => (planWins s true p.wins s.mac.follows).1.map (fun x => { x with lo := x.lo + cellNs s, hi := x.hi + cellNs s })

/-- The launches of the next 65,536 clocks, in this cell and the next, from which the edges before a span are scheduled (log entry 51). -/
def planSpans (s : State) : List (Nat × Nat × Nat × Nat) :=
  (s.mac.acks.filterMap (fun a =>
    if s.clk < a.launch then planSpan s true a.engine (s.eff (Reg.MAC_ENGn_ACK.PROF a.engine)) a.psduLen a.launch none else none)) ++
  ((if s.mac.running && s.mac.planned then s.mac.wins else []) ++ nextWins s).filterMap (fun x =>
    let c := winClk s x.lo
    if decide (3 ≤ x.w.kind) && !x.dead && !x.used && decide (s.clk < c) && decide (c < s.clk + 65536) then
      (winFrame s x).bind (fun f => planSpan s false x.w.engine f.1 f.2 c (some (winRoom x)))
    else none)

/-- The spans that a pin follows: of its port, and with SRC = 2 those whose profile has its bit. -/
def pinSpans (s : State) (plan : List (Nat × Nat × Nat × Nat)) (n : Nat) : List (Nat × Nat) :=
  let p := s.get (Reg.TXC_FEn_CFG.PORT n)
  let src := s.get (Reg.TXC_FEn_CFG.SRC n)
  let l := txSpans s p ++ (plan.filter (fun x => x.1 == p)).map (·.2)
  if src = 0 || src = 3 then [] else
  (l.filter (fun x => src == 1 || bitAt x.1 (s.get (Reg.TXC_FEn_CFG.BIT n)))).map (·.2)

/-- A pin's level before polarity at a clock (R174); the widened spans merge (R175). -/
def feRaw (s : State) (spans : List (Nat × Nat)) (n t : Nat) : Bool :=
  match s.get (Reg.TXC_FEn_CFG.SRC n) with
  | 0 => s.on (Reg.TXC_FEn_CFG.STATIC n)
  | 3 => s.on (Reg.TXC_MASKp_STAT.GATED (s.get (Reg.TXC_FEn_CFG.PORT n)))
  | _ => spans.any (fun x => decide (x.1 ≤ t + feLead s n) && decide (t < x.2 + feLag s n))

/-- The level driven on a pin: low until the composer is enabled (R177). While PD17 is off the pads hold. -/
def feLevel (s : State) (spans : List (Nat × Nat)) (n t : Nat) : Bool :=
  s.on Reg.TXC_CTRL.EN && (feRaw s spans n t != s.on (Reg.TXC_FEn_CFG.POL n))

/-- A number goes into a rising list once. -/
def riseIn (x : Nat) : List Nat → List Nat
  | [] => [x]
  | y :: l => if x < y then x :: y :: l else if x = y then y :: l else y :: riseIn x l

/-- The clocks at which a pin's level can have changed since the last edges were put out, and now. -/
def feTimes (s : State) (spans : List (Nat × Nat)) (n : Nat) : List Nat :=
  ((spans.flatMap (fun x => [x.1 - feLead s n, x.2 + feLag s n])).filter (fun t => decide (s.txc.feMark < t) && decide (t ≤ s.clk))).foldr
    riseIn [s.clk]

/-- A pin changes at a clock. -/
def feEdge (n t : Nat) (new : Bool) (s : State) : State :=
  let l := s.get Reg.TXC_FE_STAT.LEVEL
  if bitAt l n == new then s
  else (s.put Reg.TXC_FE_STAT.LEVEL (if new then l + 2 ^ n else l - 2 ^ n)).emit (.edge ("FE_CTL" ++ toString n) (b2n new) t)

/-- The pins' edges up to now, each at its clock, and TXC_FE_STAT.LEVEL. Pads that are held keep their level (R472, R473). -/
def feSync (s : State) : State :=
  if !pdOn s 17 || s.on Reg.PWR_STAT.PAD_HELD then modTxc (fun t => { t with feMark := s.clk }) s else
  let plan := planSpans s
  let s' := forEach (List.range 16) (fun n t =>
    let spans := pinSpans s plan n
    forEach (feTimes s spans n) (fun c => feEdge n c (feLevel s spans n c)) t) s
  modTxc (fun t => { t with feMark := s.clk }) s'

/-! ## The start of a transmission -/

/-- TXC_MOD_BUSY as the modulators stand. -/
def modBusySync (s : State) : State :=
  s.put Reg.TXC_MOD_BUSY.BUSY (sumNat (s.txc.mods.map (fun e => 2 ^ e.1)))

/-- Starts a transmission on modulator `m`: the profile and the bank's coefficients are latched (R151, R156), the sub-bands
charged (R166, R168) and the pins follow (R174). -/
def txStart (m e prof len : Nat) (kind : TxKind) (s : State) : State :=
  let b := engBand s e
  let p := bandPort s b
  let f := engFreq s e
  let pf := profOf s prof
  let on' := tOn pf len
  let units := chargeUnits on'
  let ks := if bandAccounted s b then (sbOccupied s b f (halfBw pf)).filter (fun k => sbAccounted (sbOf s k)) else []
  let x : TxS :=
    { port := p, engine := e, band := b, freq := portOfs s p f, len := len, kind := kind, prof := pf,
      coefs := if pfPhy pf = 1 then [] else coefs s (pfBank pf), start := s.clk, onAir := on', feBits := pfFe pf,
      charges := ks.map (fun k => (k, sbTurn s (sbOf s k), units)) }
  let s := forEach ks (sbCharge units) (s.inc Reg.TXC_LAUNCH.CNT)
  feSync (modBusySync (modTxc (fun t => { t with mods := t.mods.insert m x }) s))

/-- A TQ frame or flood frame is charged to its buckets at launch (R337). -/
def airCharge (kind : TxKind) (onAir : Nat) (s : State) : State :=
  let us := (onAir + 2999) / 3000
  match kind with
  | .data f => tqCnt f.tenant f.queue 3 us (tcntInc f.tenant 0x2908 us (charge (.queue f.tenant f.queue) us (charge (.air f.tenant) us s)))
  | .flood t _ _ _ => tcntInc t 0x2908 us (charge (.air t) us s)
  | _ => s

/-! ## Ends of transmissions (R179) -/

/-- Takes a transmission off its modulator; the port's sum and the pins may follow its end for a while. -/
def txRemove (m : Nat) (x : TxS) (stop : Nat) (cut : Bool) (s : State) : State :=
  feSync (modBusySync (modTxc (fun t => { t with mods := t.mods.erase m, tails := t.tails ++ [⟨x, stop, cut⟩] }) s))

/-- Whole units of the on-air time that a transmission abandoned now leaves unsent (R166). -/
def unsentUnits (x : TxS) (clk : Nat) : Nat := (x.onAir * 98304 - (clk - x.start) * 300000) / (30000 * 98304)

/-- What becomes of an abandoned frame: with a gate it is final, else it is sent again as it is. Acknowledgements are dropped (R179). -/
def txFate (gated : Bool) (kind : TxKind) (s : State) : State :=
  match kind with
  | .data f => if gated then airFinal f stMASK_GATED s else airReturn f s
  | .fw f => if f.isAck then s else if gated then airFinal (fwAir f) stMASK_GATED s else modMac (fun c => { c with fwq := f :: c.fwq }) s
  | .flood t seed seq h => if gated then s else
      { s with fld := { s.fld with buf := s.fld.buf.map (fun m =>
          if m.tenant = t && m.seed = seed && m.seq = seq then { m with fired := true, kept := some h } else m) } }
  | .ack _ => s

/-- Abandons the transmission on a modulator: its unsent time is refunded, and its frame goes back or completes. -/
def txAbandon (cnt : Fld) (gated : Bool) (m : Nat) (s : State) : State :=
  match s.txc.mods.find? m with
  | none => s
  | some x =>
    let s := forEach x.charges (fun c => sbRefund (unsentUnits x s.clk) c.1 c.2.1) (s.inc cnt)
    txFate gated x.kind (txRemove m x s.clk true s)

/-- Abandons every transmission that a test names. -/
def txAbandonAll (cnt : Fld) (gated : Bool) (sel : TxS → Bool) (s : State) : State :=
  forEach ((s.txc.mods.filter (fun e => sel e.2)).map (·.1)) (txAbandon cnt gated) s

/-- Gates a port (R172, R176): its transmissions are abandoned and every launch is refused. An UNGATE written before the gate lifts nothing. -/
def gatePort (p : Nat) (byReadback : Bool) (s : State) : State :=
  let s := ((s.put (Reg.TXC_MASKp_STAT.GATED p) 1).putB (Reg.TXC_MASKp_STAT.RB_CAUSE p) byReadback).put (Reg.TXC_MASKp_CTRL.UNGATE p) 0
  let s := modTxc (fun t => { t with gateClk := t.gateClk.insert p s.clk, holdDone := setDel t.holdDone p }) s
  feSync (txAbandonAll Reg.TXC_MASK_GATE.CNT true (fun x => x.port == p) s)

def ungatePort (p : Nat) (s : State) : State :=
  let s := (s.put (Reg.TXC_MASKp_STAT.GATED p) 0).put (Reg.TXC_MASKp_CTRL.UNGATE p) 0
  feSync (modTxc (fun t => { t with gateClk := t.gateClk.erase p, holdDone := setDel t.holdDone p }) s)

/-- The lease lapses: every transmission is abandoned (R178). -/
def leaseAbort (s : State) : State := txAbandonAll Reg.TXC_LEASE_ABORT.CNT false (fun _ => true) s

end Sys2Proof.Machine
end

