-- ==== Sys2Proof/Machine/MacOps.lean ====
section
/-! DEFINITION. Cells, hopping, Aperture windows, address filtering and acknowledgements of the MAC sequencer (chapter 6). -/

namespace Sys2Proof.Machine

/-! ## Cells (R180, R184, R525) -/

/-- MAC_CELL.LEN as its note treats it. -/
def clampCell (n : Nat) : Nat := min 4096 (max 8 n)

/-- The ASN of a cell. -/
def asnOf (s : State) (c : Nat) : Nat := (c + s.mac.asnOfs) % 2 ^ 40

/-! ## Hopping (R185 to R187) -/

/-- The channel of a hop group for an ASN and offset (R185). -/
def hopList (s : State) (g i : Nat) : Nat :=
  match i % 4 with
  | 0 => hopGet s (Reg.MAC_HOPg_LISTi.CH0 g (i / 4))
  | 1 => hopGet s (Reg.MAC_HOPg_LISTi.CH1 g (i / 4))
  | 2 => hopGet s (Reg.MAC_HOPg_LISTi.CH2 g (i / 4))
  | _ => hopGet s (Reg.MAC_HOPg_LISTi.CH3 g (i / 4))

/-- The seeded-mode hash of R185. -/
def hopHash (seed asn : Nat) : Nat :=
  let a := asn % 2 ^ 32
  let h := seed ^^^ (a * 0x9E3779B1 % 2 ^ 32)
  let h := h ^^^ (h / 2 ^ 16)
  let h := h * 0x85EBCA6B % 2 ^ 32
  h ^^^ (h / 2 ^ 13)

def hopChannel (s : State) (g asn o : Nat) : Nat :=
  let l := hopGet s (Reg.MAC_HOPg_CFG.LEN_M1 g) + 1
  let k := if hopGet s (Reg.MAC_HOPg_CFG.MODE g) = 0 then asn else hopHash (hopGet s (Reg.MAC_HOPg_SEED.SEED g)) asn
  hopList s g ((k + o) % l)

/-- An engine's hop group. -/
def engHopg (s : State) (e : Nat) : Nat := s.eff (Reg.MAC_ENGn_CFG.HOPG (hopEngine s e))
def engChofs (s : State) (e : Nat) : Nat :=
  match (if s.mac.planned then s.mac.chofs.find? (hopEngine s e) else none) with
  | some o => o
  | none => s.eff (Reg.MAC_ENGn_CFG.CHOFS (hopEngine s e))

/-- FREQ of a channel frequency on a port (R66). -/
def freqOfs (s : State) (hz port : Nat) : Int :=
  roundDiv (((hz : Int) - (s.eff (Reg.PRSM_PORTn_FC.FC port) : Int)) * 2 ^ 32) 122880000

/-- The sequencer sets the offset of a hopping tuner for the new cell (R69, R185). A group with EN = 0 leaves it. -/
def hopTuner (n : Nat) (s : State) : State :=
  if !(tuEn s n && s.effOn (Reg.PRSM_TUn_CFG.HOP n)) then s else
  let e := if tuPair s n then n / 2 * 2 else s.eff (Reg.PRSM_TUn_CFG.ENGINE n)
  let g := engHopg s e
  if hopGet s (Reg.MAC_HOPg_CFG.EN g) = 0 then s else
  let ch := hopChannel s g (asnOf s s.mac.cell) (engChofs s e)
  let hz := chanFreq s (hopGet s (Reg.MAC_HOPg_CFG.BAND g)) ch
  let s := modTu n (fun t => { t with hopOfs := some (freqOfs s hz (s.eff (Reg.PRSM_TUn_CFG.PORT n))) }) s
  forEach (if tuPair s n then [e, e + 1] else [e]) (fun e s => s.put (Reg.MAC_ENGn_STAT.CUR_CH e) ch) s

/-! ## Aperture (R189) -/

/-- The update of a node's model from an observed offset x (R189). -/
def aptUpdate (n : Nat) (x : Int) (s : State) : State :=
  let h := nthOf s n
  let dt := dtTicks s h
  let s := s.inc Reg.MAC_APT_UPD.CNT
  let (h', s) :=
    if aptStale s h then
      ({ h with aptO := satS 32 x, aptD := 0, aptN := 1, aptP := false, aptM := false }, s.incIf (h.aptN != 0) Reg.MAC_APT_RESET.CNT)
    else
      let near := h.aptP && decide ((8000 * x - h.aptD * dt).natAbs < (8000 * (x - h.aptO) - h.aptD * dt).natAbs)
      let o := if near then 0 else h.aptO
      let r8 := 8000 * (x - o) - h.aptD * dt
      let k := if h.aptN = 1 then 1 else 2 ^ max 1 (s.get Reg.MAC_APT_CFG0.K)
      let learns := decide (s.get Reg.MAC_APT_CFG2.DT_MIN * 8000 ≤ dt)
      let d := if !learns then h.aptD
        else if dt = 0 then satS 24 (Config.drift s.core.free)
        else satS 24 (roundDiv (h.aptD * (dt * k : Nat) + r8) (dt * k))
      ({ h with aptO := satS 32 x, aptD := d, aptN := if learns then min (h.aptN + 1) 15 else h.aptN, aptP := false },
        if learns && dt == 0 then s.drawn else s)
  let h' := { h' with tLast := s.tick % 2 ^ 48 }
  mirPost (.apt n h'.aptO h'.aptD h'.aptN h'.aptP h'.aptM h'.tLast) (setNth n h' s)

/-! ## What an engine receives -/

/-- The engine transmits a frame of one of its windows or its own acknowledgement: between its first sample and its last at the JESD output
(R201). -/
def engTransmits (s : State) (e : Nat) : Bool :=
  let at' (x : TxS) (stop : Nat) : Bool :=
    x.engine == e && decide (x.start + tJesdTx s x.port ≤ s.clk) && decide (s.clk < stop + tJesdTx s x.port)
  s.txc.mods.any (fun m => at' m.2 (m.2.start + t3Clocks m.2.onAir)) ||
  s.txc.tails.any (fun x => at' x.tx (x.stop + (if x.cut then Config.usClocks 1 else 0)))

/-- The RX port whose latency counts for an engine, its chain, and the TX port of its acknowledgements. Of an MRC pair the stream that is
released earlier counts, the one of less latency (R90). -/
def engRxPort (s : State) (e : Nat) : Nat :=
  (streamOf s e).elim 0 (fun n =>
    if inMrc s e && decide (tJesd s (tuPort s (n + 1)) < tJesd s (tuPort s n)) then tuPort s (n + 1) else tuPort s n)
def engChain (s : State) (e : Nat) : Nat := (streamOf s e).elim 0 (tuChain s)
def engTxPort (s : State) (e : Nat) : Nat := bandPort s (engBand s e)

/-- Clocks from a port's JESD input through a chain to an engine's input: T_jesd and T_prism, rounded up (R90). -/
def pathDelay (s : State) (port chain : Nat) : Nat := tJesd s port + (Config.chainGd chain * 98304 + 9999) / 10000

/-- The same of the stream that an engine receives now. -/
def rxDelay (s : State) (e : Nat) : Nat := pathDelay s (engRxPort s e) (engChain s e)

/-- The instant of the cell, in ns, at which what reaches an engine now was at the antenna port (R90, R180). -/
def rxNow (s : State) (e : Nat) : Int :=
  (cellNow s : Int) - (clocksNs (tJesd s (engRxPort s e)) + Config.chainGd (engChain s e) * 10 : Nat)

/-- The tenants whose frames an open search accepts carry the mark 256. -/
def openWin : RxWin :=
  { kind := 1, tenant := 256, node := 0, nominal := 0, centre := 0, half := 0, ackw := false, span := 0 }

/-- The window in which an engine searches now, none where it does not search (R181, R184, R188, R201, R202, R525). -/
def searchWin (s : State) (e : Nat) : Option RxWin :=
  if engTransmits s e then none
  else if !(s.mac.running && s.mac.planned) then (if s.on Reg.MAC_CTRL.DEFAULT_OPEN then some openWin else none)
  else
    let now := rxNow s e
    let at' := s.clk - rxDelay s e
    match s.mac.waits.find? (fun w => w.engine == e && decide (w.lo ≤ at') && decide (at' ≤ w.hi)) with
    | some w => some { openWin with kind := 3, tenant := w.frame.tenant, node := w.frame.node }
    | none =>
      (s.mac.wins.find? (fun x => x.w.engine == e && decide (x.w.kind ≤ 2) && decide (x.lo ≤ now) && decide (now < x.hi))).map
        (fun x => ⟨x.w.kind, x.w.tenant, x.w.node, x.w.ofs, x.centre, x.half, x.w.ackw, x.w.span⟩)

/-! ## Fast-ACK places and limits (R197, R199, R144) -/

/-- The engine cannot use fast-ACK: one of a SELECT pair, or the odd engine of an MRC pair (R197). -/
def faBarred (s : State) (e : Nat) : Bool := inSelect s e || (inMrc s e && e % 2 == 1)

def gapUs (s : State) (e : Nat) : Nat := max 20 (s.eff (Reg.MAC_ENGn_ACK.GAP e))

/-- What is left of the gap in ten-thousandths of a clock after the latencies, `us` of further µs and `clocks` (R144, R199). -/
def gapLeft (s : State) (e us clocks : Nat) : Int :=
  (gapUs s e * 9830400 : Nat) - ((tJesd s (engRxPort s e) + tJesdTx s (engTxPort s e) + clocks) * 10000 +
    Config.chainGd (engChain s e) * 98304 + us * 9830400 : Nat)

/-- The largest L whose clocks fit what is left, at most `cap`. -/
def lMaxOf (left : Int) (cap : Nat) : Nat := if left < 0 then 0 else min cap (left / 10000).toNat

/-- L_max of the non-LD PHYs (R199): T_conf 40 µs or 80 µs, T_ack 10 µs, 256 clocks and one clock an octet. -/
def faLmax (s : State) (e : Nat) : Nat :=
  let phy := s.eff (Reg.CE_MODE.PHY e)
  lMaxOf (gapLeft s e (if phy = 1 then 90 else 50) 256) (if phy = 2 then 127 else min 2047 (Config.maxPsdu phy))

/-- Clocks per iteration and fixed clocks of a code (R137). -/
def cwClocks (code iters : Nat) : Nat :=
  [16, 40, 40, 40].getD code 40 + iters * [220, 1520, 1360, 1136].getD code 1520

def maxFa (s : State) : Nat := max 1 (s.eff Reg.DEC_ITER.MAX_FA)
def maxPay (s : State) : Nat := max 1 (s.eff Reg.DEC_ITER.MAX_PAY)
def maxHdr (s : State) : Nat := max 1 (s.eff Reg.DEC_ITER.MAX_HDR)

/-- L_max on the LD PHY (R144): T_dm 2 µs and T_ack 10 µs. -/
def ldLmax (s : State) (e pm : Nat) : Nat := lMaxOf (gapLeft s e 12 (cwClocks (ldCode pm) (maxFa s) + 256)) 2047

/-- The places, L_max and error codes of the fast-ACK engines, from the configuration in force (R197, R199). -/
def faBoundary (s : State) : State :=
  let (s, n) := (List.range 128).foldl (fun (a : State × Nat) e =>
    let (s, n) := a
    let want := s.effOn (Reg.MAC_ENGn_CFG.FA_EN e)
    let act := want && !faBarred s e && decide (n < 16)
    let ld := s.eff (Reg.CE_MODE.PHY e) == 3
    let lm := if act && !ld then faLmax s e else 0
    let err := if !want then 0 else if faBarred s e then 3 else if !act then 1 else if !ld && lm == 0 then 2 else 0
    let s := ((s.putB (Reg.MAC_ENGn_STAT.FA_ACT e) act).put (Reg.MAC_ENGn_STAT.FA_ERR e) err).put (Reg.MAC_ENGn_STAT.FA_LMAX e) lm
    (s, if act then n + 1 else n)) (s, 0)
  s.put Reg.MAC_FA_STAT.COUNT n

/-- DEC_FA_QUERY as its fields stand (R144). -/
def faQuery (s : State) : State :=
  let e := s.get Reg.DEC_FA_QUERY.ENGINE
  let ok := !engOff s e && s.get (Reg.CE_STAT.STATE e) != 0 && s.eff (Reg.CE_MODE.PHY e) == 3 && s.get (Reg.CE_STAT.ERR e) == 0 &&
    s.on (Reg.MAC_ENGn_STAT.FA_ACT e)
  (s.putB Reg.DEC_FA_QUERY.VALID ok).put Reg.DEC_FA_QUERY.LMAX (if ok then ldLmax s e (s.get Reg.DEC_FA_QUERY.PM) else 0)

/-! ## The address filter (R193) -/

/-- The tenant a destination PAN ID selects on an engine. -/
def panTenant (s : State) (e pan : Nat) : Option Nat :=
  if pan = 0xFFFF then none else
  (List.range 256).find? (fun t => s.effOn (Reg.MAC_Tt_POL.EN t) && s.eff (Reg.MAC_Tt_POL.HOPG t) == engHopg s e &&
    s.get (Reg.MAC_Tt_ID.PAN_ID t) == pan)

def dstOk (s : State) (t : Nat) (p : Psdu) : Bool :=
  match p.dst with
  | .none => true
  | .short a => a == s.get (Reg.MAC_Tt_ID.ROOT_SHORT t) || (p.ftype == 3 && a == 0xFFFF)
  | .ext a => a == s.get Reg.MAC_ROOT_EXT.ADDR

def isBroadcast (p : Psdu) : Bool := match p.dst with | .short 0xFFFF => true | _ => false

/-- The sender's node, from NODE of the LD header or from the source address. -/
def senderNode (s : State) (t : Nat) (ld : Option Nat) (p : Psdu) : Option Nat :=
  let n : Option Nat := match ld with
    | some n => some n
    | none => match p.src with
      | .none => none
      | .short a => (emtLookup s (pipeServing s t) 3 t a).map EmtEntry.result
      | .ext a => (emtLookup s (pipeServing s t) 2 t a).map EmtEntry.result
  n.filter (fun n => (nthOf s n).joined && (nthOf s n).tenant == t)

/-- What the filter comes to. -/
inductive FiltRes where
  | fail (cnt : Fld)
  | pass (tenant : Nat) (node : Option Nat)
  | ack (w : AckWait)
deriving DecidableEq, Repr

/-- The ACK wait that a received acknowledgement lies in. -/
def waitOf (s : State) (e clk : Nat) : Option AckWait :=
  s.mac.waits.find? (fun w => w.engine == e && decide (w.lo ≤ clk) && decide (clk ≤ w.hi))

/-- The Enh-ACK is from the wait's node and carries its frame's number (R202). -/
def ackMatches (s : State) (w : AckWait) (ld : Option Nat) (p : Psdu) : Bool :=
  (match ld with
    | some n => n == w.frame.node
    | none => senderNode s w.frame.tenant none p == some w.frame.node || p.src == .none) &&
  (p.seq == w.frame.seq || (p.seq == 256 && ld == some w.frame.node))

/-- An LD frame carries the source address that its window asks for: none, and of a join frame an extended one (R192). -/
def ldSrcOk (isJoin : Bool) (p : Psdu) : Bool :=
  match p.src with
  | .none => !isJoin
  | .short _ => false
  | .ext _ => isJoin

/-- R193 for a frame on engine `e` whose first sample came at `clk`; `ld` is the NODE of an LD header. An Enh-ACK is an acknowledgement of
frame version 2. An LD frame whose source address is not what R192 accepts has no sender (log entry 52). -/
def macFilter (s : State) (e clk : Nat) (ldPhy : Bool) (ld : Option Nat) (isJoin : Bool) (p : Psdu) : FiltRes :=
  let verOk := if ldPhy then p.version == 2 else decide (p.version ≤ 2)
  if p.ftype = 2 && p.version = 2 then
    match waitOf s e clk with
    | some w => if ackMatches s w ld p then .ack w else .fail Reg.MAC_FILT_SRC.CNT
    | none => .fail Reg.MAC_FILT_TYPE.CNT
  else if !(verOk && (p.ftype == 1 || p.ftype == 3)) then .fail Reg.MAC_FILT_TYPE.CNT
  else match p.dstPan.bind (panTenant s e) with
  | none => .fail Reg.MAC_FILT_PAN.CNT
  | some t =>
    if !dstOk s t p then .fail Reg.MAC_FILT_DST.CNT
    else if ldPhy && !ldSrcOk isJoin p then .fail Reg.MAC_FILT_SRC.CNT
    else if isJoin then .pass t none
    else match senderNode s t ld p with
      | some n => .pass t (some n)
      | none => .fail Reg.MAC_FILT_SRC.CNT

/-! ## Acknowledgements (R194 to R200, R210) -/

/-- R194. -/
def pendingBit (s : State) (t : Nat) (node : Option Nat) : Bool :=
  match node with
  | some n => s.on (Reg.MAC_Tt_POL.PEND_EN t) && (airHead s t n).isSome
  | none => false

/-- The engine whose settings count for acknowledgements (R196, R197). -/
def ackEngine (s : State) (e : Nat) : Nat := if inMrc s e then e / 2 * 2 else e

/-- R196 for a frame that passed its checks: AR, a destination that is not broadcast, ACK_EN; and no acknowledgement while
MAC_CTRL.EN = 0 is in force (R525). -/
def mayAck (s : State) (e : Nat) (p : Psdu) : Bool :=
  p.ar && !isBroadcast p && s.effOn (Reg.MAC_ENGn_CFG.ACK_EN (ackEngine s e)) && s.mac.running

/-- An acknowledgement that gets no fast-ACK: requested of firmware with what it is to carry, counted for want of the lease, or not made (R196,
R200, R210). -/
def deferAck (t node seq : Nat) (pend : Bool) (corr : Option Int) (key : Option Nat) (level : Nat) (s : State) : State :=
  if s.on (Reg.MAC_Tt_POL.DEFER_ACK t) then
    if holdsTx s then
      (s.inc Reg.MAC_ACK_DEFER.CNT).emit (.toFirmware "ack" [t, node, seq, b2n pend, b2n corr.isSome, ofSigned 12 (corr.getD 0), key.elim 0 (· + 1), level])
    else s.inc Reg.MAC_NOLEASE_ACK.CNT
  else s

/-- The PSDU length of an Enh-ACK: its header and elements, the security header and MIC of the frame it answers, and the FCS, which an LD
frame has not (R192, R196, R215, R217, R222). -/
def ackLen (phy : Nat) (hasSeq tc secured : Bool) (kim level : Nat) : Nat :=
  Config.ackHead phy hasSeq tc + (if secured then auxLen kim + micLen level else 0) + (if phy = 3 then 0 else Config.fcsLen phy)

/-- The Time Correction value in µs: −x rounded (R196), in the field's 12 bits (PRESUMED: log entry 40). -/
def timeCorr (x : Int) : Int := max (-2048) (min 2047 (roundDiv (-x) 1000))

/-- The launch instant at the composer of the fast-ACK of a frame whose last symbol reached the engine input at `last`, `delay` after it had
reached the JESD input of its port (R198). -/
def ackLaunchClk (s : State) (e delay last : Nat) : Nat :=
  last + Config.usClocks (gapUs s e) - delay - tJesdTx s (engTxPort s e)

/-- A fast-ACK is scheduled, or its launch instant is already out of reach (R198, R23). -/
def scheduleAck (a : AckPend) (s : State) : State :=
  if !holdsTx s then s.inc Reg.MAC_NOLEASE_ACK.CNT
  else if a.launch < a.ready then overrun Reg.SYS_OVR_STAT.ACK_LATE (s.inc Reg.MAC_ACK_LATE.CNT)
  else modMac (fun m => { m with acks := m.acks ++ [a] }) s

end Sys2Proof.Machine
end

