-- ==== Sys2Proof/Machine/RxOps.lean ====
section
/-! DEFINITION. Frames, their records, the release stage and the ends of frames on the engines (chapters 3 and 4, R19 to R32). -/

namespace Sys2Proof.Machine

def modRx (f : RxS → RxS) (s : State) : State := { s with rx := f s.rx }
def ceOf (s : State) (e : Nat) : CeS := s.rx.ce.get e
def modCe (e : Nat) (f : CeS → CeS) (s : State) : State := modRx (fun r => { r with ce := r.ce.upd e f }) s

/-- CE_STAT.STATE and HOLDING as the engine stands. -/
def ceSync (e : Nat) (s : State) : State :=
  let c := ceOf s e
  let off := s.get (Reg.CE_STAT.STATE e) == 0
  let s := if off then s else s.put (Reg.CE_STAT.STATE e) (if c.cur.isSome then 2 else 1)
  s.putB (Reg.CE_STAT.HOLDING e) (!c.held.isEmpty)

/-! ## Deadlines (R19) -/

/-- B_dec in force during an elapsed tick not after this one. -/
def budgetOf (s : State) (due : Nat) : Nat :=
  min 4 (max 1 (s.rx.budgets.getD (s.core.ticks - due) (s.eff Reg.DEC_CTRL.BUDGET_TICKS)))

/-- The elapsed tick in which a frame is due: that of its last symbol. -/
def dueOf (s : State) (f : RxFrame) : Nat := (f.lastClk.getD s.clk) / Config.tickClocks

/-- The frame's decode deadline is over: clock 98,304 itself is in time. -/
def decodeLate (s : State) (f : RxFrame) : Bool :=
  let d := dueOf s f + budgetOf s (dueOf s f)
  decide (d < s.core.ticks) || (d == s.core.ticks && decide (Config.ofsDecode < s.ofs))

/-! ## The metadata record (R106 to R109, R524) -/

/-- The port whose latency counts for a frame: of a pair's two streams the one that is released earlier (R90). -/
def framePort (s : State) (f : RxFrame) : Nat :=
  if f.div && decide (tJesd s f.portB < tJesd s f.portA) then f.portB else f.portA

/-- Clocks from the JESD input of the frame's port to the engine's input (R90). -/
def frameDelay (s : State) (f : RxFrame) : Nat := pathDelay s (framePort s f) f.chain

/-- The latency that refers an instant at the engine input to the antenna port, in units of 2^−16 ns (R90), T_jesd rounded down to them
(DESIGN CHOICE, log entry 50). -/
def refLatency (s : State) (f : RxFrame) : Nat :=
  (tJesd s (framePort s f) * 78125 * 65536) / 76800 + Config.chainGd f.chain * 10 * 65536

def satU (w : Nat) (x : Int) : Nat := if x < 0 then 0 else min x.toNat (2 ^ w - 1)

/-- ARR_OFS of a frame (R188, R524): the reference instant minus N + c, to the nearest ns, none outside RX_NODE windows and none while the
sequencer does not run (R525). -/
def arrOfs (s : State) (f : RxFrame) : Option Int :=
  match f.win, f.acq with
  | some w, some a =>
    if w.kind = 0 && s.mac.running then
      some (max (-2147483647) (min 2147483647
        (roundDiv (a.refOfs - (refLatency s f : Nat) - ((w.nominal : Int) * 1000 + w.centre) * 65536) 65536)))
    else none
  | _, _ => none

/-- MODE of a frame as its engine is configured, and as the record encodes it (R108): MCS and payload mode only of a confirmed header. -/
def cfgMode (f : RxFrame) : Nat :=
  match f.phy with
  | 0 => f.mode % 16
  | 2 => 0
  | _ => f.mode % 4
def recMode (f : RxFrame) (hdrOk : Bool) : Nat :=
  match f.phy with
  | 0 => cfgMode f + (if f.acq.elim false (·.fec) then 16 else 0)
  | 1 => cfgMode f + 4 * (if hdrOk then f.mode / 4 % 8 else 0)
  | 2 => 0
  | _ => cfgMode f + 4 * (if hdrOk then f.hdr.elim 0 (·.pm) else 0)

/-- CE_TRACK.BW as a noise bandwidth in thousandths of the symbol rate; 3 is treated as 1 (R89). -/
def trackBw (s : State) (e : Nat) : Nat := [2, 5, 10, 5].getD (s.get (Reg.CE_TRACK.BW e)) 5

/-- The record of a frame on engine `e` with a status. -/
def recOf (s : State) (e : Nat) (f : RxFrame) (hdrOk : Bool) (len status : Nat) : MetaRec :=
  let ref := (f.acq.elim 0 (·.ref)) - refLatency s f
  let m := f.meas
  let rssi (v : Int) (p : Nat) : Int := satS 12 (roundDiv (v + 250 * s.getS (Reg.CE_RSSI_CALp.CAL p)) 250)
  let ra := rssi m.rssiA f.portA
  let rb := if f.div then rssi m.rssiB f.portB else ra
  let loop := Config.loopReach (trackBw s e) f.phy m.cfo m.cfoDrift
  { engine := e, phy := f.phy, mode := recMode f hdrOk, hdrOk := hdrOk, status := status, divv := f.div, captor := f.captor,
    isHeld := f.held, sicRec := f.held && f.sicOut == 1, specUsed := f.specUsed, specHit := f.specHit,
    specSquash := f.specSquash, length := if hdrOk then len else 0, tuner := f.tuner, portA := f.portA, portB := f.portB,
    band := s.eff (Reg.PRSM_PORTn_CFG.BAND f.portA), rssi := ofSigned 12 (max ra rb),
    lqi := satU 8 (roundDiv ((m.snr + 10000) * 255) 40000), snr := ofSigned 12 (satS 12 (roundDiv m.snr 125)),
    cfo := ofSigned 20 (satS 20 (roundDiv loop.1 1000)), cfoDrift := ofSigned 12 (satS 12 (roundDiv loop.2 1000)),
    iterHdr := f.iterHdr, iterMax := f.iterMax, iterSum := min 4095 f.iterSum, cwCount := f.cwTotal, fseq := f.fseq,
    linkFseq := f.linkFseq, capMargin := f.capMargin, sicOut := f.sicOut, tsNs := ref / 65536 % 1000000000,
    tsSec := ref / 65536 / 1000000000, tsFrac := ref % 65536,
    dueTick := (((s.tick : Int) + dueOf s f - s.core.ticks) % 2 ^ 32).toNat,
    arrOfs := (arrOfs s f).elim 0x80000000 (ofSigned 32), rssiA := ofSigned 12 ra, rssiB := ofSigned 12 rb,
    timingDrift := ofSigned 16 (satS 16 (roundDiv m.timing 1000)),
    evm := if f.phy = 0 then 0xFFFF else min 0xFFFE (roundDiv m.evm 100).toNat }

/-- The record of a frame that is not released goes to the PF alone, while FAIL_EN = 1 (R106). Only frames that reached
synchronisation have one. -/
def failRecord (r : MetaRec) (s : State) : State := when (s.on Reg.CE_REC_CTRL.FAIL_EN) (revRecord r) s

/-! ## Speculative slots (R100, R142, R266, R267) -/

/-- A lookup for a NODE fills the engine's slot for a frame. From an early header it is speculative: it counts as a fetch in Loupe, and
where the NT-C window is not open nothing is fetched and nothing shows it (R28, R29, R266). From a confirmed header it is a read as any. -/
def specStart (e node q : Nat) (early : Bool) (s : State) : State :=
  let h := nthOf s node
  if !h.joined || (early && !ntcOpen s) then s else
  let s := if early then lpe 0x03B s else confirmedRead (pipeServing s h.tenant) h.endpoint s
  let c := ntcOf s h.endpoint
  let x : SpecSlot :=
    { active := true, fseq := q, node := node, tenant := h.tenant, endpoint := h.endpoint, ntc := c,
      emt := emtLookup s (pipeServing s h.tenant) 1 h.tenant c.iid, stale := false }
  modFwd (fun w => { w with slots := w.slots.set e x }) s

/-- Held results are used: a stale copy is read again, and the NT-C entry enters the cold-entry cache as on any confirmed read (R267). -/
def specUse (e : Nat) (s : State) : State :=
  let x := s.fwd.slots.get e
  if x.stale then specStart e x.node x.fseq false s else confirmedRead (pipeServing s x.tenant) x.endpoint s

/-- The engine's slot is emptied, and that of one frame alone (R100, R142). -/
def specDrop (e : Nat) (s : State) : State := modFwd (fun w => { w with slots := w.slots.set e default }) s
def slotHas (s : State) (e q : Nat) : Bool := (s.fwd.slots.get e).active && (s.fwd.slots.get e).fseq == q
def specDropOf (e q : Nat) (s : State) : State := when (slotHas s e q) (specDrop e) s

/-! ## Statistics of the tick (R110) -/

/-- The clocks for which an engine has been busy since it was synchronised, or since the tick began: up to now, or to the last symbol of the
frame in progress. -/
def busySpan (s : State) (c : CeS) : Nat :=
  c.busyFrom.elim 0 (fun b => min s.clk ((c.cur.bind (·.lastClk)).getD s.clk) - b)

/-- The engine's frame ends, or is abandoned: its busy time counts. -/
def ceIdle (e : Nat) (s : State) : State :=
  modCe e (fun c => { c with busy := c.busy + busySpan s c, busyFrom := none }) s

/-- The frame in progress leaves the engine, which searches again; an announced mode holds for one packet (R84). -/
def ceFree (e : Nat) (s : State) : State :=
  ceSync e (modCe e (fun c => { c with
    cur := none
    msMode := if (c.cur.bind (·.acq)).isSome then none else c.msMode }) (ceIdle e s))

/-- DEC_STAT.BUSY as the decoders stand. -/
def decSync (s : State) : State := s.put Reg.DEC_STAT.BUSY (sumNat (s.rx.jobs.map (fun j => 2 ^ j.1)))

/-- A frame's codewords leave staging and the decoders, which are free at once (R138, R139). -/
def cwDrop (e q : Nat) (s : State) : State :=
  let mine (c : CwS) : Bool := c.engine == e && c.fseq == q
  decSync (modRx (fun r => { r with staged := r.staged.filter (fun c => !mine c), jobs := r.jobs.filter (fun j => !mine j.2.cw) }) s)

/-- A frame in progress or held fails: its record, its codewords gone from staging and decoders (R138, R139), its speculative
results discarded (R142). `hdrOk` frames keep their length. -/
def dropFrame (e : Nat) (f : RxFrame) (status sic : Nat) (s : State) : State :=
  let f := { f with sicOut := if f.held then sic else f.sicOut, specSquash := f.specSquash || (f.specUsed && f.early.isSome) }
  let s := when f.acq.isSome (fun s => failRecord (recOf s e f f.hdr.isSome (f.hdr.elim 0 (·.len)) status) s) s
  let s := specDropOf e f.fseq (when f.specSquash (lpe 0x03A) s)
  modRx (fun r => { r with decoding := r.decoding.filter (fun d => !(d.1 == e && d.2.fseq == f.fseq)) }) (cwDrop e f.fseq s)

/-- Takes a frame by its FSEQ from wherever the engine has it. -/
def findRx (s : State) (e q : Nat) : Option RxFrame :=
  let c := ceOf s e
  match c.cur.filter (fun f => f.fseq == q) with
  | some f => some f
  | none => match c.held.find? (fun f => f.fseq == q) with
    | some f => some f
    | none => (s.rx.decoding.find? (fun d => d.1 == e && d.2.fseq == q)).map (·.2)

/-- Changes a frame wherever the engine has it. -/
def modFrame (e q : Nat) (g : RxFrame → RxFrame) (s : State) : State :=
  let h (f : RxFrame) : RxFrame := if f.fseq = q then g f else f
  let s := modCe e (fun c => { c with cur := c.cur.map h, held := c.held.map h }) s
  modRx (fun r => { r with decoding := r.decoding.map (fun d => if d.1 = e then (d.1, h d.2) else d) }) s

/-- The clock of a frame's last symbol, from its first preamble sample and its span. -/
def frameEnd (f : RxFrame) : Nat := f.acq.elim 0 (fun a => a.startClk + a.spanClk)

/-- The slice into which an engine that holds these frames records (R96): its own, or in an MRC pair the one that holds none, the partner's also where that
engine is not enabled (log entry 50). -/
def ringSlice (s : State) (e : Nat) (held : List RxFrame) : Option Nat :=
  (if inMrc s e then [0, 1] else [0]).find? (fun i => !held.any (fun h => h.slice == i))

/-- The clock from which the ring goes back once a held frame has left: now, where its slice begins to record again or another one goes on
from here, else as before (R96, R105). -/
def ringAfter (s : State) (e : Nat) (gone : RxFrame) (rest : List RxFrame) : Nat :=
  if ringSlice s e rest ≠ ringSlice s e (gone :: rest) || decide (s.clk < frameEnd gone) then s.clk
  else max (ceOf s e).ringSince (frameEnd gone)

/-- Removes a frame from wherever the engine has it. -/
def takeFrame (e q : Nat) (s : State) : State :=
  let wasCur := ((ceOf s e).cur.filter (fun f => f.fseq == q)).isSome
  let rest := (ceOf s e).held.filter (fun f => f.fseq != q)
  let since := ((ceOf s e).held.find? (fun f => f.fseq == q)).elim (ceOf s e).ringSince (fun h => ringAfter s e h rest)
  let s := modCe e (fun c => { c with held := rest, ringSince := since }) s
  let s := modRx (fun r => { r with decoding := r.decoding.filter (fun d => !(d.1 == e && d.2.fseq == q)) }) s
  if wasCur then ceFree e s else ceSync e s

/-! ## Held frames (R101 to R105) -/

/-- A held frame ends without recovery. -/
def sicFail (e q status sic : Nat) (s : State) : State :=
  match (ceOf s e).held.find? (fun f => f.fseq == q) with
  | none => s
  | some f =>
    let s := takeFrame e q (dropFrame e f status sic s)
    if status = 0x07 then lpe 0x032 (s.inc (Reg.CE_SIC_FAIL.CNT e)) else s

/-- The captor of held frames has its outcome: confirmed, or failed, which fails them (R103). -/
def captorOutcome (e q : Nat) (ok : Bool) (s : State) : State :=
  if ok then modCe e (fun c => { c with held := c.held.map (fun f => if f.linkFseq = q then { f with captorOk := true } else f) }) s
  else forEach (((ceOf s e).held.filter (fun f => f.linkFseq == q)).map (·.fseq)) (fun h s => sicFail e h 0x07 3 s) s

/-- A frame that is not held fails with a status; the frame it had captured from fails with it. -/
def frameFail (e : Nat) (f : RxFrame) (status : Nat) (s : State) : State :=
  captorOutcome e f.fseq false (takeFrame e f.fseq (dropFrame e f status 0 s))

/-- A frame fails, held or not (R101). -/
def rxFail (e : Nat) (f : RxFrame) (status sic : Nat) (s : State) : State :=
  if f.held then sicFail e f.fseq status sic s else frameFail e f status s

/-- INVALID samples abandon the frame in progress and the held frames alike, and the slice's samples are discarded (R74, R105); a frame
waiting in the decoder array is past its samples. -/
def abortSync (e : Nat) (s : State) : State :=
  let c := ceOf s e
  let l := c.cur.toList ++ c.held
  let s := forEach l (fun f s => takeFrame e f.fseq (dropFrame e f 0x04 0 (s.inc (Reg.CE_ABORT_SYNC.CNT e)))) s
  modCe e (fun c => { c with ringSince := s.clk }) s

/-- A mode change abandons them likewise (R80). In this count and in CE_ABORT_SYNC a detection that is not yet synchronised is a frame in
progress (log entry 50). -/
def abortCfg (e : Nat) (s : State) : State :=
  let c := ceOf s e
  let l := c.cur.toList ++ c.held
  let s := forEach l (fun f s => takeFrame e f.fseq (dropFrame e f 0x05 0 (s.inc (Reg.CE_ABORT_CFG.CNT e)))) s
  modCe e (fun c => { c with msMode := none, ringSince := s.clk }) s

/-- CE_STAT of an engine that is off, which delivers no report any more (R82, R110). -/
def ceOff (e : Nat) (s : State) : State :=
  modCe e (fun c => { c with report := none })
    (((s.put (Reg.CE_STAT.STATE e) 0).put (Reg.CE_STAT.ERR e) 0).put (Reg.CE_STAT.HOLDING e) 0)

/-- The engine's power domain goes off: it keeps no frame, and nothing shows what it had (R82). -/
def cePowerOff (e : Nat) (s : State) : State :=
  let c := ceOf s e
  let s := forEach ((c.cur.toList ++ c.held).map (·.fseq) ++ (s.rx.decoding.filter (fun d => d.1 == e)).map (·.2.fseq)) (cwDrop e) s
  let s := modRx (fun r => { r with decoding := r.decoding.filter (fun d => d.1 != e) }) s
  ceOff e (specDrop e (modCe e (fun c => { c with
    cur := none, held := [], msMode := none, dup := none, busyFrom := none, busy := 0, dets := 0, arr := [], running := false }) s))

/-- A tuner's stream has become INVALID at this sample, as have those of all tuners of `all` (R74, R93): the engine of a tuner on its own,
or of its stream of a SELECT pair, abandons its frames; an MRC pair does so where both streams are INVALID, and goes on with the other
one where one is, which counts once for each frame that it reaches: the one in progress and a held one still in recording. `r` is what the tuner ran with. -/
def streamLost (n : Nat) (r : TuRun) (s : State) : State :=
  let a := n / 2 * 2
  if !r.pair then abortSync r.engine s
  else if s.eff (Reg.CE_DIV.MODE a) = 1 then abortSync n s
  else if tuValid s (if n = a then a + 1 else a) then
    let hit := ((ceOf s a).cur.toList ++ (ceOf s a).held.filter (fun h => decide (s.clk < frameEnd h))).filter (fun f => !f.dropped && f.acq.isSome)
    forEach hit (fun f s => modFrame a f.fseq (fun f => { f with dropped := true }) (s.inc (Reg.CE_DIV_DROP.CNT a))) s
  else abortSync a s

/-- The streams of several tuners, INVALID from one sample on. -/
def streamsLost (l : List (Nat × TuRun)) (s : State) : State := forEach l (fun x => streamLost x.1 x.2) s

/-- What those of a list of tuners that run do so with. -/
def running (l : List Nat) (s : State) : List (Nat × TuRun) := l.filterMap (fun n => (tuOf s n).runs.map (fun r => (n, r)))

/-- Tuners restart together from zeroed state (R57, R73). -/
def restartAll (l : List Nat) (s : State) : State := streamsLost (running l s) (forEach l tuRestart s)

/-- The tuners that run on a port. -/
def portTuners (p : Nat) (s : State) : List Nat := (List.range 128).filter (fun n => (tuOf s n).runs.any (·.port == p))

/-- A Prism overrun on a port: PRSM_GAP counts and every tuner fed by the port restarts (R23, R47, R54). -/
def prismGap (p : Nat) (s : State) : State :=
  restartAll ((portTuners p s).filter (fun n => !(tuOf s n).lost)) (overrun Reg.SYS_OVR_STAT.PRSM_GAP (s.inc Reg.PRSM_GAP_CNT.GAP))

/-- The tuners of a port that no longer delivers put out INVALID samples from now on (R75, R522). -/
def portLost (p : Nat) (s : State) : State :=
  let l := (portTuners p s).filter (fun n => !(tuOf s n).lost)
  streamsLost (running l s) (forEach l (fun n s => modTu n (fun t => { t with lost := true }) (tuCount n s)) s)

/-! ## The release stage (R20, R31, R196, R218) -/

/-- A frame begins to wait for a usable counter of a key (R221), held by the bound of a split where that keeps the block (R419). -/
def counterWait (ref : Nat) (s : State) : State :=
  let c := ctrOf s ref
  (secInc Reg.SEC_CB_WAIT.CNT s).incIf (c.lease.isNone && splitHolds s c (c.hw + 1024)) Reg.MIR_SPLIT_HOLD.CNT

/-- What a frame's addresses are decompressed with. -/
def frameCtx (s : State) (fr : Frame) : SixCtx := sixCtx s (fr.mrec.phy == 3) fr.tenant fr.node fr.psdu

/-- The packet of an uplink frame that is no fragment, decompressed with its tenant's contexts (R273). -/
def decompress (s : State) (fr : Frame) (l : List Nat) : Option Packet := (sixExpand (frameCtx s fr) none l).bind packetOf

/-- The MPL message that a packet carries to the flood engine (R275). -/
def mplOf (s : State) (p : Packet) : Option (Nat × Nat) :=
  if !s.effOn Reg.FWD_CTRL.EN || !s.effOn Reg.FLD_CTRL.EN || isFollower s then none
  else if p.icmpType = some 155 || p.icmpType = some 159 then none else p.mpl

/-- An MPL message is judged, and a new one's insertion is posted (R283). -/
def mplJudged (t : Nat) (m : Option (Nat × Nat)) (s : State) : State × Option Bool :=
  match m with
  | none => (s, none)
  | some (seed, seq) =>
    let (s, fresh) := mplJudge t seed seq s
    (when fresh (mirPost (.seen t seq seed)) s, some fresh)

/-- Step 9: a released frame is forwarded, learned from and delivered (R263, R273 to R275). -/
def forwardFrame (fr : Frame) (s : State) : State :=
  if !s.effOn Reg.FWD_CTRL.EN then s else
  let h := nthOf s fr.node
  let prof := Config.fwdProfile s.core.free % 16
  let ar := Config.fwdAr s.core.free
  let s := s.drawn
  let pass (n : Nat) (p : Packet) (mpl : Option Bool) (s : State) : State :=
    uplinkForward fr.tenant p mpl (some fr.mrec) n prof ar (learnAsk fr.tenant (addrIid p.src) h.endpoint s)
  if fr.psdu.ftype = 3 then s.emit (.toFirmware "command" (fr.tenant :: fr.node :: fr.psdu.low)) else
  match sixFrame fr.psdu.low with
  | .whole l =>
    match decompress s fr l with
    | some p => pass 1 p fr.mpl s
    | none => s.inc Reg.FWD_DECOMP_ERR.CNT
  | .frag tag size ofs l =>
    match fragOctets (frameCtx s fr) size ofs l with
    | none => s.inc Reg.FWD_DECOMP_ERR.CNT
    | some o =>
      match fragmentIn fr.tenant h.endpoint tag size ofs o s with
      | (s, none) => s
      | (s, some (d, n)) =>
        match packetOf d with
        | none => s.inc Reg.FWD_DECOMP_ERR.CNT
        | some p =>
          let (s, fresh) := mplJudged fr.tenant (mplOf s p) s
          pass n p fresh s

/-- Aperture at a release (R188, R189, R210). -/
def aptRelease (fr : Frame) (s : State) : State :=
  match fr.win with
  | some w =>
    if w.kind = 0 && w.node = fr.node && fr.mrec.arrOfs ≠ 0x80000000 && s.mac.running then
      let a := toSigned 32 fr.mrec.arrOfs
      let s := s.incIf (decide (w.half < a.natAbs)) Reg.MAC_APT_EDGE.CNT
      if holdsTx s || s.on Reg.MAC_CTRL.STBY_LEARN then aptUpdate fr.node (w.centre + a) s else s
    else s
  | none => s

/-- A frame leaves the release stage. A follower delivers nothing (R415). -/
def releaseFrame (fr : Frame) (s : State) : State :=
  match fr.ackOf with
  | some d => airFinal d 0 s
  | none =>
    if fr.isJoin then
      let s := s.emit (.toFirmware "join" [fr.tenant, fr.psdu.fc, b2n fr.psdu.secured])
      if mayAck s fr.mrec.engine fr.psdu && !fr.ackDone then deferAck fr.tenant 0x40000 fr.psdu.seq fr.pend fr.corr fr.keyRef fr.psdu.level s else s
    else
      let h := nthOf s fr.node
      let s := setNth fr.node { h with lastEngine := fr.mrec.engine, lastRssi := fr.mrec.rssi, lastLqi := fr.mrec.lqi } s
      let s := aptRelease fr (senderUsed fr s)
      let s := if isFollower s then s.inc Reg.MIR_FOLLOW_RX.CNT else forwardFrame fr s
      if mayAck s fr.mrec.engine fr.psdu && !fr.ackDone then deferAck fr.tenant fr.node fr.psdu.seq fr.pend fr.corr fr.keyRef fr.psdu.level s else s

/-- Frames whose waits are over leave the release stage in order. -/
def releaseReady (s : State) : State :=
  let ready := s.sec.release.filter (fun f => f.waits.isEmpty)
  forEach ready releaseFrame (modSec (fun c => { c with release := c.release.filter (fun f => !f.waits.isEmpty) }) s)

/-- A receiver's acknowledgement of the records of a path, by their names: the waits on it end (R21, R223). -/
def endWaits (path : Nat) (ids : List Nat) (s : State) : State :=
  let s := modSec (fun c => { c with
    release := c.release.map (fun f => if ids.contains f.id then { f with waits := setDel f.waits path } else f)
    ctr := c.ctr.map (fun e => (e.1, { e.2 with
      twinHw := if path = 1 then (match e.2.lease with | some l => if ids.contains l.id then l.hw else e.2.twinHw | none => e.2.twinHw) else e.2.twinHw
      lease := e.2.lease.map (fun l => if ids.contains l.id then { l with waits := setDel l.waits path } else l) })) }) s
  let s := forEach (s.sec.ctr.map (·.1)) leaseSettle s
  releaseReady s

/-- A lost or absent receiver is waited for no longer (R224, R406). -/
def dropReceiver (path : Nat) (s : State) : State :=
  let ids := (s.sec.release.map (·.id)) ++ (s.sec.ctr.filterMap (fun e => e.2.lease.map (·.id)))
  let keep := s.sec.ctr
  let s := endWaits path ids s
  modSec (fun c => { c with ctr := c.ctr.map (fun e => (e.1, { e.2 with twinHw := (Tab.get keep e.1).twinHw })) }) s

/-- The frame is filtered or fails its checks, and leaves its speculative results. -/
def relFail (fr : Frame) (status : Nat) (cnt : Fld) (s : State) : State :=
  let s := specDropOf fr.mrec.engine fr.mrec.fseq s
  failRecord { fr.mrec with status := status, specSquash := fr.mrec.specSquash || (fr.mrec.specUsed && !fr.mrec.specHit) } (s.inc cnt)

/-- A check of R218 fails: its counter stands still while PD18 is off. -/
def secFail (fr : Frame) (status : Nat) (cnt : Fld) (s : State) : State :=
  let s := specDropOf fr.mrec.engine fr.mrec.fseq (secInc cnt s)
  failRecord { fr.mrec with status := status } s

/-- A node key used by a confirmed frame comes through the key cache (R213, R243). -/
def keyUse (ref : Nat) (s : State) : State :=
  if ref < 4096 then s else
  let ep := ref - 4096
  let s := if s.sec.cache.contains ep then s else secInc Reg.SEC_KC_MISS.CNT s
  cacheKey ep s

/-- The frame is one that the sender's node key protects (R211). -/
def namesNodeKey (s : State) (fr : Frame) : Bool :=
  fr.psdu.secured && !fr.isJoin && s.effOn (Reg.SEC_Tt_CFG.NODE_KEYS fr.tenant) && fr.psdu.kim == 1 &&
  fr.psdu.keyIndex == s.eff (Reg.SEC_Tt_CFG.NODE_KIDX fr.tenant)

/-- What a miss of the key cache adds to the time to an acknowledgement, up to 320 clocks; on the LD PHY the key is there in time (R214). -/
def keyMisses (s : State) (fr : Frame) : Bool :=
  namesNodeKey s fr && fr.mrec.phy != 3 && !s.sec.cache.contains (nthOf s fr.node).endpoint
def keyFetch (s : State) (fr : Frame) : Nat := if keyMisses s fr then min 320 (Config.keyFetch s.core.free) else 0

/-- The node's record fails to unwrap (R243). -/
def unwrapBad (s : State) (fr : Frame) : Bool :=
  let h := nthOf s fr.node
  let r := s.kv.secrets.get h.endpoint
  namesNodeKey s fr && r.valid && r.tenant == fr.tenant &&
  !unwraps s r.wkey h.endpoint r.gen false

/-- At a frame's commit its MPL message is judged, and a new one's insertion goes into the burst that the commit goes into (R283). That of a datagram in
fragments becomes visible at the release of the last one (R274). -/
def mplCommit (fr : Frame) (s : State) : State × Option Bool :=
  match sixFrame fr.psdu.low with
  | .whole l => if fr.psdu.ftype = 3 then (s, none) else mplJudged fr.tenant ((decompress s fr l).bind (mplOf s)) s
  | .frag _ _ _ _ => (s, none)

/-- Steps 1 to 8 of R218, and the fast-ACK decision at the local commit (R32, R196). `elig` says that the frame may be
fast-acknowledged, `ack` is the acknowledgement it would get. -/
def secureFrame (fr : Frame) (elig : Bool) (ack : AckPend) (s : State) : State :=
  let s := windowKeys s
  let ep := (nthOf s fr.node).endpoint
  let ack := { ack with ready := ack.ready + keyFetch s fr }
  let late := decide (ack.launch < ack.ready) && holdsTx s
  let s := when (keyMisses s fr) State.drawn s
  let s := when (namesNodeKey s fr && !secretsOpen s && !s.sec.cache.contains ep) (memRefuse 1 ep 0x0B) s
  let s := when (unwrapBad s fr) (secInc Reg.SEC_UNWRAP_FAIL.CNT) s
  match secCheck s fr with
  | .fail st cnt => secFail fr st cnt (if cnt = Reg.SEC_MIC_FAIL.CNT then (rxKey s fr).elim s (fun ref => keyUse ref s) else s)
  | .plain =>
    let s := secInc Reg.SEC_RX_JOIN.CNT s
    let s := if elig then scheduleAck { ack with secured := false } s else s
    releaseFrame { fr with ackDone := elig && !late } s
  | .ok ref bits hit =>
    let s := keyUse ref s
    if !fr.isJoin && !(nthOf s fr.node).joined then relFail fr 0x0A Reg.FWD_NT_GONE.CNT s else
    let s := match hit with
      | some true => secInc Reg.SEC_NEWKEY_HIT.CNT s
      | some false => secInc Reg.SEC_OLDKEY_HIT.CNT s
      | none => s
    let fr := { fr with keyRef := some ref, keyBits := bits }
    let ack := { ack with keyRef := some ref, keyBits := bits, secured := true }
    if fr.isJoin then
      let s := secInc Reg.SEC_RX_JOIN.CNT s
      let s := if elig then scheduleAck ack s else s
      releaseFrame { fr with ackDone := elig && !late } s
    else
      let h := nthOf s fr.node
      let (id, s) := mirId s
      let s := setNth fr.node { h with fcIn := fr.psdu.fc, fcValid := true } (secInc Reg.SEC_RX_OK.CNT s)
      let waits := mirWaits s
      let (s, mpl) := mplCommit fr s
      let s := mirPost (.fcCommit id fr.node fr.tenant fr.psdu.fc) s
      let s := if elig then scheduleAck { ack with frame := id } s else s
      let fr := { fr with id := id, waits := waits, ackDone := elig && !late, mpl := mpl }
      if waits.isEmpty then releaseFrame fr s
      else modSec (fun c => { c with release := c.release ++ [fr] }) s

/-- A confirmed frame enters the release stage (R31 step 6 on). `elig` says that a fast-ACK is configured for it and in reach. -/
def releaseStage (e : Nat) (f : RxFrame) (psdu : Psdu) (len : Nat) (elig : Bool) (s : State) : State :=
  let s := s.inc (Reg.CE_OK.CNT e)
  let isJoin := f.win.elim false (fun w => w.kind == 2)
  let ld := if f.phy = 3 && !isJoin then f.hdr.map (·.node) else none
  let squash := f.specSquash || (isJoin && f.specUsed)
  let r := { recOf s e f true len 0 with specSquash := squash }
  let due := dueOf s f
  let fr : Frame :=
    { id := 0, mrec := r, psdu := psdu, win := f.win, lastClk := f.lastClk.getD s.clk, dueTick := due,
      deadTick := due + budgetOf s due, tenant := 0, node := 0, keyRef := none, keyBits := 0, isJoin := isJoin,
      ackDone := false, ackOf := none, waits := [], bubble := false, pend := false, corr := none, mpl := none }
  let s := when isJoin (specDropOf e f.fseq) s
  let s := when squash (lpe 0x03A) s
  let s := when f.specHit (lpe 0x039) s
  let start := (f.acq.elim 0 (·.startClk)) - frameDelay s f
  match macFilter s e start (f.phy == 3) ld isJoin psdu with
  | .fail cnt => relFail fr 0x0A cnt s
  | .ack w =>
    let s := modMac (fun m => { m with waits := m.waits.filter (fun x => x != w) }) s
    let fr := { fr with tenant := w.frame.tenant, node := w.frame.node, ackOf := some w.frame }
    match secCheck s fr, (nthOf s fr.node).joined with
    | .ok .., true => secureFrame fr false default s
    | _, _ => modMac (fun m => { m with waits := w :: m.waits }) (secureFrame { fr with ackOf := none } false default s)
  | .pass t node =>
    let fr := { fr with tenant := t, node := node.getD 0 }
    let e' := ackEngine s e
    let a := arrOfs s f
    let x := a.map (fun a => a + (f.win.elim 0 (·.centre)))
    let pend := !isJoin && pendingBit s t node
    let corr := if s.on (Reg.MAC_Tt_POL.TC_IE t) then x.map timeCorr else none
    let fr := { fr with pend := pend, corr := corr }
    let ack : AckPend :=
      { engine := e', tenant := t, node := fr.node, seq := psdu.seq, secured := psdu.secured, keyRef := none, keyBits := 0,
        launch := ackLaunchClk s e (frameDelay s f) (f.lastClk.getD s.clk), ready := s.clk + 9831,
        psduLen := ackLen f.phy (psdu.seq != 256) corr.isSome psdu.secured psdu.kim psdu.level, level := psdu.level,
        pending := pend, corr := corr,
        nominal := f.win.elim 0 (·.nominal), span := f.win.elim 0 (·.span), join := isJoin, frame := 0, sec := none }
    secureFrame fr (elig && mayAck s e psdu) ack s

end Sys2Proof.Machine
end

