-- ==== Sys2Proof/Machine/Sample.lean ====
section
/-! DEFINITION. The commands of the sample interface and Prism (chapter 2), and what a tick boundary does there. -/

namespace Sys2Proof.Machine

/-! ## Ports -/

/-- A port leaves what it does for DISABLED; the tuners of an RX port that was UP put out INVALID samples (R522). -/
def disablePort (p : Nat) (s : State) : State :=
  let up := p < 8 && rxUp s p
  when up (portLost p) (setPort p psDISABLED s)

/-- RSI_ENABLE_WRITE (R522): EN = 0 takes every port to DISABLED, EN = 1 sends every enabled port without a CFG_ERR into
TRAINING. -/
def rsiEnable (en : Bool) (s : State) : State :=
  let was := s.on Reg.RSI_CTRL.EN
  let s := s.putB Reg.RSI_CTRL.EN en
  if en then (if was then s else forEach (List.range 12) (fun p s => if s.on (portEn p) then trainPort p s else s) s)
  else forEach (List.range 12) disablePort s

def execRsiEnableWrite (en : Bool) (s : State) : Host.Outcome State Fault Refusal := run (regAccess Reg.RSI_CTRL.EN.addr (rsiEnable en)) s

/-- CFG_ERR of an enabled port follows a change of what it depends on (R53): the port is DISABLED with it, or leaves DISABLED without. -/
def judgePort (p : Nat) (s : State) : State :=
  let e := portCfgErr s p
  if !(s.on (portEn p) && s.on Reg.RSI_CTRL.EN) then s
  else if e ≠ 0 then disablePort p (s.put (portErr p) e)
  else if s.get (portState p) = psDISABLED then trainPort p s
  else s

/-- A port's EN is written (R53, R44): 1 sends it into TRAINING or leaves it DISABLED with its CFG_ERR, 0 takes it to DISABLED.
P6 on an even port makes the odd port of its lanes unavailable. -/
def rsiPortEnable (p : Nat) (en : Bool) (s : State) : State :=
  let was := s.on (portEn p)
  let s := s.putB (portEn p) en
  let s := if en then (if was then s else trainPort p s) else disablePort p (s.put (portErr p) 0)
  if p % 2 = 0 && was != en then judgePort (p + 1) s else s

def execRsiPortEnable (p : Fin 12) (en : Bool) (s : State) : Host.Outcome State Fault Refusal := run (regAccess Reg.RSI_CTRL.EN.addr (rsiPortEnable p en)) s

/-- A write of RBD or TXDLY (R59, R61): the port's CFG_ERR and, of an RX port that is UP, LAT and MARGIN_LOW follow. -/
def delayWrite (p : Nat) (s : State) : State :=
  let s := judgePort p s
  if p < 8 && rxUp s p then showLat p s else s

/-- LANE_DISCOVERY_START (R49): ports in TRAINING enter DISCOVERY. The bit reads 1 while discovery runs. -/
def execLaneDiscoveryStart (s : State) : Host.Outcome State Fault Refusal :=
  run (regAccess Reg.RSI_CTRL.EN.addr fun s =>
    let s := (s.put Reg.RSI_CTRL.DISC_START 1).put Reg.RSI_CTRL.DISC_DONE 0
    forEach (List.range 8) (fun p s => if s.get (portState p) = psTRAINING then setPort p psDISCOVERY s else s) s) s

/-- The set of the RX port to which a physical lane is mapped has 8b/10b coding: P4 to P6 (R43). On such a lane the discovery pattern is
not used (R51). -/
def coded8b (set : Nat) : Bool := 4 ≤ set && set ≤ 6
def laneCoded (s : State) (l : Nat) : Bool :=
  let p := s.get (Reg.RSI_RXLANEl.LOGICAL l)
  [p, p / 2 * 2].any (fun q => s.on (portEn q) && coded8b (s.get (portSet q)) && (q == p || s.get (portSet q) == 6))

/-- LANE_DISCOVERY_END (R49, R50): `found` gives for each physical lane the raw bits received while discovery ran. -/
def laneDiscoveryEnd (found : List (List Bool)) (s : State) : State :=
  let res := (List.range 8).map (fun l => if laneCoded s l then none else laneSearch (found.getD l []))
  let unique (l : Nat) : Bool := match res.getD l none with
    | some (x, _) => (res.filter (fun y => (y.map (·.1)) == some x)).length == 1
    | none => false
  let s := (s.put Reg.RSI_CTRL.DISC_START 0).put Reg.RSI_CTRL.DISC_DONE 1
  let s := s.put Reg.RSI_CTRL.DISC_FOUND (sumNat ((List.range 8).map (fun l => if (res.getD l none).isSome then 2 ^ l else 0)))
  let s := forEach (List.range 8) (fun l s =>
    let s := s.putB (Reg.RSI_RXLANEl.FOUND l) (unique l)
    match res.getD l none with
    | some (x, inv) => if unique l && s.on Reg.RSI_CTRL.DISC_AUTO then
        (s.put (Reg.RSI_RXLANEl.LOGICAL l) x).putB (Reg.RSI_RXLANEl.POL l) inv else s
    | none => s) s
  forEach (List.range 8) (fun p s => if s.get (portState p) = psDISCOVERY then setPort p psTRAINING s else s) s

def execLaneDiscoveryEnd (found : List (List Bool)) (s : State) : Host.Outcome State Fault Refusal :=
  run (laneDiscoveryEnd found) s

/-- The lanes of a port that lock in 8b/10b mode (R51): the polarity that the running disparity of the received K28.5 characters gives,
and by the lane identifier of the ILAS the place of the lane in its port. -/
def lanesLock (p : Nat) (l : List LaneLock) (s : State) : State :=
  if 8 ≤ p || !coded8b (s.get (portSet p)) then s else
  forEach l (fun x s => if x.lid < (if s.get (portSet p) = 6 then 2 else 1) then
    (s.put (Reg.RSI_RXLANEl.LOGICAL x.lane) (p + x.lid)).putB (Reg.RSI_RXLANEl.POL x.lane) x.inverted else s) s

/-- PORT_LOCK (R53): lock on every lane moves a port from TRAINING to ALIGNING. -/
def portLock (p : Nat) (l : List LaneLock) (s : State) : State :=
  if s.get (portState p) = psTRAINING then setPort p psALIGNING (lanesLock p l s) else s

def execPortLock (p : Fin 12) (l : List LaneLock) (s : State) : Host.Outcome State Fault Refusal := run (portLock p l) s

/-- LANE_LOCK_LOSS (R54): of an UP port a loss shorter than 2 µs is a Prism overrun; a port in ALIGNING returns to TRAINING. -/
def execLaneLockLoss (p : Fin 12) (ofs : Fin 122880) (s : State) : Host.Outcome State Fault Refusal :=
  run (fun s =>
    let s := s.at ofs
    if s.get (portState p) = psUP then (if p.val < 8 then prismGap p s else s)
    else if s.get (portState p) = psALIGNING then setPort p psTRAINING s
    else s) s

/-- A port that is UP goes DOWN for a cause (R54). The tuners of an RX port put out INVALID samples from now on. -/
def portDown (p cause : Nat) (s : State) : State :=
  if s.get (portState p) ≠ psUP then s else
  let s := setPort p psDOWN s
  if 8 ≤ p then s else
  portLost p (((lpe (0x068 + p) s).inc (Reg.RSI_RXn_CNT.DOWN_EVT p)).put (Reg.RSI_RXn_STAT.DOWN_CAUSE p) cause)

/-- PORT_DOWN (R54): a loss of lock of 2 µs or longer takes an UP port DOWN. -/
def execPortDown (p : Fin 12) (ofs : Fin 122880) (s : State) : Host.Outcome State Fault Refusal := run (fun s => portDown p 1 (s.at ofs)) s

/-- The power domain of a port goes off (R53): a port that is enabled is DOWN. Only one that was UP counts and shows the cause (R54, log
entry 50). -/
def portPowerOff (p : Nat) (s : State) : State :=
  if s.get (portState p) = psDISABLED then s
  else if s.get (portState p) = psUP then portDown p 2 s
  else setPort p psDOWN s

/-- PORT_RETRY (R53): a DOWN port enters TRAINING again, while its Prism quadrant and PD31 are on. -/
def execPortRetry (p : Fin 12) (s : State) : Host.Outcome State Fault Refusal :=
  run (fun s => if s.get (portState p) = psDOWN && portPowered s p then setPort p psTRAINING s else s) s

/-- CRC12_ERROR (R47). Sets P1 to P3 carry CRC-12. -/
def execCrc12Error (p : Fin 8) (ofs : Fin 122880) (s : State) : Host.Outcome State Fault Refusal :=
  run (fun s =>
    let s := lpe (0x060 + p.val) (s.at ofs)
    let s := s.put (Reg.RSI_RXn_CNT.CRC_ERR p) (min 65535 (s.get (Reg.RSI_RXn_CNT.CRC_ERR p) + 1))
    if s.on (Reg.RSI_RXn_CFG.CRC_ACT p) then prismGap p s else s) s

/-! ## SYSREF (R55 to R58) -/

/-- RSI_SYSREF.MODE with 3 treated as 0. -/
def sysrefMode (s : State) : Nat := if s.eff Reg.RSI_SYSREF.MODE = 3 then 0 else s.eff Reg.RSI_SYSREF.MODE

/-- ARM clears when what it asked for has happened. -/
def armSync (s : State) : State := s.putB Reg.RSI_SYSREF.ARM (s.rsi.armPulse || s.rsi.armEdge)

/-- RSI_SYSREF.ARM is written: a pulse, and with SRC = 1 an edge, is asked for. -/
def sysrefArm (s : State) : State :=
  armSync (modRsi (fun r => { r with armPulse := true, armEdge := s.on Reg.RSI_SYSREF.SRC }) s)

/-- SYSREF_ARM. -/
def execSysrefArm (s : State) : Host.Outcome State Fault Refusal := run (regAccess Reg.RSI_SYSREF.MODE.addr sysrefArm) s

/-- A synchronising reset (R57) to the grid phase of the edge. Every tuner restarts: one that is stopped counts it and stays stopped. -/
def syncReset (phase : Nat) (s : State) : State :=
  let s := forEach (List.range 12) (fun p s => if s.on (portEn p) && (gridOf s p).isSome then
    modRsi (fun r => { r with grid := r.grid.insert p (phase % (portLemc s p).getD 1) }) s else s) s
  let s := s.put Reg.RSI_SYSREF_STAT.REALIGN_CNT (min 65535 (s.get Reg.RSI_SYSREF_STAT.REALIGN_CNT + 1))
  let s := restartAll ((running (List.range 128) s).map (·.1)) s
  let s := forEach ((List.range 128).filter (fun n => s.get (Reg.PRSM_TUn_STAT.STATE n) == 3)) (fun n s => s.inc (Reg.PRSM_TUn_STAT.RESTARTS n)) s
  txAbandonAll Reg.TXC_ABORT_SYNC.CNT false (fun _ => true) s

/-- The phase error of an edge against a grid, in device clocks between −N/2 and N/2. -/
def phaseErr (edge grid n : Nat) : Int :=
  let d := (edge + n - grid % n) % n
  if 2 * d ≤ n then (d : Int) else (d : Int) - n

/-- An applied edge at a device clock of the tick (R56). `arrive` gives the lane arrivals measured by ports that reach UP. PHASE
saturates at its eight bits, and PHASE_PORT shows a TX port as the RX port of its number (log entry 50). -/
def applyEdge (dev : Nat) (arrive : List Nat) (s : State) : State :=
  let ports := (List.range 12).filter (fun p => s.on (portEn p))
  let errs := ports.filterMap (fun p => (gridOf s p).map (fun g => (p, phaseErr dev g ((portLemc s p).getD 1))))
  let worst := errs.foldl (fun (b : Option (Nat × Int)) x => match b with
    | none => some x
    | some y => if y.2.natAbs < x.2.natAbs then some x else b) none
  let s := match worst with
    | some (p, d) => (s.put Reg.RSI_SYSREF_STAT.PHASE (ofSigned 8 (satS 8 d))).put Reg.RSI_SYSREF_STAT.PHASE_PORT (p % 8)
    | none => s
  let outside := errs.any (fun x => decide (s.get Reg.RSI_SYSREF.WINDOW < x.2.natAbs))
  let s :=
    if outside && s.on Reg.RSI_SYSREF.REALIGN then syncReset dev s
    else if outside then s.put Reg.RSI_SYSREF_SLIP.SLIPS (min 65535 (s.get Reg.RSI_SYSREF_SLIP.SLIPS + 1))
    else s
  let s := forEach (ports.filter (fun p => (gridOf s p).isNone && s.get (portState p) == psALIGNING)) (fun p s =>
    let n := (portLemc s p).getD 1
    let s := setPort p psUP (modRsi (fun r => { r with grid := r.grid.insert p (dev % n) }) s)
    if 8 ≤ p then s else
    let s := s.put (Reg.RSI_RXn_DLY.ARR p) (arrive.getD p 0 % n)
    showLat p s) s
  faQuery (needSync s)

/-- An edge of the selected source (R56): seen always, applied as MODE says; an internal edge is always applied. -/
def sysrefEdge (dev : Nat) (arrive : List Nat) (s : State) : State :=
  let s := s.put Reg.RSI_SYSREF_STAT.IN_SEEN 1
  if s.get Reg.RSI_SYSREF.SRC = 0 then applyEdge dev arrive s
  else match sysrefMode s with
    | 1 => if s.rsi.armEdge then armSync (modRsi (fun r => { r with armEdge := false }) (applyEdge dev arrive s)) else s
    | 2 => applyEdge dev arrive s
    | _ => s

/-- SYSREF_EDGE: a SYSREF_IN edge sampled at device clock `dev` of the tick. With SRC = 0 the input is not used. -/
def execSysrefEdge (dev : Fin 30720) (arrive : List Nat) (s : State) : Host.Outcome State Fault Refusal :=
  run (fun s => if s.on Reg.RSI_SYSREF.SRC then sysrefEdge dev arrive s else s) s

/-- SYSREF_OUT at a tick boundary (R55): one-shot after ARM, or every PERIOD ticks; with SRC = 0 the edge is the part's own. The first
periodic pulse comes at the boundary at which MODE takes effect; an ARM for which one-shot mode is not in force at the boundary ends there (log
entry 50). The pulse is high for 4 device clocks. -/
def sysrefBoundary (arrive : List Nat) (s : State) : State :=
  let s := when (sysrefMode s != 1) (fun s => armSync (modRsi (fun r => { r with armPulse := false, armEdge := false }) s)) s
  let per := max 1 (s.get Reg.RSI_SYSREF.PERIOD)
  let fire := match sysrefMode s with
    | 1 => s.rsi.armPulse
    | 2 => s.rsi.perBase ≤ s.core.ticks && (s.core.ticks - s.rsi.perBase) % per == 0
    | _ => false
  if !fire then s else
  let s := armSync (modRsi (fun r => { r with armPulse := false }) s)
  let s := when (s.on Reg.RSI_SYSREF.OUT_EN) (fun s => s.emit (.pulse "SYSREF_OUT" 4)) s
  if s.get Reg.RSI_SYSREF.SRC = 0 then sysrefEdge 0 arrive s else s

/-! ## Prism at a tick boundary (R65, R67, R70, R76 to R78) -/

/-- A port's front stage over the interface samples of the tick just ended, in R62's order: decimator, DC removal, IQ correction, power.
The clip count is taken before the decimator (R62 to R65). The estimates of DC removal start from 0 and stand while it is off or nothing comes
(log entry 50). The mean is over the port samples of the tick, 15,360 where the port delivers throughout; with none the power is 0 (log
entry 49). -/
def frontStage (p : Nat) (iface : List Cpx) (s : State) : State :=
  let f := s.prsm.front.get p
  let x := (decimate (setFactor (s.get (portSet p))) f.before iface).map (fun c => ((c.1 : Rat), (c.2 : Rat)))
  let dc := if s.eff (Reg.PRSM_PORTn_CFG.DC_EN p) = 1 then dcRun (dcShift (s.eff (Reg.PRSM_PORTn_CFG.DC_K p))) x (f.dcI, f.dcQ)
    else (x, (f.dcI, f.dcQ))
  let y := if s.eff (Reg.PRSM_PORTn_CFG.IQ_EN p) = 1 then
      dc.1.map (iqCorrect (s.getS (Reg.PRSM_PORTn_IQ.GAIN p)) (s.getS (Reg.PRSM_PORTn_IQ.PHASE p))) else dc.1
  let out := y.map portSample
  let pw := out.map powerOf
  let clips := (iface.filter clipped).length
  let ticks := (f.ticks ++ [out]).drop (f.ticks.length - 4)
  let g : FrontS := { before := iface, dcI := dc.2.1, dcQ := dc.2.2, ticks := if ticks.all (·.isEmpty) then [] else ticks }
  let s := modPrsm (fun r => { r with front := r.front.set p g }) s
  let s := (s.put (Reg.PRSM_PORTn_PWR.MEAN p) (powerField (sumNat pw) pw.length)).put (Reg.PRSM_PORTn_PWR.PEAK p) (powerField (pw.foldl max 0) 1)
  (s.put (Reg.PRSM_PORTn_CLIP.CLIPS p) (min 65535 clips)).incIf (clips != 0) (Reg.PRSM_PORTn_CLIP.CLIP_TICKS p)

/-- The front stages of the RX ports; `rx` gives by port the interface samples released during the tick (R42). A port that was at no time
UP in the tick delivers none (R54). -/
def frontStages (rx : List (List Cpx)) (s : State) : State :=
  forEach (List.range 8) (fun p s => if pdOn s (quadPd p) then frontStage p (if s.rsi.fed.contains p then rx.getD p [] else []) s else s) s

/-- The ports that are UP as a tick begins have delivered in it. -/
def fedSync (s : State) : State := modRsi (fun r => { r with fed := (List.range 8).filter (rxUp s) }) s

/-- A tuner's output of the tick just ended: the crossbar gives it its port's samples, which it mixes and decimates (R62, R66). The mixer's
phase counts from port sample 0 of tick 0 (log entry 50). -/
def tunerTick (n : Nat) (s : State) : State :=
  let s := tuCount n s
  let t := tuOf s n
  match t.runs with
  | none => if t.tags = [] && t.out = [] then s
    else modTu n (fun t => { t with out := tunerOut 0 [] (t.tags.map (fun x => (x.1, false))), tags := [] }) s
  | some r =>
    let l := (s.prsm.front.get r.port).ticks
    let src := (l.flatten.zipIdx ((s.core.ticks - l.length) * 15360)).map (fun x => mix (mixOfs s r.port r.ofs) x.2 x.1)
    modTu n (fun t => { t with out := tunerOut r.chain src t.tags, tags := [] }) s

/-- The end of a tick in Prism, while the configuration of the tick is in force. -/
def prismTick (rx : List (List Cpx)) (s : State) : State := fedSync (forEach (List.range 128) tunerTick (frontStages rx s))

/-- A tuner moves to its alternate port where the move passes validation (R76). -/
def moveTuner (n : Nat) (s : State) : State :=
  let moved := s.put (Reg.PRSM_TUn_STAT.ON_ALT n) 1
  let e := tuCheck moved n
  if e = 0 then moved else modTu n (fun t => { t with moveErr := e }) s

/-- Tuners of a port that went DOWN move where their configuration permits it, as does one whose configuration, written for this
boundary, names a port that is DOWN (R76, R78). A move that would put both tuners of a pair on one port fails with PAIR_MISMATCH. -/
def moveTuners (s : State) : State :=
  let moves (n : Nat) : Bool :=
    let p := s.eff (Reg.PRSM_TUn_CFG.PORT n)
    tuEn s n && s.effOn (Reg.PRSM_TUn_CFG.ALT_EN n) && !s.on (Reg.PRSM_TUn_STAT.ON_ALT n) &&
    ((s.rsi.wentDown.contains p && !rxUp s p) || (s.prsm.wrote.contains n && s.get (Reg.RSI_RXn_STAT.STATE p) == psDOWN))
  forEach ((List.range 128).filter moves) moveTuner s

/-- What a boundary does to a tuner. -/
inductive TuAct where
  | off | stop | start | restart | retarget | keep
deriving DecidableEq, Repr

/-- The error of an enabled tuner: the first rule of R67 that it fails, on a DOWN port the one its move failed (R76). -/
def tuErr (s : State) (n : Nat) : Nat :=
  let e := tuCheck s n
  if e = 3 && (tuOf s n).moveErr ≠ 0 then (tuOf s n).moveErr else e

def runOf (s : State) (n : Nat) : TuRun :=
  { port := tuPort s n, ofs := tuOfs s n, chain := tuChain s n, pair := tuPair s n, engine := s.eff (Reg.PRSM_TUn_CFG.ENGINE n) }

/-- A tuner that changes its port, offset, chain or mode restarts; one that changes its engine only does not (R70). -/
def tuAct (s : State) (n : Nat) : TuAct :=
  if !tuEn s n then .off
  else if tuErr s n ≠ 0 then .stop
  else match (tuOf s n).runs with
  | none => if s.get (Reg.PRSM_TUn_STAT.STATE n) = 0 then .start else .restart
  | some r =>
    if (tuOf s n).lost || { runOf s n with engine := r.engine } ≠ r then .restart
    else if !r.pair && r.engine ≠ (runOf s n).engine then .retarget
    else .keep

/-- The tuner off, stopped with its error, filling after a start or restart, or running on. -/
def tuDo (n : Nat) (a : TuAct) (e : Nat) (s : State) : State :=
  let run := runOf s n
  let s := (tuCount n s).put (Reg.PRSM_TUn_STAT.CUR_PORT n) (tuPort s n)
  let stat (st e : Nat) (s : State) : State := (s.put (Reg.PRSM_TUn_STAT.STATE n) st).put (Reg.PRSM_TUn_STAT.ERR n) e
  let runs (r : Option TuRun) (s : State) : State :=
    modTu n (fun t => { t with runs := r, lost := false, moveErr := if a = .stop then t.moveErr else 0 }) s
  match a with
  | .off => stat 0 0 (runs none s)
  | .stop => stat 3 e (when (s.get (Reg.PRSM_TUn_STAT.STATE n) == 0) (modTu n (fun t => { t with mark := s.clk })) (runs none s))
  | .start => stat 1 0 (modTu n (fun t => { t with fill := Config.chainLfd run.chain, mark := s.clk }) (runs (some run) s))
  | .restart => (tuRestart n (runs (some run) s)).put (Reg.PRSM_TUn_STAT.ERR n) 0
  | .retarget => runs (some run) s
  | .keep => s

/-- All tuners as the configuration in force gives them, in order (R67). The streams that end or restart become INVALID together; an
engine that a tuner no longer feeds loses its input. -/
def tunersUpdate (s : State) : State :=
  let acts := (List.range 128).map (fun n => (n, tuAct s n, tuErr s n))
  let l := running ((acts.filter (fun x => x.2.1 != .keep && !(tuOf s x.1).lost)).map (·.1)) s
  streamsLost l (forEach acts (fun x => tuDo x.1 x.2.1 x.2.2) s)

/-- A cell boundary returns tuners whose own port is UP again (R77). -/
def returnTuners (s : State) : State :=
  forEach ((List.range 128).filter (fun n => s.on (Reg.PRSM_TUn_STAT.ON_ALT n) &&
    rxUp s (s.eff (Reg.PRSM_TUn_CFG.PORT n)) && s.effOn (Reg.PRSM_PORTn_CFG.AUTO_RETURN (s.eff (Reg.PRSM_TUn_CFG.PORT n)))))
    (fun n s => s.put (Reg.PRSM_TUn_STAT.ON_ALT n) 0) s

/-- Prism's part of a tick boundary. Where a tuner's or a port's configuration has changed, every tuner is validated anew, and shows the
first rule it fails (R67). -/
def prismBoundary (s : State) : State :=
  let s := when s.prsm.cfg (fun s => forEach (List.range 128) (fun n => modTu n (fun t => { t with moveErr := 0 })) s) s
  let s := forEach ((List.range 128).filter (fun n => !s.effOn (Reg.PRSM_TUn_CFG.HOP n))) (fun n => modTu n (fun t => { t with hopOfs := none })) s
  let s := tunersUpdate (moveTuners s)
  modPrsm (fun r => { r with wrote := [], cfg := false }) (modRsi (fun r => { r with wentDown := [] }) s)

/-- TUNER_FILL_COMPLETE (R73): the last INVALID sample of the restart has been put out, and the output is VALID from now on. -/
def tunerFilled (n : Nat) (s : State) : State :=
  if s.get (Reg.PRSM_TUn_STAT.STATE n) ≠ 1 then s else
  let s := tuCount n s
  let t := tuOf s n
  let k := if t.lost then 0 else t.fill
  modTu n (fun t => { t with fill := 0, mark := t.mark + samplesClk (outChain s n) k, tags := if k = 0 then t.tags else t.tags ++ [(k, false)] })
    ((s.incBy (Reg.PRSM_TUn_INV.INVALID n) k).put (Reg.PRSM_TUn_STAT.STATE n) 2)

def execTunerFillComplete (n : Fin 128) (s : State) : Host.Outcome State Fault Refusal := run (tunerFilled n) s

/-- INVALID_SAMPLE_ABORT (R74, R93, R105): an INVALID sample in an engine's input. In an MRC pair only a sample that is INVALID on
both streams is one. -/
def execInvalidSampleAbort (e : Fin 128) (s : State) : Host.Outcome State Fault Refusal := run (abortSync e) s

end Sys2Proof.Machine
end

