-- ==== Sys2Proof/Machine/Reception.lean ====
section
/-! DEFINITION. The commands of the channel engines and of the decoder array (chapters 3 and 4), and what a tick boundary does
there. -/

namespace Sys2Proof.Machine

/-! ## Modes and symbols -/

/-- The chain that a PHY and mode require (R81, R113), none where there is no such mode. -/
def chainFor (phy mode : Nat) : Option Nat :=
  match phy with
  | 0 =>
    if 4 < mode % 8 then none else
    let r := [50000, 100000, 150000, 200000, 300000].getD (mode % 8) 0 / (if mode / 8 % 2 = 1 then 2 else 1)
    some (if r ≤ 50000 then 0 else if r ≤ 100000 then 1 else if r ≤ 150000 then 2 else if r ≤ 200000 then 3 else 4)
  | 1 => some ([5, 3, 1, 0].getD (mode % 4) 0)
  | 2 => some 6
  | _ => some (mode % 4)

/-- A symbol in thirds of a nanosecond; on LD 64 chips (R115). -/
def symThirds (phy mode : Nat) : Nat :=
  match phy with
  | 0 => fskBit mode * (if mode / 8 % 2 = 1 then 2 else 1)
  | 1 => 360000
  | 2 => 48000
  | _ => 64 * ldChip mode

/-- The range in which a carrier offset is acquired, in mHz (R88, R115). -/
def cfoOk (phy mode : Nat) (cfo : Int) : Bool :=
  match phy with
  | 0 => decide (cfo.natAbs * 2 * symThirds 0 mode ≤ 3000000000000)
  | 1 => decide (cfo.natAbs ≤ 20830000)
  | 2 => decide (cfo.natAbs ≤ 200000000)
  | _ => decide (cfo.natAbs ≤ 25000000)

/-- The mode an engine receives in: an announced one, or CE_MODE.MODE (R84). -/
def ceModeNow (s : State) (e : Nat) : Nat := (ceOf s e).msMode.getD (s.eff (Reg.CE_MODE.MODE e))

/-- Which of an engine's streams are VALID: of an MRC pair both of the pair's (R91, R93), else its own. -/
def streamsIn (s : State) (e : Nat) : List Bool :=
  match streamOf s e with
  | some n => if inMrc s e then [tuValid s n, tuValid s (n + 1)] else [tuValid s n]
  | none => []

/-- The engine receives: it is enabled, has no error and its input is VALID (R79, R82). The odd engine of an MRC pair receives
nothing on its own (R91). -/
def ceListens (s : State) (e : Nat) : Bool :=
  s.get (Reg.CE_STAT.STATE e) != 0 && s.get (Reg.CE_STAT.ERR e) == 0 && !(inMrc s e && e % 2 == 1) && (streamsIn s e).any id

/-! ## Detection and synchronisation (R86 to R88) -/

/-- The preamble reference of a PHY and mode at the chain's output rate (R86, R116), as factors of 1 and of √½. -/
def preambleRef (phy mode : Nat) : List ((Rat × Rat) × (Rat × Rat)) :=
  if phy = 3 then ldRef.map (fun x => (((x.1.1 : Rat), (x.1.2 : Rat)), ((x.2.1 : Rat), (x.2.2 : Rat))))
  else (Config.preRef phy mode).map (fun x => (x, (0, 0)))

/-- The detection window of `p` samples that ended `k` samples ago, of each VALID stream. -/
def window (s : State) (e p k : Nat) (d : Detect) : List (List Cpx) :=
  let cut (l : List Cpx) : List Cpx := (l.drop (l.length - p - k)).take p
  ((streamsIn s e).zip [d.a, d.b]).filterMap (fun x => if x.1 && decide (p + k ≤ x.2.length) then some (cut x.2) else none)

/-- R86: the metric reaches its threshold on RUN consecutive samples, and the window's mean power its minimum. -/
def detects (s : State) (e : Nat) (d : Detect) : Bool :=
  let p := preambleRef (s.eff (Reg.CE_MODE.PHY e)) (ceModeNow s e)
  let w := window s e p.length 0 d
  (List.range (max 1 (s.get (Reg.CE_DET.RUN e)))).all (fun k =>
    metricReached (max 1 (s.get (Reg.CE_DET.THRESH e))) (window s e p.length k d) p) &&
  powerAtLeast (sumNat (w.map energy)) (sumNat (w.map List.length)) (s.get (Reg.CE_DET.MIN_PWR e))

/-- The search limit in symbols (R87). -/
def sfdLimit (s : State) (e : Nat) : Nat := 8 * max 1 (s.get (Reg.CE_SYNC.SFD_TO e))

/-- What the acquisition found before the search limit: on LD only SYNC_UP is a sync word (R87, R117). -/
def acqFound (s : State) (e : Nat) (a : Acq) : Bool :=
  decide (a.symbols ≤ sfdLimit s e) && (s.eff (Reg.CE_MODE.PHY e) != 3 || a.sync == syncUp)

/-- What the acquisition found makes a synchronised frame. -/
def acqOk (s : State) (e : Nat) (a : Acq) : Bool :=
  let phy := s.eff (Reg.CE_MODE.PHY e)
  cfoOk phy (ceModeNow s e) a.meas.cfo && (phy != 0 || decide (s.get (Reg.CE_SYNC.PRE_MIN e) ≤ a.preOctets))

/-- A frame that begins on an engine. -/
def newFrame (s : State) (e : Nat) (win : Option RxWin) (acq : Option Acq) : RxFrame :=
  let n := (streamOf s e).getD 0
  let phy := s.eff (Reg.CE_MODE.PHY e)
  { (default : RxFrame) with
    fseq := (ceOf s e).fseq, phy := phy, mode := ceModeNow s e, acq := acq,
    meas := (acq.map (·.meas)).getD default, win := win,
    lastClk := if phy = 3 then none else acq.map (fun a => a.startClk + a.spanClk),
    tuner := (feedOf s e).getD 0, chain := engChain s e, portA := tuPort s n, portB := if inMrc s e then tuPort s (n + 1) else tuPort s n, div := inMrc s e }

/-- Reception begins: the engine synchronises (and is busy from then on, where it has not been with a frame that is held now, R110), waits for the SFD limit, or goes back to SEARCH with CE_SYNC_FAIL. `mark` sets what
a captor's frame carries. A frame of an MRC pair of which one stream is INVALID goes on with the other one (R93). -/
def beginFrame (e : Nat) (win : Option RxWin) (acq : Option Acq) (mark : RxFrame → RxFrame) (s : State) : State :=
  match acq.filter (acqFound s e) with
  | none => ceSync e (modCe e (fun c => { c with cur := some (mark (newFrame s e win none)) }) s)
  | some a =>
    if acqOk s e a then
      let lone := (streamsIn s e).contains false
      let f := mark { newFrame s e win (some a) with dropped := lone }
      ceSync e (modCe e (fun c => { c with cur := some f, fseq := (c.fseq + 1) % 65536, busyFrom := some (c.busyFrom.getD a.syncClk) })
        (s.incIf lone (Reg.CE_DIV_DROP.CNT e)))
    else ceSync e (modCe e (fun c => { c with cur := none }) (s.inc (Reg.CE_SYNC_FAIL.CNT e)))

/-! ## Slices, holding and capture (R96 to R101) -/

/-- The hold capacity of a slice, which CE_SLICE of its engine describes (R96). A value of PAGES from 97 to 127 stands as written (log entry
50). -/
def holdCap (s : State) (e slice phy : Nat) : Nat :=
  let o := e + slice
  1024 * (s.get (Reg.CE_SLICE.PAGES o) - (if phy = 3 then s.get (Reg.CE_SLICE.LLR o) else 0))

/-- The slice that records now and holds no frame, with the clock from which its ring goes back (R96, R98). A held frame's slice
goes on recording until the frame's last symbol. -/
def recorder (s : State) (e : Nat) : Option (Nat × Nat) :=
  let c := ceOf s e
  if c.held.any (fun h => decide (s.clk < frameEnd h)) then none else
  let since := c.held.foldl (fun a h => max a (frameEnd h)) c.ringSince
  (ringSlice s e c.held).map (fun i => (i, since))

/-- 10 log10(d / c) is at least m dB. -/
def dbAtLeast (d c m : Nat) : Bool := decide (0 < d) && decide (c ^ 10 * 10 ^ m ≤ d ^ 10)

/-- The margin in steps of 0.25 dB, rounded and saturating at 255 (R108, R524), and in whole dB (R491). -/
def marginQ (d c : Nat) : Nat := ((List.range 255).filter (fun k => decide (c ^ 80 * 10 ^ (2 * k + 1) ≤ d ^ 80))).length
def marginDb (d c : Nat) : Nat := ((List.range 31).filter (fun k => dbAtLeast d c (k + 1))).length

/-- A frame in progress becomes the held frame in a slice: its codewords leave the decoders, its speculative results are
discarded (R98, R100, R135). -/
def holdFrame (e slice : Nat) (f : RxFrame) (link margin : Nat) (s : State) : State :=
  let h : RxFrame :=
    { f with held := true, slice := slice, linkFseq := link, capMargin := margin, specHit := false, specSquash := f.specUsed, early := none,
             lastClk := some (frameEnd f), iterMax := 0, iterSum := 0, cwStaged := 0, cwDone := [] }
  let s := specDrop e (when (f.specUsed && !f.specSquash) (lpe 0x03A) s)
  ceSync e (modCe e (fun c => { c with held := c.held ++ [h] }) (cwDrop e f.fseq s))

/-- The length of the frame is known: from a confirmed LD header or an O-QPSK PHR (R99). -/
def lengthKnown (s : State) (f : RxFrame) : Bool :=
  (f.phy == 3 && f.hdr.isSome) || (f.phy == 2 && decide (f.acq.elim 0 (fun a => a.startClk + Config.usClocks 192) ≤ s.clk))

/-- The captured frame, by R98, R99 and R101; `rec?` is the slice that was recording at the capture. -/
def captureOld (e : Nat) (f : RxFrame) (rec? : Option (Nat × Nat)) (q margin : Nat) (s : State) : State :=
  match f.acq with
  | none => s.inc (Reg.CE_SYNC_FAIL.CNT e)
  | some a =>
    if f.phy < 2 || !s.on (Reg.CE_CAPTURE.SIC_EN e) then
      lpe 0x034 ((dropFrame e { f with sicOut := 6, capMargin := margin } 0x06 6 s).inc (Reg.CE_CAP_ABANDON.CNT e))
    else
      let noBuf (s : State) : State :=
        lpe 0x033 ((dropFrame e { f with sicOut := 4, capMargin := margin } 0x08 4 s).inc (Reg.CE_SIC_NOBUF.CNT e))
      match rec? with
      | none => noBuf s
      | some (slice, since) =>
        let cap := holdCap s e slice f.phy
        let chain := engChain s e
        if a.startClk < since || cap < samplesIn chain (s.clk - a.startClk) then noBuf s
        else if lengthKnown s f && cap < samplesIn chain a.spanClk then noBuf s
        else holdFrame e slice f q margin s

/-- A held frame is due no earlier than its captor's last symbol (R104). -/
def heldDue (e q clk : Nat) (s : State) : State :=
  modCe e (fun c => { c with held := c.held.map (fun h =>
    if h.linkFseq = q then { h with lastClk := some (max (h.lastClk.getD 0) clk) } else h) }) s

/-- P_win and P_cur over as many samples as each other (R97). -/
def powers (s : State) (e : Nat) (d : Detect) : Nat × Nat :=
  let w := window s e (preambleRef (s.eff (Reg.CE_MODE.PHY e)) (ceModeNow s e)).length 0 d
  (sumNat (w.map energy) * max 1 d.nCur, d.eCur * sumNat (w.map List.length))

/-- A candidate captor (R97, R98, R101). -/
def candidate (e : Nat) (f : RxFrame) (d : Detect) (win : Option RxWin) (acq : Option Acq) (s : State) : State :=
  let (pWin, pCur) := powers s e d
  let x := pWin - pCur
  if !(s.on (Reg.CE_CAPTURE.EN e) && decide (pCur < pWin) && dbAtLeast x pCur (s.get (Reg.CE_CAPTURE.MARGIN_DB e))) then
    s.inc (Reg.CE_CAP_IGN.CNT e)
  else
    let s := lpeHist 0x104 (marginDb x pCur) (lpe 0x030 (s.inc (Reg.CE_CAP.CNT e)))
    let rec? := recorder s e
    let m := marginQ x pCur
    let displaced := ((ceOf s e).held.filter (fun h => h.linkFseq == f.fseq && f.captor)).map (·.fseq)
    let s := forEach displaced (fun h s => sicFail e h 0x07 7 s) s
    let q := (ceOf s e).fseq
    let s := captureOld e f rec? q m s
    let isHeld := (ceOf s e).held.any (fun h => h.fseq == f.fseq)
    let s := modCe e (fun c => { c with cur := none }) (when (!isHeld) (ceIdle e) s)
    let s := beginFrame e win acq (fun g => { g with captor := true, linkFseq := if isHeld then f.fseq else 0 }) s
    match isHeld, (ceOf s e).cur with
    | true, some g => heldDue e q (frameEnd g) s
    | true, none => sicFail e f.fseq 0x07 3 s
    | false, _ => s

/-- FRAME_DETECTION. `acq` is what the acquisition after the detection finds, none where it finds no SFD (log entry 11). -/
def frameDetection (e ofs : Nat) (d : Detect) (acq : Option Acq) (s : State) : State :=
  let s := s.at ofs
  if !(ceListens s e && detects s e d) then s else
  match (ceOf s e).cur with
  | some f => candidate e f d f.win acq (modCe e (fun c => { c with dets := c.dets + 1 }) (s.inc (Reg.CE_DET_CNT.CNT e)))
  | none =>
    match searchWin s e with
    | none => s
    | some w => beginFrame e (some w) acq id (modCe e (fun c => { c with dets := c.dets + 1 }) (s.inc (Reg.CE_DET_CNT.CNT e)))

/-! ## Ends of frames -/

/-- The status counter of a frame's failure. -/
def failCount (e status : Nat) (s : State) : State :=
  if status = 0x01 then s.inc (Reg.CE_HDR_FAIL.CNT e) else if status = 0x02 then s.inc (Reg.CE_CRC_FAIL.CNT e) else s

/-- A frame fails in demodulation or decoding; a held frame's one re-decode fails with it (R103). -/
def decodeFail (e : Nat) (f : RxFrame) (status : Nat) (s : State) : State :=
  if f.held then sicFail e f.fseq 0x07 2 s else frameFail e f status (failCount e status s)

/-- A frame misses its decode deadline (R23, R104, R139). -/
def lateFrame (e : Nat) (f : RxFrame) (s : State) : State :=
  rxFail e f 0x03 5 (overrun Reg.SYS_OVR_STAT.DEC_LATE (s.inc Reg.DEC_LATE.CNT))

/-! ## Duplicates of a SELECT pair (R92) -/

/-- The reference instants of two frames lie within the window, and they are of one PHY and mode as configured. -/
def dupNear (s : State) (e : Nat) (f g : RxFrame) : Bool :=
  match f.acq, g.acq with
  | some a, some b =>
    f.phy == g.phy && cfgMode f == cfgMode g &&
    decide ((max a.ref b.ref - min a.ref b.ref) * 3 ≤ s.get (Reg.CE_DIV.DUP_WIN (e / 2 * 2)) * symThirds f.phy f.mode * 65536)
  | _, _ => false

def partner (e : Nat) : Nat := if e % 2 = 0 then e + 1 else e - 1

/-- The partner engine is receiving or decoding a frame that could be a duplicate. -/
def partnerBusy (s : State) (e : Nat) (f : RxFrame) : Bool :=
  let o := partner e
  ((ceOf s o).cur.toList ++ (s.rx.decoding.filter (fun d => d.1 == o)).map (·.2)).any (dupNear s e f)

def dupRelease (e : Nat) (s : State) : State :=
  match (ceOf s e).dup with
  | some w => releaseStage e w.frame w.psdu w.len false (modCe e (fun c => { c with dup := none }) s)
  | none => s

/-- Ends the waits that have nothing left to wait for. -/
def dupSettle (s : State) : State :=
  forEach ((s.rx.ce.filter (fun x => match x.2.dup with
    | some w => !partnerBusy s x.1 w.frame || decodeLate s w.frame
    | none => false)).map (·.1)) dupRelease s

/-- A duplicate is discarded. -/
def dupDiscard (e : Nat) (f : RxFrame) (len : Nat) (s : State) : State :=
  failRecord (recOf s e f true len 0x09) (specDrop e (s.inc (Reg.CE_DIV_DUP.CNT e)))

/-- A confirmed frame of a SELECT pair: of duplicates the better goes on, else it waits or goes on at once. -/
def selectFrame (e : Nat) (f : RxFrame) (psdu : Psdu) (len fcs : Nat) (s : State) : State :=
  let o := partner e
  match (ceOf s o).dup.filter (fun w => w.len == len && w.fcs == fcs && recMode f true == recMode w.frame true && dupNear s e f w.frame) with
  | some w =>
    let s := modCe o (fun c => { c with dup := none }) s
    let mine := decide (w.frame.meas.snr < f.meas.snr) || (f.meas.snr == w.frame.meas.snr && e % 2 == 0)
    if mine then releaseStage e f psdu len false (dupDiscard o w.frame w.len s)
    else releaseStage o w.frame w.psdu w.len false (dupDiscard e f len s)
  | none =>
    if partnerBusy s e f && !decodeLate s f then modCe e (fun c => { c with dup := some ⟨f, psdu, len, fcs⟩ }) s
    else releaseStage e f psdu len false s

/-- What a confirmed frame's waveform is regenerated from (R102). -/
def regenOf (f : RxFrame) (bits : List Bool) : Regen :=
  { phy := f.phy, mode := recMode f true, bits := bits, meas := f.meas, startClk := f.acq.elim 0 (·.startClk) }

/-- A frame is confirmed, with its decoded bits: held frames learn of their captor, its ARR_OFS goes into the tick report (0x8000_0000 where no arrival was expected), and it goes to the
release stage (R101 to R104, R110). -/
def confirmFrame (e : Nat) (f : RxFrame) (psdu : Psdu) (len fcs : Nat) (bits : List Bool) (elig : Bool) (s : State) : State :=
  let s := takeFrame e f.fseq s
  let s := captorOutcome e f.fseq true s
  let s := modCe e (fun c => { c with
    held := c.held.map (fun h => if h.linkFseq = f.fseq then { h with regen := some (regenOf f bits) } else h)
    arr := c.arr ++ [(arrOfs s f).getD (-2147483648)] }) (heldDue e f.fseq (f.lastClk.getD 0) s)
  let f := { f with sicOut := if f.held then 1 else f.sicOut }
  let s := when f.held (fun s => lpe 0x031 (s.inc (Reg.CE_SIC_OK.CNT e))) s
  if inSelect s e then selectFrame e f psdu len fcs s else releaseStage e f psdu len elig s

/-- Every reception command ends the duplicate waits that are over. -/
def runRx (f : State → State) (s : State) : Host.Outcome State Fault Refusal := run (fun s => dupSettle (f s)) s

def execFrameDetection (e : Fin 128) (ofs : Fin 122880) (d : Detect) (acq : Option Acq) (s : State) :
    Host.Outcome State Fault Refusal := runRx (frameDetection e ofs d acq) s

/-- SFD_SEARCH_TIMEOUT (R87). -/
def sfdTimeout (e : Nat) (s : State) : State :=
  match (ceOf s e).cur with
  | some f => if f.acq.isSome then s else
    let s := ceFree e (s.inc (Reg.CE_SYNC_FAIL.CNT e))
    if f.captor then captorOutcome e f.fseq false s else s
  | none => s

def execSfdSearchTimeout (e : Fin 128) (s : State) : Host.Outcome State Fault Refusal := runRx (sfdTimeout e) s

/-- HELD_FRAME_OVERFLOW (R99): a held frame in recording has reached the hold capacity of its slice. -/
def heldOverflow (e slice ofs : Nat) (s : State) : State :=
  let s := s.at ofs
  match (ceOf s e).held.find? (fun h => h.slice == slice) with
  | none => s
  | some h =>
    match h.acq with
    | none => s
    | some a =>
      if holdCap s e slice h.phy ≤ samplesIn (engChain s e) (s.clk - a.startClk) && decide (s.clk < frameEnd h) then
        lpe 0x033 ((sicFail e h.fseq 0x08 4 s).inc (Reg.CE_SIC_NOBUF.CNT e))
      else s

def execHeldFrameOverflow (e : Fin 128) (slice : Fin 2) (ofs : Fin 122880) (s : State) : Host.Outcome State Fault Refusal :=
  runRx (heldOverflow e slice ofs) s

/-- MODE_SWITCH_PHR (R84): a SUN FSK PHR that announces a mode; `ok` says that its own checks pass. It is no frame of its own: it has no
record and takes no FSEQ (log entry 39). -/
def modeSwitch (e mode : Nat) (ok : Bool) (s : State) : State :=
  match (ceOf s e).cur with
  | some f =>
    if f.phy ≠ 0 || f.acq.isNone then s else
    let s := modCe e (fun c => { c with fseq := f.fseq }) (ceFree e s)
    if ok && s.eff (Reg.CE_MODE.MODE e) / 16 % 2 = 1 && chainFor 0 mode = some (engChain s e) then
      modCe e (fun c => { c with msMode := some mode }) s
    else s.inc (Reg.CE_MS_REJECT.CNT e)
  | none => s

def execModeSwitchPhr (e : Fin 128) (mode : Fin 16) (ok : Bool) (s : State) : Host.Outcome State Fault Refusal :=
  runRx (modeSwitch e mode ok) s

/-- MODE_SWITCH_TIMEOUT (R84). -/
def execModeSwitchTimeout (e : Fin 128) (s : State) : Host.Outcome State Fault Refusal :=
  runRx (fun s => if (ceOf s e).cur.isSome then s else modCe e (fun c => { c with msMode := none }) s) s

/-- Whether a frame that an engine decodes itself may be fast-acknowledged (R199), and the count where AR = 1 and it may not. -/
def faElig (s : State) (e : Nat) (p : Psdu) (len : Nat) : Bool :=
  s.on (Reg.MAC_ENGn_STAT.FA_ACT (ackEngine s e)) && p.ar && decide (len ≤ s.get (Reg.MAC_ENGn_STAT.FA_LMAX (ackEngine s e)))
def faInelig (s : State) (e : Nat) (p : Psdu) (len : Nat) : Bool :=
  s.on (Reg.MAC_ENGn_STAT.FA_ACT (ackEngine s e)) && p.ar && !faElig s e p len

/-- The frame with what the engine measured; of an OFDM frame the PHY mode takes the MCS of its PHR. -/
def measured (f : RxFrame) (x : Confirm) : RxFrame :=
  { f with meas := x.meas, mode := if f.phy = 1 then f.mode % 4 + 4 * (x.mcs % 8) else f.mode }

/-- The PHR names what the engine does not receive: an OFDM MCS above 6 or one that the option does not allow, or an O-QPSK PSDU of more
than 127 octets (R83). -/
def phrBad (f : RxFrame) (x : Confirm) : Bool :=
  (f.phy == 1 && (!x.hcsOk || decide (6 < x.mcs) || !Config.ofdmMcsOk (cfgMode f) x.mcs)) || (f.phy == 2 && decide (127 < x.octets.length))

/-- The octets of a frame's FCS: four where the PHR says so, which of O-QPSK it does not (R83). -/
def fcsOctets (f : RxFrame) (x : Confirm) : Nat := if x.fcs4 && f.phy != 2 then 4 else 2

/-- The FCS that a frame ends in, and whether it is that of the octets before it (R83, R85; log entry 8). -/
def fcsOf (f : RxFrame) (x : Confirm) : Nat := ofOctets (x.octets.drop (x.octets.length - fcsOctets f x))
def fcsOk (f : RxFrame) (x : Confirm) : Bool :=
  let n := fcsOctets f x
  let body := x.octets.take (x.octets.length - n)
  decide (n ≤ x.octets.length) && fcsOf f x == (if n = 4 then crc32 body else crc16 body)

/-- The frame's end in the engine: late, failed in its PHR or its FCS, or confirmed. A PHR that names what is not received fails like one
that fails its check (log entry 50). -/
def engineEnd (e : Nat) (f : RxFrame) (x : Confirm) (s : State) : State :=
  if decodeLate s f then lateFrame e f s
  else if phrBad f x then decodeFail e f 0x01 s
  else if !fcsOk f x then decodeFail e f 0x02 s
  else
    let n := x.octets.length
    let s := s.incIf (faInelig s e x.psdu n) Reg.MAC_FA_INELIG.CNT
    confirmFrame e f x.psdu n (fcsOf f x) (x.octets.flatMap (bitsLsb 8)) (faElig s e x.psdu n && !f.held) s

def confirmEngine (e : Nat) (f : RxFrame) (x : Confirm) (s : State) : State :=
  engineEnd e (measured f x) x (modFrame e f.fseq (fun _ => measured f x) s)

/-- FRAME_CONFIRMATION (R85): the live frame of an engine, on a PHY that the engine decodes itself. -/
def frameConfirmation (e ofs : Nat) (x : Confirm) (s : State) : State :=
  let s := s.at ofs
  match (ceOf s e).cur with
  | some f => if f.phy = 3 || f.acq.isNone || decide (s.clk < f.lastClk.getD 0) then s else confirmEngine e f x s
  | none => s

def execFrameConfirmation (e : Fin 128) (ofs : Fin 122880) (x : Confirm) (s : State) : Host.Outcome State Fault Refusal :=
  runRx (frameConfirmation e ofs x) s

/-- The symbols of a captor from its decoded bits: of an LD frame header and payload behind the preamble and SYNC_UP, of `npre`
repetitions, of an O-QPSK frame as the standard spreads them (R102, R111, R112). -/
def regenSyms (g : Regen) (npre : Nat) : List Cpx :=
  if g.phy = 3 then
    let h := g.bits.take 48
    let d := scramble (dataChips (hPm h) h (streamOctets (hLen h) (g.bits.drop 48)))
    ldSyms 0 ((List.replicate npre ldP).flatten ++ syncChips syncUp ++ withPilots (d.length / 240) d)
  else Config.oqpskSyms g.bits

/-- The held samples less the captor's regenerated waveform over the overlap (R102). -/
def sicResidual (s : State) (e npre : Nat) (h : RxFrame) (g : Regen) (stored : List Cpx) : List Cpx :=
  let chain := engChain s e
  let m := [g.meas.rssiA, (g.meas.phase : Int), g.meas.cfo, g.meas.cfoDrift, g.meas.timing, (chain : Int)]
  let first := samplesIn chain (g.startClk - h.acq.elim 0 (·.startClk))
  residue stored first stored.length (Config.regenAt (regenSyms g npre) m)

/-- SIC_REPLAY_START (R102, R135): the captor is confirmed and the held frame recorded. `stored` are the slice's samples from the frame's
first preamble sample to its last symbol, `npre` the preamble repetitions of an LD captor. -/
def replayStart (e slice ofs npre : Nat) (stored : List Cpx) (s : State) : State :=
  let s := s.at ofs
  match (ceOf s e).held.find? (fun h => h.slice == slice && h.captorOk && !h.replay && decide (frameEnd h ≤ s.clk)) with
  | some h =>
    let r := match h.regen with
      | some g => sicResidual s e npre h g stored
      | none => stored
    modFrame e h.fseq (fun f => { f with replay := true, hdrStaged := none, residual := r }) s
  | none => s

def execSicReplayStart (e : Fin 128) (slice : Fin 2) (ofs : Fin 122880) (npre : Fin 65) (stored : List (Int × Int)) (s : State) :
    Host.Outcome State Fault Refusal := runRx (replayStart e slice ofs npre stored) s

/-- SIC_REPLAY_END (R102, R103): the engine's own re-decode of a held frame ends; the octets of an O-QPSK frame are those of its residual. An
LD frame is decoded by the decoder array; its replay can only fail here. -/
def replayEnd (e slice ofs : Nat) (x : Confirm) (s : State) : State :=
  let s := s.at ofs
  match (ceOf s e).held.find? (fun h => h.slice == slice && h.replay) with
  | some h =>
    if h.phy ≠ 3 then confirmEngine e h { x with octets := Config.oqpskOctets h.residual } s
    else if x.hcsOk then s
    else if decodeLate s h then lateFrame e h s
    else decodeFail e h 0x02 s
  | none => s

def execSicReplayEnd (e : Fin 128) (slice : Fin 2) (ofs : Fin 122880) (x : Confirm) (s : State) :
    Host.Outcome State Fault Refusal := runRx (replayEnd e slice ofs x) s

/-! ## Tick reports (R110) -/

/-- TICK_REPORT: the report of the tick before reaches CE_TREP, the sequencer and the active cluster. `noise` is the energy of the samples
outside frames and their number. BUSY is rounded down to its steps and saturates (log entry 50). -/
def tickReport (e : Nat) (noise : Nat × Nat) (s : State) : State :=
  match (ceOf s e).report with
  | none => s
  | some (busy, dets, arr) =>
    let floor := if noise.2 = 0 then 0x1FF else powerField noise.1 noise.2
    let s := s.put (Reg.CE_TREP.BUSY e) (min 255 (clocksNs busy / 500))
    let s := (s.put (Reg.CE_TREP.NOISE e) floor).put (Reg.CE_TREP.DETS e) (min 255 dets)
    (modCe e (fun c => { c with report := none }) s).emit (.toFirmware "tick report" ([e, busy, floor, dets] ++ arr.map (ofSigned 32)))

def execTickReport (e : Fin 128) (noise : Nat × Nat) (s : State) : Host.Outcome State Fault Refusal := run (tickReport e noise) s

/-- TICK_REPORT_DEADLINE (R23): a report not delivered by the end of the tick is discarded. -/
def reportDeadline (s : State) : State :=
  forEach ((s.rx.ce.filter (fun x => x.2.report.isSome)).map (·.1))
    (fun e s => modCe e (fun c => { c with report := none }) (overrun Reg.SYS_OVR_STAT.CE_RPT_LATE (s.inc (Reg.CE_RPT_LATE.CNT e)))) s

def execTickReportDeadline (s : State) : Host.Outcome State Fault Refusal := run reportDeadline s

/-! ## The engines at a tick boundary (R79 to R82, R94, R110) -/

def slicesOverlap (s : State) (a b : Nat) : Bool :=
  let x := s.get (Reg.CE_SLICE.BASE a)
  let y := s.get (Reg.CE_SLICE.BASE b)
  let m := s.get (Reg.CE_SLICE.PAGES a)
  let n := s.get (Reg.CE_SLICE.PAGES b)
  decide (0 < m) && decide (0 < n) && decide (x < y + n) && decide (y < x + m)

/-- The slice check of an engine against those that run: its error code. -/
def sliceErr (s : State) (e : Nat) : Nat :=
  if 1536 < s.get (Reg.CE_SLICE.BASE e) + s.get (Reg.CE_SLICE.PAGES e) then 4
  else if (List.range 128).any (fun o => o != e && (ceOf s o).running && slicesOverlap s e o) then 3 else 0

def feedErr (s : State) (e : Nat) : Nat :=
  match streamOf s e with
  | none => 2
  | some n => if chainFor (s.eff (Reg.CE_MODE.PHY e)) (s.eff (Reg.CE_MODE.MODE e)) = some (tuChain s n) then 0 else 1

/-- What ends at a boundary: a changed mode or enable abandons what the engine has, and one that is no longer enabled is off (R80). A confirmed frame that waited for its partner goes to the release stage. -/
def ceStop (changed : Nat → Bool) (e : Nat) (s : State) : State :=
  let s := if changed e then dupRelease e (abortCfg e s) else s
  if s.effOn (Reg.CE_MODE.EN e) || s.get (Reg.CE_STAT.STATE e) = 0 then s else ceOff e (modCe e (fun c => { c with running := false }) s)

/-- One engine as the configuration in force gives it: enabled, its slice is checked against those that run (R94). -/
def ceUpdate (e : Nat) (s : State) : State :=
  if !(s.effOn (Reg.CE_MODE.EN e) && pdOn s (cePd e)) then s else
  let s := if s.get (Reg.CE_STAT.STATE e) = 0 then s.put (Reg.CE_STAT.STATE e) 1 else s
  let err := if (ceOf s e).running then 0 else sliceErr s e
  let s := if err = 0 && !(ceOf s e).running then modCe e (fun c => { c with running := true, ringSince := s.clk }) s else s
  let s := s.put (Reg.CE_STAT.ERR e) (if err = 0 then feedErr s e else err)
  ceSync e (s.put (Reg.CE_STAT.TUNER e) ((streamOf s e).getD 0))

/-- An engine's counts of the tick just ended become its tick report. -/
def ceReport (e : Nat) (s : State) : State :=
  if s.get (Reg.CE_STAT.STATE e) = 0 then modCe e (fun c => { c with busy := 0, dets := 0, arr := [] }) s else
  modCe e (fun c => { c with
    report := some (c.busy + busySpan s c, c.dets, c.arr)
    busy := 0
    dets := 0
    arr := []
    busyFrom := c.busyFrom.map (max s.clk) }) s

/-- The engines as the boundary's configuration and feeds give them, in increasing engine number (R79, R94). -/
def ceStart (s : State) : State := forEach (List.range 128) ceUpdate s

/-- The engines' reports of the tick, and what ends at its boundary; `old` is the state before the boundary's values took effect. Every change
of MODE is one, on the LD PHY of its upper bits too, and a change of CE_DIV.MODE lets the frames of the pair go on (log entry 50). -/
def ceBoundary (old : State) (s : State) : State :=
  let fld (x : State) (e : Nat) : Nat × Nat × Nat := (x.eff (Reg.CE_MODE.EN e), x.eff (Reg.CE_MODE.PHY e), x.eff (Reg.CE_MODE.MODE e))
  let changed := (List.range 128).filter (fun e => fld old e != fld s e)
  let s := forEach (List.range 128) ceReport s
  let s := forEach (List.range 128) (ceStop (fun e => changed.contains e)) s
  modRx (fun r => { r with budgets := s.eff Reg.DEC_CTRL.BUDGET_TICKS :: r.budgets.take 7 }) s

/-! ## LD frames (R95, R133 to R135, R141, R142) -/

/-- The soft values of chips from number `d` of the data chips on, of the live frame or, of one in replay, of its residual (R91, R93, R102,
R133). -/
def softChips (s : State) (e d n : Nat) (f : RxFrame) (c : Chips) : List Int :=
  let v := streamsIn s e
  let at0 (l : List Cpx) (i : Nat) : Cpx := l.getD i (0, 0)
  (List.range n).map (fun i =>
    let p := chipPlace d + i
    let x := if f.held then weighed true c.hA c.varA (Config.chipAt f.residual p) else weighed (v.getD 0 false) c.hA c.varA (at0 c.a i)
    let y := if f.held || !f.div then (0, 0) else weighed (v.getD 1 false) c.hB c.varB (at0 c.b i)
    chipSoft p (x.1 + y.1, x.2 + y.2))

/-- The soft values of `n` coded bits of spreading factor `sf` whose data chips begin at number `d`. -/
def softBits (s : State) (e sf d n : Nat) (f : RxFrame) (c : Chips) : List Int :=
  despread sf d n (softChips s e d (chipPlace (d + sf * n - 1) - chipPlace d + 1) f c)

/-- EARLY_HEADER: the live frame has header bits x0 to x35, whose hard decisions are the early header (R141, R213, R266). -/
def earlyHeader (e : Nat) (c : Chips) (s : State) : State :=
  match (ceOf s e).cur with
  | some f =>
    let x := (softBits s e 4 0 36 f c).map (fun v => decide (v < 0))
    if f.phy ≠ 3 || f.acq.isNone || f.hdr.isSome || f.early.isSome || f.hdrStaged.isSome then s
    else if !(s.effOn Reg.DEC_CTRL.SPEC_EARLY && hVer x == 0 && !hDir x && decide (1 ≤ hLen x)) then s
    else
      let n := hNode x
      let s := lpe 0x038 (modFrame e f.fseq (fun f => { f with early := some n, specUsed := true }) s)
      let h := nthOf s n
      let s := windowKeys s
      let s := if h.joined && secretsOpen s && (nodeKeyOf s h.endpoint (s.kv.secrets.get h.endpoint).tenant).isSome then
        cacheKey h.endpoint (lpe 0x03C s) else s
      specStart e n f.fseq true s
  | none => s

def execEarlyHeader (e : Fin 128) (c : Chips) (s : State) : Host.Outcome State Fault Refusal := runRx (earlyHeader e c) s

/-- Bytes of an engine's staging in use (R95). -/
def llrUsed (s : State) (e : Nat) : Nat :=
  let size (c : CwS) : Nat := if c.engine = e then (if c.hdr then 192 else 1536) else 0
  sumNat (s.rx.staged.map size) + sumNat (s.rx.jobs.map (fun j => size j.2.cw))

/-- A codeword that finds no staging space loses its frame. -/
def stageFull (e : Nat) (f : RxFrame) (s : State) : State :=
  rxFail e f 0x03 5 (s.inc (Reg.CE_LLR_FULL.CNT e))

def stageCw (c : CwS) (s : State) : State := modRx (fun r => { r with staged := r.staged ++ [c] }) s

/-- The header codeword enters staging. Where LLR exceeds PAGES the limit is LLR pages all the same (DESIGN CHOICE, log entry 50). -/
def stageHeader (e : Nat) (f : RxFrame) (c : Chips) (s : State) : State :=
  if s.get (Reg.CE_SLICE.LLR e) * 4096 < llrUsed s e + 192 then stageFull e f s else
  let llr := softBits s e 4 0 192 f c
  let s := modFrame e f.fseq (fun f => { f with hdrStaged := some s.clk }) s
  stageCw ⟨e, f.fseq, true, 0, 48, 0, llr, false, dueOf s f, s.clk⟩ s

/-- A payload codeword; the last one of a live frame ends the engine's part of the frame. -/
def stagePayload (e age : Nat) (f : RxFrame) (h : LdHdr) (c : Chips) (m : Meas) (s : State) : State :=
  if f.cwTotal ≤ f.cwStaged then s
  else if s.get (Reg.CE_SLICE.LLR e) * 4096 < llrUsed s e + 1536 then stageFull e f s else
  let ix := f.cwStaged
  let bits := cwBits (8 * (h.len + 4)) f.cwTotal ix
  let llr := softBits s e (ldSf h.pm) (cwChip h.pm h.len ix) (bits + 1536 - ldK h.pm) f c
  let last := ix + 1 == f.cwTotal
  let lastClk := if last && !f.held then some (s.clk - age) else f.lastClk
  let g := { f with cwStaged := ix + 1, lastClk := lastClk, meas := if last then m else f.meas }
  let s := modFrame e f.fseq (fun _ => g) s
  let s := stageCw ⟨e, f.fseq, false, ix, bits, h.pm, llr, f.faElig, dueOf s g, s.clk⟩ s
  if last && !f.held then ceFree e (modRx (fun r => { r with decoding := r.decoding ++ [(e, g)] }) s) else s

/-- CODEWORD_STAGING: the next codeword of the live frame, or of the held frame in replay, with its chips from the
codeword's first on. `age` is the time in clocks since its last chip, at most T_dm. A held frame keeps a header confirmed live (R135). -/
def codewordStaging (e ofs age : Nat) (held : Bool) (c : Chips) (m : Meas) (s : State) : State :=
  let s := s.at ofs
  match (if held then (ceOf s e).held.find? (fun h => h.replay && h.phy == 3) else (ceOf s e).cur) with
  | some f =>
    if f.phy ≠ 3 || f.acq.isNone then s else
    match f.hdr with
    | none => if f.hdrStaged.isSome then s else stageHeader e f c s
    | some h => stagePayload e age f h c m s
  | none => s

def execCodewordStaging (e : Fin 128) (ofs : Fin 122880) (age : Fin 1967) (held : Bool) (c : Chips) (m : Meas) (s : State) :
    Host.Outcome State Fault Refusal := runRx (codewordStaging e ofs age held c m) s

/-- HEADER_CONFIRM_TIMEOUT (R134): 64 input samples after the staging. -/
def headerTimeout (e ofs : Nat) (s : State) : State :=
  let s := s.at ofs
  match (ceOf s e).cur with
  | some f =>
    match f.hdrStaged, f.hdr with
    | some c, none =>
      if c + samplesClk (engChain s e) 64 ≤ s.clk then frameFail e f 0x03 (s.inc Reg.DEC_HDR_LATE.CNT) else s
    | _, _ => s
  | none => s

def execHeaderConfirmTimeout (e : Fin 128) (ofs : Fin 122880) (s : State) : Host.Outcome State Fault Refusal :=
  runRx (headerTimeout e ofs) s

/-! ## The decoder array (R136 to R140, R145) -/

/-- The class of a staged codeword. -/
def cwClass (c : CwS) : Nat := if c.hdr then 1 else if c.faElig then 2 else 3

/-- The order in which a free decoder takes codewords (R138). The list is in order of staging. -/
def cwBefore (a b : CwS) : Bool :=
  decide (cwClass a < cwClass b) ||
  (cwClass a == cwClass b &&
    (if cwClass a = 3 then
      decide (a.dueTick < b.dueTick) || (a.dueTick == b.dueTick && (decide (a.clk < b.clk) || (a.clk == b.clk && decide (a.engine < b.engine))))
    else if cwClass a = 2 then decide (a.clk < b.clk) || (a.clk == b.clk && decide (a.engine < b.engine))
    else decide (a.clk < b.clk)))

def cwFirst : List CwS → Option CwS
  | [] => none
  | c :: l => match cwFirst l with
    | none => some c
    | some d => if cwBefore d c then some d else some c

/-- The power domain of a decoder. -/
def decPd (d : Nat) : Nat := if d < 12 then 15 else 16

/-- DECODER_DISPATCH: a free decoder takes a codeword. -/
def dispatch (d ofs : Nat) (s : State) : State :=
  let s := s.at ofs
  if (s.rx.jobs.find? d).isSome || !pdOn s (decPd d) then s else
  let reserved := decide (d < min 12 (s.eff Reg.DEC_CTRL.FA_RSV))
  match cwFirst (s.rx.staged.filter (fun c => !reserved || decide (cwClass c ≤ 2))) with
  | none => s
  | some c =>
    let lim := if c.hdr then maxHdr s else if c.faElig then max (maxFa s) (maxPay s) else maxPay s
    decSync (modRx (fun r => { r with
      staged := r.staged.erase c
      jobs := r.jobs.insert d ⟨c, s.clk, lim, maxFa s, false⟩ }) s)

def execDecoderDispatch (d : Fin 24) (ofs : Fin 122880) (s : State) : Host.Outcome State Fault Refusal := runRx (dispatch d ofs) s

/-- The decode of a codeword: iterations, whether it converged, its bits. -/
def decodeCw (j : DecJob) : Nat × Bool × List Bool :=
  if j.cw.hdr then ldpcDecode 0 j.limit j.cw.llr
  else ldpcDecode (ldCode j.cw.pm) j.limit (withFill (ldK j.cw.pm) j.cw.bits j.cw.llr)

def jobCode (j : DecJob) : Nat := if j.cw.hdr then 0 else ldCode j.cw.pm

/-- The withdrawal of a fast-ACK (R145). -/
def faWithdraw (d : Nat) (j : DecJob) (s : State) : State :=
  let s := modFrame j.cw.engine j.cw.fseq (fun f => { f with faLost := true }) (s.inc Reg.DEC_FA_MISS.CNT)
  modRx (fun r => { r with jobs := r.jobs.insert d { j with withdrawn := true } }) s

/-- FAST_ACK_WITHDRAW: a decode has run DEC_ITER.MAX_FA iterations without converging. -/
def fastAckWithdraw (d ofs : Nat) (s : State) : State :=
  let s := s.at ofs
  match s.rx.jobs.find? d with
  | some j =>
    if j.cw.hdr || !j.cw.faElig || j.withdrawn || decide (s.clk < j.start + cwClocks (jobCode j) j.faLimit) then s
    else
      let (n, ok, _) := decodeCw j
      if ok && decide (n ≤ j.faLimit) then s else faWithdraw d j s
  | none => s

def execFastAckWithdraw (d : Fin 24) (ofs : Fin 122880) (s : State) : Host.Outcome State Fault Refusal :=
  runRx (fastAckWithdraw d ofs) s

/-- SEC loads the node key of a confirmed header (R213). -/
def confirmedKey (n : Nat) (s : State) : State :=
  let h := nthOf s n
  if h.joined then loadNodeKey h.endpoint (windowKeys s) else s

/-- A header is confirmed (R120, R142, R144). -/
def headerConfirmed (e n : Nat) (f : RxFrame) (x : List Bool) (s : State) : State :=
  let s := lpeHist 0x103 (n - 1) (s.inc Reg.DEC_HDR_CW.CNT)
  let hdr : LdHdr := ⟨hPm x, hLen x, hAr x, hNode x⟩
  let f := { f with hdr := some hdr, iterHdr := n, cwTotal := ldCws (hPm x) (hLen x) }
  let s := modFrame e f.fseq (fun _ => f) s
  if !(hVer x == 0 && decide (1 ≤ hLen x) && !hDir x) then decodeFail e f 0x01 (s.inc Reg.DEC_HDR_BAD.CNT)
  else
    let act := s.on (Reg.MAC_ENGn_STAT.FA_ACT (ackEngine s e)) && hAr x
    let elig := act && decide (hLen x ≤ ldLmax s (ackEngine s e) (hPm x))
    let s := s.incIf (act && !elig) Reg.DEC_FA_INELIG.CNT
    let hit := f.early == some (hNode x)
    let g := { f with
      specHit := hit
      specSquash := f.specSquash || (f.early.isSome && !hit)
      faElig := elig
      lastClk := some (max (f.lastClk.getD 0) (frameEnd f)) }
    let s := confirmedKey (hNode x) (modFrame e f.fseq (fun _ => g) s)
    if f.held then s
    else if hit && slotHas s e f.fseq then specUse e s
    else specStart e (hNode x) f.fseq false (specDrop e s)

def headerDone (e n : Nat) (ok : Bool) (f : RxFrame) (x : List Bool) (s : State) : State :=
  if ok && hcrcOk x then headerConfirmed e n f x s
  else decodeFail e { f with iterHdr := n } 0x01 (modFrame e f.fseq (fun f => { f with iterHdr := n }) (s.inc Reg.DEC_HDR_FAIL.CNT))

/-- The data bits of a frame's codewords in order. -/
def frameBits (f : RxFrame) : List Bool :=
  (List.range f.cwTotal).flatMap (fun i => ((f.cwDone.find? (fun c => c.1 == i)).map (·.2)).getD [])

/-- A payload codeword ends; the last one that converges ends the frame with its CRC (R26, R139). -/
def payloadDone (e n : Nat) (ok : Bool) (c : CwS) (f : RxFrame) (x : List Bool) (psdu : Psdu) (s : State) : State :=
  let f := { f with iterMax := max f.iterMax n, iterSum := f.iterSum + n }
  let s := modFrame e f.fseq (fun _ => f) s
  if !ok then decodeFail e f 0x02 (s.inc Reg.DEC_PAY_FAIL.CNT)
  else
    let s := lpeHist 0x102 (n - 1) (s.inc Reg.DEC_PAY_CW.CNT)
    let f := { f with cwDone := f.cwDone ++ [(c.ix, x.take c.bits)] }
    let s := modFrame e f.fseq (fun _ => f) s
    if f.cwDone.length < f.cwTotal then s else
    let len := f.hdr.elim 0 (·.len)
    let bits := frameBits f
    if frameCrcOk len bits then
      let h := f.hdr.elim [] (fun h => headerBits h.pm h.len false h.ar h.node)
      confirmFrame e f psdu len (crc32 (streamOctets len bits)) (h ++ bits) (f.faElig && !f.faLost && !f.held) s
    else decodeFail e f 0x02 (s.inc Reg.DEC_UNDET.CNT)

/-- DECODE_COMPLETE: the decode on a decoder has run its T_cw (R137). `psdu` is what the decoded octets read as, where this ends a
frame. -/
def decodeComplete (d ofs : Nat) (psdu : Psdu) (s : State) : State :=
  let s := s.at ofs
  match s.rx.jobs.find? d with
  | none => s
  | some j =>
    let (n, ok, x) := decodeCw j
    if s.clk < j.start + cwClocks (jobCode j) n then s else
    let e := j.cw.engine
    let s := if !j.cw.hdr && j.cw.faElig && !j.withdrawn && decide (j.faLimit < n) || (j.cw.faElig && !ok && !j.withdrawn) then faWithdraw d j s else s
    let s := decSync (modRx (fun r => { r with jobs := r.jobs.erase d }) (s.incBy Reg.DEC_ITER_TOT.CNT n))
    match findRx s e j.cw.fseq with
    | none => s
    | some f =>
      if (!j.cw.hdr || f.held) && decodeLate s f then lateFrame e f s
      else if j.cw.hdr then headerDone e n ok f x s
      else payloadDone e n ok j.cw f x psdu s

def execDecodeComplete (d : Fin 24) (ofs : Fin 122880) (psdu : Psdu) (s : State) : Host.Outcome State Fault Refusal :=
  runRx (decodeComplete d ofs psdu) s

/-- The frame's decode deadline is this instant or past, and it is not confirmed: it has been received whole, and of a live LD frame the
header, whose own limit is R134's. -/
def rxDue (s : State) (f : RxFrame) : Bool :=
  f.lastClk.isSome && f.acq.isSome && decide (dueOf s f + budgetOf s (dueOf s f) ≤ s.core.ticks) && (f.phy != 3 || f.hdr.isSome || f.held)

/-- The engines' frames, in progress, held and in the decoder array. -/
def rxFrames (s : State) : List (Nat × Nat) :=
  s.rx.ce.flatMap (fun x => (x.2.cur.toList ++ x.2.held).map (fun f => (x.1, f.fseq))) ++ s.rx.decoding.map (fun d => (d.1, d.2.fseq))

/-- Copies that wait for their pair's other copy are released at the deadline of their frame. -/
def dupDeadline (s : State) : State :=
  forEach ((s.rx.ce.filter (fun x => match x.2.dup with
    | some w => decide (dueOf s w.frame + budgetOf s (dueOf s w.frame) ≤ s.core.ticks)
    | none => false)).map (·.1)) dupRelease s

/-- DECODE_DEADLINE (R19, R23, R104, R139): frames whose decode deadline is this instant and that have not been confirmed. -/
def decodeDeadline (s : State) : State :=
  let s := s.at Config.ofsDecode
  dupDeadline (forEach (rxFrames s) (fun x s => match findRx s x.1 x.2 with
    | some f => if rxDue s f then lateFrame x.1 f s else s
    | none => s) s)

def execDecodeDeadline (s : State) : Host.Outcome State Fault Refusal := runRx decodeDeadline s

end Sys2Proof.Machine
end

