-- ==== Sys2Proof/Machine/Mac.lean ====
section
/-! DEFINITION. The commands of the MAC sequencer and the scheduler (chapter 6), and what a tick boundary does there. -/

namespace Sys2Proof.Machine

/-! ## Cells and plans (R180 to R187, R190, R195, R213) -/

/-- The channel offsets of a cell: the plan's, and for an engine that the plan gives none that of a follow-on window (R195, log entry 52). That of a
diversity pair stands with the even engine (R185). -/
def cellChofs (s : State) (plan : List (Nat × Nat)) (follows : List WinS) : Tab Nat :=
  let t : Tab Nat := follows.foldl (fun t f => f.follow.elim t (t.insert (hopEngine s f.w.engine))) []
  plan.foldl (fun t c => t.insert c.1 (c.2 % 64)) t

/-- Frames still in CSMA-CA when their window is gone wait for their next one (R164). -/
def csmaReturn (s : State) : State :=
  modMac (fun m => { m with fwq := m.csma.map (·.frame) ++ m.fwq, csma := [] }) s

/-- The new cell's windows. -/
def cellWindows (s : State) : State :=
  let s := windowKeys s
  let plan? := s.mac.plans.find? (fun p => p.cell == s.mac.cell)
  let planned := plan?.isSome
  let (wins, bad, lost) := planWins s planned ((plan?.map (·.wins)).getD []) s.mac.follows
  let s := (s.incBy Reg.MAC_PLAN_ERR.CNT bad).incBy Reg.MAC_PEND_LOST.CNT lost
  let s := s.incBy Reg.MAC_APT_CUT.CNT (wins.filter (·.dead)).length
  let s := s.incIf (!planned) Reg.MAC_PLAN_MISS.CNT
  windowKeys (modMac (fun m => { m with
    planned := planned
    wins := wins
    chofs := cellChofs s ((plan?.map (·.chofs)).getD []) (wins.filter (·.follow.isSome))
    follows := []
    amends := []
    plans := m.plans.filter (fun p => decide (m.cell < p.cell)) }) (csmaReturn s))

/-- A cell begins (R181, R184 to R187): hop registers take effect, tuners hop, the plan takes effect. -/
def cellStart (s : State) : State :=
  let s := modMac (fun m => { m with cell := s.tick / m.len, cellTick := s.core.ticks, hopOld := [] }) s
  let s := cellWindows s
  let s := forEach (List.range 128) hopTuner s
  let s := tunersUpdate s
  s.incIf ((List.range 128).any (fun n => tuEn s n && s.effOn (Reg.PRSM_TUn_CFG.HOP n) && s.get (Reg.PRSM_TUn_STAT.STATE n) == 3))
    Reg.MAC_HOP_ERR.CNT

/-- The cell that runs now; while the sequencer is off, the one the registers give. -/
def cellNo (s : State) : Nat := if s.mac.running then s.mac.cell else s.tick / clampCell (s.get Reg.MAC_CELL.LEN)

/-- A plan replaces the one held for its cell. -/
def planPut (p : Plan) (l : List Plan) : List Plan := l.filter (fun q => q.cell != p.cell) ++ [p]

/-- CELL_PLAN_POST: a plan among the commands for the next tick commit. It is held once that commit is accepted (R181). -/
def cellPlanPost (p : Plan) (s : State) : State :=
  if p.cell ≤ cellNo s || cellNo s + 3 < p.cell then s.inc Reg.MAC_PLAN_ERR.CNT
  else modMac (fun m => { m with fresh := planPut p m.fresh }) s

/-- The plans and amendments of an accepted commit join those held. -/
def plansAccept (c : Commit) (s : State) : State :=
  modMac (fun m => { m with plans := c.plans.foldl (fun l p => planPut p l) m.plans, amends := m.amends ++ c.amends }) s

def execCellPlanPost (p : Plan) (s : State) : Host.Outcome State Fault Refusal := run (cellPlanPost p) s

/-- PLAN_AMENDMENT (R183): an amendment among the commands for the next tick commit. Its tick boundary lies after now in the current cell. -/
def planAmendment (a : Amend) (s : State) : State :=
  if s.mac.running && s.mac.planned && decide (s.tick < a.tick) && decide (a.tick < (s.mac.cell + 1) * s.mac.len) then
    modMac (fun m => { m with freshAmends := m.freshAmends ++ [a] }) s
  else s.inc Reg.MAC_PLAN_ERR.CNT

def execPlanAmendment (a : Amend) (s : State) : Host.Outcome State Fault Refusal := run (planAmendment a) s

/-- An amendment takes effect: windows begun, and those of engines not named, stay (R183). -/
def amendApply (a : Amend) (s : State) : State :=
  let now : Int := cellNow s
  let kept := s.mac.wins.filter (fun x => !a.engines.contains x.w.engine || decide (x.lo < now))
  let (acc, bad) := checkWins s (a.wins.filter (fun w => a.engines.contains w.engine)) kept 0
  let wins := placeWins s (((acc.drop kept.length).foldr sortIn []).map (shiftWin s)) kept
  let s := (s.incBy Reg.MAC_PLAN_ERR.CNT bad).incBy Reg.MAC_APT_CUT.CNT ((wins.drop kept.length).filter (·.dead)).length
  modMac (fun m => { m with wins := wins }) s

/-- The sequencer's enable at a tick boundary (R180, R525). -/
def macEnable (s : State) : State :=
  if s.effOn Reg.MAC_CTRL.EN then
    if s.mac.running then s else
    let len := clampCell (s.get Reg.MAC_CELL.LEN)
    modMac (fun m => { m with running := true, len := len, asnOfs := s.get Reg.MAC_ASN_OFS.OFS, cell := s.tick / len,
                              cellTick := s.core.ticks - s.tick % len, planned := false,
                              wins := [], follows := [], amends := [] }) s
  else if s.mac.running then
    modMac (fun m => { m with running := false, planned := false, wins := [], follows := [], amends := [], acks := [] }) (csmaReturn s)
  else s

/-- The sequencer's part of a tick boundary: enable, amendments due, models marked for reset (R191), fast-ACK places (R197,
R199). -/
def macBoundary (s : State) : State :=
  let s := macEnable (windowKeys s)
  let due := s.mac.amends.filter (fun a => a.tick == s.tick)
  let s := forEach due amendApply (modMac (fun m => { m with amends := m.amends.filter (fun a => decide (s.tick < a.tick)) }) s)
  let s := forEach s.mac.resets (fun n s => setNth n { nthOf s n with aptM := true } s) (modMac (fun m => { m with resets := [] }) s)
  faBoundary s

/-! ## Acknowledgements (R195, R198, R200, R203, R222) -/

/-- The follow-on window of an acknowledgement launched with pending 1 (R195). -/
def followOn (s : State) (a : AckPend) : WinS :=
  let w : Window := { engine := a.engine, kind := 3, tenant := a.tenant, node := a.node, ofs := a.nominal, span := a.span, lead := 0,
                      prof := 0, ackw := false }
  { winSpan s w with follow := some (engChofs s a.engine) }

/-- The acknowledgement is not launched: a frame that has not been released yet is treated at its release, else now (R200). -/
def ackUnsent (a : AckPend) (s : State) : State :=
  if s.sec.release.any (fun f => f.id == a.frame && f.ackDone) then
    modSec (fun c => { c with release := c.release.map (fun f => if f.id = a.frame then { f with ackDone := false } else f) }) s
  else deferAck a.tenant (if a.join then 0x40000 else a.node) a.seq a.pending a.corr a.keyRef a.level s

/-- The key of an acknowledgement to a secured frame may send now (R222). -/
def ackKeyOk (s : State) (a : AckPend) : Bool :=
  match a.keyRef with
  | none => false
  | some r => secTxOn s && !zeroised s && keyBits s r a.tenant == some a.keyBits && !keySpent s r &&
      (4096 ≤ r || (slotOf s r).usage == .frame)

/-- What follows the launch of an acknowledgement: the Time Correction may have been applied (R189), and pending 1 may open a
follow-on window (R195). -/
def ackAfter (a : AckPend) (s : State) : State :=
  let s := if a.corr.isSome && !a.join then
    let h := { nthOf s a.node with aptP := true }
    mirPost (.apt a.node h.aptO h.aptD h.aptN h.aptP h.aptM h.tLast) (setNth a.node h s) else s
  if a.pending && s.on (Reg.MAC_Tt_POL.PEND_FOLLOW a.tenant) then
    modMac (fun m => { m with follows := m.follows ++ [followOn s a] }) s else s

/-- The acknowledgement as it is sent: a secured one takes a fresh counter of its frame's key at its launch and is secured with that frame's level;
none where the key cannot send (R222). -/
def ackSecure (a : AckPend) (s : State) : State × Option AckPend :=
  if !a.secured then (s, some a)
  else if !ackKeyOk s a then (secInc Reg.SEC_ACK_NOCTR.CNT s, none)
  else match takeCounter (a.keyRef.getD 0) a.tenant s with
    | (s, some c) => (secInc Reg.SEC_TX_ENC.CNT s, some { a with sec := some (secHdr s a.tenant (a.keyRef.getD 0) c a.level) })
    | (s, none) => (secInc Reg.SEC_ACK_NOCTR.CNT s, none)

def ackSent (a : AckPend) (s : State) : State := ackAfter a (s.inc Reg.MAC_ACK_FAST.CNT)

/-- A standalone Enh-ACK as an acknowledgement of the engine that launches it. -/
def fwAck (e : Nat) (f : FwFrame) : AckPend :=
  { (default : AckPend) with
    engine := e, tenant := f.tenant, node := f.node, seq := f.seq, secured := f.secured, pending := f.pending, corr := f.corr
    nominal := f.nominal, span := f.span, keyRef := f.keyRef, keyBits := f.keyBits, level := f.level }

def ackLaunch (a : AckPend) (s : State) : State :=
  let prof := s.eff (Reg.MAC_ENGn_ACK.PROF a.engine)
  let len := a.psduLen
  if s.clk < a.ready then ackUnsent a (overrun Reg.SYS_OVR_STAT.ACK_LATE (s.inc Reg.MAC_ACK_LATE.CNT))
  else if !holdsTx s then s.inc Reg.MAC_NOLEASE_ACK.CNT
  else match verdict s true true a.engine prof len none with
  | .go m =>
    match ackSecure a s with
    | (s, some b) => ackSent b (txStart m a.engine prof len (.ack b) s)
    | (s, none) => ackUnsent a s
  | v => ackUnsent a (countVerdict true v s)

/-- An acknowledgement goes before those of higher engines. -/
def ackIn (a : AckPend) : List AckPend → List AckPend
  | [] => [a]
  | b :: l => if a.engine < b.engine then a :: b :: l else b :: ackIn a l

/-- The acknowledgements whose launch instant has come, in the order in which they are served (R148). -/
def acksDue (s : State) : List AckPend := (s.mac.acks.filter (fun a => decide (a.launch ≤ s.clk))).foldr ackIn []

def ackServe (a : AckPend) (s : State) : State := ackLaunch a (modMac (fun m => { m with acks := m.acks.filter (fun b => b != a) }) s)

/-- FAST_ACK_LAUNCH: the launch instant of an engine's acknowledgement. Acknowledgements of lower engines due by then go first (R148). -/
def fastAckLaunch (e ofs : Nat) (s : State) : State :=
  let s := s.at ofs
  if (acksDue s).any (fun a => a.engine == e) then forEach ((acksDue s).filter (fun a => decide (a.engine ≤ e))) ackServe s else s

def execFastAckLaunch (e : Fin 128) (ofs : Fin 122880) (s : State) : Host.Outcome State Fault Refusal := run (fastAckLaunch e ofs) s

/-- A frame begun in an ACK wait is still on its way. -/
def waitBusy (s : State) (w : AckWait) : Bool :=
  let inWait (f : RxFrame) : Bool := f.win.elim false (fun x => x.kind == 3 && x.node == w.frame.node)
  ((ceOf s w.engine).cur.toList ++ (s.rx.decoding.filter (fun d => d.1 == w.engine)).map (·.2)).any inWait

/-- The end of an ACK wait without a match (R203). -/
def waitEnd (w : AckWait) (s : State) : State :=
  let s := modMac (fun m => { m with waits := m.waits.filter (fun x => x != w) }) s
  if s.get Reg.MAC_TX_RETRY.MAX ≤ w.frame.retries then airFinal w.frame stNO_ACK (s.inc Reg.MAC_NO_ACK.CNT)
  else airReturn { w.frame with retries := w.frame.retries + 1 } (s.inc Reg.MAC_RETRY.CNT)

def waitsOver (sel : AckWait → Bool) (s : State) : State :=
  forEach (s.mac.waits.filter (fun w => sel w && decide (w.hi < s.clk) && !waitBusy s w)) waitEnd s

/-- ACK_WAIT_EXPIRY. -/
def execAckWaitExpiry (e : Fin 128) (ofs : Fin 122880) (s : State) : Host.Outcome State Fault Refusal :=
  run (fun s => waitsOver (fun w => w.engine == e.val) (s.at ofs)) s

/-! ## CSMA-CA (R204 to R206) -/

/-- A CCA finds the channel busy. `power` is the engine's mean input power in 0.001 dBFS. -/
def ccaBusy (s : State) (e : Nat) (power : Int) : Bool :=
  ((ceOf s e).cur.bind (·.acq)).isSome ||
  !(streamsIn s e).any id ||
  decide (250 * s.getS Reg.MAC_CSMA_CFG.CCA_THR < power + 250 * s.getS (Reg.CE_RSSI_CALp.CAL (engRxPort s e)))

def csmaMaxBe (s : State) : Nat := max (s.get Reg.MAC_CSMA_CFG.MIN_BE) (s.get Reg.MAC_CSMA_CFG.MAX_BE)

/-- The clock at which a backoff of exponent `be` that begins now ends: a drawn number below 2^be of the unit backoff periods of the window's
profile (R204). -/
def backoffEnd (s : State) (x : WinS) (be : Nat) : Nat :=
  let f := profOf s x.w.prof
  s.clk + (Config.csmaDraw s.core.free % 2 ^ be * Config.unitBackoff (pfPhy f) (pfMode f) * 98304 + 99999999) / 100000000

/-- A deferred firmware frame goes back in front of its queue. -/
def csmaDefer (c : Csma) (s : State) : State :=
  modMac (fun m => { m with csma := m.csma.filter (fun x => x != c), fwq := c.frame :: m.fwq }) s

/-- A busy CCA: the next backoff, of a greater exponent, or the end of them (R204, R205). -/
def csmaBusy (c : Csma) (s : State) : State :=
  let s := s.inc Reg.MAC_CSMA_BUSY.CNT
  if s.get Reg.MAC_CSMA_CFG.MAX_BO < c.nb + 1 then csmaDefer c (s.inc Reg.MAC_CSMA_FAIL.CNT)
  else
    let be := min (c.be + 1) (csmaMaxBe s)
    (modMac (fun m => { m with csma := m.csma.map (fun x =>
      if x = c then { c with nb := c.nb + 1, be := be, due := backoffEnd s c.win be } else x) }) s).drawn

/-! ## Commands to the scheduler (R208, R209) -/

/-- EFFECT_CELL as words 1 and 2 of a completion carry it (R311). -/
def effectCell (c : CmdSrc) (s : State) : List Nat :=
  let n := cellNo s + c.lag.val
  [n % 2 ^ 32, n / 2 ^ 32 % 2 ^ 8]

/-- A scheduler command ends: it leaves the ring, its record and that of its effect go to the standby
in one burst (R312), and it completes with its status. -/
def schedFinish (c : CmdSrc) (e : CmdEntry) (code st : Nat) (more : Nat → State → List Nat) (s : State) : State :=
  let t := e.ten c.fn
  let s := cmdTake c.fn s
  let s := mirPost (.cmdDone c.fn ringCMD st (s.get (Reg.HIF_Rr_POS.POS c.fn ringCMD))) s
  let s := if st = 0 then (mirPost (.fwDelta (s.get Reg.FW_RUN_VER.VER) (Config.deltaLen s.core.free % 240) s.core.free) s).drawn else s
  let s := completeCmd c.fn e.tag code t st false (effectCell c s ++ more t s) s
  cmdSettle c.fn (s.hif.fns.get c.fn).cmdQ s

/-- A scheduler command of a tenant of a lower number waits at the front of some CMD ring: it is carried out first (R209). -/
def lowerWaits (s : State) (t : Nat) : Bool :=
  (s.hif.fns.map (·.1)).any (fun fn => match (s.hif.fns.get fn).cmdQ with
    | some e :: _ => cmdRoom s fn && decide (0x20 ≤ e.code) && decide (e.code ≤ 0x27) && decide (e.ten fn < t)
    | _ => false)

/-- A scheduler command, where it is the next of its function's CMD ring and no lower tenant's is due: its status, and the change where the status is
OK. A follower completes it DENIED (R415). -/
def schedCmd (c : CmdSrc) (code : Nat) (f : Nat → State → Nat × (State → State)) (more : Nat → State → List Nat) (s : State) : State :=
  match cmdNext s c.fn code with
  | none => s
  | some e =>
    if lowerWaits s (e.ten c.fn) then s else
    let (st, g) := if isFollower s then (stDENIED, id) else f (e.ten c.fn) s
    schedFinish c e code st more (if st = 0 then g s else s)

/-- Commands whose completion carries EFFECT_CELL alone. -/
def noMore (_t : Nat) (_s : State) : List Nat := []

def ownNode (s : State) (t n : Nat) : Bool := (nthOf s n).valid && (nthOf s n).tenant == t
def sfOf (s : State) (t sf : Nat) : Option Slotframe := s.mac.sfs.find? (fun x => x.tenant == t && x.sf == sf)
def linkQuota (s : State) (t : Nat) : Nat := s.mac.quota.getD 0 t

/-- Two links meet in some cell on one channel offset of one hop group. -/
def linkClash (s : State) (f : Slotframe) (l : Link) (m : Link) : Bool :=
  match sfOf s m.tenant m.sf with
  | some g => g.hopg == f.hopg && m.chofs == l.chofs && (max l.pos m.pos - min l.pos m.pos) % Nat.gcd f.len g.len == 0
  | none => false

/-- SF_SET. A replacement that would bring one of the tenant's links into a cell and channel offset of another link is refused (R208, R209). -/
def sfSet (sf len hopg : Nat) (t : Nat) (s : State) : Nat × (State → State) :=
  let f : Slotframe := ⟨t, sf, len, hopg⟩
  let put := modMac (fun m => { m with sfs := m.sfs.filter (fun x => !(x.tenant == t && x.sf == sf)) ++ [f] })
  if 3 < sf || len = 0 || 65535 < len || 15 < hopg then (stBAD_PARAM, id)
  else if hopg ≠ s.eff (Reg.MAC_Tt_POL.HOPG t) then (stDENIED, id)
  else if (sfOf s t sf).isNone && decide (64 ≤ s.mac.sfs.length) then (stNO_SPACE, id)
  else if (s.mac.links.filter (fun l => l.tenant == t && l.sf == sf)).any (fun l => s.mac.links.any (fun m => m != l && linkClash (put s) f l m)) then
    (stNO_SPACE, id)
  else (0, put)

def execSfSet (c : CmdSrc) (sf len hopg : Nat) (s : State) : Host.Outcome State Fault Refusal :=
  run (schedCmd c 0x20 (sfSet sf len hopg) noMore) s

/-- SF_DEL. -/
def sfDel (sf : Nat) (t : Nat) (s : State) : Nat × (State → State) :=
  if (sfOf s t sf).isNone then (stBAD_PARAM, id)
  else (0, modMac (fun m => { m with sfs := m.sfs.filter (fun x => !(x.tenant == t && x.sf == sf)),
                                     links := m.links.filter (fun x => !(x.tenant == t && x.sf == sf)) }))

def execSfDel (c : CmdSrc) (sf : Nat) (s : State) : Host.Outcome State Fault Refusal := run (schedCmd c 0x21 (sfDel sf) noMore) s

/-- LINK_ADD. The tenant of the link is the sender's. -/
def linkAdd (l : Link) (t : Nat) (s : State) : Nat × (State → State) :=
  let l := { l with tenant := t, auto := false }
  match sfOf s t l.sf with
  | none => (stBAD_PARAM, id)
  | some f =>
    if f.len ≤ l.pos || 63 < l.chofs || 6 < l.kind || 262143 < l.node || 511999 < l.ofs || 511999 < l.span || 65535 < l.lead ||
        15 < l.prof then (stBAD_PARAM, id)
    else if (l.kind = 0 || l.kind = 3) && !ownNode s t l.node then (stDENIED, id)
    else if linkQuota s t ≤ (s.mac.links.filter (fun x => x.tenant == t)).length || 524288 ≤ s.mac.links.length ||
        s.mac.links.any (linkClash s f l) then (stNO_SPACE, id)
    else (0, modMac (fun m => { m with links := m.links ++ [l] }))

def execLinkAdd (c : CmdSrc) (l : Link) (s : State) : Host.Outcome State Fault Refusal := run (schedCmd c 0x22 (linkAdd l) noMore) s

/-- LINK_DEL. Without such a link a node that is not the tenant's is refused as such. -/
def linkDel (sf pos chofs node : Nat) (t : Nat) (s : State) : Nat × (State → State) :=
  let mine (x : Link) : Bool := x.tenant == t && x.sf == sf && x.pos == pos && x.chofs == chofs && x.node == node
  if (sfOf s t sf).isNone || 262143 < node || 63 < chofs then (stBAD_PARAM, id)
  else if !s.mac.links.any mine then (if ownNode s t node then stBAD_PARAM else stDENIED, id)
  else (0, modMac (fun m => { m with links := m.links.filter (fun x => !mine x) }))

def execLinkDel (c : CmdSrc) (sf pos chofs node : Nat) (s : State) : Host.Outcome State Fault Refusal :=
  run (schedCmd c 0x23 (linkDel sf pos chofs node) noMore) s

/-- The links that the scheduler chooses for a node of a tenant: receive links for an up period, transmit links for a down period, in slotframes that the
tenant has. Which they are is free (log entry 10). -/
def rateLinks (s : State) (t node up down airtime : Nat) : List Link :=
  let mk (kind : Nat) (c : Nat × Nat × Nat × Nat) : Option Link := (sfOf s t c.1).map (fun f =>
    { tenant := t, sf := c.1, pos := c.2.1 % max 1 f.len, chofs := c.2.2.1 % 64, kind := kind, node := node, ofs := c.2.2.2, span := airtime, lead := 0,
      prof := 0, ackw := kind == 3, auto := true })
  (if up = 0 then [] else (Config.rateLinks up 0 airtime s.core.free).filterMap (mk 0)) ++
  (if down = 0 then [] else (Config.rateLinks 0 down airtime s.core.free).filterMap (mk 3))

/-- A list of links can be added to those there are: within the quota and the part's limit, and no two on one cell and channel offset (R208, R209). -/
def linksFit (s : State) (t : Nat) (l : List Link) : Bool :=
  decide ((s.mac.links.filter (fun x => x.tenant == t)).length + l.length ≤ linkQuota s t) && decide (s.mac.links.length + l.length ≤ 524288) &&
  l.zipIdx.all (fun x => (sfOf s t x.1.sf).any (fun f => !(s.mac.links ++ l.take x.2).any (linkClash s f x.1)))

/-- NODE_RATE: the links that the scheduler chose for the node give place to new ones. Two periods of 0 leave it nothing to maintain. -/
def nodeRate (node up down airtime : Nat) (t : Nat) (s : State) : Nat × (State → State) :=
  let clear := modMac (fun m => { m with links := m.links.filter (fun x => !(x.auto && x.tenant == t && x.node == node)), rates := m.rates.filter (fun x => x.node != node) })
  let l := rateLinks s t node up down airtime
  if 262143 < node then (stBAD_PARAM, id)
  else if !ownNode s t node then (stDENIED, id)
  else if !linksFit (clear s) t l then (stNO_SPACE, id)
  else (0, fun s => (modMac (fun m => { m with links := m.links ++ l, rates := m.rates ++
    (if up = 0 && down = 0 then [] else [⟨t, node, up, down, airtime⟩]) }) (clear s)).drawn)

def execNodeRate (c : CmdSrc) (node up down airtime : Nat) (s : State) : Host.Outcome State Fault Refusal :=
  run (schedCmd c 0x24 (nodeRate node up down airtime) noMore) s

/-- APT_RESET (R191): the mark is set at the next tick boundary. -/
def aptReset (node : Nat) (t : Nat) (s : State) : Nat × (State → State) :=
  if 262143 < node then (stBAD_PARAM, id)
  else if !ownNode s t node then (stDENIED, id)
  else (0, modMac (fun m => { m with resets := setAdd m.resets node }))

def execAptReset (c : CmdSrc) (node : Nat) (s : State) : Host.Outcome State Fault Refusal := run (schedCmd c 0x25 (aptReset node) noMore) s

/-- EB_SET. -/
def ebSet (period prof chofs : Nat) (t : Nat) (_ : State) : Nat × (State → State) :=
  if 15 < prof || 63 < chofs then (stBAD_PARAM, id)
  else (0, modMac (fun m => { m with beacons := m.beacons.filter (fun x => x.tenant != t) ++
    (if period = 0 then [] else [⟨t, period, prof, chofs⟩]) }))

def execEbSet (c : CmdSrc) (period prof chofs : Nat) (s : State) : Host.Outcome State Fault Refusal :=
  run (schedCmd c 0x26 (ebSet period prof chofs) noMore) s

/-- SCHED_QUERY: links in use, the link quota and slotframes in use. -/
def schedUse (t : Nat) (s : State) : List Nat :=
  [(s.mac.links.filter (fun x => x.tenant == t)).length, linkQuota s t, (s.mac.sfs.filter (fun x => x.tenant == t)).length]

def execSchedQuery (c : CmdSrc) (s : State) : Host.Outcome State Fault Refusal := run (schedCmd c 0x27 (fun _ _ => (0, id)) schedUse) s

end Sys2Proof.Machine
end

