-- ==== Sys2Proof/Machine/Waveform.lean ====
section
/-! DEFINITION. The samples of a transmission and of a port's sum, and the mask monitor's spectrum (R146, R149, R152 to R154, R157, R158,
R171, R172, R178). What the standard gives by reference and the interpolation to the port rate are free values (log entry 51). -/

namespace Sys2Proof.Machine

def ratAdd (a b : Rat × Rat) : Rat × Rat := (a.1 + b.1, a.2 + b.2)
def ratMul (a b : Rat × Rat) : Rat × Rat := (a.1 * b.1 - a.2 * b.2, a.1 * b.2 + a.2 * b.1)
def ratScale (k : Rat) (a : Rat × Rat) : Rat × Rat := (k * a.1, k * a.2)

/-! ## Cosine, sine and decibels -/

/-- The sum of so many terms of the series of the cosine (`j` = 0) or the sine (`j` = 1) from a term of order `j` on. -/
def turnSeries (x : Rat) : (terms j : Nat) → Rat → Rat
  | 0, _, _ => 0
  | n + 1, j, t => t + turnSeries x n (j + 2) (-(t * x * x) / ((j + 1) * (j + 2) : Nat))

/-- An error held to 2^-24 of full scale. -/
def smallError (e : Rat) : Rat := max (-1 / 2 ^ 24) (min e (1 / 2 ^ 24))

/-- Cosine and sine of a fraction of a turn, each within 2^-24: the error is free (log entry 51). -/
def cis (t : Rat) : Rat × Rat :=
  let x := 2 * (3141592653589793238 / 10 ^ 18) * (t - t.floor)
  let e := Config.cisError t
  (turnSeries x 24 0 1 + smallError e.1, turnSeries x 24 1 x + smallError e.2)

/-- The amplitude of a backoff in 0.25 dB steps: 10^(−g / 80) to 18 digits (R149). -/
def dbGain (g : Nat) : Rat := (1 / 10 ^ (g / 80)) * (971627951577106175 / 10 ^ 18) ^ (g % 80)

/-! ## What is sent (R152) -/

/-- What names the octets of a frame. A frame sent again keeps its octets (R164, R179). -/
def txLabel (x : TxS) : List Nat :=
  match x.kind with
  | .ack a => [0, a.tenant, a.node, a.seq, x.start]
  | .fw f => [1, f.tenant, f.node, f.seq, f.len]
  | .data f => [2, f.tenant, f.keyRef, f.counter, f.seq, f.fragIx]
  | .flood t seed seq h => [3, t, seed, seq, h.key, h.fc]

/-- How a transmission is secured. -/
def txSec (x : TxS) : Option SecHdr :=
  match x.kind with
  | .ack a => a.sec
  | .fw f => f.sec
  | .data f => f.sec
  | .flood _ _ _ h => some h

/-- Octets of its MHR before the auxiliary security header. -/
def txMhr (x : TxS) : Nat :=
  match x.kind with
  | .ack a => Config.ackHead (pfPhy x.prof) (a.seq != 256) a.corr.isSome
  | .fw f => if f.isAck then Config.ackHead (pfPhy x.prof) (f.seq != 256) f.corr.isSome else mhrLen (pfPhy x.prof) f.bcast
  | .data f => mhrLen (pfPhy x.prof) f.bcast
  | .flood _ _ _ _ => mhrLen (pfPhy x.prof) true

/-- Octets of its FCS: an LD frame has none (R192). -/
def txFcs (x : TxS) : Nat := if pfPhy x.prof = 3 then 0 else Config.fcsLen (pfPhy x.prof)

/-- Octets that no rule gives, `n` of a part of the frame. -/
def freeOctets (x : TxS) (part n : Nat) : List Nat := (List.range n).map (fun i => Config.psduOctet (part :: txLabel x) i % 256)

/-- The octets before the FCS. Of a secured frame the MHR with the auxiliary security header is the data authenticated; what follows is encrypted
under the key with the nonce, and the MIC ends it, 4, 8 or 16 octets long (R217, R221). -/
def txBody (x : TxS) : List Nat :=
  match txSec x with
  | none => freeOctets x 0 (x.len - txFcs x)
  | some h =>
    let aad := freeOctets x 0 (txMhr x) ++ auxOctets h
    let n := x.len - txFcs x - aad.length - micLen h.level
    let plain := freeOctets x 1 n
    aad ++ (Config.ccmText h.key h.nonce plain).take n ++ octetsBe (micLen h.level) (Config.ccmMic h.key h.nonce aad plain)

/-- The octets of the PSDU. PRESUMED (log entry 8): the FCS is the CRC of its length. -/
def txPsdu (x : TxS) : List Nat :=
  let b := txBody x
  let c := if txFcs x = 4 then crc32 b else crc16 b
  b ++ (List.range (txFcs x)).map (fun i => c / 256 ^ i % 256)

/-- NODE and AR of the LD header (R118, R152). The NODE of a frame without a destination node is 0 (log entry 51). -/
def txNode (x : TxS) : Nat :=
  match x.kind with
  | .ack a => if a.join then 0 else a.node
  | .fw f => if f.bcast then 0 else f.node
  | .data f => f.node
  | .flood _ _ _ _ => 0
def txAr (x : TxS) : Bool :=
  match x.kind with
  | .fw f => f.ar
  | .data f => f.ar
  | _ => false

/-- d_k of a SUN FSK symbol by its place, the lowest deviation first: two levels, or four with MODE bit 3 (R154). -/
def fskLevel (mode : Nat) (q : Fin 4) : Rat :=
  if mode / 8 % 2 = 1 then (2 * q.val - 3 : Int) / 3 else if q.val % 2 = 0 then -1 else 1

/-- An O-QPSK chip of ±1 on its axis (R153). -/
def oqpskChip (c : Bool × Bool) : Cpx :=
  let v : Int := if c.2 then -1 else 1
  if c.1 then (0, v) else (v, 0)

/-- The chips of a linear PHY on their axes (R112, R152, R153). -/
def txChips (x : TxS) : List Cpx :=
  if pfPhy x.prof = 3 then ldSyms 0 (ldFrame (pfNpre x.prof) (pfMode x.prof / 4) (txAr x) (txNode x) (txPsdu x))
  else (Config.oqpskFrame (pfMode x.prof) (txPsdu x)).map oqpskChip

/-! ## Shaping (R153, R154) -/

/-- Output sample `n` of the bank's filter for inputs of one impulse every 8 samples: the sum of c_i times the input of 8 k = n − i. -/
def firAt (coefs : List Nat) (input : List (Rat × Rat)) (n : Nat) : Rat × Rat :=
  (List.range 8).foldl (fun a j =>
    if j ≤ n / 8 then ratAdd a (ratScale ((toSigned 18 (coefs.getD (n % 8 + 8 * j) 0) : Int) / 65536) (input.getD (n / 8 - j) (0, 0))) else a) (0, 0)

/-- Turns by which the phase of a SUN FSK transmission advances in sample `n`: f[n] / (8 × R_sym), which is (h / 2) × Σ d_k × c[n − 8k] / S. -/
def fskTurn (x : TxS) (syms : List (Rat × Rat)) (n : Nat) : Rat :=
  (pfIdx x.prof : Rat) / 128 * (firAt x.coefs syms n).1 * 65536 / coefSum x.coefs

/-- Samples of a SUN FSK transmission from a phase on. -/
def fskRun (turn : Nat → Rat) : (count n : Nat) → Rat → List (Rat × Rat)
  | 0, _, _ => []
  | c + 1, n, ph => cis ph :: fskRun turn c (n + 1) (ph + turn n)

/-- The raised-cosine edge of 8 samples at the start of an OFDM symbol, and at its end, where the next one begins (R153). -/
def edgeWin (i : Nat) : Rat := if i < 8 then (1 - (cis ((2 * i + 1 : Nat) / 32)).1) / 2 else 1

/-- Samples of an OFDM transmission: each symbol with its edge, on the falling edge of the one before, which goes on into its cyclic part, and
after the last symbol the falling edge of that one (R153). -/
def ofdmRun (x : TxS) (syms : Nat) : List (Rat × Rat) :=
  let mode := pfMode x.prof
  let n := Config.ofdmLen mode
  (List.range syms).flatMap (fun k => (List.range n).map (fun i =>
    let cur := ratScale (edgeWin i) (Config.ofdmSym mode (txPsdu x) k i)
    if k = 0 then cur else ratAdd cur (ratScale (1 - edgeWin i) (Config.ofdmSym mode (txPsdu x) (k - 1) (n + i))))) ++
  (List.range 8).map (fun i => ratScale (1 - edgeWin i) (Config.ofdmSym mode (txPsdu x) (syms - 1) (n + i)))

/-- Symbols or chips in a second: the rate of the samples is eight times this, and of OFDM that of its samples. -/
def symRate (f : List Nat) : Nat :=
  match pfPhy f with
  | 0 => 3000000000 / (fskBit (pfMode f) * (if pfMode f / 8 % 2 = 1 then 2 else 1))
  | 1 => Config.ofdmLen (pfMode f) * 25000 / 3
  | 2 => 2000000
  | _ => ldRate (pfMode f)
def baseRate (f : List Nat) : Nat := if pfPhy f = 1 then symRate f else 8 * symRate f

/-- Samples of the ramp-down at the rate of a transmission, and of a symbol at most. -/
def holdLen (f : List Nat) : Nat := tRamp f * baseRate f / 3000000000 + 9

/-- Samples from the start of a bank's pulse to its end, past the last coefficient that is not 0. -/
def pulseLen (coefs : List Nat) : Nat := (List.range 64).foldl (fun n i => if coefs.getD i 0 = 0 then n else i + 1) 0

/-- The samples of a linear PHY: up to the end of the last chip's pulse, and that sample held (R112, R153, R157). -/
def linearRun (x : TxS) (chips : List (Rat × Rat)) : List (Rat × Rat) :=
  let l := (List.range (8 * (chips.length - 1) + pulseLen x.coefs)).map (firAt x.coefs chips)
  l ++ List.replicate (holdLen x.prof) (l.getLastD (0, 0))

/-- The baseband samples of a transmission at magnitude 1, each symbol with the whole of its pulse, and what the ramp-down holds (R157). On SUN FSK
it holds the final frequency, to which the output settles as though the last symbol went on; on SUN OFDM the end of the edge window. DESIGN
CHOICE (log entry 51): a pulse that reaches past the last symbol runs out under the ramp, which begins at the end of that symbol, as R159 and the worked
example of chapter 5 have it. -/
def txBase (x : TxS) : List (Rat × Rat) :=
  match pfPhy x.prof with
  | 0 =>
    let d := ((Config.fskFrame (pfMode x.prof) (pfNpre x.prof) (pfRsc x.prof) (txPsdu x)).map (fskLevel (pfMode x.prof))).map (fun d => (d, (0 : Rat)))
    let on := d ++ List.replicate (holdLen x.prof / 8 + 1) (d.getLastD (0, 0))
    fskRun (fskTurn x on) (8 * d.length + holdLen x.prof) 0 0
  | 1 =>
    let l := ofdmRun x ((x.onAir - tRamp x.prof) / 360000)
    l ++ List.replicate (holdLen x.prof) (l.getLastD (0, 0))
  | _ => linearRun x ((txChips x).map (fun c => ((c.1 : Rat), (c.2 : Rat))))

/-! ## Ramps (R157, R158) -/

/-- The staircase of the legacy ramp. -/
def rampSteps : List Nat := [8, 16, 24, 36, 48, 64, 80, 100, 120, 144, 168, 192, 212, 232, 244, 252]

/-- The amplitude at a fraction of a rising ramp: the native raised cosine, or the legacy staircase. -/
def rampUp (f : List Nat) (u : Rat) : Rat :=
  if pfLeg f then (rampSteps.getD (u * 16).floor.toNat 256 : Nat) / 256 else (1 - (cis (u / 2)).1) / 2

/-- The amplitude of a transmission `t` thirds of a ns after its launch: the ramp-up over the first T_r, full amplitude, and from the end of
the last symbol the ramp-down, which runs the ramp-up backwards. -/
def rampAt (x : TxS) (t : Rat) : Rat :=
  let r : Rat := tRamp x.prof
  let air : Rat := (x.onAir - tRamp x.prof : Nat)
  let up := if t < r then rampUp x.prof (t / r) else 1
  if t < 0 || (x.onAir : Rat) ≤ t then 0
  else if t < air then up
  else if pfLeg x.prof then (rampSteps.getD (15 - ((t - air) / r * 16).floor.toNat) 0 : Nat) / 256
  else rampUp x.prof (1 - (t - air) / r)

/-! ## The port sum (R146, R149, R172, R178) -/

/-- An abandoned transmission's samples go to zero on a line of 1 µs from its end. -/
def cutAt (stop : Option Nat) (clk : Nat) : Rat :=
  match stop with
  | none => 1
  | some c => if clk < c then 1 else max 0 (1 - ((clk - c : Nat) : Rat) * 100 / 98304)

/-- A transmission's part in a port's sum at a clock: interpolated to the port rate, mixed to its offset, of full-scale magnitude 32,767 less
its profile's backoff. -/
def txAt (x : TxS) (stop : Option Nat) (clk : Nat) : Rat × Rat :=
  if clk < x.start then (0, 0) else
  let n := (clk - x.start) / 8
  let a := rampAt x ((clk - x.start : Nat) * 300000 / 98304) * cutAt stop clk
  if a = 0 then (0, 0) else
  let v := ratMul (Config.txInterp (baseRate x.prof) (txBase x) n) (cis ((x.freq : Rat) * n / 122880000))
  ratScale (32767 * dbGain (pfGain x.prof) * a) v

/-- What a port sends: transmissions in flight and those that have ended, with the clock at which one was abandoned. -/
def portTx (s : State) (p : Nat) : List (TxS × Option Nat) :=
  (s.txc.mods.filter (fun e => e.2.port == p)).map (fun e => (e.2, none)) ++
  (s.txc.tails.filter (fun e => e.tx.port == p)).map (fun e => (e.tx, if e.cut then some e.stop else none))

/-- A component of the sum, rounded and shifted right by SCALE bits. -/
def shifted (scale : Nat) (v : Rat) : Int := rounded v / (2 ^ scale : Nat)
def clipSample (v : Int) : Int := max (-32768) (min v 32767)

/-- SCALE of a port in the tick of a clock, of this tick or of one of the two before it (R149). -/
def scaleAt (s : State) (p clk : Nat) : Nat :=
  match s.core.ticks - clk / Config.tickClocks with
  | 0 => s.eff (Reg.TXC_PORTp_CFG.SCALE p)
  | k + 1 => (s.txc.scales.getD k []).getD p (s.eff (Reg.TXC_PORTp_CFG.SCALE p))

/-- The sum on a port at a clock before saturation. -/
def portSum (s : State) (p clk : Nat) : Cpx :=
  let v := (portTx s p).foldl (fun a x => ratAdd a (txAt x.1 x.2 clk)) (0, 0)
  (shifted (scaleAt s p clk) v.1, shifted (scaleAt s p clk) v.2)

/-- I or Q saturates. -/
def saturates (v : Cpx) : Bool := v.1 != clipSample v.1 || v.2 != clipSample v.2

/-- The sums of a port before saturation in the tick that begins at a clock. -/
def portTick (s : State) (p from' : Nat) : List Cpx := (List.range 15360).map (fun k => portSum s p (from' + 8 * k))

/-- A port sample. -/
def portClip (v : Cpx) : Cpx := (clipSample v.1, clipSample v.2)

/-- The interface samples that a port's JESD output gives for the tick that begins at a clock: the port samples raised to the interface rate of
its set (R43). -/
def jesdSamples (s : State) (p from' : Nat) : List Cpx :=
  interpolate (setFactor (s.get (portSet (8 + p)))) ((portTick s p (from' - Config.tickClocks)).map portClip) ((portTick s p from').map portClip)

/-- The tick that has ended on a TX port: the samples that saturated are counted (R149), and what an UP port sends goes out T_jesd_tx after the sum
(R43, R61). A port with nothing to send has none. -/
def portEnd (from' p : Nat) (s : State) : State :=
  if (portTx s p).isEmpty then s else
  let s := s.incBy (Reg.TXC_PORTp_CLIP.CLIPS p) ((portTick s p from').filter saturates).length
  when (txUp s p) (fun s => s.emit (.jesd p (from' + tJesdTx s p) (jesdSamples s p from'))) s

/-! ## The mask monitor (R171, R172) -/

/-- The Blackman-Harris window of 1,024 samples. PRESUMED (log entry 51): its coefficients. -/
def bhWin (n : Nat) : Rat :=
  let c (k : Nat) : Rat := (cis ((k * n : Nat) / 1024)).1
  35875 / 100000 - 48829 / 100000 * c 1 + 14128 / 100000 * c 2 - 1168 / 100000 * c 3

/-- Bin `b` of the transform of a windowed block that begins at a clock, and its power. -/
def binPower (s : State) (p from' : Nat) (b : Int) : Rat :=
  ratPower ((List.range 1024).foldl (fun a n =>
    let v := portSum s p (from' + 8 * n)
    ratAdd a (ratScale (bhWin n) (ratMul (((portClip v).1 : Rat), ((portClip v).2 : Rat)) (cis (-(b * n : Int) / 1024))))) (0, 0))

/-- Blocks averaged: AVG, with 0 as 1. -/
def maskAvg (s : State) (p : Nat) : Nat := max 1 (s.get (Reg.TXC_MASKp_CTRL.AVG p))

/-- The power of a bin over the blocks of 8,192 clocks that were complete last, and the power that a full-scale tone at the bin's centre has
in as many blocks. -/
def maskPower (s : State) (p : Nat) (b : Int) : Rat :=
  ((List.range (maskAvg s p)).map (fun k => binPower s p ((s.clk / 8192 - 1 - k) * 8192) b)).foldl (· + ·) 0
def maskFull (s : State) (p : Nat) : Rat :=
  let w := ((List.range 1024).map bhWin).foldl (· + ·) 0
  maskAvg s p * (32768 * w) * (32768 * w)

/-- The lowest limit, in −0.5 dBFS steps, of the enabled segments that cover a bin (R172): none where no segment does. -/
def maskLimit (s : State) (p : Nat) (bin : Int) : Option Nat :=
  ((List.range 32).filter (fun i => s.on (Reg.TXC_MASKp_SEGs.EN p i) && decide (s.getS (Reg.TXC_MASKp_SEGs.LO_BIN p i) ≤ bin) &&
    decide (bin ≤ s.getS (Reg.TXC_MASKp_SEGs.HI_BIN p i)))).foldl
    (fun a i => some (match a with | none => s.get (Reg.TXC_MASKp_SEGs.LIMIT p i) | some l => max l (s.get (Reg.TXC_MASKp_SEGs.LIMIT p i)))) none

/-- A power exceeds −0.5 × `l` dBFS. -/
def overLimit (power full : Rat) (l : Nat) : Bool := decide (full ^ 20 < power ^ 20 * 10 ^ l)

/-- The first bin, from −512, whose power exceeds its limit. A port with nothing to send has none. -/
def maskFirst (s : State) (p : Nat) : Option Int :=
  if (portTx s p).isEmpty then none else
  ((List.range 1024).map (fun k : Nat => (k : Int) - 512)).find? (fun b =>
    (maskLimit s p b).any (overLimit (maskPower s p b) (maskFull s p)))

end Sys2Proof.Machine
end

