-- ==== Sys2Proof/Machine/Transmit.lean ====
section
/-! DEFINITION. The commands of the transmit composer (chapter 5), the launches of windows (chapter 6), and what a tick boundary
does there. -/

namespace Sys2Proof.Machine

/-- The composer's part of the end of a tick, while its tick-aligned values are still in force: the pins' edges, the SCALE of each port, and the
samples of the ports (R149, R174). -/
def txClip (s : State) : State :=
  let s := feSync s
  let s := modTxc (fun t => { t with scales := [(List.range 4).map (fun p => s.eff (Reg.TXC_PORTp_CFG.SCALE p)), t.scales.headD []] }) s
  forEach (List.range 4) (portEnd ((s.core.ticks - 1) * Config.tickClocks)) s

/-! ## What is known at composition (R163, R168) -/

/-- The band context of a tenant's frames at composition: its hop group's band. -/
def tenantBand (s : State) (t : Nat) : Nat := hopGet s (Reg.MAC_HOPg_CFG.BAND (s.eff (Reg.MAC_Tt_POL.HOPG t)))

/-- The transmit windows that the schedule in force offers in a band, in µs: those of the cell, of the plans held and of the links. -/
def offered (s : State) (b : Nat) : List Nat :=
  let pick (l : List Window) : List Nat := (l.filter (fun w => decide (3 ≤ w.kind) && engBand s w.engine == b)).map (·.span)
  pick (s.mac.wins.map (·.w)) ++ s.mac.plans.flatMap (fun p => pick p.wins) ++
  (s.mac.links.filter (fun l => decide (3 ≤ l.kind) && (match s.mac.sfs.find? (fun x => x.tenant == l.tenant && x.sf == l.sf) with
    | some f => hopGet s (Reg.MAC_HOPg_CFG.BAND f.hopg) == b
    | none => false))).map (·.span)

/-- The frequencies of a hop group's list. -/
def hopFreqs (s : State) (b g : Nat) : List Nat :=
  (List.range (hopGet s (Reg.MAC_HOPg_CFG.LEN_M1 g) + 1)).map (fun i => chanFreq s b (hopList s g i))

/-- The frequencies on which an engine may send: those of its hop group's list where its tuner hops, else its own. -/
def engFreqs (s : State) (e : Nat) : List Nat :=
  let g := s.eff (Reg.MAC_ENGn_CFG.HOPG (hopEngine s e))
  if (streamOf s e).any (fun n => s.effOn (Reg.PRSM_TUn_CFG.HOP n)) && hopGet s (Reg.MAC_HOPg_CFG.EN g) != 0 then
    hopFreqs s (engBand s e) g
  else [engFreq s e]

/-- The hop groups of a band in which a link transmits: those of the links' slotframes. -/
def linkGroups (s : State) (b : Nat) : List Nat :=
  ((s.mac.links.filter (fun l => decide (3 ≤ l.kind))).filterMap (fun l =>
    ((s.mac.sfs.find? (fun x => x.tenant == l.tenant && x.sf == l.sf)).map (·.hopg)).filter
      (fun g => hopGet s (Reg.MAC_HOPg_CFG.BAND g) == b))).foldl setAdd []

/-- The frequencies on which the transmit windows of a band send: of the cell, of the plans held and of the links. -/
def knownFreqs (s : State) (b : Nat) : List Nat :=
  let ws := (s.mac.wins.map (·.w) ++ s.mac.plans.flatMap (·.wins)).filter (fun w => decide (3 ≤ w.kind) && engBand s w.engine == b)
  ((((ws.map (·.engine)).foldl setAdd []).flatMap (engFreqs s)) ++ (linkGroups s b).flatMap (hopFreqs s b)).foldl setAdd []

/-- Every sub-band the transmission would occupy could ever hold its charge (R163). -/
def budgetEver (s : State) (b f bw units : Nat) : Bool :=
  !bandAccounted s b || (sbOccupied s b f bw).all (fun k => !sbAccounted (sbOf s k) || decide (units ≤ sbBudget (sbOf s k)))

/-- The checks before encryption: the status and counter of a frame that fails them. With no transmit window offered there is nothing
to compare with (log entry 19). A sub-band that the frame would occupy on a frequency that the schedule in force uses counts (DEDUCED, log
entry 51); it is out of band where every such frequency is. -/
def compCheck (s : State) (t prof len : Nat) : Option (Nat × Fld) :=
  let b := tenantBand s t
  let pf := profOf s prof
  let on' := tOn pf len
  let spans := offered s b
  let fs := knownFreqs s b
  let oob (f : Nat) : Bool := bandAccounted s b && !sbContained s b f (halfBw pf)
  if !profOk s pf then none
  else if !spans.isEmpty && spans.all (fun u => decide (u * 3000 < on' + s.eff (Reg.TXC_BANDb_CFG.GUARD b) * 3000)) then
    some (stTOO_LONG, Reg.TXC_TOO_LONG.CNT)
  else if !fs.isEmpty && fs.all oob then some (stOUT_OF_BAND, Reg.TXC_OOB.CNT)
  else if fs.any (fun f => !oob f && !budgetEver s b f (halfBw pf) (chargeUnits on')) then some (stTOO_LONG, Reg.TXC_TOO_LONG.CNT)
  else none

/-! ## Launches (R147 to R151, R162, R168, R336, R337) -/

/-- The transmission of a flood message is launched or given up for this interval. -/
def floodTaken (m : FloodMsg) (s : State) : State :=
  modFld (fun f => { f with buf := f.buf.map (fun x => if x = m then { x with fired := false, kept := none } else x) }) s

/-- The tests, then the launch of a queued frame for a node, its end with OUT_OF_BAND, or its deferral (R151, R162, R164, R168, R336). `x` is
the window. -/
def launchData (e : Nat) (x : WinS) (f : AirFrame) (s : State) : State :=
  let v := verdict s false false e f.profile f.psduLen (some (winRoom x))
  match v with
  | .go m =>
    let onAir := tOn (profOf s f.profile) f.psduLen
    airCharge (.data f) onAir (txStart m e f.profile f.psduLen (.data f) (airTake f s))
  | _ =>
    let s := countVerdict false v s
    if v.drops then airFinal f stOUT_OF_BAND (airTake f s) else tqTel f.tenant f.queue (fun y => { y with defer := y.defer + 1 }) s

/-- A frame of firmware leaves those that wait. -/
def fwTake (f : FwFrame) (s : State) : State := modMac (fun c => { c with fwq := c.fwq.erase f }) s

/-- The same for a frame of firmware sent with a profile. A standalone Enh-ACK that can never go is not sent, and one that is launched has the
effects of any acknowledgement's launch (R189, R195). -/
def launchFwFrame (e prof : Nat) (x : WinS) (f : FwFrame) (s : State) : State :=
  let v := verdict s false false e prof f.len (some (winRoom x))
  match v with
  | .go m =>
    if f.isAck then
      (match ackSecure (fwAck e f) s with
        | (s, some a) => ackAfter a (txStart m e prof f.len (.fw { f with sec := a.sec }) (fwTake f s))
        | (s, none) => fwTake f s)
    else txStart m e prof f.len (.fw f) (fwTake f s)
  | _ =>
    let s := countVerdict false v s
    if !v.drops then s else if f.isAck then fwTake f s else airFinal (fwAir f) stOUT_OF_BAND (fwTake f s)

/-- Steps 2 and 3 of R336 for a window: the node's oldest waiting frame is the candidate, and one whose buckets are not eligible is not offered. -/
def offerWin (x : WinS) (s : State) : State :=
  let give (o : Option Nat) (s : State) : State := modMac (fun m => { m with wins := m.wins.map (fun y => if y = x then { x with offer := some o } else y) }) s
  match airHead s x.w.tenant x.w.node with
  | none => give none s
  | some f =>
    if airEligible s f then give (some f.order) s
    else give none (tqTel f.tenant f.queue (fun y => { y with defer := y.defer + 1 }) (tcntInc f.tenant 0x2910 1 (s.inc Reg.TM_DEFER_AIR.CNT)))

/-- At the boundary that begins a tick, the frames of the TX_DATA and follow-on windows that start in it are offered (R336). -/
def offerWins (s : State) : State :=
  if !(s.mac.running && s.mac.planned) then s else
  let lo := s.core.ticks * Config.tickClocks
  forEach (s.mac.wins.filter (fun x => x.w.kind == 3 && !x.dead && !x.used && x.offer.isNone && decide (lo ≤ winClk s x.lo) &&
    decide (winClk s x.lo < lo + Config.tickClocks))) offerWin s

/-- A TX_DATA or follow-on window (R336): a standalone acknowledgement for the node goes first (R200), else the frame that the window was offered.
A window opened within the tick is offered its frame now. -/
def launchNode (e : Nat) (x : WinS) (s : State) : State :=
  match ackNext s x.w.tenant x.w.node with
  | some f => launchFwFrame e f.prof x f s
  | none =>
    let s := if x.offer.isNone then offerWin x s else s
    match (if x.offer.isNone then s.mac.wins.find? (fun y => y == { x with offer := y.offer }) else some x).bind (winCandidate s) with
    | none => s
    | some f => launchData e x f s

def launchFw (e : Nat) (x : WinS) (s : State) : State :=
  match fwNext s x.w.tenant with
  | none => s
  | some f => launchFwFrame e x.w.prof x f s

/-- A TX_CSMA window begins: its frame runs CSMA-CA, from the first backoff on (R204). -/
def startCsma (e : Nat) (x : WinS) (s : State) : State :=
  if !mayLaunch s then s else
  let be := min (s.get Reg.MAC_CSMA_CFG.MIN_BE) (csmaMaxBe s)
  match fwNext s x.w.tenant with
  | none => s
  | some f => modMac (fun m => { m with
      fwq := m.fwq.erase f
      csma := m.csma ++ [⟨e, x, f, 0, be, backoffEnd s x be⟩] }) s.drawn

/-- The flood frame is launched, secured as given. -/
def floodStart (m e prof : Nat) (f : FloodMsg) (h : SecHdr) (s : State) : State :=
  let len := floodLen s prof { f with kept := some h }
  let onAir := tOn (profOf s prof) len
  let k : TxKind := .flood f.tenant f.seed f.seq h
  airCharge k onAir ((txStart m e prof len k (floodTaken f s)).inc Reg.FLD_TX.CNT)

/-- A new flood frame takes a fresh counter of the broadcast key, or waits for one (R221, R281). Without a key, or with one that may send no more, the
transmission is given up as one that completes DENIED. -/
def floodSecure (m e prof : Nat) (f : FloodMsg) (s : State) : State :=
  let t := f.tenant
  match (if secTxOn s then txKey s t 0 true (pfPhy (profOf s prof) == 3) else none) with
  | none => floodTaken f s
  | some ref =>
    if keySpent s ref then floodTaken f (s.incIf (exhausted (ctrOf s ref) && pdOn s 18) Reg.SEC_EXHAUST.CNT) else
    match takeCounter ref t s with
    | (s, none) => if f.waits then s else
      modFld (fun q => { q with buf := q.buf.map (fun y => if y = f then { y with waits := true } else y) }) (counterWait ref s)
    | (s, some c) => floodStart m e prof f (secHdr s t ref c (txLevel s t)) (secInc Reg.SEC_TX_ENC.CNT s)

/-- A TX_BCAST window: each transmission is a new frame (R281), but that of an abandoned one is sent again as it was (R179). A frame too long for
any window or budget is dropped (R163). -/
def launchFlood (e : Nat) (x : WinS) (s : State) : State :=
  match floodDue s x with
  | none => s
  | some f =>
    let prof := x.w.prof
    match f.kept, compCheck s x.w.tenant prof (floodLen s prof f) with
    | none, some (_, cnt) => floodTaken f (s.inc cnt)
    | _, _ =>
      let v := verdict s false false e prof (floodLen s prof f) (some (winRoom x))
      match v with
      | .go m => (match f.kept with
        | some h => floodStart m e prof f h s
        | none => floodSecure m e prof f s)
      | _ => if v.drops then floodTaken f (countVerdict false v s) else countVerdict false v s

/-- The transmit windows that are to be served: those that start on this clock (R162), not yet used and not ones that carry nothing. -/
def winsDue (s : State) : List WinS :=
  if !(s.mac.running && s.mac.planned) then [] else
  s.mac.wins.filter (fun x => decide (3 ≤ x.w.kind) && !x.dead && !x.used && winClk s x.lo == s.clk)

/-- The window sends a frame of firmware: it is of another kind than TX_DATA, or an acknowledgement of firmware waits for its node. -/
def winFw (s : State) (x : WinS) : Bool := x.w.kind != 3 || (ackNext s x.w.tenant x.w.node).isSome

/-- The order of R148: frames of firmware, by engine, then downlink frames, the earlier cell deadline and then the lower tenant first. DESIGN CHOICE
(log entry 51): the cell deadline is the end of the transmit window. -/
def winBefore (s : State) (x y : WinS) : Bool :=
  if winFw s x then !winFw s y || decide (x.w.engine < y.w.engine)
  else !winFw s y && (decide (x.hi < y.hi) || (x.hi == y.hi && decide (x.w.tenant < y.w.tenant)))

def winIn (s : State) (x : WinS) : List WinS → List WinS
  | [] => [x]
  | y :: l => if winBefore s x y then x :: y :: l else y :: winIn s x l

def winOrder (s : State) : List WinS := (winsDue s).foldl (fun l x => winIn s x l) []

/-- A window is used, whatever comes of it. -/
def winServe (x : WinS) (s : State) : State :=
  let s := modMac (fun m => { m with wins := m.wins.map (fun y => if y = x then { y with used := true } else y) }) s
  match x.w.kind with
  | 3 => launchNode x.w.engine { x with used := true } s
  | 4 => launchFw x.w.engine x s
  | 5 => startCsma x.w.engine x s
  | _ => launchFlood x.w.engine x s

/-- The transmit window of an engine that is to be served now. -/
def txWindow (s : State) (e : Nat) : Option WinS := (winsDue s).find? (fun x => x.w.engine == e)

/-- TX_LAUNCH: the launch instant of an engine's transmit window. What is due by then and comes before it in the order of R148 goes first. -/
def txLaunch (e ofs : Nat) (s : State) : State :=
  let s := s.at ofs
  match txWindow s e with
  | none => s
  | some x =>
    let l := winOrder s
    forEach (l.takeWhile (fun y => y != x) ++ [x]) winServe (forEach (acksDue s) ackServe s)

def execTxLaunch (e : Fin 128) (ofs : Fin 122880) (s : State) : Host.Outcome State Fault Refusal := run (txLaunch e ofs) s

/-! ## CSMA-CA (R204 to R206) -/

/-- What is due on this clock and goes before the firmware frame of an engine: acknowledgements, and the firmware frames of lower engines (R148). -/
def beforeFw (e : Nat) (s : State) : State :=
  forEach ((winOrder s).filter (fun y => winFw s y && decide (y.w.engine < e))) winServe (forEach (acksDue s) ackServe s)

/-- An idle CCA: the tests of R162 for a launch now, in the window that the frame was taken for (R206). -/
def csmaIdle (c : Csma) (s : State) : State :=
  let s := beforeFw c.engine s
  let prof := c.win.w.prof
  let v := verdict s false true c.engine prof c.frame.len (some (csmaRoom s c.win))
  let gone := modMac (fun m => { m with csma := m.csma.filter (fun y => y != c) })
  match v with
  | .go m => txStart m c.engine prof c.frame.len (.fw c.frame) (gone s)
  | _ => if v.drops then airFinal (fwAir c.frame) stOUT_OF_BAND (gone (countVerdict false v s)) else csmaDefer c (countVerdict false v s)

/-- CSMA_BACKOFF_EXPIRY: the CCA after a backoff that has ended (R204, R205). -/
def csmaExpiry (e ofs : Nat) (power : Int) (s : State) : State :=
  let s := s.at ofs
  match s.mac.csma.find? (fun c => c.engine == e && decide (c.due ≤ s.clk)) with
  | none => s
  | some c => if ccaBusy s e power then csmaBusy c s else csmaIdle c s

def execCsmaBackoffExpiry (e : Fin 128) (ofs : Fin 122880) (power : Int) (s : State) : Host.Outcome State Fault Refusal :=
  run (csmaExpiry e ofs power) s

/-! ## Ends (R179, R202) -/

/-- The end of the last symbol at the JESD output. -/
def txSymbolEnd (s : State) (x : TxS) : Nat := x.start + tJesdTx s x.port + t3Clocks (x.onAir - tRamp x.prof)

/-- The ACK wait of a frame with AR = 1 (R202). -/
def ackWaitOf (s : State) (x : TxS) (f : AirFrame) : AckWait :=
  let c := txSymbolEnd s x + Config.usClocks (s.get Reg.MAC_TX_RETRY.ACK_DELAY)
  let h := (s.get Reg.MAC_TX_RETRY.ACK_WAIT * 98304 / 100 + 1) / 2
  { engine := x.engine, frame := f, lo := c - h, hi := c + h }

def sentFrame (x : TxS) (f : AirFrame) (s : State) : State :=
  if f.ar then modMac (fun m => { m with waits := m.waits ++ [ackWaitOf s x f] }) s else airFinal f 0 s

/-- TX_END: a transmission has run its on-air time. -/
def txEnd (m ofs : Nat) (s : State) : State :=
  let s := s.at ofs
  match s.txc.mods.find? m with
  | none => s
  | some x =>
    let e := x.start + t3Clocks x.onAir
    if s.clk < e then s else
    let s := txRemove m x e false s
    match x.kind with
    | .data f => sentFrame x f s
    | .fw f => if f.isAck then s else sentFrame x (fwAir f) s
    | _ => s

def execTxEnd (m : Fin 32) (ofs : Fin 122880) (s : State) : Host.Outcome State Fault Refusal := run (txEnd m ofs) s

/-! ## Budgets (R166, R167, R169, R170) -/

/-- The EU presets: range in Hz and limit in 0.001 %. -/
def euPresets : List (Nat × Nat × Nat) :=
  [(863000000, 865000000, 100), (865000000, 868000000, 1000), (868000000, 868600000, 1000), (868700000, 869200000, 100),
   (869400000, 869650000, 10000), (869700000, 870000000, 1000)]

/-- An entry of a band takes a preset; one that was enabled keeps its history as R169 gives, another starts at zero. -/
def presetEntry (b e : Nat) (s : State) : State :=
  let k := 16 * b + e
  match euPresets[e]? with
  | none => sbSync k (s.put (sbEnFld k) 0)
  | some (lo, hi, duty) =>
    let was := s.on (sbEnFld k)
    let s := (s.put (Reg.TXC_SBb_sLO.LO b e) lo).put (Reg.TXC_SBb_sHI.HI b e) hi
    let s := ((s.put (Reg.TXC_SBb_sCFG.DUTY b e) duty).put (Reg.TXC_SBb_sCFG.WIN b e) 3600).put (sbEnFld k) 1
    if was then sbRestart k s else sbStart k s

/-- Loads the presets into a band (R167). -/
def presetLoad (b : Nat) (s : State) : State := forEach (List.range 16) (presetEntry b) (s.put (Reg.TXC_BANDb_DC.PRESET b) 0)

/-- DC_PRESET_LOAD: writing PRESET = 1. The presets are loaded at the next tick boundary; the bit reads 1 until then. -/
def execDcPresetLoad (b : Fin 4) (s : State) : Host.Outcome State Fault Refusal := run (regAccess (Reg.TXC_BANDb_DC.PRESET b).addr fun s => s.put (Reg.TXC_BANDb_DC.PRESET b) 1) s

/-- DC_SUBWINDOW_ROLLOVER (R166): of one sub-band entry. Nothing happens in a tick that starts no sub-window. -/
def execDcSubwindowRollover (b : Fin 4) (e : Fin 16) (s : State) : Host.Outcome State Fault Refusal :=
  run (sbRoll (16 * b.val + e.val)) s

/-- Rollovers that fell due in the ticks that `n` counts back from this one (R170). -/
def sbCatchUp (k : Nat) (n : Nat) (s : State) : State :=
  let x := sbOf s k
  let turns := s.tick / sbSw x - (s.tick - n) / sbSw x
  if turns = 0 || !s.on (sbEnFld k) then s else
  let i := sbTurn s x
  sbSync k (modSb k (fun x => { x with sw := (List.range (min turns 60)).foldl (fun l j => listSet l 0 ((i + 60 * turns - j) % 60) 0) x.sw }) s)

/-! ## Shaping banks (R156) -/

/-- FIR_COMMIT: writing bits of TXC_FIR_COMMIT. Banks 0 and 1 are fixed. -/
def execFirCommit (banks : Fin 65536) (s : State) : Host.Outcome State Fault Refusal :=
  run (regAccess Reg.TXC_FIR_COMMIT.BANKS.addr fun s => s.put Reg.TXC_FIR_COMMIT.BANKS (s.get Reg.TXC_FIR_COMMIT.BANKS ||| banks.val / 4)) s

/-- A committed bank's shadow becomes active. -/
def firActivate (b : Nat) (s : State) : State :=
  forEach (List.range 64) (fun i s =>
    let v := s.get (Reg.TXC_FIRb_COEFi.COEF b i)
    modTxc (fun t => { t with fir := if v = Config.firReset b i then t.fir.erase (64 * b + i) else t.fir.insert (64 * b + i) v }) s) s

def firBoundary (s : State) : State :=
  let c := s.get Reg.TXC_FIR_COMMIT.BANKS
  forEach ((List.range 14).filter (bitAt c)) (fun i s => firActivate (i + 2) s) (s.put Reg.TXC_FIR_COMMIT.BANKS 0)

/-! ## Mask monitor and FE_CTL (R171 to R176) -/

/-- MASK_VIOLATION: the comparison of a port's averaged spectrum with its mask. -/
def maskCompare (p ofs : Nat) (s : State) : State :=
  let s := s.at ofs
  if !s.on (Reg.TXC_MASKp_CTRL.EN p) then s else
  match maskFirst s p with
  | none => s
  | some b =>
    let v := s.get (Reg.TXC_MASKp_STAT.VIOL p)
    let s := (s.put (Reg.TXC_MASKp_STAT.VIOL p) (min (2 ^ (Reg.TXC_MASKp_STAT.VIOL p).w - 1) (v + 1))).putS (Reg.TXC_MASKp_STAT.FIRST_BIN p) b
    if s.on (Reg.TXC_MASKp_CTRL.ACT p) && !s.on (Reg.TXC_MASKp_STAT.GATED p) then gatePort p false s else s

def execMaskViolation (p : Fin 4) (ofs : Fin 122880) (s : State) : Host.Outcome State Fault Refusal := run (maskCompare p ofs) s

/-- MASK_UNGATE: writing UNGATE = 1, which ungates the port at the next tick boundary. -/
def execMaskUngate (p : Fin 4) (s : State) : Host.Outcome State Fault Refusal := run (regAccess (Reg.TXC_MASKp_CTRL.UNGATE p).addr fun s => s.put (Reg.TXC_MASKp_CTRL.UNGATE p) 1) s

/-- HOLD ticks have passed since the port's gate (R173). -/
def holdOver (s : State) (p : Nat) : Bool :=
  s.on (Reg.TXC_MASKp_STAT.GATED p) && s.get (Reg.TXC_MASKp_CTRL.HOLD p) != 0 &&
  decide (s.txc.gateClk.getD 0 p + s.get (Reg.TXC_MASKp_CTRL.HOLD p) * Config.tickClocks ≤ s.clk)

/-- MASK_HOLD_EXPIRY: the port ungates at the first tick boundary after it. -/
def execMaskHoldExpiry (p : Fin 4) (s : State) : Host.Outcome State Fault Refusal :=
  run (fun s => if holdOver s p then modTxc (fun t => { t with holdDone := setAdd t.holdDone p }) s else s) s

/-- FE_READBACK_CHECK: the level read back on a pin. -/
def feReadback (n ofs : Nat) (level : Bool) (s : State) : State :=
  let s := feSync (s.at ofs)
  if !s.on (Reg.TXC_FEn_CFG.RB_EN n) || bitAt (s.get Reg.TXC_FE_STAT.LEVEL) n == level then s else
  let err := s.get Reg.TXC_FE_STAT.RB_ERR
  let s := (s.put Reg.TXC_FE_STAT.RB_ERR (err ||| 2 ^ n)).inc Reg.TXC_FE_RB.CNT
  let src := s.get (Reg.TXC_FEn_CFG.SRC n)
  let p := s.get (Reg.TXC_FEn_CFG.PORT n)
  if s.on (Reg.TXC_FEn_CFG.RB_GATE n) && (src == 1 || src == 2) && !s.on (Reg.TXC_MASKp_STAT.GATED p) then gatePort p true s else s

def execFeReadbackCheck (n : Fin 16) (ofs : Fin 122880) (level : Bool) (s : State) : Host.Outcome State Fault Refusal :=
  run (feReadback n ofs level) s

/-! ## The composer at a tick boundary -/

/-- Ended transmissions that no pin, no conflict and no spectrum can show any longer leave the list: LEAD and LAG come to 131,070 clocks, and
15 blocks of the mask monitor to a tick. -/
def feTailsDrop (s : State) : State :=
  modTxc (fun t => { t with tails := t.tails.filter (fun x => decide (s.clk < x.stop + 3 * Config.tickClocks)) }) s

/-- The units used in each sub-band as a tick begins, by which windows that start in the tick are tested (R162). -/
def sbMark (s : State) : State := modTxc (fun t => { t with sbAt := t.sb.map (fun e => (e.1, sbUsed e.2)) }) s

/-- Rollovers, changed entries, presets, committed banks and ungating; `away` is the number of ticks for which PD17 was off until
now. Before PD17 is on nothing is accounted (R170). -/
def txBoundary (away : Nat) (s : State) : State :=
  if !pdOn s 17 then s else
  let s := forEach (List.range 64) (fun k s => sbCatchUp k away (sbRoll k s)) s
  let s := forEach (List.range 64) sbTake s
  let s := forEach ((List.range 4).filter (fun b => s.on (Reg.TXC_BANDb_DC.PRESET b))) presetLoad s
  let s := firBoundary s
  let s := forEach ((List.range 4).filter (fun p => s.on (Reg.TXC_MASKp_STAT.GATED p) &&
    (s.on (Reg.TXC_MASKp_CTRL.UNGATE p) || holdOver s p || s.txc.holdDone.contains p))) ungatePort s
  let s := forEach (List.range 4) (fun p s => s.put (Reg.TXC_MASKp_CTRL.UNGATE p) 0) s
  feSync (feTailsDrop (sbMark s))

end Sys2Proof.Machine
end

