-- ==== Sys2Proof/Machine/Vault.lean ====
section
/-! DEFINITION. The commands of the key vault and of the counter journal, and zeroise (chapter 7). -/

namespace Sys2Proof.Machine

/-! ## The queue (R231, R232) -/

/-- The time of a command in µs (R231). -/
def vaultUs (code : Nat) : Nat := [4, 24, 32, 32, 8, 8, 8, 4, 4000, 16, 40, 400].getD code 4

def vaultQueued (s : State) : State := s.put Reg.KV_STAT.QUEUED s.kv.queue.length

/-- The queue has room for a command of a function. -/
def vaultRoom (s : State) (fn : Nat) : Bool :=
  decide (s.kv.queue.length < 64) && decide ((s.kv.queue.filter (fun c => c.fn == fn)).length < 8)

/-- The register command that waits for room enters the queue as soon as there is room. -/
def regEnter (s : State) : State :=
  match s.kv.regWait with
  | some c => if vaultRoom s 0 then vaultQueued (modKv (fun v => { v with regWait := none, queue := v.queue ++ [c] }) s) else s
  | none => s

/-- The vault, free at a clock, takes the oldest waiting command. KV_STAT.BUSY is 1 while a PF command executes. -/
def vaultStart (clk : Nat) (s : State) : State :=
  match s.kv.running, s.kv.queue with
  | none, c :: q =>
    regEnter (vaultQueued ((modKv (fun v => { v with running := some { c with start := clk }, queue := q }) s).putB Reg.KV_STAT.BUSY (c.fn == 0)))
  | _, _ => s

/-- The PF's register path has a command waiting or executing. -/
def regBusy (s : State) : Bool := s.kv.queue.any (·.reg) || s.kv.regWait.isSome || (s.kv.running.elim false (·.reg))

/-- The arguments of a register command: KV_CMD_ARGi in the order of R231's arguments and R229's attributes, one word each, KEY_SOURCE in two and a
wrapped key in six. DESIGN CHOICE (log entry 55): this packing; what the wrapped octets hold, and the lists of ATTEST and NODE_RESTORE, come with
the command. -/
def regArgs (s : State) (code : Nat) (a : VArgs) : VArgs :=
  let w (i : Nat) : Nat := s.get (Reg.KV_CMD_ARGi.ARG i)
  let attrs (a : VArgs) : VArgs := { a with
    usage := w 1, tenant := w 2, useCount := w 3, expire := w 4 % 2 == 1, kim := w 5, keyIndex := w 6, keySource := w 7 + 2 ^ 32 * w 8 }
  match code with
  | 1 => attrs { a with slot := w 0 }
  | 2 => attrs { a with slot := w 0, unwrapSlot := w 9 }
  | 3 => { a with slot := w 0, gen := w 1 % 2 == 1, unwrapSlot := w 2 }
  | 4 => { a with slot := w 0, kcv := w 1 }
  | 9 => { a with len := w 0 }
  | 10 => { a with node := w 0, unwrapSlot := w 1, gen := w 8 % 2 == 1 }
  | 5 | 6 | 7 => { a with slot := w 0 }
  | _ => a

/-- A write of KV_CMD_GO: the command with the current arguments arrives, or is ignored while the one before is not complete (R232). -/
def regSubmit (code : Nat) (a : VArgs) (s : State) : State :=
  if regBusy s then s.put Reg.KV_STAT.GO_IGN 1
  else
    let c : VCmd := { fn := 0, reg := true, asTenant := 256, code := code, tag := 0, discard := false, args := regArgs s code a, start := 0 }
    vaultStart s.clk (regEnter (modKv (fun v => { v with regWait := some c }) s))

/-- A command arrives at the vault. On a CMD ring it is fetched only where there is room. -/
def vaultSubmit (src : VSrc) (code : Nat) (a : VArgs) (s : State) : State :=
  if src.reg then regSubmit code a s
  else match cmdNext s src.fn (code + 0x40) with
  | none => s
  | some e =>
    if !vaultRoom s src.fn then s else
    let s := cmdTake src.fn s
    let c : VCmd :=
      { fn := src.fn, reg := false, asTenant := e.ten src.fn, code := code, tag := e.tag, discard := false, args := a, start := 0 }
    let s := vaultStart s.clk (vaultQueued (modKv (fun v => { v with queue := v.queue ++ [c] }) s))
    cmdSettle src.fn (s.hif.fns.get src.fn).cmdQ s

/-! ## Refusals (R233, R241) -/

def lcNow (s : State) : Nat := s.get Reg.LC_STATE.STATE

/-- The life-cycle state permits the command. -/
def lcPermits (s : State) (c : VCmd) : Bool :=
  match lcNow s with
  | 0 => c.code == 7 || c.code == 9
  | 3 => c.code == 7 || c.code == 9 || (c.code == 8 && c.args.slots.isEmpty)
  | 4 => false
  | _ => true

def attrsBad (a : VArgs) : Bool :=
  decide (256 < a.tenant) || a.usage == 0 || decide (3 < a.usage) || decide (2 ^ 32 ≤ a.useCount) || a.kim == 0 || decide (3 < a.kim) ||
  decide (255 < a.keyIndex) || decide (2 ^ 64 ≤ a.keySource)

/-- The command's slot argument names a node (COMMIT, R237). -/
def namesNode (c : VCmd) : Bool := c.code == 4 && decide (4096 ≤ c.args.slot)
def cmdNode (c : VCmd) : Nat := if c.code = 10 then c.args.node else c.args.slot - 4096
def usesUnwrap (c : VCmd) : Bool := c.code == 2 || ((c.code == 3 || c.code == 10) && !c.args.gen)

/-- Reason 1. -/
def argBad (c : VCmd) : Bool :=
  let a := c.args
  (match c.code with
    | 1 => decide (4095 < a.slot) || attrsBad a
    | 2 => decide (4095 < a.slot) || attrsBad a
    | 3 => decide (4095 < a.slot)
    | 4 => decide (4096 + 262143 < a.slot)
    | 5 => decide (4095 < a.slot)
    | 6 => decide (4095 < a.slot)
    | 7 => decide (4095 < a.slot)
    | 8 => decide (16 < a.slots.length) || a.slots.any (fun k => decide (4095 < k))
    | 9 => a.len == 0 || decide (256 < a.len)
    | 10 => decide (262143 < a.node)
    | 11 => decide (64 < a.records.length) || a.records.any (fun r => decide (8388607 < r.1))
    | _ => true) ||
  (usesUnwrap c && decide (4095 < a.unwrapSlot))

/-- A slot that belongs to another tenant than the one acted for. An EMPTY slot belongs to none. -/
def slotForeign (s : State) (t k : Nat) : Bool := t != 256 && (slotOf s k).active && (slotOf s k).tenant != t

/-- Reason 2. -/
def ownerBad (s : State) (c : VCmd) : Bool :=
  let t := c.asTenant
  let a := c.args
  (usesUnwrap c && slotForeign s t a.unwrapSlot) ||
  (match c.code with
    | 1 => slotForeign s t a.slot || (t != 256 && a.tenant != t)
    | 2 => slotForeign s t a.slot || (t != 256 && a.tenant != t)
    | 4 => if namesNode c then t != 256 && !ownNode s t (cmdNode c) else slotForeign s t a.slot
    | 8 => t != 256 && a.slots.any (fun k => !((slotOf s k).active && (slotOf s k).tenant == t))
    | 9 => false
    | 10 => t != 256 && !ownNode s t a.node
    | 11 => t != 256 && a.records.any (fun r => r.2.tenant != t)
    | _ => slotForeign s t a.slot)

/-- Reason 3. -/
def stateBad (s : State) (c : VCmd) : Bool :=
  let a := c.args
  let k := slotOf s a.slot
  (usesUnwrap c && !(slotOf s a.unwrapSlot).active) ||
  (match c.code with
    | 1 => a.slot == 0 || k.active
    | 2 => a.slot == 0 || k.active
    | 3 => a.slot == 0 || !k.active
    | 4 => if namesNode c then !(s.kv.secrets.get (nthOf s (cmdNode c)).endpoint).valid else a.slot == 0 || !k.active
    | 5 => a.slot == 0 || !k.active || k.staged.isNone
    | 6 => a.slot == 0 || !k.active
    | 10 => !(nthOf s a.node).valid || !secretsOpen s
    | 11 => !secretsOpen s
    | _ => false)

/-- Reason 4. -/
def usageBad (s : State) (c : VCmd) : Bool :=
  usesUnwrap c && ((slotOf s c.args.unwrapSlot).usage != .unwrap || (slotOf s c.args.unwrapSlot).depleted)

/-- Reason 6. -/
def commitBad (s : State) (c : VCmd) : Bool :=
  c.code == 4 &&
  (match (if namesNode c then nodeStagedOf s (nthOf s (cmdNode c)).endpoint else (slotOf s c.args.slot).staged) with
    | some k => Config.kcv k != c.args.kcv
    | none => true)

/-- Reason 5. -/
def unwrapFails (s : State) (c : VCmd) : Bool :=
  (usesUnwrap c && c.args.wrapped.kek != (slotOf s c.args.unwrapSlot).key) ||
  (c.code == 11 && c.args.records.any (fun r => r.2.valid &&
    !(unwraps s r.2.wkey r.1 r.2.gen false && (r.2.wstg.elim true (fun w => unwraps s w r.1 r.2.gen true)))))

/-- The reason that refuses a command: the first in the order 9, 7, 1, 2, 3, 4, 6, 10, 8, 5. -/
def refusal (s : State) (c : VCmd) : Option Nat :=
  if !lcPermits s c then some 9
  else if zeroised s then some 7
  else if argBad c then some 1
  else if ownerBad s c then some 2
  else if stateBad s c then some 3
  else if usageBad s c then some 4
  else if commitBad s c then some 6
  else if (c.code = 10 || c.code = 11) && decide (64 ≤ epoch s) then some 10
  else if (c.code = 1 || c.code = 3 || c.code = 9 || c.code = 10) && !s.on Reg.KV_STATE.ENT_OK then some 8
  else if unwrapFails s c then some 5
  else none

/-! ## Effects -/

def usageOf (n : Nat) : Usage := if n = 1 then .frame else if n = 2 then .frameRx else .unwrap

/-- The unwrap key loses one use (R230). -/
def unwrapUse (c : VCmd) (s : State) : State :=
  if usesUnwrap c && (slotOf s c.args.unwrapSlot).useCount ≠ 0 then
    modSlot c.args.unwrapSlot (fun k => { k with useCount := k.useCount - 1, depleted := k.useCount == 1 }) s
  else s

/-- A slot comes to hold a key (GENERATE, IMPORT), with its counters at the journal's reservation (R228). -/
def installSlot (a : VArgs) (key : Nat) (imported : Bool) (s : State) : State :=
  let k : Slot :=
    { active := true, key := key, staged := none, stagedLive := false, commitDue := false, usage := usageOf a.usage,
      imported := imported, tenant := a.tenant, useCount := a.useCount, depleted := false, expire := a.expire, kim := a.kim,
      keyIndex := a.keyIndex, keySource := a.keySource }
  loadKey a.slot key (modSlot a.slot (fun _ => k) s)

/-- A node's key as the mirror link carries it (R404). -/
def mirNodeKey (ep : Nat) (s : State) : State :=
  let r := s.kv.secrets.get ep
  mirPost (.nodeKey ep r.gen r.valid r.tenant r.wkey.key (r.wstg.map (·.key))) s

def wrapNode (s : State) (key ep gen : Nat) (staged : Bool) : WrappedKey :=
  { kek := epoch s, key := key, gen := gen, staged := staged, endpoint := ep }

/-- NODE_IMPORT (R237, R243): the first key of a node is installed and leases its first block; another is staged, in place of a staged one and of a
COMMIT of it. -/
def nodeInstall (node key : Nat) (s : State) : State :=
  let h := nthOf s node
  let ep := h.endpoint
  let r := s.kv.secrets.get ep
  if (nodeKeyOf s ep h.tenant).isSome then
    let s := modKv (fun v => { v with stagedNew := setAdd v.stagedNew ep, nodeCommit := setDel v.nodeCommit ep }) s
    mirNodeKey ep (secretPut ep { r with wstg := some (wrapNode s key ep r.gen true) } s)
  else
    let s := secretPut ep { valid := true, wkey := wrapNode s key ep r.gen false, wstg := none, hw := 0, gen := r.gen, tenant := h.tenant } s
    let s := cacheKey ep (loadKey (nodeRef ep) key s)
    mirNodeKey ep (leaseBlock (nodeRef ep) h.tenant s)

/-- The 32-octet slot entry of a statement, as 8 words (R239). -/
def slotEntry (s : State) (i : Nat) : List Nat :=
  let k := slotOf s i
  if !k.active then [i, 0, 0, 0, 0, 0, 0, 0] else
  [i + 2 ^ 16 + 2 ^ 24 * k.usage.code,
   b2n k.imported + 2 ^ 8 * (b2n k.expire + 4 * b2n k.staged.isSome) + 2 ^ 16 * k.tenant,
   k.useCount, Config.kcv k.key, k.kim + 2 ^ 8 * k.keyIndex + 2 ^ 16 * (k.keySource % 2 ^ 16), k.keySource / 2 ^ 16 % 2 ^ 32,
   k.keySource / 2 ^ 48, 0]

/-- The statement of ATTEST (R239): its words up to the signature, which stands for the last 96 octets. -/
def statement (s : State) (c : VCmd) : List Nat :=
  let w := [0x54415645, 1 + 2 ^ 16 * c.args.slots.length, Config.serial, s.get Reg.SYS_ID.REV + 2 ^ 8 * s.get Reg.SYS_ID.PART + 2 ^ 24 * s.get Reg.SYS_ID.FAMILY,
    s.get Reg.FW_RUN_VER.VER, c.asTenant + 2 ^ 16 * lcNow s + 2 ^ 24 * epoch s, s.tick % 2 ^ 64, 0, c.args.nonce] ++
    c.args.slots.flatMap (slotEntry s)
  w ++ [Config.attestSig w]

/-- The words of RANDOM: `len` octets of a draw, the last word filled up with zeros. -/
def randomWords (draw len : Nat) : List Nat :=
  (List.range ((len + 3) / 4)).map (fun i => draw % 256 ^ len / 2 ^ (32 * i) % 2 ^ 32)

/-- What a command that is not refused does, and its result words. It is judged and acts when its time ends (log entry 52). -/
def vaultEffect (c : VCmd) (s : State) : State × List Nat :=
  let a := c.args
  let fresh := Config.drbg s.core.free
  match c.code with
  | 1 => (installSlot a fresh false s, [Config.kcv fresh])
  | 2 => (installSlot a a.wrapped.key true s, [Config.kcv a.wrapped.key])
  | 3 =>
    let key := if a.gen then fresh else a.wrapped.key
    (modSlot a.slot (fun k => { k with staged := some key, stagedLive := false, commitDue := false }) s, [Config.kcv key])
  | 4 =>
    if namesNode c then (modKv (fun v => { v with nodeCommit := setAdd v.nodeCommit (nthOf s (cmdNode c)).endpoint }) s, [])
    else (modSlot a.slot (fun k => { k with commitDue := true }) s, [])
  | 5 => (modSlot a.slot (fun k => { k with staged := none, stagedLive := false, commitDue := false }) s, [])
  | 6 => (modSec (fun x => { x with ctr := x.ctr.erase a.slot }) (modSlot a.slot (fun _ => default) s), [])
  | 7 => (s, slotEntry s a.slot)
  | 8 => (s.emit (.statement c.fn (statement s c)), [])
  | 9 => (s, randomWords fresh a.len)
  | 10 =>
    let key := if a.gen then fresh else a.wrapped.key
    (nodeInstall a.node key s, [Config.kcv key])
  | _ => (forEach a.records (fun r s =>
      let s := secretPut r.1 { r.2 with hw := journalRes s (Config.fpr r.2.wkey.key) } s
      mirNodeKey r.1 (loadKey (nodeRef r.1) r.2.wkey.key s)) s, [])

/-- The DRBG gives output to a command, refused or not (R231). -/
def drawsDrbg (c : VCmd) : Bool := c.code == 1 || c.code == 9 || ((c.code == 3 || c.code == 10) && c.args.gen)

/-- A command's completion: to the PF's registers or the function's CMDCPL ring. -/
def vaultPost (c : VCmd) (status : Nat) (result : List Nat) (s : State) : State :=
  if c.reg then
    let s := forEach (List.range 16) (fun i s => s.put (Reg.KV_RSPi.RSP i) (if status = 0 then result.getD i 0 else 0)) s
    (s.put Reg.KV_STAT.DONE 1).putB Reg.KV_STAT.DENIED (status != 0)
  else completeCmd c.fn c.tag (c.code + 0x40) c.asTenant status c.discard result s

/-- The endpoint whose record a refused NODE_IMPORT or NODE_RESTORE would have reached first (R486). -/
def vaultEndpoint (s : State) (c : VCmd) : Nat :=
  if c.code = 10 then (nthOf s c.args.node).endpoint else (c.args.records.head?.map (·.1)).getD 0

/-- The running command ends at its fixed time, and the next one starts on that clock. -/
def vaultFinish (c : VCmd) (s : State) : State :=
  let s := (modKv (fun v => { v with running := none }) s).put Reg.KV_STAT.BUSY 0
  let s := match refusal s c with
    | some r =>
      let s := when (r == 3 && decide (10 ≤ c.code) && !secretsOpen s) (memRefuse 1 (vaultEndpoint s c) 0x0C) s
      let s := lpe (0x0A0 + r) s
      vaultPost c stDENIED [] (if drawsDrbg c then s.drawn else s)
    | none =>
      let (s, result) := vaultEffect c (unwrapUse c s)
      vaultPost c 0 result (if drawsDrbg c then s.drawn else s)
  vaultStart (c.start + Config.usClocks (vaultUs c.code)) s

/-- KV_COMMAND_COMPLETE. -/
def kvComplete (ofs : Nat) (s : State) : State :=
  let s := s.at ofs
  match s.kv.running with
  | some c => if s.clk < c.start + Config.usClocks (vaultUs c.code) then s else vaultFinish c s
  | none => s

def execKvCommandComplete (ofs : Fin 122880) (s : State) : Host.Outcome State Fault Refusal := run (kvComplete ofs) s

/-! ## The commands -/

/-- GENERATE, IMPORT, STAGE, COMMIT, CANCEL, DESTROY, QUERY, ATTEST, RANDOM, NODE_IMPORT and NODE_RESTORE arrive at the vault. -/
def execKeyGenerate (src : VSrc) (a : VArgs) (s : State) : Host.Outcome State Fault Refusal := run (vaultSubmit src 1 a) s
def execKeyImport (src : VSrc) (a : VArgs) (s : State) : Host.Outcome State Fault Refusal := run (vaultSubmit src 2 a) s
def execKeyStage (src : VSrc) (a : VArgs) (s : State) : Host.Outcome State Fault Refusal := run (vaultSubmit src 3 a) s
def execKeyCommit (src : VSrc) (a : VArgs) (s : State) : Host.Outcome State Fault Refusal := run (vaultSubmit src 4 a) s
def execKeyCancel (src : VSrc) (a : VArgs) (s : State) : Host.Outcome State Fault Refusal := run (vaultSubmit src 5 a) s
def execKeyDestroy (src : VSrc) (a : VArgs) (s : State) : Host.Outcome State Fault Refusal := run (vaultSubmit src 6 a) s
def execKeyQuery (src : VSrc) (a : VArgs) (s : State) : Host.Outcome State Fault Refusal := run (vaultSubmit src 7 a) s
def execKvAttest (src : VSrc) (a : VArgs) (s : State) : Host.Outcome State Fault Refusal := run (vaultSubmit src 8 a) s
def execKvRandom (src : VSrc) (a : VArgs) (s : State) : Host.Outcome State Fault Refusal := run (vaultSubmit src 9 a) s
def execNodeImport (src : VSrc) (a : VArgs) (s : State) : Host.Outcome State Fault Refusal := run (vaultSubmit src 10 a) s
def execNodeRestore (src : VSrc) (a : VArgs) (s : State) : Host.Outcome State Fault Refusal := run (vaultSubmit src 11 a) s

/-- KV_INVALID_CODE: a code that is not in the table of R231, written through KV_CMD_GO. -/
def execKvInvalidCode (code : Fin 256) (a : VArgs) (s : State) : Host.Outcome State Fault Refusal :=
  run (fun s => if 1 ≤ code.val && decide (code.val ≤ 11) then s
    else vaultSubmit { reg := true, fn := 0 } code a s) s

/-! ## Key changes at a tick boundary (R235 to R237) -/

/-- A committed slot key becomes current; a staged key lives from the boundary after its STAGE. -/
def slotBoundary (k : Nat) (s : State) : State :=
  let x := slotOf s k
  match x.staged with
  | none => s
  | some key =>
    if x.commitDue then
      loadKey k key (modSlot k (fun y => { y with key := key, staged := none, stagedLive := false, commitDue := false }) s)
    else if x.stagedLive then s else modSlot k (fun y => { y with stagedLive := true }) s

/-- A committed node key becomes current: the record carries it wrapped anew under the next generation (R242). -/
def nodeKeyBoundary (ep : Nat) (s : State) : State :=
  match nodeStagedOf s ep with
  | none => s
  | some key =>
    let r := s.kv.secrets.get ep
    let gen := (r.gen + 1) % 256
    let s := loadKey (nodeRef ep) key s
    mirNodeKey ep (secretPut ep { r with wkey := wrapNode s key ep gen false, wstg := none, gen := gen, hw := (ctrOf s (nodeRef ep)).hw } s)

def keyBoundary (s : State) : State :=
  let s := forEach ((List.filter (fun e => e.2.staged.isSome) s.kv.slots).map (·.1)) slotBoundary s
  forEach s.kv.nodeCommit nodeKeyBoundary (modKv (fun v => { v with nodeCommit := [], stagedNew := [] }) s)

/-! ## The counter journal (R227) -/

/-- The octets of a journal entry (R227). -/
def journalOctets (fp res : Nat) : List Nat :=
  let o := (List.range 12).map (fun i => (fp % 2 ^ 64 + 2 ^ 64 * res) / 256 ^ i % 256)
  let c := crc32c 0xFFFFFFFF o
  o ++ (List.range 4).map (fun i => c / 256 ^ i % 256)

/-- Entries that one half of the journal region holds: 1 MiB of 16 octets each. -/
def journalHalf : Nat := 65536

def journalFill (s : State) : State := s.put Reg.SEC_STAT.JRNL_FILL (s.sec.journal.length * 100 / journalHalf)

/-- At three quarters the highest valid reservation of each fingerprint goes to the other half. -/
def journalCompact (s : State) : State :=
  if s.sec.journal.length * 4 < journalHalf * 3 then s else
  let fps := (s.sec.journal.filter (·.2.2)).foldl (fun l e => setAdd l e.1) []
  modSec (fun c => { c with journal := fps.map (fun f => (f, journalRes s f, true)) }) (secInc Reg.SEC_JRNL_COMPACT.CNT s)

/-- JOURNAL_ENTRY_WRITTEN: the reservation entry that a key's lease waits for has been written; `good` says that its CHK reads
back right. -/
def journalWritten (ref : Nat) (good : Bool) (s : State) : State :=
  match (ctrOf s ref).lease with
  | none => s
  | some l =>
    if !l.journal then s else
    let fp := Config.fpr (if ref < 4096 then (slotOf s ref).key else (s.kv.secrets.get (ref - 4096)).wkey.key)
    let res := journalRes s fp + 65536
    let s := modSec (fun c => { c with journal := c.journal ++ [(fp, res, good)] }) (when (!good) (secInc Reg.SEC_JRNL_BAD.CNT) s)
    let s := s.emit (.lanes "flash journal" (journalOctets fp res))
    let s := journalFill (journalCompact s)
    if good && decide (l.hw ≤ res) then
      leaseSettle ref (modCtr ref (fun c => { c with lease := some { l with journal := false } }) s)
    else s

def execJournalEntryWritten (ref : Fin 8392704) (good : Bool) (s : State) : Host.Outcome State Fault Refusal :=
  run (journalWritten ref good) s

/-! ## Zeroise (R246 to R248) and entropy (R240) -/

/-- The part zeroises for a cause: 1 TAMPER_N, 2 supply, 3 clock, 4 temperature, 5 at power-up. -/
def zeroise (cause : Nat) (s : State) : State :=
  let s := modKv (fun v => { v with slots := [], kekD := false, drbg := false, epochDue := true }) s
  let s := modSec (fun c => { c with cache := [] }) s
  let s := forEach (List.range 16) (fun i s => (s.put (Reg.KV_CMD_ARGi.ARG i) 0).put (Reg.KV_RSPi.RSP i) 0) s
  let s := (s.put Reg.KV_SLOTS_USED.USED 0).put Reg.KV_STATE.STATE 1
  let s := modKv (fun v => { v with secrets := [] }) (s.put (Reg.MEM_WINw_STAT.STATE 1) 0)
  let s := { s with mem := { s.mem with fillQ := setDel s.mem.fillQ 1 } }
  lpe 0x092 ((s.put Reg.KV_STATE.CAUSE cause).put Reg.SEC_STAT.ZEROISED 1)

/-- A low pulse of a width on TAMPER_N zeroises: always from 200 ns, never below 100 ns, and between as the filter acts
(log entry 12). -/
def tamperActs (s : State) (ns : Nat) : Bool := decide (100 + Config.tamperThr s.core.free % 101 ≤ ns)

/-- The next fuse of the epoch row is burnt (R245). -/
def burnEpoch (s : State) : State :=
  let n := min 64 (epoch s + 1)
  { s.put Reg.KV_STATE.EPOCH n with otp := { s.otp with epoch := n } }

/-- EPOCH_ADVANCE: the Warden burns the next fuse of the epoch row. -/
def epochAdvance (s : State) : State :=
  if s.kv.epochDue then
    burnEpoch (modKv (fun v => { v with epochDue := false }) s)
  else s

def execEpochAdvance (s : State) : Host.Outcome State Fault Refusal := run epochAdvance s

/-- ENTROPY_HEALTH_FAIL. -/
def execEntropyHealthFail (s : State) : Host.Outcome State Fault Refusal := run (fun s => s.put Reg.KV_STATE.ENT_OK 0) s

/-- ENTROPY_RECOVERY: the source has passed 1,024 consecutive samples, and the DRBG can be seeded. A zeroised DRBG stays gone until
PORST_N. -/
def execEntropyRecovery (s : State) : Host.Outcome State Fault Refusal :=
  run (fun s => (modKv (fun v => { v with drbg := !zeroised s }) s).put Reg.KV_STATE.ENT_OK 1) s

end Sys2Proof.Machine
end

