-- ==== Sys2Proof/Machine/Forwarding.lean ====
section
/-! DEFINITION. The commands of the forwarding pipelines and the flood engine (chapter 8), and what a tick boundary does there. -/

namespace Sys2Proof.Machine

/-! ## Entries as words (R249, R250, R256) -/

/-- The words of an exact-match entry. -/
def emtPack (e : EmtEntry) : List Nat :=
  [b2n e.valid + 2 * (e.origin % 4) + 16 * (e.ty % 16) + 256 * (e.tenant % 256) + 65536 * (e.tables % 4),
   bitsAt e.key 0 32, bitsAt e.key 32 32, bitsAt e.key 64 32, bitsAt e.key 96 32,
   e.result % 2 ^ 23 + 2 ^ 24 * (e.action % 16), e.nh % 256, e.sid % 65536 + 65536 * (e.lastUse % 65536)]

/-- The entry that eight words hold. -/
def emtUnpack (w : Nat → Nat) : EmtEntry :=
  { valid := bitAt (w 0) 0, origin := bitsAt (w 0) 1 2, ty := bitsAt (w 0) 4 4, tenant := bitsAt (w 0) 8 8, tables := bitsAt (w 0) 16 2,
    key := w 1 + 2 ^ 32 * w 2 + 2 ^ 64 * w 3 + 2 ^ 96 * w 4, result := bitsAt (w 5) 0 23, action := bitsAt (w 5) 24 4,
    nh := bitsAt (w 6) 0 8, sid := bitsAt (w 7) 0 16, lastUse := bitsAt (w 7) 16 16 }

/-- The words of an NT-H entry. -/
def nthPack (x : NtH) : List Nat :=
  [b2n x.valid + 2 * (x.state % 4) + 8 * b2n x.nkey + 16 * b2n x.aptP + 32 * (x.aptN % 16) + 512 * b2n x.aptM + 65536 * (x.tenant % 256),
   x.endpoint % 2 ^ 23, bitsAt x.eui 0 32, bitsAt x.eui 32 32, x.short % 65536, ofSigned 32 x.aptO, ofSigned 24 x.aptD,
   bitsAt x.tLast 0 32, bitsAt x.tLast 32 16, x.fcIn % 2 ^ 32, b2n x.fcValid + 256 * (x.lastEngine % 128),
   x.lastRssi % 2 ^ 12 + 2 ^ 12 * (x.lastLqi % 256), 0, 0, 0, 0]

/-- The words of an NT-C entry. -/
def ntcPack (x : NtC) : List Nat :=
  [b2n x.valid + 2 * b2n x.isLocal + 4 * b2n x.routed + 256 * (x.tenant % 256) + 65536 * (x.homeNh % 256),
   x.node % 2 ^ 18, x.parent % 2 ^ 23 + 2 ^ 31 * b2n x.parentRoot, bitsAt x.iid 0 32, bitsAt x.iid 32 32, bitsAt x.eui 0 32,
   bitsAt x.eui 32 32, x.expireS % 2 ^ 32, 0, 0, 0, 0, 0, 0, 0, 0]

/-- The NT-C entry that sixteen words hold. -/
def ntcUnpack (w : Nat → Nat) : NtC :=
  { valid := bitAt (w 0) 0, isLocal := bitAt (w 0) 1, routed := bitAt (w 0) 2, tenant := bitsAt (w 0) 8 8, homeNh := bitsAt (w 0) 16 8,
    node := bitsAt (w 1) 0 18, parent := bitsAt (w 2) 0 23, parentRoot := bitAt (w 2) 31, iid := w 3 + 2 ^ 32 * w 4,
    eui := w 5 + 2 ^ 32 * w 6, expireS := w 7 % 2 ^ 32 }

/-- Writes words into the registers of a buffer, from register 0 on. -/
def bufPut (r : Nat → Fld) (l : List Nat) (s : State) : State := forEach l.zipIdx (fun x s => s.put (r x.2) x.1) s

/-! ## Table commands (R268, R269) -/

/-- FWD_TCMD.BUSY falls and STATUS holds the outcome once the operation's clocks have passed. -/
def tcmdSettle (s : State) : State :=
  if s.on Reg.FWD_TCMD.BUSY && decide (s.fwd.tcmdEnd ≤ s.clk) then (s.put Reg.FWD_TCMD.STATUS s.fwd.tcmdStatus).put Reg.FWD_TCMD.BUSY 0 else s

/-- The entry in FWD_TBUF. -/
def tbuf (s : State) : EmtEntry := emtUnpack (fun i => s.get (Reg.FWD_TBUFi.WORD i))

/-- An operation begins: OP and TABLE take the values written, after what was learned before has gone in. -/
def tcmdStart (op table : Nat) (s : State) : State :=
  learnRun 1 (learnRun 0 ((s.put Reg.FWD_TCMD.OP op).put Reg.FWD_TCMD.TABLE table))

/-- An operation has its outcome; BUSY reads 1 for its clocks, and STATUS holds the outcome then. -/
def tcmdAnswer (clocks : Nat) (r : State × Nat) : State :=
  tcmdSettle (modFwd (fun w => { w with tcmdEnd := r.1.clk + clocks, tcmdStatus := r.2 }) (r.1.put Reg.FWD_TCMD.BUSY 1))

/-- A write of FWD_TCMD with GO = 1: ignored and counted while the operation before runs; otherwise the operation runs. -/
def tcmd (ofs op table clocks : Nat) (f : State → State × Nat) (s : State) : State :=
  regAccess Reg.FWD_TCMD.GO.addr (fun s =>
    let s := tcmdSettle (s.at ofs)
    if s.on Reg.FWD_TCMD.BUSY then s.inc Reg.FWD_TCMD_IGN.CNT else tcmdAnswer clocks (f (tcmdStart op table s))) s

def tableOff (s : State) (p : Nat) : Bool := !pdOn s (20 + p)

/-- READ of one table. A bucket beyond the table reads free values (log entry 15). -/
def tableRead (table : Nat) (s : State) : State × Nat :=
  if 2 ≤ table then (s, stBadEntry)
  else if tableOff s table then (s, stOff)
  else
    let b := s.get Reg.FWD_TLOC.BUCKET
    let k := 4 * b + s.get Reg.FWD_TLOC.SLOT
    (bufPut Reg.FWD_TBUFi.WORD
      (if 98304 ≤ b then (List.range 8).map (Config.emtBeyond k) else emtPack (emtAt s table k)) s, stOk)

/-- The TYPE of a key is one of R256's. SEARCH and DELETE act on a key, of which ORIGIN is no part. -/
def EmtEntry.okType (e : EmtEntry) : Bool := decide (1 ≤ e.ty) && decide (e.ty ≤ 4)

/-- SEARCH of one table. -/
def tableSearch (table : Nat) (s : State) : State × Nat :=
  if 2 ≤ table || !(tbuf s).okType then (s, stBadEntry)
  else if tableOff s table then (s, stOff)
  else
    let e := tbuf s
    match emtFind s table e.ty e.tenant e.key with
    | none => (s, stNotFound)
    | some k =>
      ((bufPut Reg.FWD_TBUFi.WORD (emtPack (emtAt s table k)) s).put Reg.FWD_TLOC.BUCKET (k / 4) |>.put Reg.FWD_TLOC.SLOT (k % 4), stOk)

/-- DELETE of the entry with a key, of any origin. -/
def tableDelete (p : Nat) (e : EmtEntry) (s : State) : State × Nat :=
  match emtFind s p e.ty e.tenant e.key with
  | none => (s, stNotFound)
  | some k => (emtClear p k s, stOk)

/-- REPLACE of the STATIC entry with the same key. -/
def tableReplace (p : Nat) (e : EmtEntry) (s : State) : State × Nat :=
  match emtFind s p e.ty e.tenant e.key with
  | none => (s, stNotFound)
  | some k => if (emtAt s p k).origin = 2 then (emtPut p k e s, stOk) else (s, stOrigin)

/-- What INSERT and REPLACE refuse of the entry itself. -/
def entryCheck (e : EmtEntry) : Option Nat :=
  if !(e.okForm && e.valid) then some stBadEntry else if e.origin != 2 then some stOrigin else none

def onTable (p : Nat) (op : Nat → EmtEntry → State → State × Nat) (e : EmtEntry) (s : State) : State × Nat :=
  if tableOff s p then (s, stOff) else op p e s

/-- An operation on EMT0 and then on EMT1; `undo` restores EMT0 where EMT1 fails. -/
def onBoth (op : Nat → EmtEntry → State → State × Nat) (undo : State → State → State) (e : EmtEntry) (s : State) : State × Nat :=
  let (s0, st0) := onTable 0 op e s
  if st0 ≠ stOk then (s0, st0) else
  let (s1, st1) := onTable 1 op e s0
  if st1 = stOk then (s1, stOk) else (undo s s1, st1)

/-- An operation on the table or tables that TABLE names. -/
def onTables (table : Nat) (op : Nat → EmtEntry → State → State × Nat) (undo : State → State → State) (e : EmtEntry) (s : State) :
    State × Nat :=
  match table with
  | 0 => onTable 0 op e s
  | 1 => onTable 1 op e s
  | 2 => onBoth op undo e s
  | _ => (s, stBadEntry)

/-- EMT0's entries as they were. -/
def undoEntries (old s : State) : State := emtSync 0 (modPipe 0 (fun x => { x with emt := old.fwd.p0.emt }) s)

/-- The entry inserted into EMT0 goes. -/
def undoInsert (e : EmtEntry) (_old s : State) : State := (tableDelete 0 e s).1

/-- The entries of both tables with a key. -/
def keyEntries (s : State) (e : EmtEntry) : List EmtEntry := [0, 1].filterMap (fun p => emtLookup s p e.ty e.tenant e.key)

/-- A command that has changed the tables touches what the comparer found of the entries it wrote, cleared and overwrote (R271). -/
def tableTouch (table : Nat) (l : List EmtEntry) (r : State × Nat) : State × Nat :=
  if r.2 = stOk then (diffTouch table l r.1, r.2) else r

def tableInsertAll (table : Nat) (s : State) : State × Nat :=
  let e := tbuf s
  if table = 3 then (s, stBadEntry) else
  match entryCheck e with
  | some st => (s, st)
  | none => tableTouch table [e] (onTables table emtInsert (undoInsert e) e s)

def tableDeleteAll (table : Nat) (s : State) : State × Nat :=
  let e := tbuf s
  if !e.okType then (s, stBadEntry) else tableTouch table (keyEntries s e) (onTables table tableDelete undoEntries e s)

def tableReplaceAll (table : Nat) (s : State) : State × Nat :=
  let e := tbuf s
  if table = 3 then (s, stBadEntry) else
  match entryCheck e with
  | some st => (s, st)
  | none => tableTouch table (e :: keyEntries s e) (onTables table tableReplace undoEntries e s)

/-- Tables that an operation takes its time on. -/
def tablesOf (table : Nat) : Nat := if table = 2 then 2 else 1

/-- TCMD_READ (R268). -/
def execTcmdRead (ofs : Fin 122880) (table : Fin 4) (s : State) : Host.Outcome State Fault Refusal :=
  run (tcmd ofs 1 table 12 (tableRead table)) s

/-- TCMD_SEARCH (R268). -/
def execTcmdSearch (ofs : Fin 122880) (table : Fin 4) (s : State) : Host.Outcome State Fault Refusal :=
  run (tcmd ofs 2 table 12 (tableSearch table)) s

/-- TCMD_INSERT (R259, R268, R269). `took` is the clocks it takes, which R259 bounds. -/
def execTcmdInsert (ofs : Fin 122880) (table : Fin 4) (took : Fin 4113) (s : State) : Host.Outcome State Fault Refusal :=
  run (tcmd ofs 3 table (min took (insertClocks s (if table = 1 then 1 else 0) + (if table = 2 then insertClocks s 1 else 0)))
    (tableInsertAll table)) s

/-- TCMD_DELETE (R268, R269). -/
def execTcmdDelete (ofs : Fin 122880) (table : Fin 4) (s : State) : Host.Outcome State Fault Refusal :=
  run (tcmd ofs 4 table (12 * tablesOf table) (tableDeleteAll table)) s

/-- TCMD_REPLACE (R268, R269). -/
def execTcmdReplace (ofs : Fin 122880) (table : Fin 4) (s : State) : Host.Outcome State Fault Refusal :=
  run (tcmd ofs 5 table (12 * tablesOf table) (tableReplaceAll table)) s

/-- TCMD_INVALID_OP: OP 0, 6 or 7. -/
def execTcmdInvalidOp (ofs : Fin 122880) (op : Fin 3) (table : Fin 4) (s : State) : Host.Outcome State Fault Refusal :=
  run (tcmd ofs (if op = 0 then 0 else 5 + op) table 0 (fun s => (s, stBadEntry))) s

/-! ## Node-table commands (R251) -/

/-- A write of FWD_NTCMD with GO = 1. -/
def ntcmd (op region : Nat) (f : Nat → State → State × Nat) (s : State) : State :=
  regAccess Reg.FWD_NTCMD.GO.addr (fun s =>
    let s := (s.put Reg.FWD_NTCMD.OP op).put Reg.FWD_NTCMD.REGION region
    let i := s.get Reg.FWD_NTIDX.INDEX
    let (s, st) := if region = 0 && decide (262144 ≤ i) then (s, 1) else f i s
    s.put Reg.FWD_NTCMD.STATUS st) s

/-- NTCMD_READ: an NT-H or NT-C entry into FWD_NTBUF. -/
def execNtcmdRead (region : Fin 2) (s : State) : Host.Outcome State Fault Refusal :=
  run (ntcmd 0 region (fun i s =>
    if region = 0 then (bufPut Reg.FWD_NTBUFi.WORD (nthPack (nthOf s i)) s, 0)
    else
      let s := ntcRead i s
      (bufPut Reg.FWD_NTBUFi.WORD (ntcPack (ntcOf s i)) s, 0))) s

/-- NTCMD_WRITE: NT-C entries with LOCAL = 0 only. -/
def execNtcmdWrite (region : Fin 2) (s : State) : Host.Outcome State Fault Refusal :=
  run (ntcmd 1 region (fun i s =>
    let x := ntcUnpack (fun j => s.get (Reg.FWD_NTBUFi.WORD j))
    if region = 0 || (ntcOf s i).isLocal || x.isLocal then (s, 2) else (writeNtc i x s, 0))) s

/-! ## Rebuild (R262) -/

/-- EMT_REBUILD: REBUILD is written 1. The entries go at once; CLEARING reads 1 until EMT_CLEAR_DONE (log entry 16). Writing
REBUILD = 1 again does nothing. -/
def execEmtRebuild (p : Fin 2) (s : State) : Host.Outcome State Fault Refusal :=
  run (regAccess (Reg.FWD_EMTp_CTRL.REBUILD p).addr fun s =>
    if s.on (Reg.FWD_EMTp_CTRL.REBUILD p) then s else
    let s := ((s.put (Reg.FWD_EMTp_CTRL.REBUILD p) 1).put (Reg.FWD_EMTp_STAT.CLEARING p) 1).put (Reg.FWD_EMTp_STAT.NEED_REHASH p) 0
    let s := s.put (Reg.FWD_EMTp_STAT.JOIN_DONE p) 0
    let s := staleAll s
    emtSync p (modPipe p (fun x => { x with emt := [], learnQ := [] }) s)) s

/-- EMT_CLEAR_DONE. -/
def execEmtClearDone (p : Fin 2) (s : State) : Host.Outcome State Fault Refusal :=
  run (fun s => s.put (Reg.FWD_EMTp_STAT.CLEARING p) 0) s

/-- JOIN_FILL: the bit reads 1 until the filling is done. -/
def execJoinFill (p : Fin 2) (s : State) : Host.Outcome State Fault Refusal :=
  run (regAccess (Reg.FWD_EMTp_CTRL.JOIN_FILL p).addr fun s =>
    (s.put (Reg.FWD_EMTp_CTRL.JOIN_FILL p) 1).put (Reg.FWD_EMTp_STAT.JOIN_DONE p) 0) s

/-- JOIN_FILL_DONE: the entries of every JOINED node of the tenants whose FP names the table. -/
def execJoinFillDone (p : Fin 2) (s : State) : Host.Outcome State Fault Refusal :=
  run (fun s =>
    if !s.on (Reg.FWD_EMTp_CTRL.JOIN_FILL p) then s else
    let s := joinInstall p (fun t => s.eff (Reg.FWD_Tt_CFG.FP t) == p.val) s
    (s.put (Reg.FWD_EMTp_CTRL.JOIN_FILL p) 0).put (Reg.FWD_EMTp_STAT.JOIN_DONE p) 1) s

/-! ## Aging (R264) -/

/-- The LEARNED entries of a table whose last use is more than AGE seconds ago go. -/
def ageTable (p : Nat) (s : State) : State :=
  let age := s.get Reg.FWD_LEARN.AGE
  let old := ((pipeOf s p).emt.filter (fun e => e.2.valid && e.2.origin == 0 &&
    decide (age < (s.nowSec + 2 ^ 16 - e.2.lastUse % 2 ^ 16) % 2 ^ 16))).map (·.1)
  forEach old (fun k s => (emtClear p k s).inc Reg.FWD_LEARN_AGED.CNT) s

/-- AGING_WALK: AGE = 0 turns aging off; the walker of a pipeline that is off stands still. -/
def execAgingWalk (s : State) : Host.Outcome State Fault Refusal :=
  run (fun s =>
    if s.get Reg.FWD_LEARN.AGE = 0 then s
    else when (pdOn s 21) (ageTable 1) (when (pdOn s 20) (ageTable 0) s)) s

/-! ## Shadow comparison (R270 to R272) -/

/-- FWD_DIV shows the oldest logged difference. -/
def divSync (s : State) : State :=
  match s.fwd.divLog with
  | [] => ((s.put Reg.FWD_DIV.TABLE 0).put Reg.FWD_DIV.KIND 0).put Reg.FWD_DIV.VALID 0 |>.put Reg.FWD_DIV.SID 0
  | (t, k, sid) :: _ => ((s.put Reg.FWD_DIV.TABLE t).put Reg.FWD_DIV.KIND k).put Reg.FWD_DIV.VALID 1 |>.put Reg.FWD_DIV.SID sid

/-- Two entries with one key agree over the compared fields. -/
def sameEntry (a b : EmtEntry) : Bool :=
  a.valid == b.valid && a.origin == b.origin && a.result == b.result && a.action == b.action && a.nh == b.nh && a.sid == b.sid

/-- The kind of difference a shadow entry at `sid` shows against a table, if any: MISSING 0, DIFFERENT 1. Entries of the table
that are not STATIC are never compared. -/
def shadowDiff (s : State) (p : Nat) (x : EmtEntry) : Option Nat :=
  if !(x.valid && bitAt x.tables p) then none else
  match emtLookup s p x.ty x.tenant x.key with
  | none => some 0
  | some e => if e.origin == 2 && !sameEntry e x then some 1 else none

/-- A STATIC table entry is an orphan of a shadow entry (ORPHAN 2). -/
def isOrphan (p : Nat) (e x : EmtEntry) : Bool := !(x.valid && bitAt x.tables p && x.sameKey e)

def diffAdd (p kind sid : Nat) (e : EmtEntry) (s : State) : State :=
  modFwd (fun w => { w with diffs := w.diffs ++
    [{ table := p, kind := kind, sid := sid, tenant := e.tenant, ty := e.ty, key := e.key, due := s.core.ticks + 2, touched := false }] }) s

/-- The tables the comparer walks: those whose pipeline is on and that are not under rebuild. -/
def comparable (s : State) (p : Nat) : Bool := pdOn s (20 + p) && !s.on (Reg.FWD_EMTp_CTRL.REBUILD p)

/-- One tick of a table's walk: RATE slots from its position. -/
def walkTable (p rate : Nat) (shadow : Nat → EmtEntry) (s : State) : State :=
  if !comparable s p then modPipe p (fun x => { x with walkDone := true }) s else
  let pos := (pipeOf s p).walkPos
  let here := (pipeOf s p).emt.filter (fun e => decide (pos ≤ e.1) && decide (e.1 < pos + rate) && e.2.valid && e.2.origin == 2)
  let s := forEach here (fun e s => if isOrphan p e.2 (shadow e.2.sid) then diffAdd p 2 e.2.sid e.2 s else s) s
  modPipe p (fun x => { x with walkPos := pos + rate, walkDone := decide (393216 ≤ pos + rate) }) s

/-- One tick of the shadow's walk. -/
def walkShadow (rate : Nat) (shadow : List (Nat × EmtEntry)) (s : State) : State :=
  let pos := s.fwd.shadowPos
  let here := shadow.filter (fun e => decide (pos ≤ e.1) && decide (e.1 < pos + rate) && decide (e.1 < 65536))
  let s := forEach here (fun e s => forEach [0, 1] (fun p s =>
    if !comparable s p then s else
    match shadowDiff s p e.2 with
    | some k => diffAdd p k e.1 e.2 s
    | none => s) s) s
  modFwd (fun w => { w with shadowPos := pos + rate }) s

/-- The comparer's place at the start of a pass. -/
def passReset (s : State) : State :=
  modPipe 1 (fun x => { x with walkPos := 0, walkDone := false }) (modPipe 0 (fun x => { x with walkPos := 0, walkDone := false })
    (modFwd (fun w => { w with shadowPos := 0, inPass := false }) s))

/-- A shadow read that fails ends the pass without a finding (R272). -/
def shadowReadErr (s : State) : State :=
  (passReset (modFwd (fun w => { w with diffs := [] }) s)).inc Reg.FWD_SHADOW_RDERR.CNT |>.put Reg.FWD_SHADOW_STAT.IN_PASS 0

/-- The comparer is on: EN = 1, and its domain is. -/
def comparerOn (s : State) : Bool := s.on Reg.FWD_SHADOW_CFG.EN && pdOn s 20

/-- A comparer that is off forgets its place and what it was to read again (log entry 17). -/
def comparerOff (s : State) : State := (passReset (modFwd (fun w => { w with diffs := [] }) s)).put Reg.FWD_SHADOW_STAT.IN_PASS 0

/-- The comparer's work in a tick. `shadow` is what the reads of the shadow return (entries not listed are not VALID), none where a
read fails. -/
def shadowTick (shadow : Option (List (Nat × EmtEntry))) (s : State) : State :=
  if !comparerOn s then comparerOff s
  else if s.on Reg.FWD_SHADOW_CFG.PAUSE then s
  else match shadow with
  | none => shadowReadErr s
  | some l =>
    let rate := max 1 (s.get Reg.FWD_SHADOW_CFG.RATE)
    let s := (modFwd (fun w => { w with inPass := true }) s).put Reg.FWD_SHADOW_STAT.IN_PASS 1
    if !(s.fwd.p0.walkDone && s.fwd.p1.walkDone) then
      forEach [0, 1] (fun p s => if (pipeOf s p).walkDone then s
        else walkTable p rate (fun sid => ((List.find? (fun e => e.1 == sid) l).map (·.2)).getD default) s) s
    else
      let s := walkShadow rate l s
      if s.fwd.shadowPos < 65536 then s
      else (passReset s).incWrap Reg.FWD_SHADOW_STAT.PASSES |>.put Reg.FWD_SHADOW_STAT.IN_PASS 0

/-- A repair (R272): counted, and one that fails sets NEED_REHASH. -/
def repair (p kind : Nat) (e x : EmtEntry) (s : State) : State :=
  let (s, st) := match kind with
    | 0 => (match entryCheck x with | some st => (s, st) | none => onTable p emtInsert x s)
    | 1 => (match entryCheck x with | some st => (s, st) | none => onTable p tableReplace x s)
    | _ => onTable p tableDelete e s
  if st = stOk then s.inc Reg.FWD_REPAIR.CNT else s.put (Reg.FWD_EMTp_STAT.NEED_REHASH p) 1

/-- A confirmed difference: its event, its log entry, its count and its repair. -/
def diverge (d : Diff) (x : EmtEntry) (s : State) : State :=
  let s := raisePf 0x42 (d.table + 2 * d.kind) d.sid (s.inc Reg.FWD_DIVERGE.CNT)
  let s := divSync (modFwd (fun w => { w with
    divLog := (if 16 ≤ w.divLog.length then w.divLog.drop 1 else w.divLog) ++ [(d.table, d.kind, d.sid)] }) s)
  if s.on Reg.FWD_SHADOW_CFG.AUTO_REPAIR then
    repair d.table d.kind { (default : EmtEntry) with ty := d.ty, tenant := d.tenant, key := d.key } x s
  else s

/-- The difference is still there by the shadow entry as now read. -/
def stillDiffers (s : State) (d : Diff) (x : EmtEntry) : Bool :=
  comparable s d.table &&
  if d.kind = 2 then
    match emtLookup s d.table d.ty d.tenant d.key with
    | some e => e.origin == 2 && e.sid == d.sid && isOrphan d.table e x
    | none => false
  else
    x.ty == d.ty && x.tenant == d.tenant && x.key == d.key && shadowDiff s d.table x == some d.kind

/-- SHADOW_CONFIRM: the oldest difference found 2 ticks or more ago is read again. `x` is the shadow entry, none where the read
fails. One that a command or a firmware write touched is skipped, and a comparer that is off or paused confirms none. -/
def shadowConfirm (x : Option EmtEntry) (s : State) : State :=
  if !comparerOn s then comparerOff s
  else if s.on Reg.FWD_SHADOW_CFG.PAUSE then s else
  match s.fwd.diffs with
  | [] => s
  | d :: rest =>
    if s.core.ticks < d.due then s else
    match x with
    | none => shadowReadErr s
    | some x =>
      let s := modFwd (fun w => { w with diffs := rest }) s
      if d.touched || !stillDiffers s d x then s else diverge d x s

def execShadowConfirm (x : Option EmtEntry) (s : State) : Host.Outcome State Fault Refusal := run (shadowConfirm x) s

/-- A read of FWD_DIV pops the oldest logged difference; with none logged every field reads 0. -/
def divRead (s : State) : State :=
  if !windowOn s Reg.FWD_DIV.VALID.addr then (s.inc Reg.HIF_PD_OFF_ACC.CNT).emit (.readWord 0 Reg.FWD_DIV.VALID.addr 0) else
  let v := match s.fwd.divLog with
    | [] => 0
    | (t, k, sid) :: _ => t + 2 * k + 8 + 65536 * sid
  (divSync (modFwd (fun w => { w with divLog := w.divLog.drop 1 }) s)).emit (.readWord 0 Reg.FWD_DIV.VALID.addr v)

/-- FWD_DIV_READ. -/
def execFwdDivRead (s : State) : Host.Outcome State Fault Refusal := run divRead s

/-! ## Reassembly (R274) -/

/-- REASSEMBLY_TIMEOUT: every datagram past its timeout is discarded and counted. -/
def execReassemblyTimeout (s : State) : Host.Outcome State Fault Refusal := run reassemblyExpire s

/-! ## Flooding (R281, R283) -/

def maxIntervals (s : State) (t : Nat) : Nat := max 1 (s.get (Reg.FLD_Tt_CFG.EXPIRATIONS t))
def iMax (s : State) (t : Nat) : Nat := iMin s t * 2 ^ s.get (Reg.FLD_Tt_CFG.IMAX t)

/-- The interval of a message has ended: a transmission that found no window is skipped, and the next interval is twice as long, up
to I_max. An abandoned transmission that is sent again stays due (R179). -/
def intervalEnd (m : FloodMsg) (s : State) : State :=
  let m' := { m with start := m.start + m.interval, interval := min (2 * m.interval) (iMax s m.tenant), count := m.count + 1, heard := 0,
                     fired := m.kept.isSome, shot := false, waits := false }
  modFld (fun f => { f with buf := f.buf.map (fun x => if x = m then m' else x) }) (s.incIf (m.fired && m.kept.isNone) Reg.FLD_NO_WIN.CNT)

/-- Every interval that has ended by now. -/
def floodIntervals (s : State) : State :=
  forEach (s.fld.buf.filter (fun m => decide (m.start + m.interval ≤ s.ms) && decide (m.count < maxIntervals s m.tenant))) intervalEnd s

/-- TRICKLE_FIRE: the timer of the buffer's message `i` fires, once in the second half of an interval. Unless k consistent copies have been
heard, a transmission is due. -/
def trickleFire (i : Nat) (s : State) : State :=
  let s := floodIntervals s
  match s.fld.buf[i]? with
  | none => s
  | some m =>
    if m.shot || !s.effOn Reg.FLD_CTRL.EN || decide (s.ms < m.start + m.interval / 2) || decide (maxIntervals s m.tenant ≤ m.count) then s else
    let due := decide (m.heard < max 1 (s.get (Reg.FLD_Tt_CFG.K m.tenant)))
    modFld (fun f => { f with buf := f.buf.set i { m with shot := true, fired := due, fireClk := s.clk } }) s

def execTrickleFire (i : Fin 256) (s : State) : Host.Outcome State Fault Refusal := run (trickleFire i) s

/-- TRICKLE_EXPIRY: messages whose intervals are over leave the buffer. -/
def trickleExpiry (s : State) : State :=
  let s := floodIntervals s
  fldSync (modFld (fun f => { f with buf := f.buf.filter (fun m => decide (m.count < maxIntervals s m.tenant)) }) s)

def execTrickleExpiry (s : State) : Host.Outcome State Fault Refusal := run trickleExpiry s

/-- SEEN_ENTRY_EXPIRY. -/
def execSeenEntryExpiry (s : State) : Host.Outcome State Fault Refusal := run seenExpire s

/-! ## The tick boundary (R254, R261, R264, R270) -/

/-- The pipeline that is to serve a tenant: the one FP names, or the other where the named one is off or MOVE = 1 and the other
is not off itself. -/
def pipeFor (s : State) (t : Nat) : Nat :=
  let p := s.get (Reg.FWD_Tt_CFG.FP t)
  if (!pdOn s (20 + p) || s.on (Reg.FWD_EMTp_CTRL.MOVE p)) && pdOn s (20 + (1 - p)) then 1 - p else p

/-- A tenant comes to another pipeline: its learned entries start empty there, and its JOIN entries are installed. -/
def pipeMove (t p : Nat) (s : State) : State :=
  let s := modFwd (fun w => { w with serving := if p = t % 2 then w.serving.erase t else w.serving.insert t p }) s
  let old := ((pipeOf s p).emt.filter (fun e => e.2.valid && e.2.origin == 0 && e.2.tenant == t)).map (·.1)
  joinInstall p (· == t) (forEach old (emtClear p) s)

/-- What a tick boundary does in the forwarding unit and the flood engine. -/
def fwdBoundary (shadow : Option (List (Nat × EmtEntry))) (s : State) : State :=
  let s := tcmdSettle (learnRun 1 (learnRun 0 s))
  let s := forEach ((List.range 256).filter (fun t => pipeFor s t != pipeServing s t)) (fun t s => pipeMove t (pipeFor s t) s) s
  let s := s.putB Reg.FWD_STAT.FP_SUBST ((List.range 256).any (fun t => pipeFor s t != s.get (Reg.FWD_Tt_CFG.FP t)))
  floodIntervals (shadowTick shadow s)

end Sys2Proof.Machine
end

