-- ==== Sys2Proof/Machine/Host.lean ====
section
/-! DEFINITION. The commands of the host interface (chapter 9), composition (R221, R276 to R280), and what a tick boundary does there. -/

namespace Sys2Proof.Machine

def modHif (f : HifS → HifS) (s : State) : State := { s with hif := f s.hif }

/-! ## Sampling (R295, R297) -/

/-- Descriptors per TX ring and sampling. -/
def fetchMax (s : State) : Nat := min 1024 (max 1 (s.get Reg.HIF_CFG.FETCH_MAX))

/-- The check of one sampled position: it is taken as the host's position, or the ring stops with a code of R297. DEDUCED: log entry 54. -/
def sampleRing (fn r p : Nat) (s : State) : State :=
  if !ringRunning s fn r then s else
  let last := s.get (Reg.HIF_Rr_HPOS.HPOS fn r)
  let pos := s.get (Reg.HIF_Rr_POS.POS fn r)
  let back := decide (2 ^ 31 ≤ posDiff p last)
  if hostProduced r then
    if back then ringError fn r 2 s
    else if ringSize s fn r < posDiff p pos then ringError fn r 1 s
    else s.put (Reg.HIF_Rr_HPOS.HPOS fn r) p
  else if back || decide (ringSize s fn r < posDiff pos p) then ringError fn r 3 s
  else s.put (Reg.HIF_Rr_HPOS.HPOS fn r) p

/-- Entries of a host-produced ring that are published and not yet fetched. -/
def ringReady (s : State) (fn r : Nat) : Nat :=
  if ringRunning s fn r then posDiff (s.get (Reg.HIF_Rr_HPOS.HPOS fn r)) (s.get (Reg.HIF_Rr_POS.POS fn r)) else 0

/-- HIF_FN_STAT.NO_CPL: a TX ring is enabled and TXCPL is not (R292). -/
def noCplSync (fn : Nat) (s : State) : State :=
  s.putB (Reg.HIF_FN_STAT.NO_CPL fn)
    ([0, 1, 2, 3].any (fun r => s.on (Reg.HIF_Rr_CFG.EN fn r)) && !s.on (Reg.HIF_Rr_CFG.EN fn ringTXCPL))

/-- The buffers taken at a sampling from the RXB entries read: at most 1,024, up to the first that cannot be read (R295, R297, R306). -/
def takeBuffers (fn : Nat) (entries : List (Option Nat)) (s : State) : State :=
  let n := min 1024 (ringReady s fn 4)
  let got := (List.range n).map (fun i => entries.getD i (some 0))
  let k := (got.takeWhile (·.isSome)).length
  let pos := s.get (Reg.HIF_Rr_POS.POS fn 4)
  let bufs := (List.range k).map (fun i => ((pos + i) % ringSize s fn 4, (got.getD i none).getD 0 % 2 ^ 64 / 64 * 64))
  let s := forEach (List.range (min n (k + 1))) (fun i s => s.emit (.hostRead fn (slotAddr s fn 4 (pos + i)) (ringBytes 4))) s
  let s := modFn fn (fun q => { q with buffers := q.buffers ++ bufs }) (s.put (Reg.HIF_Rr_POS.POS fn 4) ((pos + k) % 2 ^ 32))
  if k < n then ringError fn 4 4 s else s

/-- The TX fetches a sampling starts: TX0 first, none while TXCPL is off or the part is a follower (R292, R301, R415). -/
def fetchJobs (fn mask : Nat) (kick : Bool) (s : State) : List FetchJob :=
  if !ringRunning s fn ringTXCPL || isFollower s then [] else
  ([0, 1, 2, 3].filter (fun r => bitAt mask r && decide (0 < ringReady s fn r))).map
    (fun r => ⟨fn, r, min (fetchMax s) (ringReady s fn r), kick⟩)

/-- One sampling of a function over the rings of a mask (R295); CMD entries are fetched from the moment FW_READY = 1 (R431). -/
def sampleFn (fn mask : Nat) (kick : Bool) (b : Bell) (s : State) : State :=
  let s := s.emit (.hostRead fn (s.get (Reg.HIF_FN_DBADDR.ADDR fn) / 64 * 64) 64)
  match b.words with
  | none => s.inc Reg.HIF_DB_RDERR.CNT
  | some w =>
    let s := forEach ((List.range 16).filter (fun r => ringExists fn r && bitAt mask r)) (fun r s => sampleRing fn r (w.getD r 0 % 2 ^ 32) s) s
    let s := flushHeld fn ringCMDCPL (flushHeld fn ringTXCPL s)
    let s := when (fn == 0) sbkDrain s
    let s := when (bitAt mask 4) (takeBuffers fn b.rxb) s
    let s := noCplSync fn s
    let s := modHif (fun h => { h with fetchQ := h.fetchQ.filter (fun j => !(j.fn == fn && bitAt mask j.ring)) ++ fetchJobs fn mask kick s }) s
    if bitAt mask ringCMD && s.on Reg.FW_STAT.FW_READY then
      let l := (b.cmds.take (min 16 (ringReady s fn ringCMD))).map (·.map cmdUnpack)
      cmdSettle fn l (modFn fn (fun q => { q with cmdQ := l }) s)
    else s

/-- What a function's doorbell record reads as at the boundary: as the command says, or unchanged where it names none. -/
def bellOf (s : State) (bells : List (Nat × Bell)) (fn : Nat) : Bell :=
  match bells.find? (fun b => b.1 == fn) with
  | some b => b.2
  | none => ⟨some ((List.range 16).map (fun r => s.get (Reg.HIF_Rr_HPOS.HPOS fn r))), [], []⟩

/-- The functions in the order in which a tick serves them. -/
def fnOrder (s : State) : List Nat :=
  let a := s.tick % 257
  let l := activeFns s
  l.filter (fun f => decide (a ≤ f)) ++ l.filter (fun f => decide (f < a))

/-- The boundary sampling of every enabled function. -/
def sampleAll (bells : List (Nat × Bell)) (s : State) : State :=
  forEach (fnOrder s) (fun f s => sampleFn f 0xFFFF false (bellOf s bells f) s) s

/-! ## KICK (R299) -/

/-- A KICK. `merged` says that its function's boundary sampling had not yet issued its doorbell read (within R296's 4 µs), so that
the two are one sampling. -/
def kick (fn rings ofs : Nat) (merged : Bool) (b : Bell) (s : State) : State :=
  let s := s.at ofs
  if !fnOn s fn || !s.on (Reg.HIF_FN_CTRL.EN fn) || s.on (Reg.HIF_FN_STAT.FLR fn) || s.pwr.quiet then s
  else if merged && decide (s.ofs ≤ Config.usClocks 4) then s
  else if s.get Reg.HIF_CFG.KICK_MAX ≤ (s.hif.fns.get fn).kicks then fnCnt fn 0x2040 1 s
  else
    let s := modFn fn (fun q => { q with kicks := q.kicks + 1 }) s
    let s := sampleFn fn (if rings = 0 then 0xFFFF else rings) true b s
    if s.hif.fetchQ.any (fun j => j.fn == fn && j.kick) then s else posRecord fn s

def execKick (fn : Fin 257) (rings : Fin 65536) (ofs : Fin 122880) (merged : Bool) (b : Bell) (s : State) : Host.Outcome State Fault Refusal :=
  run (regAccess (Reg.HIF_PF_KICK.RINGS).addr (kick fn rings ofs merged b)) s

/-! ## Descriptor fetch (R292, R301, R302, R322) -/

/-- The fetch of a ring ends for this sampling; one that a KICK started ends with a position record (R298). -/
def fetchEnd (j : FetchJob) (s : State) : State :=
  let s := modHif (fun h => { h with fetchQ := h.fetchQ.drop 1 }) s
  if j.kick && !s.hif.fetchQ.any (fun i => i.fn == j.fn && i.kick) then posRecord j.fn s else s

/-- One descriptor of the ring has been fetched. -/
def fetchNext (j : FetchJob) (s : State) : State :=
  if j.left ≤ 1 then fetchEnd j s
  else modHif (fun h => { h with fetchQ := { j with left := j.left - 1 } :: h.fetchQ.drop 1 }) s

/-- A descriptor that fails at fetch, with its status. -/
def descBad (s : State) (t : Nat) (d : Desc) : Option Nat :=
  if d.ty ≠ 0 || d.len < 40 || 1280 < d.len || s.eff (Reg.TM_Tt_Qq_CFG.PORT t (d.queue % 32)) ≠ 2 then some stDESC_ERR
  else if !s.on (Reg.HIF_Tt_CFG.EN t) then some stDENIED
  else if d.pkt.isNone then some stDMA_ERR
  else none

/-- The tenant of a descriptor: a VF's own, or the one that the PF's descriptor names. -/
def descTenant (j : FetchJob) (d : Desc) : Nat := if j.fn = 0 then d.tenant % 256 else j.fn - 1

/-- The descriptor at the ring's position. -/
def descRef (s : State) (j : FetchJob) (d : Desc) : DescRef :=
  { id := s.hif.nextDesc, fn := j.fn, ring := j.ring, slot := s.get (Reg.HIF_Rr_POS.POS j.fn j.ring) % ringSize s j.fn j.ring,
    cookie := d.cookie, tenant := descTenant j d, discard := false }

/-- A descriptor is fetched: the ring's position and the counts move on. -/
def descCount (j : FetchJob) (d : Desc) (s : State) : State :=
  let s := modHif (fun h => { h with nextDesc := h.nextDesc + 1 }) (s.incWrap (Reg.HIF_Rr_POS.POS j.fn j.ring))
  tcntInc (descTenant j d) 0x2010 1 (modFn j.fn (fun q => { q with outstanding := q.outstanding + 1 }) s)

/-- A good descriptor's packet takes its words of the packet buffer and waits for composition, after the cut-off for that of the next
tick. -/
def descAccept (r : DescRef) (d : Desc) (p : Packet) (s : State) : State :=
  let t := r.tenant
  let w := wordsOf d.len + 1
  let s := poolTake w (modTq t (d.queue % 32) (fun x => { x with reserved := x.reserved + w }) s)
  let s := tqTel t (d.queue % 32) (fun x => { x with maxW := max x.maxW (tqOf s t (d.queue % 32)).depth }) s
  let late := !s.hif.intakeOpen
  let s := if late then
    overrun Reg.SYS_OVR_STAT.FETCH_LATE (tcntInc t 0x2030 1 (s.inc Reg.HIF_FETCH_LATE.CNT)) else s
  let f : FDesc :=
    { src := .desc r, tenant := t, node := 0, queue := d.queue % 32, profile := d.profile % 16, ar := d.ar, bcast := false,
      lifetime := if d.lifetime % 65536 = 0 then 65535 else d.lifetime % 65536, words := w, tick := s.core.ticks,
      compTick := s.core.ticks + b2n late, made := 0, total := 0, tried := none, srh := none, sizes := [], pkt := p }
  modHif (fun h => { h with fetched := h.fetched ++ [f] }) s

/-- The host addresses that the fetch of a descriptor reads: its slot's, and its packet's where the descriptor is not refused before (R300, R301). -/
def descReads (j : FetchJob) (d : Option Desc) (s : State) : State :=
  let s := s.emit (.hostRead j.fn (slotAddr s j.fn j.ring (s.get (Reg.HIF_Rr_POS.POS j.fn j.ring))) (ringBytes j.ring))
  match d with
  | none => s
  | some d =>
    let bad := descBad s (descTenant j d) d
    if bad.isNone || bad == some stDMA_ERR then s.emit (.hostRead j.fn d.addr d.len) else s

/-- The descriptor at the front of the fetches in hand is read: `d` is its content, none where it cannot be read. -/
def descFetch (ofs : Nat) (d : Option Desc) (s : State) : State :=
  let s := s.at ofs
  match s.hif.fetchQ with
  | [] => s
  | j :: _ =>
    if !ringRunning s j.fn j.ring || !ringRunning s j.fn ringTXCPL then fetchEnd j s
    else if ringFree s j.fn ringTXCPL ≤ (s.hif.fns.get j.fn).outstanding then fetchEnd j s
    else
    let s := descReads j d s
    match d with
    | none => fetchEnd j (ringError j.fn j.ring 4 s)
    | some d =>
      let t := descTenant j d
      let w := wordsOf d.len + 1
      let bad := descBad s t d
      let blocked := decide (s.get (Reg.TM_Tt_Qq_CFG.LIMIT t (d.queue % 32)) < (tqOf s t (d.queue % 32)).depth + w)
      if bad.isNone && blocked then fetchEnd j (tcntInc t 0x2928 1 (s.inc Reg.TM_Q_BLOCK.CNT))
      else if bad.isNone && decide (s.get Reg.TM_POOL.FREE < w) then fetchEnd j (s.inc Reg.HIF_PKTBUF_FULL.CNT)
      else
        let r := descRef s j d
        let s := descCount j d s
        fetchNext j (match bad, d.pkt with
          | none, some p => descAccept r d p s
          | st, _ => completeTx r (st.getD stDMA_ERR) 0 0 s)

def execDescriptorFetch (ofs : Fin 122880) (d : Option RawDesc) (s : State) : Host.Outcome State Fault Refusal :=
  run (descFetch ofs (d.map descUnpack)) s

/-! ## Composition (R163, R168, R221, R276 to R280, R335) -/

/-- What the key and counter selection comes to (R221). -/
inductive KeyRes where
  | denied
  | wait (ref : Nat)
  | ok (ref counter : Nat)
deriving DecidableEq, Repr

/-- Octets of the PSDU that `len` 6LoWPAN octets become: they gain the MHR, the auxiliary security header and the MIC of the key and level they are
sent with, and on the PHYs that have one the FCS (R192, R217). -/
def psduWith (s : State) (t ep prof len : Nat) (bcast : Bool) : Nat :=
  let phy := pfPhy (profOf s prof)
  len + mhrLen phy bcast + (txKey s t ep bcast (phy == 3)).elim 0 (secOctets s t) + (if phy = 3 then 0 else Config.fcsLen phy)

/-- Selects the key and takes its counter; a node key that does not unwrap counts (R243). -/
def secureTx (t ep : Nat) (bcast ld : Bool) (s : State) : State × KeyRes :=
  let s := windowKeys s
  let s := when (!bcast && txUnwrapBad s t ep) (secInc Reg.SEC_UNWRAP_FAIL.CNT) s
  match (if secTxOn s then txKey s t ep bcast ld else none) with
  | none => (s, .denied)
  | some ref =>
    if keySpent s ref then (s.incIf (exhausted (ctrOf s ref) && pdOn s 18) Reg.SEC_EXHAUST.CNT, .denied) else
    match takeCounter ref t s with
    | (s, none) => (s, .wait ref)
    | (s, some c) => (s, .ok ref c)

/-- A fetched packet ends without a frame, or at its last one: its descriptor completes. -/
def descEnd (d : FDesc) (status frags : Nat) (s : State) : State :=
  match d.src with
  | .desc r => completeTx r status 0 frags s
  | .firmware t => s.emit (.toFirmware "sent" [t, d.node, status])
  | _ => s

def dropDesc (d : FDesc) (s : State) : State :=
  modHif (fun h => { h with fetched := h.fetched.filter (fun x => x != d) }) s

/-- A frame is composed: it enters its queue at the end of the tick (R335); a frame of firmware joins those that wait for a TX_FW or TX_CSMA window. -/
def frameMade (f : AirFrame) (s : State) : State :=
  match f.src with
  | .firmware _ => modMac (fun c => { c with fwq := c.fwq ++ [airFw f] }) s
  | _ => { s with tm := { s.tm with order := s.tm.order + 1, composed := s.tm.composed ++ [f] } }

/-- A composed frame enters its queue (R335). -/
def enterTq (f : AirFrame) (s : State) : State :=
  let s := poolTake f.words (modTq f.tenant f.queue (fun x => { x with air := airInsert f x.air }) s)
  tqSync f.tenant f.queue (tqCnt f.tenant f.queue 0 1 (tqTel f.tenant f.queue
    (fun x => { x with held := true, arr := x.arr + 1, maxW := max x.maxW (tqOf s f.tenant f.queue).depth }) s))

/-- A reservation ends. -/
def reserveEnd (t q w : Nat) (s : State) : State :=
  tqSync t q (poolGive w (modTq t q (fun x => { x with reserved := x.reserved - w }) s))

/-- The end of a composition tick: the frames composed in it replace their packets' reservations in the queues' depths (R322, R335). -/
def tqEnter (s : State) : State :=
  let fs := s.tm.composed
  let rs := s.tm.freed
  forEach fs enterTq (forEach rs (fun x s => reserveEnd x.1 x.2.1 x.2.2 s) { s with tm := { s.tm with composed := [], freed := [] } })

/-- The reservation of a fetched packet that makes no frame ends, and that of a packet whose frames are composed ends with the tick (R322). -/
def unreserve (d : FDesc) (s : State) : State :=
  match d.src with
  | .firmware _ => s
  | _ => reserveEnd d.tenant d.queue d.words s
def replaceRes (d : FDesc) (s : State) : State :=
  match d.src with
  | .firmware _ => s
  | _ => { s with tm := { s.tm with freed := s.tm.freed ++ [(d.tenant, d.queue, d.words)] } }

/-- The descriptor's record of the frames it makes. -/
def startRun (d : FDesc) (n : Nat) (s : State) : State :=
  match d.src with
  | .desc r => { s with tm := { s.tm with runs := s.tm.runs ++ [⟨r, n, n, 0, 0⟩] } }
  | _ => s

/-- One frame of a packet has its outcome before it enters a queue. -/
def outcomeEnd (d : FDesc) (status : Nat) (s : State) : State :=
  match d.src with
  | .desc r => descFrame r status 0 s
  | .firmware t => s.emit (.toFirmware "sent" [t, d.node, status])
  | _ => s

/-- Composes the frames of a resolved packet, from the first not yet made; each comes with its 6LoWPAN octets. Where no counter is
usable the rest waits. -/
def composeFrames (d : FDesc) (node ep : Nat) : List (Nat × Nat) → State → State
  | [], s => dropDesc d (replaceRes d s)
  | (i, plain) :: l, s =>
    let len := psduWith s d.tenant ep d.profile plain d.bcast
    match compCheck s d.tenant d.profile len with
    | some (st, cnt) => composeFrames d node ep l (outcomeEnd d st (s.inc cnt))
    | none =>
      match secureTx d.tenant ep d.bcast (pfPhy (profOf s d.profile) == 3) s with
      | (s, .denied) => composeFrames d node ep l (outcomeEnd d stDENIED s)
      | (s, .wait ref) =>
        let s := if d.tried.isSome && d.made == i then s else counterWait ref s
        modHif (fun h => { h with fetched := h.fetched.map (fun x => if x = d then { d with node := node, made := i, total := i + l.length + 1, tried := some s.core.ticks } else x) }) s
      | (s, .ok ref c) =>
        let f : AirFrame :=
          { src := d.src, tenant := d.tenant, queue := d.queue, node := node, endpoint := ep, bcast := d.bcast, profile := d.profile,
            psduLen := len, ar := d.ar, secured := true, counter := c, keyRef := ref, sec := some (secHdr s d.tenant ref c (txLevel s d.tenant)), seq := Config.seqNo s.core.free % 256,
            expire := d.tick + 80 * d.lifetime, retries := 0, fragIx := i, fragN := i + l.length + 1, srh := d.srh, order := s.tm.order,
            airNs := tOn (profOf s d.profile) len / 3, words := wordsOf len + 1, clk := s.clk }
        composeFrames d node ep l (frameMade f (secInc Reg.SEC_TX_ENC.CNT s).drawn)

/-- The largest 6LoWPAN octets of a frame of a tenant, none without a limit (R279). -/
def fragMax (s : State) (t : Nat) : Option Nat :=
  if s.get (Reg.FWD_Tt_FRAG.MAX t) = 0 then none else some (max 40 (s.get (Reg.FWD_Tt_FRAG.MAX t)))

/-- Octets that a routing header adds to its packet before compression, with the outer header that carries it (R278): RFC 6554 gives 8 octets and
the addresses without the octets that CmprI and CmprE leave out, filled up to a multiple of 8. -/
def Srh.octets (h : Srh) : Nat :=
  let l := 8 + (h.addrs.length - 1) * (16 - h.cmprI) + (16 - h.cmprE)
  (l + 7) / 8 * 8 + (if h.encap then 40 else 0)

/-- The 6LoWPAN octets of the frames of a packet of `raw` octets that compresses to `size` (R279). Above the limit the first fragment has a header
of 4 octets and the compressed headers, the others one of 5 octets, and all but the last stand for a multiple of 8 octets of the packet, as
RFC 4944 gives (PRESUMED, log entry 53). -/
def fragSizes (limit : Option Nat) (raw size : Nat) : List Nat :=
  match limit with
  | none => [size]
  | some m =>
    if size ≤ m then [size] else
    let first := (m - 4 + raw - size) / 8 * 8
    let more := (m - 5) / 8 * 8
    let rest := raw - first
    (4 + first + size - raw) :: (List.range ((rest + more - 1) / more)).map (fun i => 5 + min more (rest - i * more))

/-- The sizes of a packet's frames, from its size after compression: a frame that firmware gives is one. -/
def frameSizes (s : State) (d : FDesc) (size : Nat) : List Nat :=
  match d.src with
  | .firmware _ => [d.pkt.len]
  | _ => fragSizes (fragMax s d.tenant) (d.pkt.len + d.srh.elim 0 Srh.octets) size

/-- The frames still to make of a packet, each with its place and its size. -/
def framesLeft (d : FDesc) : List (Nat × Nat) := (d.sizes.zipIdx.map (fun x => (x.2, x.1))).drop d.made

/-- A packet whose first hop is known is composed; its frames are those of the tick in which it is composed first. -/
def composeTo (d : FDesc) (node : Nat) (size : Nat) (s : State) : State :=
  let d' := if d.sizes.isEmpty then { d with sizes := frameSizes s d size } else d
  let s := modHif (fun h => { h with fetched := h.fetched.map (fun x => if x = d then d' else x) }) s
  let fs := framesLeft d'
  composeFrames d' node (nthOf s node).endpoint fs (if d.tried.isNone then startRun d fs.length s else s)

/-- A descriptor's packet is resolved (R276): composed, sent to the backhaul, seeded or ended. -/
def composeDesc (d : FDesc) (size : Nat) (s : State) : State :=
  let t := d.tenant
  let done (st : Nat) (s : State) : State := dropDesc d (descEnd d st 0 (unreserve d s))
  if !s.effOn Reg.FWD_CTRL.EN then done stNO_ROUTE s
  else if isMulticast d.pkt.dst then
    if s.on (Reg.FLD_Tt_CFG.SEED_EN t) && s.effOn Reg.FLD_CTRL.EN then
      let (s, ok) := floodSeed t d.pkt s
      done (if ok then 0 else stNO_ROUTE) s
    else done stNO_ROUTE s
  else
    let s := resolveRead t d.pkt s
    match resolve s t false d.pkt with
    | .none => done stNO_ROUTE s
    | .loop => done stNO_ROUTE s
    | .away nh =>
      if s.on (Reg.FWD_NHr_CFG.EN nh) then done 0 (toNextHop t nh false d.pkt s) else done stNO_ROUTE (s.inc Reg.FWD_NOROUTE.CNT)
    | .path _ k hops =>
      let s := match k with
        | some k => emtUsed (pipeServing s t) k s
        | none => s
      let d' := { d with srh := srhOf s t hops d.pkt }
      composeTo d' (firstHop s hops) size (modHif (fun h => { h with fetched := h.fetched.map (fun x => if x = d then d' else x) }) s)

/-- The packets due for composition in this tick that have not yet waited in it. -/
def composeDue (s : State) : List FDesc :=
  s.hif.fetched.filter (fun d => decide (d.compTick ≤ s.core.ticks) && d.tried != some s.core.ticks)

def composeOne (d : FDesc) (size : Nat) (s : State) : State :=
  match d.src with
  | .desc _ => if d.tried.isNone then composeDesc d size s else composeTo d d.node size s
  | _ => composeTo d d.node size s

/-- COMPOSE_FRAME: the next packet due is composed. `size` gives its octets after compression (RFC 6282, R279). -/
def compose (ofs : Nat) (size : Nat) (s : State) : State :=
  let s := s.at ofs
  match composeDue s with
  | [] => s
  | d :: _ => composeOne d size s

def execComposeFrame (ofs : Fin 122880) (size : Fin 2048) (s : State) : Host.Outcome State Fault Refusal :=
  run (compose ofs size) s

/-- A composition unfinished at the end of its tick: its counter is consumed, and the packet is composed again in the next tick
(R23). -/
def composeLate (d : FDesc) (s : State) : State :=
  let hop : Option Nat := match d.src with
    | .desc _ => if isMulticast d.pkt.dst then none else (match resolve s d.tenant false d.pkt with
      | .path _ _ hops => some (firstHop s hops)
      | _ => none)
    | _ => some d.node
  let s := modHif (fun h => { h with fetched := h.fetched.map (fun x => if x = d then { d with compTick := s.core.ticks + 1 } else x) }) s
  match hop with
  | none => s
  | some n =>
    let (s, r) := secureTx d.tenant (nthOf s n).endpoint d.bcast (pfPhy (profOf s d.profile) == 3) s
    match r with
    | .ok _ _ => overrun Reg.SYS_OVR_STAT.TXC_LATE (s.inc Reg.TXC_LATE.CNT)
    | _ => s

/-- COMPOSITION_DEADLINE, and the same at the tick boundary. -/
def composeDeadline (s : State) : State := forEach (composeDue s) composeLate s

def execCompositionDeadline (s : State) : Host.Outcome State Fault Refusal := run composeDeadline s

/-! ## Rings written by the host (R290, R304, R305) -/

/-- EN of a ring goes from 0 to 1. -/
def ringEnable (fn r : Nat) (s : State) : State :=
  if !ringExists fn r || s.on (Reg.HIF_Rr_CFG.EN fn r) then s else
  let s := ((s.put (Reg.HIF_Rr_CFG.EN fn r) 1).put (Reg.HIF_Rr_STAT.STATE fn r) 1).put (Reg.HIF_Rr_STAT.ERR fn r) 0
  let s := (s.put (Reg.HIF_Rr_POS.POS fn r) 0).put (Reg.HIF_Rr_HPOS.HPOS fn r) 0
  let s := noCplSync fn (flushHeld fn r s)
  when (fn == 0 && r == ringSBK) sbkDrain s

def execRingEnable (fn : Fin 257) (r : Fin 16) (s : State) : Host.Outcome State Fault Refusal :=
  run (regAccess (Reg.HIF_Rr_CFG.EN fn r).addr (ringEnable fn r)) s

/-- EN of a ring is written 0. -/
def ringOff (fn r : Nat) (s : State) : State :=
  noCplSync fn ((s.put (Reg.HIF_Rr_CFG.EN fn r) 0).put (Reg.HIF_Rr_STAT.STATE fn r) 0)

/-- A fetched descriptor of a ring of a function that no frame has been composed for. -/
def ofRing (fn : Nat) (r : Option Nat) (d : FDesc) : Bool :=
  match d.src with
  | .desc x => x.fn == fn && (r.isNone || r == some x.ring) && d.made == 0
  | _ => false

/-- A fetched packet goes before any frame of it is composed, with the record of the frames it was to make. -/
def dropUnmade (d : FDesc) (s : State) : State :=
  let s := match d.src with
    | .desc r => { s with tm := { s.tm with runs := s.tm.runs.filter (fun x => x.ref.id != r.id) } }
    | _ => s
  dropDesc d (unreserve d s)

/-- TX_RING_DISABLE (R304). -/
def txRingDisable (fn r : Nat) (s : State) : State :=
  if !s.on (Reg.HIF_Rr_CFG.EN fn r) then s else
  let s := modHif (fun h => { h with fetchQ := h.fetchQ.filter (fun j => !(j.fn == fn && j.ring == r)) }) (ringOff fn r s)
  forEach (s.hif.fetched.filter (ofRing fn (some r))) (fun d s => descEnd d stFLUSHED 0 (dropUnmade d s)) s

def execTxRingDisable (fn : Fin 257) (r : Fin 4) (s : State) : Host.Outcome State Fault Refusal :=
  run (regAccess (Reg.HIF_Rr_CFG.EN fn r).addr (txRingDisable fn r)) s

/-- PART_RING_DISABLE (R305): what falls due for the ring is held or dropped where it falls due. -/
def execPartRingDisable (fn : Fin 257) (r : Fin 8) (s : State) : Host.Outcome State Fault Refusal :=
  run (regAccess (Reg.HIF_Rr_CFG.EN fn (6 + r)).addr fun s =>
    if ringExists fn (6 + r) && s.on (Reg.HIF_Rr_CFG.EN fn (6 + r)) then ringOff fn (6 + r) s else s) s

/-- RXB or CMD is disabled: their entries are no longer fetched. -/
def hostRingDisable (fn r : Nat) (s : State) : State :=
  let s := ringOff fn r s
  if r = ringCMD then modFn fn (fun q => { q with cmdQ := [] }) s else s

/-! ## Resets (R285, R288) -/

/-- The fields whose addresses lie in a range go back to their reset values. -/
def clearRange (lo hi : Nat) (s : State) : State :=
  let out (e : Nat × Nat) : Bool := !(decide (lo ≤ e.1 / 64) && decide (e.1 / 64 < hi))
  { s with regs := List.filter out s.regs, inForce := List.filter out s.inForce }

/-- The window of a function's registers. -/
def fnBase (fn : Nat) : Nat := 0x1100000 + 0x800 * fn

/-- Completions of everything fetched for the functions that `sel` names go to nobody. -/
def discardFor (sel : Nat → Bool) (s : State) : State :=
  let mark (r : DescRef) : DescRef := if sel r.fn then { r with discard := true } else r
  let src (d : DlSrc) : DlSrc := match d with
    | .desc r => .desc (mark r)
    | x => x
  let cmd (c : VCmd) : VCmd := if !c.reg && sel c.fn then { c with discard := true } else c
  let s := modHif (fun h => { h with fetched := h.fetched.map (fun d => { d with src := src d.src }) }) s
  let s := { s with tm := { s.tm with runs := s.tm.runs.map (fun x => { x with ref := mark x.ref }) } }
  modKv (fun v => { v with queue := v.queue.map cmd, running := v.running.map cmd }) s

/-- What the interface holds for a function is gone. -/
def fnForget (fn : Nat) (s : State) : State :=
  let s := clearRange (fnBase fn) (fnBase fn + 0x800) s
  let s := modPcie (fun c => { c with
    d3 := setDel c.d3 fn, msixOn := setDel c.msixOn fn, msixMask := setDel c.msixMask fn, msix := List.filter (fun e => e.1 / 256 != fn) c.msix }) s
  modHif (fun h => { h with fns := h.fns.erase fn, fetchQ := h.fetchQ.filter (fun j => j.fn != fn) }) s

/-- HIF_RESET (R285). `speed` and `width` are the link's once it is up again. -/
def hifReset (speed width : Nat) (s : State) : State :=
  let s := discardFor (fun _ => true) s
  let s := clearRange (fnBase 0) (fnBase 257) s
  let s := modHif (fun h => { h with fns := [], fetchQ := [], pcie := PcieS.atReset }) s
  (s.put Reg.HIF_STAT.SPEED speed).put Reg.HIF_STAT.WIDTH width

/-- The widths that the link trains at (R284), 0 while it is down. -/
def linkLanes (width : Nat) : Nat := [0, 1, 2, 4, 8].getD width 0

def execHifReset (speed : Fin 6) (width : Fin 5) (s : State) : Host.Outcome State Fault Refusal := run (hifReset speed (linkLanes width)) s

/-- FUNCTION_LEVEL_RESET (R288): of a VF; of the PF it acts as R285. -/
def flr (fn : Nat) (s : State) : State :=
  if fn = 0 then hifReset (s.get Reg.HIF_STAT.SPEED) (s.get Reg.HIF_STAT.WIDTH) s else
  let s := forEach (s.hif.fetched.filter (ofRing fn none)) dropUnmade s
  fnForget fn (discardFor (· == fn) s)

def execFunctionLevelReset (fn : Fin 257) (s : State) : Host.Outcome State Fault Refusal := run (flr fn) s

/-! ## Delivery (R307) and secret backup (R314) -/

/-- RX_DELIVERY: one readable host-bound packet, as the host scheduler chooses it. -/
def execRxDelivery (s : State) : Host.Outcome State Fault Refusal := run hostSelect s

/-- SBK_SPACE_RETURN: after an overflow every VALID record goes to SBK in endpoint order, as it has room. -/
def sbkReturn (s : State) : State :=
  if !s.on Reg.HIF_STAT.SBK_OVF || !ringTakes s 0 ringSBK then s
  else if s.hif.sbkAll then sbkDrain s
  else sbkDrain (modHif (fun h => { h with sbkPass := (List.filter (fun e => e.2.valid) s.kv.secrets).map (·.1), sbkAll := true }) s)

def execSbkSpaceReturn (s : State) : Host.Outcome State Fault Refusal := run sbkReturn s

/-! ## The intake cut-off and the tick boundary (R34, R298, R308, R317) -/

/-- INTAKE_CUTOFF. -/
def execIntakeCutoff (s : State) : Host.Outcome State Fault Refusal :=
  run (fun s => forEach (posFns s) posRecord (modHif (fun h => { h with intakeOpen := false }) (s.at Config.ofsIntake))) s

/-- The coalesced messages of a function for the tick just ended, one per vector. -/
def coalesced (fn : Nat) (s : State) : State :=
  let vecs := ((s.hif.fns.get fn).coal.map (ringVec s fn)).foldl setAdd []
  forEach vecs (msixSend fn) (modFn fn (fun q => { q with coal := [] }) s)

/-- Sets with packets whose function cannot take one for want of a buffer or an entry (R308). -/
def stalled (s : State) : List Nat :=
  ((s.tm.fq.filter (fun e => !e.2.pkts.isEmpty || e.2.reading.isSome)).map (·.1)).filter (fun t =>
    (t == 256 || s.on (Reg.HIF_Tt_CFG.EN t)) &&
    ((s.hif.fns.get (setFn s t)).buffers.isEmpty || !ringTakes s (setFn s t) (setRing t)))

/-- RX_STALL of the tick just ended: counted on the page of each tenant whose packets wait, and shown by the function they wait for. -/
def rxStall (s : State) : State :=
  let l := stalled s
  let fns := l.map (setFn s)
  let s := forEach (l.filter (fun t => decide (t < 256))) (fun t s => tcntInc t 0x2038 1 s) s
  forEach ((List.range 257).filter (fun f => fns.contains f || s.on (Reg.HIF_FN_STAT.RX_STALL f)))
    (fun f s => s.putB (Reg.HIF_FN_STAT.RX_STALL f) (fns.contains f)) s

/-- What a tick boundary does in the host interface. -/
def hifBoundary (bells : List (Nat × Bell)) (s : State) : State :=
  let s := forEach (posFns s) (fun f s => coalesced f (posRecord f s)) (rxStall s)
  let s := modHif (fun h => { h with fns := h.fns.map (fun e => (e.1, { e.2 with kicks := 0 })) }) s
  if s.pwr.quiet then s else sampleAll bells (modHif (fun h => { h with intakeOpen := true, fetchQ := [] }) s)

end Sys2Proof.Machine
end

