-- ==== Sys2Proof/Machine/Queues.lean ====
section
/-! DEFINITION. The commands of the frame queues, the traffic manager and the backhaul (chapter 10, R518), and what a tick boundary does
there. -/

namespace Sys2Proof.Machine

/-! ## Polled access (R323, R328) -/

/-- The sixteen 32-bit words of word `k` of a frame-queue packet: its record or zeros, then its octets with the last word filled up
with zeros. -/
def fqWord (p : FqPkt) (k : Nat) : List Nat :=
  if k = 0 then (match p.mrec with | some r => recPack r | none => List.replicate 16 0)
  else (List.range 16).map (fun i => packetWord p.pkt (16 * (k - 1) + i))

/-- The tag of word `k` (R323). -/
def fqTag (p : FqPkt) (k : Nat) : Nat :=
  b2n (k == 0) + 2 * b2n (k + 1 == p.words) + 4 * ((p.pkt.len + 63) % 64) + 256 * b2n p.mrec.isSome + 512 * (p.prio % 8)

/-- The word consumed next from a set: its packet, its number and the packets left waiting. -/
def pollNext (q : FqSet) : Option (FqPkt × Nat × List FqPkt) :=
  match q.reading with
  | some (p, k) => some (p, k, q.pkts)
  | none => (fqNext q.pkts).map (fun x => (x.1, 0, x.2))

/-- FQ_POLL_TAG_READ: consumes the next word of the polled set; at its END word the packet has left. -/
def pollRead (s : State) : State :=
  let set := s.get Reg.FQ_POLL_SEL.SET
  match (if s.on Reg.FQ_POLL_SEL.EN && decide (set ≤ 256) then pollNext (s.tm.fq.get set) else none) with
  | none => ((s.put Reg.FQ_POLL_TAG.TAG 0).put Reg.FQ_POLL_TAG.VALID 0).emit (.readWord 0 Reg.FQ_POLL_TAG.TAG.addr 0)
  | some (p, k, rest) =>
    let s := bufPut Reg.FQ_POLL_DATAi.DATA (fqWord p k) s
    let s := s.emit (.readWord 0 Reg.FQ_POLL_TAG.TAG.addr (fqTag p k + 2 ^ 16))
    if k + 1 < p.words then modFq set (fun q => { q with pkts := rest, reading := some (p, k + 1) }) s
    else hostTag set none (fqLeave set p (modFq set (fun q => { q with pkts := rest, reading := none }) s))

/-- FQ_POLL_TAG_READ while the block is off reads 0 (R39). -/
def pollTagRead (s : State) : State :=
  if windowOn s Reg.FQ_POLL_TAG.TAG.addr then pollRead s
  else (s.inc Reg.HIF_PD_OFF_ACC.CNT).emit (.readWord 0 Reg.FQ_POLL_TAG.TAG.addr 0)

def execFqPollTagRead (s : State) : Host.Outcome State Fault Refusal := run pollTagRead s

/-! ## Ports -/

/-- PORT_SELECT: port 0 or 1 is ETH0 or ETH1, port 2 the host. -/
def execPortSelect (p : Fin 3) (s : State) : Host.Outcome State Fault Refusal :=
  run (fun s => if p.val = portHost then hostSelect s else ethSelect p s) s

/-- The policer of a tenant's VLAN (R331): whether it admits a packet of `c` octets, which it then charges. -/
def police (t c : Nat) (s : State) : State × Bool :=
  if !s.on (Bucket.policer t).enFld then (s, true)
  else if tokens s (.policer t) < 16 * (c : Int) then (tcntInc t 0x2900 1 (s.inc Reg.TM_POLICE_DROP.CNT), false)
  else (charge (.policer t) c s, true)

/-- A multicast packet of the backhaul: seeded, or dropped without a route (R276, R279, R280). -/
def multicastIn (t : Nat) (p : Packet) (s : State) : State :=
  if !(s.on (Reg.FLD_Tt_CFG.SEED_EN t) && s.effOn Reg.FLD_CTRL.EN) then s.inc Reg.FWD_NOROUTE.CNT
  else if p.hlim ≤ 1 then s.inc Reg.FWD_HLIM.CNT
  else
    let (s, ok) := floodSeed t { p with hlim := p.hlim - 1 } s
    s.incIf (!ok) Reg.FWD_NOROUTE.CNT

/-- BACKHAUL_PACKET: a packet on a tenant's VLAN at an Ethernet port passes the policer and enters forwarding. -/
def backhaulIn (p t : Nat) (pkt : Packet) (s : State) : State :=
  if !s.tm.linkUp.contains p || !pdOn s 24 then s else
  let (s, ok) := police t (pkt.ethLen + s.eff (Reg.TM_Pp_CFG.OVH p)) s
  if !ok || !s.effOn Reg.FWD_CTRL.EN then s
  else if isMulticast pkt.dst then multicastIn t pkt s
  else downlinkIn t true (Config.fwdProfile s.core.free % 16) (Config.fwdAr s.core.free) pkt s.drawn

def execBackhaulPacket (p : Fin 2) (t : Fin 256) (pkt : Packet) (s : State) : Host.Outcome State Fault Refusal :=
  run (backhaulIn p t pkt) s

def modTm (f : TmS → TmS) (s : State) : State := { s with tm := f s.tm }

/-- ETH_LINK_DOWN (R334, R490). -/
def execEthLinkDown (p : Fin 2) (s : State) : Host.Outcome State Fault Refusal :=
  run (fun s => if s.tm.linkUp.contains p.val then
    modTm (fun t => { t with linkUp := setDel t.linkUp p, ethSince := t.ethSince.setD 0 p s.core.ticks }) (lpe (0x070 + p) s) else s) s

/-- ETH_LINK_UP (R334). -/
def execEthLinkUp (p : Fin 2) (s : State) : Host.Outcome State Fault Refusal :=
  run (fun s => if pdOn s 24 then modTm (fun t => { t with linkUp := setAdd t.linkUp p }) s else s) s

/-- ETH_TX_POLARITY_FLIP (R518): after 500 ms without link since the loss or the last inversion. -/
def execEthTxPolarityFlip (p : Fin 2) (s : State) : Host.Outcome State Fault Refusal :=
  run (fun s =>
    if s.tm.linkUp.contains p.val || s.core.ticks < s.tm.ethSince.getD 0 p + 4000 || !pdOn s 24 then s else
    modTm (fun t => { t with
      ethFlip := if t.ethFlip.contains p.val then setDel t.ethFlip p else t.ethFlip ++ [p.val]
      ethSince := t.ethSince.setD 0 p s.core.ticks }) s) s

/-! ## Telemetry (R338, R339) -/

def sat16 (n : Nat) : Nat := min 65535 n

/-- The age in µs, at the boundary that ends the tick, of what came at a clock, saturating in 32 bits. -/
def ageUs (s : State) (clk : Nat) : Nat := min (2 ^ 32 - 1) (((s.core.ticks + 1) * Config.tickClocks - clk) * 100 / 98304)

/-- The record of one priority of a tenant's frame queues, with whether the queue held a packet in the tick. -/
def fqRecord (s : State) (tick t p : Nat) : TelRec × Bool :=
  let q := s.tm.fq.get t
  let l := q.ofPrio p
  let x := q.tel.getD p default
  let head : Option FqPkt := match q.reading with
    | some (y, _) => if y.prio = p then some y else (fqNext l).map (·.1)
    | none => (fqNext l).map (·.1)
  ({ tenant := t, isTq := false, queue := p, port := 2,
     held := !l.isEmpty && !(eligible s (.port portHost) && eligible s (.tenant t portHost)), tick := tick % 2 ^ 32, depthW := q.depthOf p,
     maxW := max x.maxW (q.depthOf p), holUs := head.elim 0 (fun y => ageUs s y.clk), arr := sat16 x.arr, dep := sat16 x.dep,
     drop := sat16 x.drop, depthP := sat16 l.length, defer := 0 }, decide (0 < max x.maxW (q.depthOf p)))

/-- A TQ's head waits on a shaper or bucket (R331, R336). -/
def tqHeld (s : State) (t q : Nat) : Bool :=
  let p := tqPort s (tqKey t q)
  let x := tqOf s t q
  (!x.eth.isEmpty && !(eligible s (.port p) && eligible s (.tenant t p) && eligible s (.queue t q))) ||
  (!x.air.isEmpty && !(eligible s (.queue t q) && eligible s (.air t)))

/-- The record of one TQ. -/
def tqRecord (s : State) (tick t q : Nat) : TelRec × Bool :=
  let x := tqOf s t q
  let head := match x.eth, x.air with
    | y :: _, _ => some y.clk
    | [], y :: _ => some y.clk
    | [], [] => none
  ({ tenant := t, isTq := true, queue := q, port := tqPort s (tqKey t q), held := tqHeld s t q, tick := tick % 2 ^ 32, depthW := x.depth,
     maxW := max x.tel.maxW x.depth, holUs := head.elim 0 (ageUs s), arr := sat16 x.tel.arr, dep := sat16 x.tel.dep,
     drop := sat16 x.tel.drop, depthP := sat16 (x.eth.length + x.air.length), defer := sat16 x.tel.defer },
   x.tel.held || !x.eth.isEmpty || !x.air.isEmpty)

/-- The records a tenant gives for the tick. -/
def telRecords (s : State) (tick t : Nat) : List TelRec :=
  let all := s.on (Reg.TM_Tt_TEL.ALL t)
  let l := (if s.on (Reg.TM_Tt_TEL.FQ t) then (List.range 8).map (fqRecord s tick t) else []) ++
    (if s.on (Reg.TM_Tt_TEL.TQ t) then (List.range 32).map (tqRecord s tick t) else [])
  (l.filter (fun x => all || x.2)).map (·.1)

/-- A record goes to the TEL ring of its tenant's function, and to the PF's with PF_COPY or under proxy. -/
def telWrite (r : TelRec) (s : State) : State :=
  let fns := (r.tenant + 1) :: (if s.on Reg.TM_TEL_CFG.PF_COPY || s.on (Reg.HIF_Tt_CFG.PROXY r.tenant) then [0] else [])
  forEach fns (fun f s => if ringTakes s f ringTEL then ringWrite f ringTEL (.tel r) s else s.inc Reg.TM_TEL_LOST.CNT) s

/-- The counts of a tick that a queue begins with a depth, and with a packet or without. -/
def telStart (depth : Nat) (holds : Bool) : QTel := { (default : QTel) with maxW := depth, held := holds }

/-- TELEMETRY_SAMPLE of the tick just ended. -/
def telemetry (s : State) : State :=
  let tick := s.tick
  let s := if !s.effOn Reg.TM_TEL_CFG.EN || !pdOn s 22 then s else
    let a := tick % 256
    let ts := (List.range 256).filter (fun t => s.on (Reg.TM_Tt_TEL.FQ t) || s.on (Reg.TM_Tt_TEL.TQ t))
    let l := (ts.filter (fun t => decide (a ≤ t)) ++ ts.filter (fun t => decide (t < a))).flatMap (telRecords s tick)
    let n := max 1 (s.get Reg.TM_TEL_CFG.MAX)
    forEach (l.take n) telWrite (s.incBy Reg.TM_TEL_SKIP.CNT (l.length - n))
  modTm (fun t => { t with
    fq := (t.fq.map (·.1)).foldl (fun x k => x.upd k (fun q => { q with tel := (List.range 8).map (fun i => telStart (q.depthOf i) (decide (0 < q.depthOf i))) })) t.fq
    tq := (t.tq.map (·.1)).foldl (fun x k => x.upd k (fun q => { q with tel := telStart q.depth (!q.eth.isEmpty || !q.air.isEmpty) })) t.tq }) s

/-! ## The tick boundary (R329, R332, R333) -/

/-- The scheduler's weight or mode field at a register-store key. -/
def schedFld (key : Nat) : Option Fld :=
  let o := key / 64 - 0xF00000
  let lo := key % 64
  if key / 64 < 0xF00000 || 0x1000000 ≤ key / 64 then none
  else if o = 0 && lo = 1 then some Reg.TM_CTRL.MODE
  else if 0x1000 ≤ o && o < 0x9000 then
    let t := (o - 0x1000) / 0x80
    match (o - 0x1000) % 0x80 with
    | 0x20 => some (if lo = 0 then Reg.TM_Tt_WT.W_ETH0 t else if lo = 8 then Reg.TM_Tt_WT.W_ETH1 t else Reg.TM_Tt_WT.W_HOST t)
    | 0x24 => some (Reg.TM_Tt_CWT.W t)
    | _ => none
  else if 0x10000 ≤ o && o % 0x10 = 0 && lo = 4 then some (Reg.TM_Tt_Qq_CFG.WEIGHT ((o - 0x10000) / 0x200) ((o - 0x10000) % 0x200 / 0x10))
  else none

/-- A mode or weight written since the last boundary takes effect. -/
def schedChanged (old : State) : Bool :=
  old.inForce.any (fun e => match schedFld e.1 with
    | some f => e.2 != old.get f
    | none => false)

/-- Every leaf's Fprev takes its port's V. -/
def tagsToV (s : State) : State :=
  forEach (s.tm.leaves.map (·.1)) (fun k s =>
    let p := if 8192 ≤ k then portHost else tqPort s k
    setLeaf k { leafOf s k with fprev := s.tm.vtime.getD 0 p } s) s

/-- The leaves that hold a complete packet. -/
def activeLeaves (s : State) : List Nat :=
  (s.tm.tq.filter (fun e => !e.2.eth.isEmpty)).map (·.1) ++
  ((s.tm.fq.filter (fun e => decide (e.1 < 256) && (!e.2.pkts.isEmpty || e.2.reading.isSome))).map (fun e => leafHost e.1))

/-- What a tick boundary does in the frame queues and the traffic manager. -/
def tmBoundary (old s : State) : State :=
  if !pdOn s 22 then s else
  let s := when (schedChanged old) tagsToV (refillAll s)
  let red := (s.tm.tokens.filter (fun e => decide (e.2 < 0) && s.on (Bucket.ofKey e.1).enFld)).map (·.1)
  let s := modTm (fun t => { t with active := activeLeaves s, short := red }) s
  forEach (s.tm.tq.map (·.1)) (fun k s => s.putB (Reg.TM_Tt_Qq_STAT.HELD (k / 32) (k % 32)) (tqHeld s (k / 32) (k % 32))) s

end Sys2Proof.Machine
end

