-- ==== Sys2Proof/Machine/Time.lean ====
section
/-! DEFINITION. The Reticle (chapter 11): the local clock, the servo, tick and PPS signals, PTP on the backhaul. -/

namespace Sys2Proof.Machine

def modTime (f : TimeS → TimeS) (s : State) : State := { s with time := f s.time }

/-- The nearest integer with ties away from zero (R354), and limits. -/
def roundAway (q : Rat) : Int := if 0 ≤ q then (q + 1 / 2).floor else -((-q + 1 / 2).floor)
def clampRat (l : Rat) (q : Rat) : Rat := if q < -l then -l else if l < q then l else q
def clampInt (lo hi i : Int) : Int := max lo (min hi i)

/-- The part is in DORMANT (R454). -/
def isDormant (s : State) : Bool := s.get Reg.PWR_STAT.STATE == 3

/-! ## Requests (R346, R347) and reads (R344) -/

def execTimeSet (s : State) : Host.Outcome State Fault Refusal := run (fun s => s.put Reg.TIME_CTRL.SET 1) s
def execTimeStep (s : State) : Host.Outcome State Fault Refusal := run (fun s => s.put Reg.TIME_CTRL.STEP 1) s

/-- The words of a Reticle time: nanoseconds, seconds low, seconds high, fraction. -/
def latchTime (ns lo hi fr : Fld) (sec nsv frac : Nat) (s : State) : State :=
  (((s.put ns nsv).put lo sec).put hi (sec / 2 ^ 32)).put fr frac

/-- A read of TIME_NOW_NS returns the nanoseconds of the processing clock of the read and latches the other words. -/
def timeNowRead (s : State) : State :=
    let t := s.now
    (latchTime Reg.TIME_NOW_NS.NS Reg.TIME_NOW_SEC_LO.SEC Reg.TIME_NOW_SEC_HI.SEC Reg.TIME_NOW_SEC_HI.FRAC (secOf t) (nsOf t) (fracOf t) s).emit
      (.readWord 0 Reg.TIME_NOW_NS.NS.addr (nsOf t))

/-- TIME_NOW_READ. -/
def execTimeNowRead (ofs : Fin 122880) (s : State) : Host.Outcome State Fault Refusal := run (fun s => timeNowRead (s.at ofs)) s

/-- A read of TIME_TB_NS returns the nanoseconds of the last boundary and latches the other two words, which return the latched values
from then on (log entry 21). -/
def timeTbRead (s : State) : State :=
    let ns := s.get Reg.TIME_TB_NS.NS
    (latchTime Reg.TIME_TB_NS.NS Reg.TIME_TB_SEC_LO.SEC Reg.TIME_TB_SEC_HI.SEC Reg.TIME_TB_SEC_HI.FRAC s.time.tbSec ns s.time.tbFrac s).emit
      (.readWord 0 Reg.TIME_TB_NS.NS.addr ns)

/-- TIME_TB_READ. -/
def execTimeTbRead (s : State) : Host.Outcome State Fault Refusal := run timeTbRead s

/-! ## The servo (R352, R353, R357) -/

def svFREE : Nat := 0
def svACQUIRE : Nat := 1
def svLOCKED : Nat := 2
def svHOLDOVER : Nat := 3

def servoState (s : State) : Nat := s.get Reg.TIME_STAT.STATE

/-- The clocks spent in LOCKED since the servo left FREE, and HOLD_Q that follows from them. -/
def lockedClks (s : State) : Nat := s.time.locked + (match s.time.lockedAt with | some c => s.clk - c | none => 0)
def holdQ (s : State) : State := s.putB Reg.TIME_STAT.HOLD_Q (decide (2 ^ s.get Reg.TIME_HOLD.AVG * 983040000 ≤ lockedClks s))

/-- PPS_OUT is not held low by QUAL (R350). -/
def ppsQual (s : State) : Bool :=
  match s.get Reg.TIME_PPS_OUT.QUAL with
  | 0 => true
  | 1 => servoState s == svLOCKED || servoState s == svHOLDOVER
  | _ => servoState s == svLOCKED

/-- PPS_OUT goes low at once where a pulse is high and QUAL holds it low from now on (R350). -/
def ppsHeld (s : State) : State :=
  if decide (s.clk < s.time.ppsFall) && !ppsQual s then (modTime (fun t => { t with ppsFall := s.clk }) s).emit (.pin "PPS_OUT" 0) else s

/-- The servo enters a state. -/
def setServo (st : Nat) (s : State) : State :=
  let done := lockedClks s
  ppsHeld <| holdQ ((modTime (fun t => { t with
    run := 0
    locked := if st = svFREE then 0 else done
    lockedAt := if st = svLOCKED then some s.clk else none
    holdFirst := st == svHOLDOVER }) s).put Reg.TIME_STAT.STATE st)

/-- The readable copies of y and y_avg, in 2^−6 ppb to the nearest (log entry 22). -/
def showServo (s : State) : State :=
  (s.putS Reg.TIME_SERVO_OUT.Y (roundAway (s.time.y * 64))).putS Reg.TIME_SERVO_AVG.Y (roundAway (s.time.yAvg * 64))

/-- The loop (R353) at an accepted offset of `th` in 2^−16 ns. -/
def servoLoop (th : Int) (s : State) : State :=
  let now := s.now
  let dt : Rat := match s.time.tPrev with
    | none => 0
    | some p =>
      let d : Rat := (((now : Int) - p : Int) : Rat) / (unitSec : Rat)
      if d < 16 then d else 16
  let i := if servoState s = svHOLDOVER then s.time.yAvg else s.time.i
  let s := modTime (fun t => { t with tPrev := some now, i := i }) s
  let steer := s.effOn Reg.TIME_SERVO.OUT
  let big := decide ((s.get Reg.TIME_STEP_THR.THR * 65536 : Nat) < th.natAbs)
  if !steer && s.on Reg.TIME_SERVO.STEP_EN && big then modTime (fun t => { t with step := some th }) s else
  let s := when (steer && big) (fun s => s.put Reg.TIME_STAT.BIG_OFS 1) s
  let lim : Rat := s.get Reg.TIME_LIM.LIM
  let theta : Rat := (th : Rat) / 65536
  let i := clampRat lim (i + (s.get Reg.TIME_GAIN.KI : Rat) / 1048576 * theta * dt)
  let y := clampRat lim ((s.get Reg.TIME_GAIN.KP : Rat) / 65536 * theta + i)
  let g : Rat := dt / ((2 ^ s.get Reg.TIME_HOLD.AVG : Nat) : Rat)
  let a := s.time.yAvg + (y - s.time.yAvg) * (if g < 1 then g else 1)
  showServo (modTime (fun t => { t with i := i, y := y, yAvg := a }) s)

/-- The state after an accepted offset (R357). The offsets that count towards LOCKED, or towards ACQUIRE again, are those accepted in the
state itself (log entry 23). -/
def servoNext (th : Int) (s : State) : State :=
  let lock := s.get Reg.TIME_LOCK.LOCK_NS * 65536
  let count (b : Bool) (n st : Nat) (s : State) : State :=
    let k := if b then s.time.run + 1 else 0
    if n ≤ k then setServo st s else modTime (fun t => { t with run := k }) s
  match servoState s with
  | 1 => count (decide (th.natAbs ≤ lock)) (max 1 (s.get Reg.TIME_LOCK.LOCK_CNT)) svLOCKED s
  | 2 => count (decide (4 * lock < th.natAbs)) 4 svACQUIRE s
  | _ => setServo svACQUIRE s

/-- An offset is accepted (R352, R353, R357). -/
def servoAccept (th : Int) (s : State) : State :=
  let s := s.inc Reg.TIME_OFS_ACC.CNT
  let s := s.putS Reg.TIME_LAST_OFS.NS (clampInt (-(2 ^ 31)) (2 ^ 31 - 1) (th / 65536))
  modTime (fun t => { t with lastAcc := s.clk }) (servoNext th (servoLoop th s))

/-- An offset from the selected writer: spikes, then discards after a step (R348, R352). -/
def servoOffset (th : Int) (s : State) : State :=
  let exempt := s.time.first || s.time.holdFirst
  let spike := !exempt && decide (s.get Reg.TIME_FILT.SPIKE * 65536 < th.natAbs)
  let n := if spike then s.time.spikes + 1 else 0
  let s := modTime (fun t => { t with first := false, holdFirst := false }) s
  if spike && decide (n < max 1 (s.get Reg.TIME_FILT.SPIKE_N)) then (modTime (fun t => { t with spikes := n }) s).inc Reg.TIME_OFS_SPIKE.CNT
  else
    let s := modTime (fun t => { t with spikes := 0 }) s
    if 0 < s.time.discard then (modTime (fun t => { t with discard := t.discard - 1 }) s).inc Reg.TIME_OFS_DISCARD.CNT
    else servoAccept th s

/-- OFFSET_DELIVERY: a write to TIME_OFS_NS by the PF host, or by the firmware's PTP stack, delivers it with TIME_OFS_FRAC. -/
def execOffsetDelivery (ofs : Fin 122880) (firmware : Bool) (ns : BitVec 32) (s : State) : Host.Outcome State Fault Refusal :=
  run (fun s =>
    let s := (s.at ofs).put Reg.TIME_OFS_NS.NS ns.toNat
    if s.get Reg.TIME_SERVO.SRC = (if firmware then 2 else 1) then
      servoOffset (ns.toInt * 65536 + (s.get Reg.TIME_OFS_FRAC.FRAC : Nat)) s
    else s.inc Reg.TIME_OFS_IGN.CNT) s

/-- SERVO_SRC_WRITE: the servo returns to FREE with I, y and y_avg 0. -/
def execServoSrcWrite (src : Fin 4) (s : State) : Host.Outcome State Fault Refusal :=
  run (fun s =>
    let s := setServo svFREE (s.put Reg.TIME_SERVO.SRC src)
    showServo (modTime (fun t => { t with i := 0, y := 0, yAvg := 0, tPrev := none, first := true, spikes := 0 }) s)) s

/-- SERVO_HOLDOVER_TIMEOUT: HOLD_TO seconds after the last accepted offset, ACQUIRE and LOCKED go to HOLDOVER. -/
def execServoHoldoverTimeout (ofs : Fin 122880) (s : State) : Host.Outcome State Fault Refusal :=
  run (fun s =>
    let s := s.at ofs
    let st := servoState s
    if (st = svACQUIRE || st = svLOCKED) && decide (s.time.lastAcc + max 1 (s.get Reg.TIME_HOLD.HOLD_TO) * 983040000 ≤ s.clk) then
      showServo (modTime (fun t => { t with y := t.yAvg }) ((setServo svHOLDOVER s).inc Reg.TIME_HOLD_ENTRY.CNT))
    else s) s

/-! ## PPS (R350, R351) -/

/-- A measured instant: the current clock's Reticle time and a deviation of at most ±2 ns in 2^−16 ns (R351, R364), in 2^−16 ns. -/
def instant (dev : Fin 262145) (s : State) : Nat := ((in16 s.now : Int) + dev.val - 131072).toNat

/-- 1 s and 100 µs in 2^−16 ns. -/
def sec16 : Nat := 1000000000 * 65536
def us100 : Nat := 100000 * 65536

/-- PPS_IN_EDGE: an edge of the captured kind is timestamped, and accepted or discarded by its spacing (R351, log entry 24). -/
def ppsEdge (t : Nat) (s : State) : State :=
  let s := (s.put Reg.TIME_PPS_IN_NS.NS (t % sec16 / 65536))
  let s := modTime (fun x => { x with ppsMark := s.clk }) s
  let ok := match s.time.ppsLast with
    | none => true
    | some p => decide (p + sec16 ≤ t + us100) && decide (t ≤ p + sec16 + us100)
  if !ok then s.inc Reg.TIME_PPS_MISS.CNT else
  let s := modTime (fun x => { x with ppsLast := some t }) s
  if s.get Reg.TIME_SERVO.SRC ≠ 3 then s else
  let dly := s.getS Reg.TIME_PPS_IN.DLY * 65536
  let x : Int := (t : Int) - dly
  servoOffset ((x + (sec16 / 2 : Nat)) / (sec16 : Nat) * (sec16 : Nat) - x) s

def execPpsInEdge (ofs : Fin 122880) (rising : Bool) (dev : Fin 262145) (s : State) : Host.Outcome State Fault Refusal :=
  run (fun s =>
    let s := s.at ofs
    if s.on Reg.TIME_PPS_IN.EN && (rising != s.on Reg.TIME_PPS_IN.POL) && !isDormant s then ppsEdge (instant dev s) s else s) s

/-- PPS_IN_MISS: a second has passed with no edge, later than the latest edge that could still be in time. -/
def execPpsInMiss (ofs : Fin 122880) (s : State) : Host.Outcome State Fault Refusal :=
  run (fun s =>
    let s := s.at ofs
    if s.on Reg.TIME_PPS_IN.EN && decide (s.time.ppsMark + 983040000 + 98304 < s.clk) then
      (modTime (fun t => { t with ppsMark := t.ppsMark + 983040000 }) s).inc Reg.TIME_PPS_MISS.CNT
    else s) s

/-- Reticle time minus TIME_PPS_OFS reaches a whole second in the current processing clock. -/
def ppsDue (s : State) : Bool :=
  let x : Int := (s.now : Int) - s.getS Reg.TIME_PPS_OFS.OFS * (unitNs : Nat)
  s.time.going && decide (x % (unitSec : Nat) < (advance 1 s.time.rate : Nat))

/-- PPS_OUT_PULSE: rises for WIDTH ms, unless less than 500 ms have passed since the last rise. -/
def execPpsOutPulse (ofs : Fin 122880) (s : State) : Host.Outcome State Fault Refusal :=
  run (fun s =>
    let s := s.at ofs
    let spaced := match s.time.ppsRise with
      | some c => decide (c + 491520000 ≤ s.clk)
      | none => true
    if s.on Reg.TIME_PPS_OUT.EN && ppsQual s && ppsDue s && spaced then
      let fall := s.clk + min 999 (max 1 (s.get Reg.TIME_PPS_OUT.WIDTH)) * 983040
      ((modTime (fun t => { t with ppsRise := some s.clk, ppsFall := fall }) s).emit (.pin "PPS_OUT" 1)).emit (.edge "PPS_OUT" 0 fall)
    else s) s

/-- The levels of PPS_OUT and TICK_OUT at the current processing clock (R349, R350). -/
def ppsOutLevel (s : State) : Bool := s.on Reg.TIME_PPS_OUT.EN && ppsQual s && decide (s.clk < s.time.ppsFall)
def tickOutLevel (s : State) : Bool := s.effOn Reg.TIME_TICK_OUT.EN && decide (s.clk < s.time.tickFall)

/-! ## PTP on the backhaul (R359 to R363) -/

/-- The octets `i` to `i + n − 1` of a frame as a big-endian number; octets past its end read as 0. -/
def beAt (o : List Byte) (i n : Nat) : Nat := (List.range n).foldl (fun a k => a * 256 + (o.getD (i + k) 0).toNat) 0

/-- A frame with `n` octets from `i` replaced by a big-endian number. -/
def bePut (o : List Byte) (i n v : Nat) : List Byte :=
  (List.range n).foldl (fun o k => o.set (i + k) (BitVec.ofNat 8 (v / 256 ^ (n - 1 - k)))) o

/-- What a frame is to PTP: its VLAN, how the message is carried (0 L2, 1 UDP/IPv4, 2 UDP/IPv6), where the layer-3 header, the UDP
header and the message begin. -/
structure PtpForm where
  vlan : Option Nat
  carrier : Nat
  l3 : Nat
  udp : Nat
  msg : Nat
deriving DecidableEq, Repr, Inhabited

/-- A frame's PTP form (R360), none for any other frame. -/
def ptpForm (o : List Byte) : Option PtpForm :=
  let tagged := beAt o 12 2 == 0x8100
  let vlan := if tagged then some (beAt o 14 2 % 4096) else none
  let l3 := if tagged then 18 else 14
  let port (u : Nat) := beAt o (u + 2) 2 == 319 || beAt o (u + 2) 2 == 320
  match beAt o (l3 - 2) 2 with
  | 0x88F7 => some ⟨vlan, 0, l3, l3, l3⟩
  | 0x0800 =>
    let u := l3 + beAt o l3 1 % 16 * 4
    if beAt o (l3 + 9) 1 = 17 && port u then some ⟨vlan, 1, l3, u, u + 8⟩ else none
  | 0x86DD => if beAt o (l3 + 6) 1 = 17 && port (l3 + 40) then some ⟨vlan, 2, l3, l3 + 40, l3 + 48⟩ else none
  | _ => none

/-- The message type: 0 Sync, 1 Delay_Req. -/
def ptpType (o : List Byte) (f : PtpForm) : Nat := beAt o f.msg 1 % 16

/-- The port diverts the frame (R360). -/
def ptpDiverts (s : State) (p : Nat) (f : PtpForm) : Bool :=
  s.on (Reg.TIME_PTPp_CFG.EN p) &&
  s.on (if f.carrier = 0 then Reg.TIME_PTPp_CFG.L2 p else if f.carrier = 1 then Reg.TIME_PTPp_CFG.UDP4 p else Reg.TIME_PTPp_CFG.UDP6 p) &&
  (f.vlan == if s.on (Reg.TIME_PTPp_CFG.VLAN_EN p) then some (s.get (Reg.TIME_PTPp_CFG.VLAN p)) else none)

/-- A timestamp in 2^−16 ns at the current clock, deviating by `dev` 2^−16 ns and with the asymmetry of port `p` taken off where it
applies (R363, R364). -/
def ptpStamp (p : Nat) (asym : Bool) (dev : BitVec 24) (s : State) : Nat :=
  let a := if asym && s.on (Reg.TIME_PTPp_CFG.ASYM_EN p) then s.getS (Reg.TIME_PTPp_ASYM.ASYM p) * 256 else 0
  ((in16 s.now : Int) + dev.toInt - a).toNat

/-- PTP_FRAME_RECEIVED at ETHp (R360, R361): a frame that is not diverted is no PTP frame of the part's, and nothing comes of this
command. -/
def ptpReceive (p : Nat) (o : List Byte) (dev : BitVec 24) (s : State) : State :=
  match ptpForm o with
  | none => s
  | some f =>
    if !s.tm.linkUp.contains p || !pdOn s 24 || !ptpDiverts s p f then s else
    let s := s.inc (Reg.TIME_PTPp_CNT.RX p)
    if 64 ≤ s.time.rxq.length then s.inc Reg.TIME_PTP_RXDROP.CNT else
    let e : PtpRx := { port := p, octets := o.take 256, ts := ptpStamp p (ptpType o f == 0) dev s }
    let s := modTime (fun t => { t with rxq := t.rxq ++ [e] }) s
    s.put Reg.TIME_PTP_RXSTAT.QUEUED s.time.rxq.length

def execPtpFrameReceived (ofs : Fin 122880) (p : Fin 2) (o : List Byte) (dev : BitVec 24) (s : State) : Host.Outcome State Fault Refusal :=
  run (fun s => ptpReceive p o dev (s.at ofs)) s

/-- The words of a frame's octets, first octet in bits [7:0]. -/
def wordsLE (o : List Byte) (n : Nat) : List Nat :=
  (List.range n).map (fun i => (List.range 4).foldl (fun a k => a + (o.getD (4 * i + k) 0).toNat * 256 ^ k) 0)

/-- A timestamp in 2^−16 ns into its three words. -/
def latch16 (ns lo hi fr : Fld) (ts : Nat) (s : State) : State :=
  latchTime ns lo hi fr (ts / sec16 % 2 ^ 48) (ts % sec16 / 65536) (ts % 65536) s

/-- PTP_RXSTAT_READ: by the firmware's stack, or by the PF host, whose read returns VALID = 0 and consumes nothing while the firmware
owns the path (R360, R361). -/
def ptpRxRead (firmware : Bool) (s : State) : State :=
  let q := s.get Reg.TIME_PTP_RXSTAT.QUEUED
  let empty := s.emit (.readWord 0 Reg.TIME_PTP_RXSTAT.VALID.addr (q * 65536))
  if !firmware && !s.on Reg.TIME_PTP_CTRL.OWNER then empty else
  match s.time.rxq with
  | [] => empty
  | e :: rest =>
    let s := modTime (fun t => { t with rxq := rest }) s
    let s := latch16 Reg.TIME_PTP_RX_NS.NS Reg.TIME_PTP_RX_SEC_LO.SEC Reg.TIME_PTP_RX_SEC_HI.SEC Reg.TIME_PTP_RX_SEC_HI.FRAC e.ts s
    let s := bufPut Reg.TIME_PTP_RXDATAi.DATA (wordsLE e.octets 64) s
    (s.put Reg.TIME_PTP_RXSTAT.QUEUED rest.length).emit
      (.readWord 0 Reg.TIME_PTP_RXSTAT.VALID.addr (1 + 2 * e.port + 4 * e.octets.length + 65536 * rest.length))

def execPtpRxstatRead (firmware : Bool) (s : State) : Host.Outcome State Fault Refusal := run (ptpRxRead firmware) s

/-- The frame in TIME_PTP_TXBUF. -/
def ptpBuffer (s : State) (len : Nat) : List Byte :=
  (List.range len).map (fun i => BitVec.ofNat 8 (s.get (Reg.TIME_PTP_TXBUFi.DATA (i / 4)) / 256 ^ (i % 4)))

/-- PTP_TX_GO: the write of TIME_PTP_TXCTL with GO = 1 by the owner of the path (R360, R362). -/
def ptpGo (firmware : Bool) (len : Nat) (p : Nat) (one : Bool) (tag : Nat) (s : State) : State :=
  if firmware == s.on Reg.TIME_PTP_CTRL.OWNER then s else
  let busy := s.on Reg.TIME_PTP_TXCTL.BUSY
  let s := (((s.put Reg.TIME_PTP_TXCTL.LEN len).put Reg.TIME_PTP_TXCTL.PORT p).putB Reg.TIME_PTP_TXCTL.ONE_STEP one).put Reg.TIME_PTP_TXCTL.TAG tag
  if busy || len < 14 || 256 < len then s else
  (modTime (fun t => { t with tx := some { port := p, oneStep := one, tag := tag, octets := ptpBuffer s len } }) s).put Reg.TIME_PTP_TXCTL.BUSY 1

def execPtpTxGo (firmware : Bool) (len : Fin 512) (p : Fin 2) (one : Bool) (tag : Fin 65536) (s : State) : Host.Outcome State Fault Refusal :=
  run (ptpGo firmware len p one tag) s

/-- The ones' complement checksum of a UDP datagram over IPv6, 0xFFFF for 0 (RFC 8200). -/
def udp6Sum (o : List Byte) (f : PtpForm) : Nat :=
  let len := beAt o (f.udp + 4) 2
  let data := (List.range ((len + 1) / 2)).map (fun i => beAt (o.take (f.udp + len)) (f.udp + 2 * i) 2)
  let sum := ((List.range 16).map (fun i => beAt o (f.l3 + 8 + 2 * i) 2)).sum + len + 17 + data.sum
  let c := 65535 - sum % 65535
  if c = 0 then 65535 else c

/-- The frame a one-step Sync leaves as (R362). -/
def oneStepFrame (ts : Nat) (f : PtpForm) (o : List Byte) : List Byte :=
  let o := bePut o (f.msg + 34) 6 (ts / sec16)
  let o := bePut o (f.msg + 40) 4 (ts % sec16 / 65536)
  let o := bePut o (f.msg + 8) 8 (beAt o (f.msg + 8) 8 + ts % 65536)
  if f.carrier = 1 then bePut o (f.udp + 6) 2 0
  else if f.carrier = 2 then
    let o := bePut o (f.udp + 6) 2 0
    bePut o (f.udp + 6) 2 (udp6Sum o f)
  else o

/-- A frame with its FCS, as it leaves the port (R362; PRESUMED, log entry 8: the FCS of Ethernet). -/
def withFcs (o : List Byte) : List Nat :=
  let l := o.map (·.toNat)
  l ++ octetsLe 4 (crc32 l)

/-- PTP_TX_DONE: the frame leaves its port (R362, R363). -/
def ptpDone (dev : BitVec 24) (s : State) : State :=
  match s.time.tx with
  | none => s
  | some x =>
    if !s.tm.linkUp.contains x.port || !pdOn s 24 then s else
    let s := (modTime (fun t => { t with tx := none }) s).put Reg.TIME_PTP_TXCTL.BUSY 0
    let s := s.inc (Reg.TIME_PTPp_CNT.TX x.port)
    let form := ptpForm x.octets
    let ty := form.map (ptpType x.octets)
    let ts := ptpStamp x.port (ty == some 1) dev s
    let send (o : List Byte) (s : State) := s.emit (.lanes "ETH PTP" (x.port :: withFcs o))
    match (if x.oneStep && ty == some 0 then form else none) with
    | some f => send (oneStepFrame ts f x.octets) s
    | none =>
      let s := send x.octets s
      if 16 ≤ s.time.tsq.length then s.inc Reg.TIME_PTP_TXDROP.CNT
      else modTime (fun t => { t with tsq := t.tsq ++ [(x.tag, ts)] }) s

def execPtpTxDone (ofs : Fin 122880) (dev : BitVec 24) (s : State) : Host.Outcome State Fault Refusal := run (fun s => ptpDone dev (s.at ofs)) s

/-- PTP_TXTS_READ: consumes the oldest egress timestamp. -/
def ptpTsRead (s : State) : State :=
  match s.time.tsq with
  | [] => s.emit (.readWord 0 Reg.TIME_PTP_TXTS_STAT.TAG.addr 0)
  | (tag, ts) :: rest =>
    let s := modTime (fun t => { t with tsq := rest }) s
    (latch16 Reg.TIME_PTP_TXTS_NS.NS Reg.TIME_PTP_TXTS_SEC_LO.SEC Reg.TIME_PTP_TXTS_SEC_HI.SEC Reg.TIME_PTP_TXTS_SEC_HI.FRAC ts s).emit
      (.readWord 0 Reg.TIME_PTP_TXTS_STAT.TAG.addr (tag + 65536))

def execPtpTxtsRead (s : State) : Host.Outcome State Fault Refusal := run ptpTsRead s

/-! ## The tick boundary (R342, R343, R346 to R349, R354, R355) -/

/-- Reticle time becomes `t`. -/
def timeBecomes (t : Nat) (s : State) : State :=
  modTime (fun x => { x with sec := secOf t, ns := nsOf t, frac := t % unitNs }) s

/-- The count of ticks goes up by one, and the tick-offset counter returns to 0. -/
def countTick (s : State) : State :=
  ({ s with core := { s.core with ticks := s.core.ticks + 1 } }.incWrap Reg.SYS_TICK_NOW.TICK).put Reg.SYS_TICK_OFFSET.CLOCKS 0

/-- The tick ends: Reticle time and the tick count advance by a tick, and the tick-offset counter returns to 0. -/
def advanceTick (s : State) : State :=
  countTick (timeBecomes ((s.time.sec * 1000000000 + s.time.ns) * unitNs + s.time.frac + advance Config.tickClocks s.time.rate) s)

/-- Marks every Aperture model for reset where the step exceeds APT_LIM µs (R348). `d` is in units of 2^−48 ns. -/
def massReset (d : Int) (s : State) : State :=
  if d.natAbs ≤ s.get Reg.TIME_STEP_CFG.APT_LIM * 1000 * unitNs then s
  else modFwd (fun w => { w with nth := w.nth.map (fun e => (e.1, if e.2.valid then { e.2 with aptM := true } else e.2)) }) s

/-- Reticle time takes a new value at a boundary, by a SET or a step (R348). -/
def retime (t : Nat) (s : State) : State :=
  let d : Int := (t : Int) - s.now
  let s := modTime (fun x => { x with sec := secOf t, ns := nsOf t, frac := t % unitNs, discard := s.get Reg.TIME_SERVO.DISCARD }) s
  massReset d (s.inc Reg.TIME_STEPS.CNT)

/-- A step of `d` in units of 2^−48 ns, refused where time would be negative (R347). -/
def stepTime (d : Int) (s : State) : State :=
  if (s.now : Int) + d < 0 then s.put Reg.TIME_STAT.STEP_ERR 1 else retime ((s.now : Int) + d).toNat s

/-- TIME_SET_APPLY (R346); `mac` says that the MAC sequencer runs on either side of the boundary. -/
def applySet (mac : Bool) (s : State) : State :=
  let ns := s.get Reg.TIME_SET_NS.NS
  let sec := s.get Reg.TIME_SET_SEC_LO.SEC + 2 ^ 32 * s.get Reg.TIME_SET_SEC_HI.SEC
  let tick := s.on Reg.TIME_CTRL.SET_TICK
  let s := s.put Reg.TIME_CTRL.SET 0
  if 1000000000 ≤ ns || (tick && (ns % 125000 != 0 || mac)) then s.put Reg.TIME_STAT.SET_ERR 1 else
  when tick (fun s => s.put Reg.SYS_TICK_NOW.TICK ((sec * 1000000000 + ns) / 125000)) (retime ((sec * 1000000000 + ns) * unitNs) s)

/-- What falls due at the boundary: a SET alone, else a host STEP, else the servo's step (R346, R347). The servo's step that is discarded shows
in STEP_ERR as any discarded step does (log entry 23). -/
def applySteps (mac : Bool) (s : State) : State :=
  let req := s.time.step
  let s := modTime (fun t => { t with step := none }) s
  let s := when (req.isSome && (s.on Reg.TIME_CTRL.SET || s.on Reg.TIME_CTRL.STEP)) (fun s => s.put Reg.TIME_STAT.STEP_ERR 1) s
  if s.on Reg.TIME_CTRL.SET then
    let stepToo := s.on Reg.TIME_CTRL.STEP
    when stepToo (fun s => (s.put Reg.TIME_CTRL.STEP 0).put Reg.TIME_STAT.STEP_ERR 1) (applySet mac s)
  else if s.on Reg.TIME_CTRL.STEP then stepTime (s.getS Reg.TIME_STEP_NS.STEP * (unitNs : Nat)) (s.put Reg.TIME_CTRL.STEP 0)
  else match req with
    | some th => stepTime (th * (2 ^ 32 : Nat)) s
    | none => s

/-- The tick error: the nanoseconds minus the nearest multiple of 125,000 (R343). -/
def tickErr (ns : Nat) : Int := if ns % 125000 < 62500 then (ns % 125000 : Nat) else (ns % 125000 : Nat) - 125000

/-- TICK_LATCH (R343). -/
def latchTick (s : State) : State :=
  let s := modTime (fun t => { t with tbSec := t.sec, tbFrac := t.frac / 2 ^ 32 }) s
  (s.put Reg.TIME_TB_NS.NS s.time.ns).putS Reg.TIME_TICK_ERR.ERR (tickErr s.time.ns)

/-- The synthesizer uses the reference that the VCXO feeds (R355). -/
def steerable (s : State) : Bool := s.get Reg.CLK_STAT.SEL == s.get Reg.TIME_VCXO.REF && !s.on Reg.CLK_STAT.HOLD

/-- VCXO_CTL from here on (R356): the code its bit stream carries, none while it is high-impedance. -/
def vcxoCode (s : State) : Option Nat := if s.on Reg.TIME_VCXO.EN then some (s.get Reg.TIME_VCXO_CODE.CODE) else none

/-- The mean voltage of VCXO_CTL as a part of VDDIO (R356), none while it is high-impedance. -/
def vcxoMean (s : State) : Option Rat := (vcxoCode s).map (fun c => (c : Rat) / 16777216)

/-- VCXO_CTL is driven with its code, or let go (no code). -/
def vcxoDrive (s : State) : State := s.emit (.lanes "VCXO_CTL" (vcxoCode s).toList)

/-- y takes effect in y_eff or on VCXO_CTL (R342, R354, R355). -/
def applyRate (s : State) : State :=
  let steer := s.on Reg.TIME_SERVO.OUT
  let lost := steer && !steerable s
  let s := s.putB Reg.TIME_STAT.STEER_LOST lost
  let r := clampRat 33554431 ((s.getS Reg.TIME_FREQ.FREQ : Rat) / 64 + (if steer && !lost then 0 else s.time.y))
  let s := (modTime (fun t => { t with rate := r }) s).putS Reg.TIME_FREQ_EFF.FREQ (roundAway (r * 64))
  if steer && !lost then
    let c := (s.get Reg.TIME_VCXO_MID.MID : Int) + roundAway (s.time.y * (s.getS Reg.TIME_VCXO.GAIN : Rat) / 256)
    vcxoDrive (s.put Reg.TIME_VCXO_CODE.CODE (clampInt 0 (2 ^ 24 - 1) c).toNat)
  else s

/-- TICK_OUT_PULSE (R349): the rise, and the fall WIDTH clocks later, which is always before the next tick. -/
def tickOut (s : State) : State :=
  let div := s.get Reg.TIME_TICK_OUT.DIV_M1 + 1
  if s.on Reg.TIME_TICK_OUT.EN && decide (((s.tick : Int) - s.get Reg.TIME_TICK_PHASE.PHASE) % (div : Nat) = 0) then
    let fall := s.clk + max 1 (s.get Reg.TIME_TICK_OUT.WIDTH)
    ((modTime (fun t => { t with tickFall := fall }) s).emit (.pin "TICK_OUT" 1)).emit (.edge "TICK_OUT" 0 fall)
  else s

/-- What a tick boundary does in the Reticle once the tick has advanced; `mac` as in `applySet`. -/
def timeBoundary (mac : Bool) (s : State) : State := holdQ (tickOut (applyRate (latchTick (applySteps mac s))))

end Sys2Proof.Machine
end

