-- ==== Sys2Proof/Machine/Clock.lean ====
section
/-! DEFINITION. The clock synthesizer (chapter 12): the loop, the reference monitor and the clock outputs. -/

namespace Sys2Proof.Machine

def modClock (f : ClkS → ClkS) (s : State) : State := { s with clock := f s.clock }

def refABSENT : Nat := 0
def refQUALIFYING : Nat := 1
def refVALID : Nat := 2
def refDRIFTING : Nat := 3

def refState (s : State) (r : Nat) : Nat := s.get (Reg.CLK_REFr_STAT.STATE r)
def clkSel (s : State) : Nat := s.get Reg.CLK_STAT.SEL

/-- f_ref × M / R in kHz for a PRE and REF_DIV value (R366). -/
def pfdOf (freq pre rdiv : Nat) : Rat :=
  (if pre = 0 then (freq : Rat) / 2 else if pre = 2 then (freq : Rat) * 2 else freq) / ((if rdiv = 0 then 1 else rdiv : Nat) : Rat)

/-- f_pfd of the loop in force, and of reference `r` by its own registers. -/
def pfdNow (s : State) : Rat := pfdOf (s.get (Reg.CLK_REFr_CFG.FREQ (clkSel s))) s.clock.pre s.clock.rdiv
def pfdRef (s : State) (r : Nat) : Rat :=
  pfdOf (s.get (Reg.CLK_REFr_CFG.FREQ r)) (s.get (Reg.CLK_REFr_CFG.PRE r)) (s.get (Reg.CLK_REFr_CFG.REF_DIV r))

/-- Reference `r` can be switched to hitlessly as far as its plan goes (R370): it is the selected one, or its own plan gives the same
f_pfd. -/
def isAlternate (s : State) (r : Nat) : Bool := r == clkSel s || decide (pfdRef s r = pfdNow s)

/-- CLK_STAT.ALT_OK follows the plans. -/
def showAlt (s : State) : State := s.putB Reg.CLK_STAT.ALT_OK (isAlternate s (1 - clkSel s))

/-- The staged plan of reference `r` is valid (R368). -/
def planValid (s : State) (r : Nat) : Bool :=
  let f := s.get (Reg.CLK_REFr_CFG.FREQ r)
  let inDiv := pfdOf f (s.get (Reg.CLK_REFr_CFG.PRE r)) 1
  let pfd := pfdRef s r
  decide (pfd * ((s.get Reg.CLK_PLL.N : Nat) : Rat) = 5898240) && decide (10000 ≤ f) && decide (f ≤ 250000) && decide (inDiv ≤ 125000) &&
  decide (5000 ≤ pfd) && decide (pfd ≤ 125000) && decide (16 ≤ s.get Reg.CLK_PLL.N)

/-! ## Outputs (R375 to R378) -/

def outSrc (s : State) (n : Nat) : Nat := if s.get (Reg.CLK_OUTn_CFG.SRC n) = 3 then 0 else s.get (Reg.CLK_OUTn_CFG.SRC n)
def outFmt (s : State) (n : Nat) : Nat := if 5 < s.get (Reg.CLK_OUTn_CFG.FMT n) then 0 else s.get (Reg.CLK_OUTn_CFG.FMT n)

/-- The output's frequency is above its format's limit (R375). -/
def outTooFast (s : State) (n : Nat) : Bool :=
  let f : Rat := if outSrc s n = 0 then 5898240 / ((max 4 (s.get (Reg.CLK_OUTn_CFG.DIV n)) : Nat) : Rat)
    else s.get (Reg.CLK_REFr_CFG.FREQ (outSrc s n - 1))
  match outFmt s n with
  | 0 => false
  | 2 => decide (400000 < f)
  | 4 => decide (250000 < f)
  | 5 => decide (250000 < f)
  | _ => decide (1474560 < f)

/-- The output's source is running (R377): the loop is locked, or the reference is VALID. -/
def outSource (s : State) (n : Nat) : Bool :=
  if outSrc s n = 0 then s.on Reg.CLK_STAT.LOCK && !s.on Reg.CLK_STAT.RELOCKING else refState s (outSrc s n - 1) == refVALID

/-- The levels of P and N while the output is stopped (R375). -/
def stoppedLevel (s : State) (n : Nat) : Nat × Nat := (0, if outFmt s n = 0 || outFmt s n = 4 then 0 else 1)

/-- The output's first edge falls on the tick boundary itself (R377): a VCO output whose DIV divides the 737,280 VCO cycles of a tick. -/
def onTick (s : State) (n : Nat) : Bool := outSrc s n == 0 && 737280 % max 4 (s.get (Reg.CLK_OUTn_CFG.DIV n)) == 0

/-- A running output stops, and its pads hold the stopped level of its format. -/
def stopOut (n : Nat) (s : State) : State :=
  if !s.on (Reg.CLK_OUTn_STAT.RUN n) then s else
  (s.put (Reg.CLK_OUTn_STAT.RUN n) 0).emit (.lanes "CLKOUT stopped" [n, (stoppedLevel s n).1, (stoppedLevel s n).2])

/-- CFG_ERR follows the output's configuration. -/
def checkOut (n : Nat) (s : State) : State := s.putB (Reg.CLK_OUTn_STAT.CFG_ERR n) (outTooFast s n)

/-- CLKOUT_START at a tick boundary; what it puts out names the output, its source, divider and format, and whether its first edge falls
on the boundary. -/
def startOut (n : Nat) (s : State) : State :=
  let s := checkOut n s
  if s.on (Reg.CLK_OUTn_CFG.EN n) && !s.on (Reg.CLK_OUTn_STAT.RUN n) && !s.on (Reg.CLK_OUTn_STAT.SHORT n) && !s.on (Reg.CLK_OUTn_STAT.CFG_ERR n) &&
    outFmt s n != 0 && outSource s n && pdOn s 29 && !s.on Reg.PWR_STAT.PAD_HELD then
    (s.put (Reg.CLK_OUTn_STAT.RUN n) 1).emit
      (.lanes "CLKOUT" [n, outSrc s n, max 4 (s.get (Reg.CLK_OUTn_CFG.DIV n)), outFmt s n, b2n (onTick s n)])
  else s

/-- Stops every output whose source is the one given: 0 the VCO, 1 and 2 the references. -/
def stopFrom (src : Nat) (s : State) : State := forEach (List.range 8) (fun n s => if outSrc s n = src then stopOut n s else s) s

/-- CLKOUT_CONFIG_WRITE: SRC, FMT and DIV of output `n`. -/
def clkoutWrite (n src fmt div : Nat) (s : State) : State :=
  let change := s.get (Reg.CLK_OUTn_CFG.SRC n) != src || s.get (Reg.CLK_OUTn_CFG.FMT n) != fmt || s.get (Reg.CLK_OUTn_CFG.DIV n) != div
  let s := when change (stopOut n) s
  checkOut n (((s.put (Reg.CLK_OUTn_CFG.SRC n) src).put (Reg.CLK_OUTn_CFG.FMT n) fmt).put (Reg.CLK_OUTn_CFG.DIV n) div)

def execClkoutConfigWrite (n : Fin 8) (src : Fin 4) (fmt : Fin 8) (div : Fin 4096) (s : State) : Host.Outcome State Fault Refusal :=
  run (regAccess Reg.CLK_CTRL.RELOCK.addr (clkoutWrite n src fmt div)) s

/-- A current-limit event on an output (R378). -/
def outShort (n : Nat) (s : State) : State :=
  modClock (fun c => { c with retry := c.retry.set n s.core.ticks })
    (((stopOut n s).put (Reg.CLK_OUTn_STAT.SHORT n) 1).inc Reg.CLK_SHORT_CNT.CNT)

/-- CLKOUT_SHORT: a running output holds its current limit for 1 µs. -/
def execClkoutShort (n : Fin 8) (s : State) : Host.Outcome State Fault Refusal :=
  run (fun s => if s.on (Reg.CLK_OUTn_STAT.RUN n) then outShort n s else s) s

/-- CLKOUT_SHORT_RETRY: 10 ms after the event or the last retry; `again` says whether the limit is reached again. -/
def execClkoutShortRetry (n : Fin 8) (again : Bool) (s : State) : Host.Outcome State Fault Refusal :=
  run (fun s =>
    if s.on (Reg.CLK_OUTn_CFG.EN n) && s.on (Reg.CLK_OUTn_STAT.SHORT n) && decide (s.clock.retry.get n + 80 ≤ s.core.ticks) && pdOn s 29 then
      if again then outShort n s else s.put (Reg.CLK_OUTn_STAT.SHORT n) 0
    else s) s

/-! ## Selection (R383 to R385) -/

/-- A hitless switch to reference `r` (R384): its own pre-scaler and divider are then the loop's. -/
def switchTo (r : Nat) (s : State) : State :=
  let s := ((s.put Reg.CLK_STAT.SEL r).put Reg.CLK_STAT.HOLD 0).inc Reg.CLK_SWITCH_CNT.CNT
  showAlt (modClock (fun c => { c with pre := s.get (Reg.CLK_REFr_CFG.PRE r), rdiv := s.get (Reg.CLK_REFr_CFG.REF_DIV r) }) s)

/-- The loop runs in service, so that it can switch or hold. -/
def inService (s : State) : Bool := pdOn s 29 && !s.on Reg.CLK_STAT.RELOCKING

/-- Clock holdover ends with a hitless switch to the first reference that is VALID and an alternate, PREF before the other (R385). -/
def leaveHold (s : State) : State :=
  let pref := s.get Reg.CLK_REFSEL.PREF
  let ready (r : Nat) : Bool := refState s r == refVALID && isAlternate s r && inService s
  if !s.on Reg.CLK_STAT.HOLD then s else if ready pref then switchTo pref s else if ready (1 - pref) then switchTo (1 - pref) s else s

/-- A plan was written: the alternate follows, and with it what holdover may switch to (R370, R385). -/
def planWrote (s : State) : State := leaveHold (showAlt s)

/-- Leaves the selected reference (R383): a switch, or clock holdover. -/
def leaveRef (s : State) : State :=
  let o := 1 - clkSel s
  if !inService s || s.on Reg.CLK_STAT.HOLD then s
  else if refState s o = refVALID && isAlternate s o then switchTo o s
  else (s.put Reg.CLK_STAT.HOLD 1).inc Reg.CLK_HOLD_CNT.CNT

/-- Reference `r` becomes ABSENT (R379). Its outputs stop with it. -/
def refAbsent (r : Nat) (s : State) : State :=
  if refState s r = refABSENT then s else
  let s := ((s.put (Reg.CLK_REFr_STAT.STATE r) refABSENT).put (Reg.CLK_REFr_STAT.FAILS r) 0).inc Reg.CLK_LOSS_CNT.CNT
  let s := modClock (fun c => { c with quals := c.quals.set r 0, valids := c.valids.set r 0, last := c.last.erase r }) s
  stopFrom (r + 1) s

/-- REF_LOSS. -/
def execRefLoss (r : Fin 2) (s : State) : Host.Outcome State Fault Refusal :=
  run (fun s =>
    let was := refState s r
    let s := refAbsent r s
    if was ≠ refABSENT && r.val = clkSel s then leaveRef s else s) s

/-- REF_EDGES_RETURN. -/
def execRefEdgesReturn (r : Fin 2) (s : State) : Host.Outcome State Fault Refusal :=
  run (fun s => if refState s r = refABSENT then
    modClock (fun c => { c with quals := c.quals.set r 0 }) (s.put (Reg.CLK_REFr_STAT.STATE r) refQUALIFYING) else s) s

/-- CLK_FORCE: writing CLK_REFSEL.FORCE = 1. -/
def clkForce (s : State) : State :=
  let r := s.get Reg.CLK_REFSEL.PREF
  if refState s r = refVALID && isAlternate s r && inService s && (clkSel s != r || s.on Reg.CLK_STAT.HOLD) then switchTo r s else s

def execClkForce (s : State) : Host.Outcome State Fault Refusal := run (regAccess Reg.CLK_CTRL.RELOCK.addr clkForce) s

/-! ## Relock (R371 to R374) -/

/-- RELOCK: writing CLK_CTRL.RELOCK = 1. LPDDR5X goes to self-refresh for as long as it takes. The plan is that of PREF where PREF may be selected, else of the selected reference. -/
def relock (s : State) : State :=
  let pref := s.get Reg.CLK_REFSEL.PREF
  let r := if refState s pref = refVALID then pref else clkSel s
  if s.on Reg.RSI_CTRL.EN || s.on Reg.TXC_CTRL.EN || s.effOn Reg.MAC_CTRL.EN then s.put Reg.CLK_STAT.CFG_ERR 2
  else if !planValid s r then s.put Reg.CLK_STAT.CFG_ERR 1
  else
    let s := stopFrom 0 s
    let s := ((((s.put Reg.CLK_CTRL.RELOCK 1).put Reg.CLK_STAT.RELOCKING 1).put Reg.CLK_STAT.LOCK 0).put Reg.CLK_STAT.SEL r).put
      Reg.MEM_STAT.SELF_REFRESH 1
    let s := when (refState s r == refVALID) (fun s => s.put Reg.CLK_STAT.HOLD 0) s
    showAlt (modClock (fun c => { c with
      n := s.get Reg.CLK_PLL.N, icp := s.get Reg.CLK_CP.ICP, pre := s.get (Reg.CLK_REFr_CFG.PRE r), rdiv := s.get (Reg.CLK_REFr_CFG.REF_DIV r) }) s)

def execRelock (s : State) : Host.Outcome State Fault Refusal := run (regAccess Reg.CLK_CTRL.RELOCK.addr relock) s

/-- The processing clock returns to the VCO (R373), and LPDDR5X leaves self-refresh. -/
def clockBack (s : State) : State :=
  if s.on Reg.CLK_STAT.LOCK && s.on Reg.CLK_STAT.RELOCKING then 
    ((s.put Reg.CLK_STAT.RELOCKING 0).put Reg.CLK_CTRL.RELOCK 0).putB Reg.MEM_STAT.SELF_REFRESH (!pdOn s 26)
  else s

/-- PLL_LOCK with the measured VCO gain, 40 to 80 MHz/V. The first lock after PORST_N is released needs a reference that is not ABSENT,
a later one a VALID reference (R374, R431, log entry 25), and it starts tick 0 (R345). -/
def pllLock (kvco : Fin 41) (s : State) : State :=
  let ref := refState s (clkSel s)
  if s.on Reg.CLK_STAT.LOCK || !pdOn s 29 || (if s.time.going then ref != refVALID else ref == refABSENT) then s else
  let s := (s.put Reg.CLK_STAT.LOCK 1).put Reg.CLK_STAT.KVCO (kvco.val + 40)
  if s.time.going then s else
  let s := modTime (fun t => { t with going := true }) (s.put Reg.SYS_TICK_OFFSET.CLOCKS 0)
  showAlt (forEach (List.range 8) startOut (clockBack s))

def execPllLock (kvco : Fin 41) (s : State) : Host.Outcome State Fault Refusal := run (pllLock kvco) s

/-- PLL_LOSS_OF_LOCK in service. -/
def execPllLossOfLock (s : State) : Host.Outcome State Fault Refusal :=
  run (fun s => if s.on Reg.CLK_STAT.LOCK && inService s then (s.put Reg.CLK_STAT.LOCK 0).inc Reg.CLK_LOL_CNT.CNT else s) s

/-- The synthesizer's part of a tick boundary. -/
def clkBoundary (s : State) : State := showAlt (forEach (List.range 8) startOut (when (pdOn s 29) clockBack s))

/-! ## The drift monitor (R380 to R382) -/

/-- The differences of a window, in ppb, where they are formed. -/
structure Drift where
  d01 : Option Int
  d0 : Option Int
  d1 : Option Int
deriving DecidableEq, Repr, Inhabited

/-- Forms the differences from the measured d01 (R380). -/
def drifts (d01 : Int) (s : State) : Drift :=
  let sel := clkSel s
  let p (r : Nat) := refState s r != refABSENT
  let own : Int := if s.effOn Reg.TIME_SERVO.OUT && steerable s then 0 else -roundAway s.time.y
  let base := servoState s == svLOCKED && p sel
  let dT (r : Nat) : Option Int :=
    if !base || !p r then none else some (own + (if r = sel then 0 else if r = 0 then d01 else -d01))
  { d01 := if p 0 && p 1 then some d01 else none, d0 := dT 0, d1 := dT 1 }

def Drift.ofRef (d : Drift) (r : Nat) : Option Int := if r = 0 then d.d0 else d.d1

/-- A difference is formed and beyond a limit. -/
def beyond (lim : Nat) (d : Option Int) : Bool := d.elim false (fun x => decide (lim < x.natAbs))
def within (lim : Nat) (d : Option Int) : Bool := d.elim false (fun x => decide (x.natAbs ≤ lim))

/-- |d_rT| moved by more than SLOPE_PPB since the previous window. -/
def slope (s : State) (d : Drift) (r : Nat) : Bool :=
  match d.ofRef r, s.clock.last.find? r with
  | some x, some y => decide (s.get Reg.CLK_REFMON_SLOPE.SLOPE_PPB < ((x.natAbs : Int) - y).natAbs)
  | _, _ => false

/-- The window fails for reference `r` (R381). -/
def windowFails (s : State) (d : Drift) (r : Nat) : Bool :=
  let lim := s.get Reg.CLK_REFMON.LIMIT_PPB
  refState s (1 - r) != refABSENT && refState s r != refABSENT &&
  ((beyond lim (d.ofRef r) && within lim (d.ofRef (1 - r))) || (slope s d r && !slope s d (1 - r)))

/-- A reference's state after a window: condemned, passing, or qualifying (R379, R381). -/
def refWindow (fails : Bool) (r : Nat) (s : State) : State :=
  let st := refState s r
  if st = refABSENT then s else
  let n := if fails then min 15 (s.get (Reg.CLK_REFr_STAT.FAILS r) + 1) else 0
  let s := s.put (Reg.CLK_REFr_STAT.FAILS r) n
  let zero (s : State) := modClock (fun c => { c with quals := c.quals.set r 0, valids := c.valids.set r 0 }) s
  let qual := max 1 (s.get Reg.CLK_REFMON.QUAL)
  if fails then
    if max 1 (s.get Reg.CLK_REFMON.PERSIST) ≤ n && st ≠ refDRIFTING then
      zero ((s.put (Reg.CLK_REFr_STAT.STATE r) refDRIFTING).inc Reg.CLK_DRIFT_CNT.CNT)
    else modClock (fun c => { c with quals := c.quals.set r 0 }) s
  else if st = refDRIFTING then zero (s.put (Reg.CLK_REFr_STAT.STATE r) refQUALIFYING)
  else if st = refQUALIFYING then
    let k := s.clock.quals.get r + 1
    let s := modClock (fun c => { c with quals := c.quals.set r k }) s
    if qual ≤ k then s.put (Reg.CLK_REFr_STAT.STATE r) refVALID else s
  else modClock (fun c => { c with valids := c.valids.set r (c.valids.get r + 1) }) s

/-- REF_AMBIGUOUS holds in one of three cases (R382), unless a reference was condemned in this window. -/
def ambiguous (s : State) (d : Drift) : Bool :=
  let lim := s.get Reg.CLK_REFMON.LIMIT_PPB
  let locked := servoState s == svLOCKED
  (beyond lim d.d01 && !locked) || (beyond lim d.d01 && beyond lim d.d0 && beyond lim d.d1) ||
  (locked && ((beyond lim d.d0 && refState s 1 == refABSENT) || (beyond lim d.d1 && refState s 0 == refABSENT)))

/-- A register of a signed difference, 0x8000_0000 where it was not formed. -/
def putDrift (f : Fld) (d : Option Int) (s : State) : State := match d with
  | some x => s.putS f x
  | none => s.put f 0x80000000

/-- MONITOR_WINDOW_END: `d01` is the measured difference, `off r` says that reference `r` counted more than 100 ppm from FREQ. -/
def monitorEnd (d01 : Int) (off0 off1 : Bool) (s : State) : State :=
  let s := when off0 (refAbsent 0) s
  let s := when off1 (refAbsent 1) s
  let d := drifts d01 s
  let s := putDrift Reg.CLK_REF_DIFF.D01 d.d01 (putDrift (Reg.CLK_REFr_ERR.DT 1) d.d1 (putDrift (Reg.CLK_REFr_ERR.DT 0) d.d0 s))
  let amb := ambiguous s d
  let before := s
  let s := refWindow (windowFails before d 0) 0 s
  let s := refWindow (windowFails before d 1) 1 s
  let keep (r : Nat) (t : Tab Nat) : Tab Nat := match d.ofRef r with
    | some x => t.insert r x.natAbs
    | none => t.erase r
  let s := modClock (fun c => { c with last := keep 1 (keep 0 c.last) }) s
  let condemned := (List.range 2).any (fun r => refState s r == refDRIFTING && refState before r != refDRIFTING)
  let was := s.on Reg.CLK_STAT.REF_AMBIGUOUS
  let s := s.putB Reg.CLK_STAT.REF_AMBIGUOUS (amb && !condemned)
  let s := s.incIf (amb && !condemned && !was) Reg.CLK_AMBIG_CNT.CNT
  let sel := clkSel s
  let s := if refState s sel = refABSENT || refState s sel = refDRIFTING then leaveRef s else s
  let s := leaveHold s
  let pref := s.get Reg.CLK_REFSEL.PREF
  if s.on Reg.CLK_REFSEL.REVERT && clkSel s != pref && refState s pref == refVALID && isAlternate s pref && inService s && decide (max 1 (s.get Reg.CLK_REFMON.QUAL) ≤ s.clock.valids.get pref) then
    switchTo pref s
  else s

def execMonitorWindowEnd (ofs : Fin 122880) (d01 : BitVec 32) (off0 off1 : Bool) (s : State) : Host.Outcome State Fault Refusal :=
  run (fun s => let s := s.at ofs
                if pdOn s 29 then monitorEnd d01.toInt off0 off1 s else s) s

end Sys2Proof.Machine
end

