-- ==== Sys2Proof/Machine/MirrorWire.lean ====
section
/-! DEFINITION. Mirror bursts as octets (R401, R403, R404, R405, R409). -/

namespace Sys2Proof.Machine

/-- Content filled with zeros to a length. -/
def zeroTo (n : Nat) (l : List Nat) : List Nat := (l ++ List.replicate (n - l.length) 0).take n

/-- TYPE of a record (R404). -/
def MirRec.ty : MirRec → Nat
  | .fcCommit .. => 0x01
  | .cbLease .. => 0x02
  | .apt .. => 0x03
  | .nth .. => 0x04
  | .ntc .. => 0x05
  | .nodeKey .. => 0x06
  | .seen .. => 0x07
  | .cmdDone .. => 0x08
  | .fwDelta .. => 0x09
  | .cfgDigest _ => 0x0A
  | .page .. => 0x0B
  | .unknown ty _ => ty

/-- A record's content from octet 4 on (R404). A lease's key is a node key from reference 4,096 on, of endpoint ref − 4,096. -/
def MirRec.content : MirRec → List Nat
  | .fcCommit _ n t fc => octetsLe 3 n ++ [t % 256] ++ octetsLe 4 fc ++ [1]
  | .cbLease _ ref fpr hw =>
    [b2n (decide (4096 ≤ ref))] ++ octetsLe 3 (if 4096 ≤ ref then ref - 4096 else 0) ++ octetsLe 8 (if 4096 ≤ ref then 0 else fpr) ++ octetsLe 4 hw
  | .apt n o d k p m t =>
    octetsLe 3 n ++ [k % 16 + 16 * b2n p + 32 * b2n m] ++ octetsLe 4 (ofSigned 32 o) ++ octetsLe 3 (ofSigned 24 d) ++ [0] ++ octetsLe 6 t
  | .nth n x => zeroTo 12 (octetsLe 3 n) ++ (nthPack x).flatMap (octetsLe 4)
  | .ntc e x => zeroTo 12 (octetsLe 3 e) ++ (ntcPack x).flatMap (octetsLe 4)
  | .nodeKey e gen v t key st =>
    zeroTo 12 (octetsLe 3 e ++ [gen % 256, b2n v + 2 * b2n st.isSome] ++ octetsLe 2 t) ++ octetsLe 16 key ++ octetsLe 16 (st.getD 0)
  | .seen t seq seed => zeroTo 12 [t % 256, seq % 256] ++ octetsLe 16 seed
  | .cmdDone fn r st pos => octetsLe 2 fn ++ [r % 256, st % 256] ++ octetsLe 4 pos
  | .fwDelta _ len body => (List.range (len - 4)).map (Config.bodyOctet body)
  | .cfgDigest d => zeroTo 12 [] ++ octetsLe 48 d
  | .page r a body => zeroTo 4 [r % 256] ++ octetsLe 8 a ++ (List.range 4096).map (Config.bodyOctet body)
  | .unknown .. => []

/-- A record as octets: its header and content, zeros to its length. -/
def MirRec.wire (r : MirRec) : List Nat := zeroTo r.octets ([r.ty % 256, 0] ++ octetsLe 2 (r.octets / 16) ++ r.content)

/-- The records of a burst as sent in clear: its records and its pages. -/
def Burst.records (b : Burst) : List MirRec := b.recs ++ b.pages.map (fun g => .page g.1 g.2.1 (Config.pageBody g.1 g.2.1))

/-- Octets of a burst (R403): header, records and trailer. -/
def Burst.len (b : Burst) : Nat := 64 + (b.records.map MirRec.octets).sum

/-- The header of a block: MAGIC, KIND, FLAGS, NREC, SEQ, ACK, TICK and LEN (R403). -/
def blockHeader (kind flags nrec seq ack tick len : Nat) : List Nat :=
  octetsLe 4 0x4D525242 ++ [kind, flags] ++ octetsLe 2 nrec ++ octetsLe 8 seq ++ octetsLe 8 ack ++ octetsLe 4 tick ++ octetsLe 2 (len / 16) ++ [0, 0]

/-- The trailer: MIC, then the CRC-32C of the header, the records as sent and MIC (R403). -/
def blockTrailer (head body mic : List Nat) : List Nat := zeroTo 32 (mic ++ octetsLe 4 (crc32c 0xFFFFFFFF (head ++ body ++ mic)))

/-- The nonce of the twin path: the sender's side, SEQ least significant first, 0 (R409). -/
def mirNonce (side seq : Nat) : List Nat := [side % 256] ++ octetsLe 8 seq ++ [0, 0, 0, 0]

/-- A block on a path: on the twin path its records are encrypted and its header authenticated under the session key, on the internal path
both stand in clear with a MIC of 0 (R403, R409). -/
def blockWire (p side : Nat) (key : Option Nat) (seq : Nat) (head body : List Nat) : List Nat :=
  match (if p = 0 then none else key) with
  | none => head ++ body ++ blockTrailer head body (zeroTo 16 [])
  | some k =>
    let n := mirNonce side seq
    let sealed := Config.ccmText k n body
    head ++ sealed ++ blockTrailer head sealed (octetsLe 16 (Config.ccmMic k n head body))

/-- FLAGS of a burst. -/
def Burst.flags (b : Burst) : Nat := b2n b.handover + 2 * b2n b.force + 4 * b2n b.holder + 8 * b2n b.caughtUp

/-- A burst on a path as octets. -/
def burstWire (p side : Nat) (key : Option Nat) (b : Burst) : List Nat :=
  blockWire p side key b.seq
    (blockHeader b.kind b.flags b.records.length b.seq (b.ack.getD Config.noAck) b.tick b.len) (b.records.flatMap MirRec.wire)

/-- A NAK block naming the missing SEQ (R403, R405). -/
def nakWire (p side : Nat) (key : Option Nat) (flags tick missing : Nat) : List Nat :=
  blockWire p side key 0 (blockHeader 3 flags 0 0 missing tick 64) []

/-- The blocks of the twin path's keying (R403, R408): KEYING with the 16 octets and the firmware version, in clear, and CONFIRM under the session
key. That N comes before the version, and that a block without a burst before it shows no ACK, is the model's choice (log entry 26). -/
def keyingWire (flags tick n ver : Nat) : List Nat :=
  let body := octetsLe 16 n ++ zeroTo 16 (octetsLe 4 ver)
  blockWire 0 0 none 0 (blockHeader 4 flags 0 0 Config.noAck tick 96) body

def confirmWire (side key flags tick : Nat) : List Nat := blockWire 1 side (some key) 0 (blockHeader 5 flags 0 0 Config.noAck tick 64) []

end Sys2Proof.Machine
end

