-- ==== Sys2Proof/Machine/Mirror.lean ====
section
/-! DEFINITION. The Mirror link (chapter 13): bursts, acknowledgements, the twin path and RESYNC. -/

namespace Sys2Proof.Machine

/-! ## Roles and bursts (R401, R403, R404, R523) -/

/-- Processing clocks in n µs, the first at or after. -/
def usClk (n : Nat) : Nat := Config.usClocks n

/-- MIR_STAT.ROLE as the leases and RESYNC stand: 0 SINGLE, 1 HOLDER, 2 FOLLOWER, 3 RESYNC. -/
def roleSync (s : State) : State :=
  s.put Reg.MIR_STAT.ROLE (if !s.on Reg.MIR_CTRL.TWIN then 0 else if s.on Reg.WDN_TWL_STAT.HELD then 1 else if s.mir.selfCaughtUp then 2 else 3)

/-- The records that fit a burst, in order, with those left (R401). -/
def takeRecs : Nat → List MirRec → List MirRec × List MirRec
  | _, [] => ([], [])
  | room, r :: l => if r.octets ≤ room then
      let (a, b) := takeRecs (room - r.octets) l
      (r :: a, b) else ([], r :: l)

/-- Clocks from a burst's launch to its end on a path (R523). -/
def burstClks (p len : Nat) : Nat := if p = 0 then (len + 31) / 32 else (len * 98304 + 624999) / 625000

/-- The clock at which the peer's next burst is due after a clock (R401). -/
def peerDue (c : Nat) : Nat :=
  let t := c / Config.tickClocks * Config.tickClocks
  let o := c - t
  t + (if o < Config.ofsBurstA then Config.ofsBurstA else if o < Config.ofsBurstB then Config.ofsBurstB else Config.tickClocks + Config.ofsBurstA)

/-- When a burst that ends at clock `e` is retransmitted if unacknowledged, and when it would normally be acknowledged (R405). -/
def retxDue (p e : Nat) : Nat := if p = 0 then e + usClk 2 else peerDue e + usClk 3
def normDue (p e : Nat) : Nat := if p = 0 then e + usClk 1 else peerDue e + usClk 1

/-- The FLAGS and ACK of a burst sent on a path now. -/
def burstHead (s : State) (p kind : Nat) : Burst :=
  { kind := kind, seq := (pathOf s p).nextSeq, ack := if (pathOf s p).rxNext = 0 then none else some ((pathOf s p).rxNext - 1),
    tick := s.tick % 2 ^ 32, holder := s.on Reg.WDN_TWL_STAT.HELD, force := s.on Reg.WDN_FORCE_CTRL.ACTIVE, caughtUp := s.mir.selfCaughtUp,
    handover := s.wdn.yieldDue, recs := [], pages := [] }

/-- A burst leaves on a path. -/
def sendBurst (p : Nat) (b : Burst) (s : State) : State :=
  let len := b.len
  let e := s.clk + burstClks p len
  let x : Sent := { burst := b, tick := s.core.ticks, len := len, due := retxDue p e, norm := normDue p e }
  let s := modPath p (fun q => { q with nextSeq := b.seq + 1, unacked := q.unacked ++ [x] }) (s.inc Reg.MIR_BURSTS.CNT)
  let s := if p = 1 then s.put Reg.MIR_SEQ_TX.SEQ b.seq else s
  s.emit (.lanes "mirror" (p :: burstWire p (s.get Reg.MIR_STAT.SIDE) s.mir.session b))

/-- The twin path carries bursts: it is linked and its domain is on. -/
def twinUp (s : State) : Bool := twinLinked s && pdOn s 25

/-- A path carries bursts. -/
def mirPathUp (s : State) (p : Nat) : Bool := if p = 0 then pathHasReceiver s 0 else twinUp s

/-- Burst A or B on one path. On the twin path burst A carries the configuration digest, and a follower's bursts nothing else but it
(R399, R401). -/
def burstOn (kind p : Nat) (s : State) : State :=
  if !mirPathUp s p then s else
  let digest := if p = 1 && (kind = 0 || isFollower s) then [MirRec.cfgDigest s.mir.configDigest] else []
  let q := if p = 1 && isFollower s then [] else (pathOf s p).queue
  let (recs, left) := takeRecs (32768 - 64 - (digest.map MirRec.octets).sum) q
  let s := modPath p (fun x => { x with queue := left }) s
  let s := s.incIf (!left.isEmpty) Reg.MIR_BURST_FULL.CNT
  sendBurst p { burstHead s p kind with recs := digest ++ recs } s

def execBurstA (s : State) : Host.Outcome State Fault Refusal :=
  run (fun s => burstOn 0 1 (burstOn 0 0 (s.at Config.ofsBurstA))) s
def execBurstB (s : State) : Host.Outcome State Fault Refusal :=
  run (fun s => burstOn 1 1 (burstOn 1 0 (s.at Config.ofsBurstB))) s

/-! ## Acknowledgement and recovery (R405, R406) -/

/-- The names of the frames and leases whose records a burst carries. -/
def recId : MirRec → Option Nat
  | .fcCommit id .. => some id
  | .cbLease id .. => some id
  | _ => none

/-- The frames and blocks that wait on a burst beyond its normal instant count MIR_BUBBLE once each (R24, R406). -/
def bubble (p : Nat) (x : Sent) (s : State) : State :=
  let ids := x.burst.recs.filterMap recId
  let fHit (f : Frame) : Bool := ids.contains f.id && f.waits.contains p && !f.bubble
  let lHit (c : CounterS) : Bool := match c.lease with
    | some l => ids.contains l.id && l.waits.contains p && !l.bubble
    | none => false
  let n := (s.sec.release.filter fHit).length + (s.sec.ctr.filter (fun e => lHit e.2)).length
  if n = 0 then s else
  let s := modSec (fun c => { c with
    release := c.release.map (fun f => if fHit f then { f with bubble := true } else f)
    ctr := c.ctr.map (fun e => (e.1, if lHit e.2 then { e.2 with lease := e.2.lease.map (fun l => { l with bubble := true }) } else e.2)) }) s
  overrun Reg.SYS_OVR_STAT.MIR_BUBBLE (s.incBy Reg.MIR_BUBBLE.CNT n)

/-- RESYNC_COMPLETE of the internal standby (R420): every page sent and every burst acknowledged. -/
def standbyCaught (s : State) : State :=
  if clState s (clStandby s) = clRESYNC && s.mir.int.pagesLeft = 0 && s.mir.int.unacked.isEmpty && !s.on Reg.MIR_STAT.FW_DIFFER then
    ((setCluster (clStandby s) clCAUGHT_UP s).put Reg.MIR_STAT.RESYNC_STAGE 0).inc Reg.MIR_RESYNC.CNT
  else s

/-- The bursts of a path up to a SEQ are acknowledged: what waited for them goes on. -/
def ackUpTo (p seq : Nat) (s : State) : State :=
  let got := (pathOf s p).unacked.filter (fun x => decide (x.burst.seq ≤ seq))
  if got.isEmpty then s else
  let s := forEach got (fun x s => if x.norm < s.clk then bubble p x s else s) s
  let s := modPath p (fun q => { q with unacked := q.unacked.filter (fun x => decide (seq < x.burst.seq)) }) s
  let s := if p = 1 then s.put Reg.MIR_SEQ_ACK.ACK seq else s
  let s := endWaits p (got.flatMap (fun x => x.burst.recs.filterMap recId)) s
  if p = 0 then standbyCaught s else s

/-- MIRROR_ACK_RECEIVED: the highest SEQ received in order on a path (0 internal, 1 twin). -/
def execMirrorAckReceived (p : Fin 2) (seq : Nat) (ofs : Fin 122880) (s : State) : Host.Outcome State Fault Refusal :=
  run (fun s => ackUpTo p seq (s.at ofs)) s

/-- A burst is sent again, unchanged. -/
def retransmit (p seq : Nat) (s : State) : State :=
  match (pathOf s p).unacked.find? (fun x => x.burst.seq == seq) with
  | none => s
  | some x =>
    let s := lpe 0x072 (s.inc Reg.MIR_RETX.CNT)
    let s := if x.norm < s.clk then bubble p x s else s
    let e := s.clk + burstClks p x.len
    let s := modPath p (fun q => { q with unacked := q.unacked.map (fun y => if y.burst.seq = seq then { y with due := retxDue p e } else y) }) s
    s.emit (.lanes "mirror" (p :: burstWire p (s.get Reg.MIR_STAT.SIDE) s.mir.session x.burst))

/-- MIRROR_NAK_RECEIVED. -/
def execMirrorNakReceived (p : Fin 2) (seq : Nat) (ofs : Fin 122880) (s : State) : Host.Outcome State Fault Refusal :=
  run (fun s => retransmit p seq ((s.at ofs).inc Reg.MIR_NAK_RX.CNT)) s

/-- MIRROR_RETRANSMIT_TIMER: a burst's timer has run out. -/
def execMirrorRetransmitTimer (p : Fin 2) (seq : Nat) (ofs : Fin 122880) (s : State) : Host.Outcome State Fault Refusal :=
  run (fun s =>
    let s := s.at ofs
    if (pathOf s p).unacked.any (fun x => x.burst.seq == seq && decide (x.due ≤ s.clk)) then retransmit p seq s else s) s

/-- The NAK block for what a path misses. -/
def nakBlock (s : State) (p : Nat) : List Nat :=
  nakWire p (s.get Reg.MIR_STAT.SIDE) s.mir.session (burstHead s p 3).flags (s.tick % 2 ^ 32) (pathOf s p).rxNext

/-- MIRROR_BURST_MISSING: a bad, gapped or missing burst of the peer; `mic` says that a MIC failed (R409). -/
def execMirrorBurstMissing (p : Fin 2) (mic : Bool) (s : State) : Host.Outcome State Fault Refusal :=
  run (fun s => if !mirPathUp s p then s else
    let s := (s.incIf mic Reg.MIR_MIC_FAIL.CNT).inc Reg.MIR_NAK_TX.CNT
    s.emit (.lanes "mirror NAK" (p :: nakBlock s p))) s

/-- Nothing travels on a path any more: its receiver is gone (R224, R406). -/
def clearPath (p : Nat) (s : State) : State :=
  dropReceiver p (modPath p (fun q => { q with queue := [], unacked := [], pagesLeft := 0 }) s)

/-- The pages of a RESYNC are still to be sent on a path (R420). -/
def startPages (p : Nat) (s : State) : State :=
  let n := Config.resyncPages s.core.free
  (modPath p (fun q => { q with pagesLeft := n }) s.drawn).put Reg.MIR_STAT.RESYNC_STAGE (if n = 0 then 2 else 1)

/-- The split begins (R406, R418). -/
def twinLost (s : State) : State :=
  if s.on Reg.MIR_STAT.TWIN_LOST then s else
  clearPath 1 (modMir (fun m => { m with peerCaughtUp := false, peerHolder := false, peerForce := false }) (s.put Reg.MIR_STAT.TWIN_LOST 1))

/-- RECEIVER_LOST: a burst of the path has been unacknowledged for LOST_TICKS ticks. A lost standby becomes FAILED. -/
def receiverLost (p : Nat) (s : State) : State :=
  let lim := min 8 (max 1 (s.get Reg.MIR_CFG.LOST_TICKS))
  if !(pathOf s p).unacked.any (fun x => decide (x.tick + lim ≤ s.core.ticks)) then s
  else if p = 0 then clearPath 0 ((setCluster (clStandby s) clFAILED s).inc Reg.WDN_STBY_LOST.CNT)
  else twinLost s

def execReceiverLost (p : Fin 2) (s : State) : Host.Outcome State Fault Refusal := run (receiverLost p) s

/-! ## Applying records (R399, R400, R404) -/

/-- What a record does at this part, where it is the receiver. A lease raises the key's HW in its counters and, of a node key, in its node
secret record, from which the key cache takes it (R225, R422). Records of firmware go to firmware. -/
def applyRec (r : MirRec) (s : State) : State :=
  match r with
  | .fcCommit _ n _ fc =>
    let x := nthOf s n
    if replayed x fc then s else setNth n { x with fcIn := fc, fcValid := true } s
  | .cbLease _ ref fp hw =>
    let refs := if 4096 ≤ ref then [ref] else (s.kv.slots.filter (fun e => e.2.active && Config.fpr e.2.key == fp)).map (·.1)
    let s := forEach refs (fun k s => modCtr k (fun c => if c.hw < hw then { c with next := hw, limit := hw, hw := hw } else c) s) s
    let r := s.kv.secrets.get (ref - 4096)
    if 4096 ≤ ref && decide (r.hw < hw) then secretPut (ref - 4096) { r with hw := hw } s else s
  | .apt n o d k p m t =>
    let x := nthOf s n
    if x.tLast ≤ t then setNth n { x with aptO := o, aptD := d, aptN := k, aptP := p, aptM := m, tLast := t } s else s
  | .nth n x =>
    let y := nthOf s n
    writeNth n { y with valid := x.valid, state := x.state, nkey := x.nkey, tenant := x.tenant, endpoint := x.endpoint, eui := x.eui,
                        short := x.short } s
  | .ntc e x => writeNtc e x s
  | .nodeKey e gen valid t key st =>
    if zeroised s || !s.kv.kekD then s else
    let wrap (k : Nat) (staged : Bool) : WrappedKey := { kek := epoch s, key := k, gen := gen, staged := staged, endpoint := e }
    let old := s.kv.secrets.get e
    secretPut e { valid := valid, wkey := wrap key false, wstg := st.map (wrap · true), hw := old.hw, gen := gen, tenant := t } s
  | .seen t seq seed => if mplNew s t seed seq then seenInsert t seed seq s else s
  | .cmdDone .. => s
  | .fwDelta v len body =>
    if v = s.get Reg.FW_RUN_VER.VER then (s.put Reg.MIR_STAT.FW_DIFFER 0).emit (.toFirmware "delta" [len, body]) else s.put Reg.MIR_STAT.FW_DIFFER 1
  | .cfgDigest d => s.putB Reg.MIR_STAT.CFG_DIFFER (d != s.mir.configDigest)
  | .page region addr body => s.emit (.toFirmware "page" [region, addr, body])
  | .unknown .. => s.inc Reg.MIR_REC_UNK.CNT

/-- The end of this part's RESYNC (R420): every page and every burst up to the current one applied. -/
def selfCaught (s : State) : State :=
  if s.get Reg.MIR_STAT.ROLE = 3 && s.mir.pagesWanted = 0 && s.mir.twin.ahead.isEmpty && !s.on Reg.MIR_STAT.FW_DIFFER then
    roleSync (((modMir (fun m => { m with selfCaughtUp := true, synced := true }) s).put Reg.MIR_STAT.RESYNC_STAGE 0).inc Reg.MIR_RESYNC.CNT)
  else s

/-- One burst of the peer is applied. -/
def applyBurst (b : Burst) (s : State) : State :=
  let s := modMir (fun m => { m with peerHolder := b.holder, peerForce := b.force, peerCaughtUp := b.caughtUp, otherHeld := m.otherHeld || b.holder }) s
  let s := forEach b.recs applyRec s
  let s := forEach b.pages (fun g s => forEach g.2.2 applyRec s) s
  let s := modMir (fun m => { m with pagesWanted := m.pagesWanted - b.pages.length }) s
  let s := modPath 1 (fun q => { q with rxNext := b.seq + 1 }) s
  match b.ack with
  | some a => ackUpTo 1 a s
  | none => s

/-- The bursts held ahead that are now in order. -/
def applyAhead : Nat → State → State
  | 0, s => s
  | n + 1, s =>
    match s.mir.twin.ahead.find? (fun b => b.seq == s.mir.twin.rxNext) with
    | none => s
    | some b => applyAhead n (applyBurst b (modPath 1 (fun q => { q with ahead := q.ahead.filter (fun x => x.seq != b.seq) }) s))

/-- The learned entries of both exact-match tables go. -/
def forgetLearned (s : State) : State :=
  forEach [0, 1] (fun p s => emtSync p (modPipe p (fun x => { x with emt := x.emt.filter (fun e => !(e.2.valid && e.2.origin == 0)) }) s)) (staleAll s)

/-- Firmware's state in the scheduler goes (R392, R420). -/
def forgetFirmware (s : State) : State :=
  modMac (fun m => { m with sfs := [], links := [], rates := [], beacons := [], fwq := [] }) s

/-- This part of a twin pair enters RESYNC (R420). -/
def enterResync (s : State) : State :=
  let n := Config.resyncPages s.core.free
  let s := modMir (fun m => { m with selfCaughtUp := false, pagesWanted := n }) s.drawn
  let s := cbPendSync (modSec (fun c => { c with ctr := [] }) s)
  roleSync ((forgetFirmware (forgetLearned s)).put Reg.MIR_STAT.RESYNC_STAGE (if n = 0 then 2 else 1))

/-- A lost twin that is reached again enters RESYNC, and so does this part where it is not the holder (R406, R420). -/
def twinReached (s : State) : State :=
  if !s.on Reg.MIR_STAT.TWIN_LOST then s
  else if s.on Reg.WDN_TWL_STAT.HELD then startPages 1 (s.put Reg.MIR_STAT.TWIN_LOST 0)
  else enterResync (s.put Reg.MIR_STAT.TWIN_LOST 0)

/-- MIRROR_BURST_RECEIVED: a good burst. On the internal path the receiver is the standby cluster, whose copies of the shared state are
the state itself; on the twin path it is this part. -/
def burstReceived (p : Nat) (b : Burst) (s : State) : State :=
  if p = 0 then
    if pathHasReceiver s 0 && b.seq = s.mir.int.rxNext then modPath 0 (fun q => { q with rxNext := b.seq + 1 }) s else s
  else if !twinUp s then s
  else
    let s := twinReached s
    if b.seq < s.mir.twin.rxNext then s
    else if s.mir.twin.rxNext < b.seq then
      if s.mir.twin.ahead.any (fun x => x.seq == b.seq) then s else modPath 1 (fun q => { q with ahead := q.ahead ++ [b] }) s
    else
      let s := applyBurst b s
      selfCaught (applyAhead s.mir.twin.ahead.length s)

def execMirrorBurstReceived (p : Fin 2) (b : Burst) (ofs : Fin 122880) (s : State) : Host.Outcome State Fault Refusal :=
  run (fun s => burstReceived p b (s.at ofs)) s

/-! ## RESYNC (R420, R421) -/

/-- Pages of a tick's setting on a path. -/
def pagesPerTick (s : State) (p : Nat) : Nat :=
  let n := max 1 (s.get Reg.MIR_CFG.RESYNC_PAGES)
  if p = 1 then min 64 n else n

/-- A page still to be sent, by how many are left: its region and address; what it holds stands for itself (log entry 26). -/
def resyncPage (left : Nat) : Nat × Nat × List MirRec := ((Config.resyncPage left).1, (Config.resyncPage left).2, [])

/-- Octets of a RESYNC burst of n pages (R403, R404). -/
def resyncLen (n : Nat) : Nat := 64 + 4112 * n

/-- RESYNC_BURST: one RESYNC burst of up to 7 pages, from 45 µs and ending by 100 µs. -/
def resyncBurst (p ofs : Nat) (s : State) : State :=
  let s := s.at ofs
  let q := pathOf s p
  let sent := if q.pagesTick = s.core.ticks then q.pagesSent else 0
  let n := min 7 (min q.pagesLeft (pagesPerTick s p - sent))
  if n = 0 || s.ofs < usClk 45 || Config.ofsDecode < s.ofs + burstClks p (resyncLen n) || !mirPathUp s p then s else
  let s := modPath p (fun x => { x with pagesLeft := x.pagesLeft - n, pagesTick := s.core.ticks, pagesSent := sent + n }) s
  let s := if (pathOf s p).pagesLeft = 0 then s.put Reg.MIR_STAT.RESYNC_STAGE 2 else s
  sendBurst p { burstHead s p 2 with pages := (List.range n).map (fun i => resyncPage (q.pagesLeft - i)) } s

def execResyncBurst (p : Fin 2) (ofs : Fin 122880) (s : State) : Host.Outcome State Fault Refusal := run (resyncBurst p ofs) s

/-! ## Keying of the twin path (R408) -/

/-- TWIN_LINK_TRAINED: the path enters KEYING and sends its KEYING block. -/
def linkTrained (s : State) : State :=
  if !s.on Reg.MIR_CTRL.TWIN || !pdOn s 25 || 1 < s.get Reg.MIR_STAT.LINK then s else
  let n := Config.drbg s.core.free
  let s := modMir (fun m => { m with nonce := n, peerNonce := none, session := none, confirmFail := none }) s.drawn
  (s.put Reg.MIR_STAT.LINK 2).emit (.lanes "mirror KEYING" (keyingWire (burstHead s 1 4).flags (s.tick % 2 ^ 32) n (s.get Reg.FW_RUN_VER.VER)))

def execTwinLinkTrained (s : State) : Host.Outcome State Fault Refusal := run linkTrained s

/-- The pair key: USAGE FRAME and TENANT 256. -/
def pairKey (s : State) : Option Nat :=
  let k := slotOf s (s.get Reg.MIR_CTRL.PAIR_SLOT)
  if k.active && k.usage == .frame && k.tenant == 256 && !zeroised s then some k.key else none

/-- KEYING_RECEIVED: the peer's octets and firmware version. -/
def keyingReceived (nonce : BitVec 128) (ver : BitVec 32) (s : State) : State :=
  if s.get Reg.MIR_STAT.LINK ≠ 2 then s else
  let s := modMir (fun m => { m with peerNonce := some nonce.toNat, peerFw := ver.toNat }) s
  match pairKey s with
  | none => s
  | some k =>
    let x := Config.sessionKey k (s.mir.nonce ^^^ nonce.toNat)
    (modMir (fun m => { m with session := some x }) s).emit (.lanes "mirror CONFIRM" (confirmWire (s.get Reg.MIR_STAT.SIDE) x (burstHead s 1 5).flags (s.tick % 2 ^ 32)))

def execKeyingReceived (nonce : BitVec 128) (ver : BitVec 32) (s : State) : Host.Outcome State Fault Refusal := run (keyingReceived nonce ver) s

/-- The path is LINKED: SEQ restarts at 0, and a part that does not hold the transmit lease enters RESYNC, where the firmware versions of the
KEYING blocks already show whether it can be CAUGHT_UP (R404, R425, log entry 29). -/
def linked (s : State) : State :=
  let fresh : PathS := default
  let s := (s.put Reg.MIR_STAT.LINK linkLINKED).put Reg.MIR_STAT.TWIN_LOST 0
  let s := (modMir (fun m => { m with twin := fresh, peerCaughtUp := false }) s).put Reg.MIR_SEQ_TX.SEQ 0
  if s.on Reg.WDN_TWL_STAT.HELD then startPages 1 (s.put Reg.MIR_SEQ_ACK.ACK 0)
  else enterResync ((s.put Reg.MIR_SEQ_ACK.ACK 0).putB Reg.MIR_STAT.FW_DIFFER (s.mir.peerFw != s.get Reg.FW_RUN_VER.VER))

/-- CONFIRM_RECEIVED: `key` is the key under which the peer's block was made (log entry 7). -/
def confirmReceived (key ofs : Nat) (s : State) : State :=
  let s := s.at ofs
  if s.get Reg.MIR_STAT.LINK ≠ 2 then s
  else if s.mir.session = some key then linked s
  else modMir (fun m => { m with confirmFail := some s.clk }) (s.inc Reg.MIR_MIC_FAIL.CNT)

def execConfirmReceived (key : Nat) (ofs : Fin 122880) (s : State) : Host.Outcome State Fault Refusal := run (confirmReceived key ofs) s

/-- CONFIRM_RETRY: 1 ms after a failed CONFIRM. -/
def execConfirmRetry (ofs : Fin 122880) (s : State) : Host.Outcome State Fault Refusal :=
  run (fun s =>
    let s := s.at ofs
    match s.mir.confirmFail with
    | some c => if c + usClk 1000 ≤ s.clk && s.get Reg.MIR_STAT.LINK = 2 then
        modMir (fun m => { m with confirmFail := none, session := none }) (s.put Reg.MIR_STAT.LINK 1) else s
    | none => s) s

/-- TWIN_LINK_DOWN. -/
def linkDown (s : State) : State :=
  let was := s.get Reg.MIR_STAT.LINK
  let s := modMir (fun m => { m with session := none, confirmFail := none }) (s.put Reg.MIR_STAT.LINK 0)
  if was = linkLINKED then twinLost (s.inc Reg.MIR_LINK_DOWN.CNT) else s

def execTwinLinkDown (s : State) : Host.Outcome State Fault Refusal := run linkDown s

end Sys2Proof.Machine
end

