-- ==== Sys2Proof/Machine/Warden.lean ====
section
/-! DEFINITION. The clusters, the Warden and the lease engine (chapter 13). -/

namespace Sys2Proof.Machine

/-! ## The cluster lease (R386 to R393) -/

/-- The Warden's cores work: no reset runs, and it has not failed (R397, R398). -/
def wardenWorks (s : State) : Bool := !s.on Reg.WDN_STAT.FROZEN && !s.on Reg.WDN_STAT.FAIL

/-- Cause codes of FAILOVER (R313). -/
def causeFailover : Nat := 0
def causePlanned : Nat := 1
def causeAlone : Nat := 2

/-- The active cluster's command buffer is empty: what stood in it for a tick commit is discarded (R23). -/
def bufferClear (s : State) : State := { s with mac := { s.mac with fresh := [], freshAmends := [] } }

/-- A cluster takes the cluster lease with a command buffer of its own (R225, R313, R389): every block is voided, the tick is recorded, and FAILOVER is raised but for
the first take after PORST_N is released. -/
def takeLease (c cause : Nat) (s : State) : State :=
  let first := !s.wdn.firstTake
  let s := bufferClear s
  let s := lockPass ((setCluster c clACTIVE (s.put Reg.WDN_STAT.HOLDER c)).put Reg.WDN_LEASE_TICK.TICK s.tick)
  let s := voidBlocks (modWdn (fun w => { w with tookIn := some s.core.ticks, firstTake := true, misses := 0 }) s)
  let s := if s.on Reg.MIR_CTRL.TWIN || s.on Reg.WDN_STAT.FAIL then s else s.put Reg.WDN_TWL_STAT.HELD 1
  if first then s else raisePf 0x46 (c + 16 * cause) (s.tick % 2 ^ 32) s

/-- A cluster may run: it is a member, its domain is on, and there is an image to boot from (R386, R432, R451). -/
def mayBoot (s : State) (c : Nat) : Bool :=
  s.on (clEnFld c) && pdOn s (1 + c) && !s.on Reg.FW_STAT.RECOVERY && s.get Reg.LC_STATE.STATE != 4

/-- The bank of firmware memory with a number, and the run bank's number (R429). -/
def bankAt (s : State) (b : Nat) : Bank := if b = 0 then s.fw.fb0 else s.fw.fb1
def runBank (s : State) : Nat := s.get Reg.FW_STAT.RUN_BANK

/-- The bank a cluster starts from: the staging bank for the new standby of an activation, else the run bank (R429, R437). -/
def clBank (s : State) (c : Nat) : Bank :=
  bankAt s (if s.get Reg.FW_STAT.ACT_STATE = 1 && s.fw.newCl = c then 1 - runBank s else runBank s)

/-- A cluster boots (R392). -/
def bootCluster (c : Nat) (s : State) : State := if mayBoot s c then setCluster c clBOOT s else setCluster c clOFF s

/-- An activation runs and has not handed over (R438): ACT_STATE is 1 BOOTING or 2 STREAMING. -/
def actBefore (s : State) : Bool := s.get Reg.FW_STAT.ACT_STATE == 1 || s.get Reg.FW_STAT.ACT_STATE == 2

/-- An activation is aborted (R438): the new standby is stopped and restarted from the run bank. -/
def actAbort (err : Nat) (s : State) : State :=
  if !actBefore s then s else
  let s := ((s.put Reg.FW_STAT.ACT_STATE 0).put Reg.FW_STAT.ACT_ERR err).inc Reg.FW_ACT_ABORT.CNT
  clearPath 0 (if clState s (clStandby s) = clACTIVE then s else bootCluster (clStandby s) s)

/-- The Warden moves the lease to the eligible standby (R389): frames that waited for it alone are released. -/
def moveLease (s : State) : State :=
  let old := clHolder s
  let s := setCluster old clFAILED (lpe 0x020 (s.inc Reg.WDN_FAILOVER.CNT))
  let s := modWdn (fun w => { w with posted := none, handover := none, hungA := if old = 0 then false else w.hungA,
                                     hungB := if old = 1 then false else w.hungB }) (s.put Reg.WDN_CTRL.HANDOVER 0)
  clearPath 0 (takeLease (1 - old) causeFailover s)

/-- The cluster holds the lease and cannot act: it is halted under HOLD_LEASE (R394). -/
def hung (s : State) (c : Nat) : Bool := if c = 0 then s.wdn.hungA else s.wdn.hungB

/-- A commit is valid for the next tick (R387). -/
def commitOk (s : State) (c : Commit) : Bool := c.crcOk && c.tick == (s.tick + 1) % 2 ^ 64

/-- The commit takes effect at the next boundary (R25, R387). -/
def acceptCommit (c : Commit) (s : State) : State :=
  (modWdn (fun w => { w with accepted := some c, posted := none, misses := 0 }) s).incIf c.late Reg.WDN_CMT_LATE.CNT

/-- TICK_COMMIT: the active cluster posts its tick commit, which takes what its command buffer holds. After the check it is discarded, but for that of a cluster that took the
lease in this tick, which is accepted up to 120 µs (R25, R390). -/
def tickCommit (ofs tick : Nat) (crcOk : Bool) (cmds : List FwCmd) (s : State) : State :=
  let s := s.at ofs
  if !clActive s || s.on (Reg.DBG_CCc_STAT.HALTED (clHolder s)) then s else
  let before := s.wdn.posted.elim ([], []) (fun c => (c.plans, c.amends))
  let c : Commit :=
    { tick := tick, crcOk := crcOk, late := decide (Config.ofsCommit < s.ofs) && decide (s.ofs < Config.ofsCheck), cmds := cmds
      plans := before.1 ++ s.mac.fresh, amends := before.2 ++ s.mac.freshAmends }
  let s := bufferClear s
  if s.ofs < Config.ofsCheck then modWdn (fun w => { w with posted := some c }) s
  else if s.wdn.tookIn = some s.core.ticks && s.ofs ≤ usClk 120 && s.wdn.accepted.isNone && commitOk s c then acceptCommit c s
  else s

def execTickCommit (ofs : Fin 122880) (tick : Nat) (crcOk : Bool) (cmds : List FwCmd) (s : State) : Host.Outcome State Fault Refusal :=
  run (tickCommit ofs tick crcOk cmds) s

/-- A missed commit (R23, R391): its commands are discarded; with no eligible standby the lease stays, and after MISS_LIMIT misses the active cluster is
restarted. -/
def missCommit (s : State) : State :=
  let s := bufferClear (s.inc Reg.WDN_CMT_MISS.CNT)
  if hung s (clHolder s) then s else
  let s := overrun Reg.SYS_OVR_STAT.CMT_MISS s
  if !wardenWorks s then s
  else if stbyOk s then moveLease s
  else
    let s := modWdn (fun w => { w with misses := w.misses + 1 }) (s.inc Reg.WDN_NO_STBY.CNT)
    if s.wdn.misses < max 1 (s.get Reg.WDN_CFG.MISS_LIMIT) then s
    else if s.on (Reg.DBG_CCc_STAT.HALTED (clHolder s)) then s
    else modWdn (fun w => { w with misses := 0 }) (actAbort 6 (bootCluster (clHolder s) s))

/-- WARDEN_COMMIT_CHECK at 85 µs. A cluster that took the lease in this tick has until 120 µs. While the Warden's reset runs a valid
commit stands unchecked (log entry 27). -/
def commitCheck (s : State) : State :=
  let s := s.at Config.ofsCheck
  if !clActive s || s.wdn.accepted.isSome then s else
  match s.wdn.posted with
  | some c =>
    if commitOk s c then acceptCommit c s
    else if s.wdn.tookIn = some s.core.ticks then modWdn (fun w => { w with posted := none }) s
    else missCommit (modWdn (fun w => { w with posted := none }) s)
  | none => if s.wdn.tookIn = some s.core.ticks then s else missCommit s

def execWardenCommitCheck (s : State) : Host.Outcome State Fault Refusal := run commitCheck s

/-- COMMIT_GRACE_EXPIRY at 120 µs. -/
def graceExpiry (s : State) : State :=
  let s := s.at (usClk 120)
  if s.wdn.tookIn = some s.core.ticks && s.wdn.accepted.isNone && clActive s then
    overrun Reg.SYS_OVR_STAT.CMT_MISS (s.inc Reg.WDN_CMT_MISS.CNT) else s

def execCommitGraceExpiry (s : State) : Host.Outcome State Fault Refusal := run graceExpiry s

/-- CLUSTER_FAULT_REPORT: the active cluster reports a fault (R389). With no move possible the lease stays where it is. -/
def faultReport (s : State) : State :=
  if !clActive s then s else
  let s := actAbort 6 s
  if wardenWorks s && stbyOk s then moveLease s else s

def execClusterFaultReport (ofs : Fin 122880) (s : State) : Host.Outcome State Fault Refusal := run (fun s => faultReport (s.at ofs)) s

/-- RESTART: FAILED clusters boot, but for one that a debugger has halted, whose restart waits (R502). -/
def restart (s : State) : State :=
  if s.on Reg.WDN_STAT.FAIL then s else
  forEach [0, 1] (fun c s => if clState s c = clFAILED && !s.on (Reg.DBG_CCc_STAT.HALTED c) then bootCluster c s else s) s

def execClusterRestart (s : State) : Host.Outcome State Fault Refusal := run restart s

/-- The cluster part of CLUSTER_BOOT_END (R392, R431, R437): with no ACTIVE peer the cluster takes the lease, with empty firmware state; otherwise it enters
RESYNC. At the first boot CC-A takes it where CC-A is a member. -/
def bootEnd (c : Nat) (s : State) : State :=
  if clState s c ≠ clBOOT || !(clBank s c).verified then s
  else if clState s (1 - c) = clACTIVE then
    let s := if s.get Reg.FW_STAT.ACT_STATE = 1 then s.put Reg.FW_STAT.ACT_STATE 2 else s
    startPages 0 (setCluster c clRESYNC s)
  else if !s.wdn.firstTake && c = 1 && clState s 0 = clBOOT then setCluster c clRESYNC s
  else
    let s := takeLease c causeAlone (forgetFirmware s)
    if clState s (1 - c) = clRESYNC then startPages 0 s else s

/-- A requested planned handover (R393); `off` says that the old active cluster then goes OFF. -/
def handover (off : Bool) (s : State) : State :=
  if stbyOk s && clActive s && !s.on Reg.WDN_STAT.FAIL then
    modWdn (fun w => { w with handover := some (off || w.handover.getD false) }) (s.put Reg.WDN_CTRL.HANDOVER 1)
  else (s.put Reg.WDN_CTRL.HANDOVER 0).put Reg.WDN_STAT.HO_REFUSED 1

def execHandover (s : State) : Host.Outcome State Fault Refusal := run (handover false) s

/-- CLUSTER_DISABLE: 0 is written to CCA_EN or CCB_EN. -/
def clusterDisable (c : Nat) (s : State) : State :=
  if clState s c = clACTIVE then
    let t := handover true s
    if t.wdn.handover = some true then t.put (clEnFld c) 0 else t
  else
    let s := setCluster c clOFF (s.put (clEnFld c) 0)
    if c = clStandby s then clearPath 0 s else s

def execClusterDisable (c : Fin 2) (s : State) : Host.Outcome State Fault Refusal := run (clusterDisable c) s

/-- PLANNED_HANDOVER at a tick boundary: the standby has been CAUGHT_UP for a whole tick. -/
def handoverBoundary (s : State) : State :=
  match s.wdn.handover with
  | none => s
  | some off =>
    if s.on Reg.WDN_STAT.FROZEN then s
    else if !stbyOk s || !clActive s then
      let s := when off (fun s => s.put (clEnFld (clHolder s)) 1) s
      modWdn (fun w => { w with handover := none }) ((s.put Reg.WDN_CTRL.HANDOVER 0).put Reg.WDN_STAT.HO_REFUSED 1)
    else if !s.wdn.caughtSince.any (fun t => decide (t + 2 ≤ s.core.ticks)) then s
    else
      let old := clHolder s
      let s := modWdn (fun w => { w with handover := none }) (lpe 0x021 ((s.put Reg.WDN_CTRL.HANDOVER 0).inc Reg.WDN_HANDOVER.CNT))
      let s := takeLease (1 - old) causePlanned s
      let s := modWdn (fun w => { w with tookIn := none }) s
      if off then clearPath 0 (setCluster old clOFF s) else setCluster old clCAUGHT_UP s

/-- FAILED clusters boot again at the next boundary with AUTO_RESTART = 1 (R392, log entry 28). -/
def autoRestart (s : State) : State := if s.on Reg.WDN_CFG.AUTO_RESTART && !s.on Reg.WDN_STAT.FROZEN then restart s else s

/-! ## The transmit lease (R410 to R412, R416) -/

def leaseReq (level : Nat) (s : State) : State := s.emit (.pin "LEASE_REQ" level)

/-- The part may request the transmit lease (R411; MIR_CTRL.SEED before its first RESYNC). -/
def leaseEligible (s : State) : Bool :=
  s.on Reg.MIR_CTRL.TWIN && !s.on Reg.WDN_STAT.FAIL && (s.mir.selfCaughtUp || (s.on Reg.MIR_CTRL.SEED && !s.mir.synced))

/-- PENDING and ELIGIBLE follow what the part may do: an eligible part that does not hold the lease requests it once its hold-off is
over. -/
def leaseAsk (s : State) : State :=
  let e := leaseEligible s
  let s := s.putB Reg.WDN_TWL_STAT.ELIGIBLE e
  let p := e && !s.on Reg.WDN_TWL_STAT.HELD && s.wdn.holdoff.isNone
  if p == s.on Reg.WDN_TWL_STAT.PENDING then s else leaseReq (b2n p) (s.putB Reg.WDN_TWL_STAT.PENDING p)

/-- An edge with no grant counts (R410). -/
def noGrant (s : State) : State := s.incIf (s.wdn.lastReq.isSome && !s.wdn.granted) Reg.WDN_TWL_NOGRANT.CNT

/-- The next renewal edge is due (R410, R411): 10 µs after the last, the first 5 µs after the grant whose lease ends 29 µs after it. -/
def renewalDue (s : State) : Bool :=
  match s.wdn.lastReq with
  | some c => decide (c + usClk 10 ≤ s.clk)
  | none => s.wdn.leaseEnd.all (fun e => decide (e + usClk 5 ≤ s.clk + usClk 29))

/-- LEASE_RENEWAL_EDGE: by the holder 10 µs after its last edge. A yielding holder with nothing in flight stops renewing. -/
def renewalEdge (s : State) : State :=
  if !s.on Reg.MIR_CTRL.TWIN || !s.on Reg.WDN_TWL_STAT.HELD || s.on Reg.WDN_STAT.FAIL || s.wdn.yieldStop || s.on Reg.WDN_FORCE_CTRL.ACTIVE then s
  else if s.wdn.yieldDue && s.txc.mods.isEmpty then modWdn (fun w => { w with yieldStop := true }) s
  else if !renewalDue s then s
  else (leaseReq 1 (modWdn (fun w => { w with lastReq := some s.clk, granted := false }) (noGrant s))).emit (.edge "LEASE_REQ" 0 (s.clk + usClk 5))

def execLeaseRenewalEdge (ofs : Fin 122880) (s : State) : Host.Outcome State Fault Refusal := run (fun s => renewalEdge (s.at ofs)) s

/-- The part takes the transmit lease (R225, R411, R419, R425). Loupe counts one that the other part has held since this part last did, as its
bursts said (R490, log entry 29). -/
def twinTake (leaseEnd : Nat) (s : State) : State :=
  let s := modMir (fun m => { m with otherHeld := false }) (when s.mir.otherHeld (lpe 0x023) s)
  let s := modWdn (fun w => { w with leaseEnd := some leaseEnd, lastReq := none, granted := false, holdoff := none }) s
  let s := (s.put Reg.WDN_TWL_STAT.HELD 1).put Reg.WDN_TWL_STAT.PENDING 0
  let s := voidBlocks (if twinLinked s then s else jumpBlocks s)
  let s := roleSync (modMir (fun m => { m with selfCaughtUp := true }) s)
  raisePf 0x46 (clHolder s + 16 * causeFailover) (s.tick % 2 ^ 32) s

/-- WIT_PRESENT is high, and has been for 100 µs (R412). -/
def witOk (s : State) : Bool := s.on Reg.WDN_TWL_STAT.WIT && s.wdn.witHigh.all (fun c => decide (c + usClk 100 ≤ s.clk))

/-- LEASE_GRANT: a rising edge. -/
def leaseGrant (s : State) : State :=
  if !s.on Reg.MIR_CTRL.TWIN || !witOk s || s.on Reg.WDN_FORCE_CTRL.ACTIVE then s
  else if s.on Reg.WDN_TWL_STAT.PENDING then leaseReq 0 (twinTake (s.clk + usClk 29) s)
  else match s.wdn.lastReq with
    | some c => if s.on Reg.WDN_TWL_STAT.HELD && !s.wdn.granted && decide (s.clk ≤ c + usClk 2) then
        modWdn (fun w => { w with granted := true, leaseEnd := some (c + usClk 30) }) s else s
    | none => s

def execLeaseGrant (ofs : Fin 122880) (s : State) : Host.Outcome State Fault Refusal := run (fun s => leaseGrant (s.at ofs)) s

/-- The lease lapses (R178, R412): transmissions are abandoned, and LEASE_REQ is low for 40 µs. A yield ends with it (R416). -/
def lapse (s : State) : State :=
  let yielded := s.wdn.yieldDue
  let s := (noGrant s).inc Reg.WDN_TWL_LAPSE.CNT
  let s := s.incIf yielded Reg.MIR_YIELD.CNT
  let s := (s.put Reg.WDN_TWL_STAT.HELD 0).put Reg.MIR_CTRL.YIELD 0
  let s := modWdn (fun w => { w with leaseEnd := none, lastReq := none, yieldSet := false, yieldDue := false, yieldStop := false,
                                     holdoff := some (s.clk + usClk 40) }) s
  leaseReq 0 (roleSync (leaseAbort s))

/-- TRANSMIT_LEASE_LAPSE: the lease of a twin part has run out. -/
def leaseLapse (s : State) : State :=
  if s.on Reg.MIR_CTRL.TWIN && s.on Reg.WDN_TWL_STAT.HELD && !s.on Reg.WDN_FORCE_CTRL.ACTIVE && s.wdn.leaseEnd.all (fun e => decide (e ≤ s.clk)) then lapse s
  else s

def execTransmitLeaseLapse (ofs : Fin 122880) (s : State) : Host.Outcome State Fault Refusal := run (fun s => leaseLapse (s.at ofs)) s

/-- REQUEST_HOLDOFF_END: 40 µs after a lapse. -/
def holdoffEnd (s : State) : State :=
  if s.wdn.holdoff.any (fun e => decide (e ≤ s.clk)) then leaseAsk (modWdn (fun w => { w with holdoff := none }) s) else s

def execRequestHoldoffEnd (ofs : Fin 122880) (s : State) : Host.Outcome State Fault Refusal := run (fun s => holdoffEnd (s.at ofs)) s

/-- WIT_PRESENT_CHANGE. -/
def execWitPresentChange (level : Bool) (ofs : Fin 122880) (s : State) : Host.Outcome State Fault Refusal :=
  run (fun s =>
    let s := s.at ofs
    let was := s.on Reg.WDN_TWL_STAT.WIT
    modWdn (fun w => { w with witHigh := if !level then none else if was then w.witHigh else some s.clk }) (s.putB Reg.WDN_TWL_STAT.WIT level)) s

/-- YIELD: writing MIR_CTRL.YIELD = 1. -/
def leaseYield (s : State) : State :=
  if s.on Reg.MIR_CTRL.TWIN && s.on Reg.WDN_TWL_STAT.HELD && twinLinked s && s.mir.peerCaughtUp && s.on Reg.WDN_TWL_STAT.WIT then
    modWdn (fun w => { w with yieldSet := true }) (s.put Reg.MIR_CTRL.YIELD 1)
  else if s.wdn.yieldSet then s
  else (s.put Reg.MIR_CTRL.YIELD 0).put Reg.MIR_STAT.YIELD_REFUSED 1

def execLeaseYield (s : State) : Host.Outcome State Fault Refusal :=
  run (regAccess Reg.MIR_CTRL.YIELD.addr leaseYield) s

/-- An accepted YIELD takes effect at the tick boundary. -/
def yieldBoundary (s : State) : State := modWdn (fun w => { w with yieldDue := w.yieldSet }) s

/-! ## FORCE_HOLD (R417) -/

/-- FORCE_HOLD_ARM: CODE = 0xF0. -/
def execForceHoldArm (ofs : Fin 122880) (s : State) : Host.Outcome State Fault Refusal :=
  run (fun s =>
    let s := s.at ofs
    if s.on Reg.WDN_FORCE_CTRL.BUSY then s else
    let n := Config.drbg s.core.free
    modWdn (fun w => { w with forceSince := some s.clk }) ((s.drawn.put Reg.WDN_FORCE_CHAL.CHAL n).put Reg.WDN_FORCE_CTRL.ARMED 1)) s

def forceRefused (s : State) : State := (s.put Reg.WDN_FORCE_CTRL.DENIED 1).inc Reg.WDN_FORCE_DENY.CNT

/-- FORCE_HOLD_CONFIRM: CODE = 0x0F. One later than 1 ms after the arming is refused; one without an arming is ignored. -/
def execForceHoldConfirm (ofs : Fin 122880) (s : State) : Host.Outcome State Fault Refusal :=
  run (fun s =>
    let s := s.at ofs
    match s.wdn.forceSince with
    | none => s
    | some c =>
      let s := modWdn (fun w => { w with forceSince := none }) (s.put Reg.WDN_FORCE_CTRL.ARMED 0)
      if c + usClk 1000 < s.clk then forceRefused s else
      modWdn (fun w => { w with forceDecide := some (s.clk + usClk 4000) }) (s.put Reg.WDN_FORCE_CTRL.BUSY 1)) s

def forceDur (s : State) : Nat := min 86400 (max 1 (s.get Reg.WDN_FORCE_DUR.SEC))

/-- The signature over "FHLD", the serial number, the challenge and DUR verifies. -/
def forceSigned (s : State) : Bool :=
  operatorSigned s ([0x46, 0x48, 0x4C, 0x44] ++ octetsLe 8 Config.serial ++ octetsLe 8 (s.get Reg.WDN_FORCE_CHAL.CHAL) ++
    octetsLe 4 (s.get Reg.WDN_FORCE_DUR.SEC)) (octetsOf s Reg.WDN_FORCE_SIGi.SIG 24)

/-- FORCE_HOLD_DECISION: 4,000 µs after the confirmation. -/
def forceDecision (s : State) : State :=
  match s.wdn.forceDecide with
  | none => s
  | some c =>
    if s.clk < c then s else
    let s := modWdn (fun w => { w with forceDecide := none }) (s.put Reg.WDN_FORCE_CTRL.BUSY 0)
    if !forceSigned s || s.on Reg.WDN_TWL_STAT.WIT || (twinLinked s && (s.mir.peerHolder || s.mir.peerForce)) then forceRefused s else
    let e := s.clk + forceDur s * 983040000
    let s := modWdn (fun w => { w with forceEnd := some e, leaseEnd := some e })
      ((s.put Reg.WDN_FORCE_CTRL.ACTIVE 1).put Reg.WDN_FORCE_LEFT.SEC (forceDur s))
    if s.on Reg.WDN_TWL_STAT.HELD then s else leaseReq 0 (twinTake e s)

def execForceHoldDecision (ofs : Fin 122880) (s : State) : Host.Outcome State Fault Refusal := run (fun s => forceDecision (s.at ofs)) s

/-- FORCE_HOLD_END: DUR has run out, or WIT_PRESENT has been high for 100 µs. In a twin pair the lease ends with it (log entry 29). -/
def forceHoldEnd (s : State) : State :=
  if s.on Reg.WDN_FORCE_CTRL.ACTIVE && (s.wdn.forceEnd.all (fun e => decide (e ≤ s.clk)) || witOk s) then
    let s := modWdn (fun w => { w with forceEnd := none }) ((s.put Reg.WDN_FORCE_CTRL.ACTIVE 0).put Reg.WDN_FORCE_LEFT.SEC 0)
    if s.on Reg.MIR_CTRL.TWIN then lapse s else s
  else s

def execForceHoldEnd (ofs : Fin 122880) (s : State) : Host.Outcome State Fault Refusal := run (fun s => forceHoldEnd (s.at ofs)) s

/-- Seconds of override remaining. -/
def forceLeft (s : State) : State :=
  match s.wdn.forceEnd with
  | some e => s.put Reg.WDN_FORCE_LEFT.SEC ((e - s.clk + 983039999) / 983040000)
  | none => s

/-! ## A refused power request (R464, R466, R476) -/

def modPwr (f : PwrS → PwrS) (s : State) : State := { s with pwr := f s.pwr }

/-- PWR_STAT shows the running sequence and the queued request. -/
def pwrSync (s : State) : State :=
  let s := (s.putB Reg.PWR_STAT.BUSY s.pwr.seqn.isSome).put Reg.PWR_STAT.RUN_TARGET ((s.pwr.seqn.map (·.target)).getD 0)
  (s.putB Reg.PWR_STAT.QVALID s.pwr.queued.isSome).put Reg.PWR_STAT.Q_TARGET ((s.pwr.queued.map (·.1)).getD 0)

def setSeq (q : Option PwrSeq) (s : State) : State := pwrSync (modPwr (fun p => { p with seqn := q }) s)
def setQueued (q : Option (Nat × Nat)) (s : State) : State := pwrSync (modPwr (fun p => { p with queued := q }) s)

/-- The refuser's name in ASCII, first octet in bits [7:0]. -/
def refuserName : Nat → Nat × Nat
  | 1 => (0x55514552, 0x00545345)
  | 2 => (0x44524157, 0x00004E45)
  | 3 => (0x5341454C, 0x00000045)
  | 4 => (0x4D524946, 0x45524157)
  | 5 => (0x0000434C, 0)
  | 6 => (0x55424544, 0x00000047)
  | _ => (0, 0)

/-- The log's fields of entry i. -/
def logFlds (i : Nat) : List Fld :=
  [Reg.PWR_REFLOGi_TICK.TICK i, Reg.PWR_REFLOGi_INFO.TARGET i, Reg.PWR_REFLOGi_INFO.REQUESTER i, Reg.PWR_REFLOGi_INFO.REFUSER i,
   Reg.PWR_REFLOGi_INFO.VALID i, Reg.PWR_REFLOGi_NAME0.NAME i, Reg.PWR_REFLOGi_NAME1.NAME i]

def putAll (l : List (Fld × Nat)) (s : State) : State := l.foldl (fun s e => s.put e.1 e.2) s

/-- POWER_REFUSAL (R476): the count, the result, the log and Loupe. -/
def pwrRefused (target req r : Nat) (s : State) : State :=
  let s := lpe (0x087 + r) ((s.inc (Reg.PWR_REFCNTr.COUNT r)).put Reg.PWR_STAT.LAST_RESULT 5)
  let s := forEach ((List.range 15).reverse) (fun i s => putAll ((logFlds (i + 1)).zip ((logFlds i).map s.get)) s) s
  let n := refuserName r
  putAll ((logFlds 0).zip [s.tick % 2 ^ 32, target, req, r, 1, n.1, n.2]) s

/-! ## The Warden's own faults (R397, R398) -/

/-- The third failed recovery in a row: WARDEN_FAIL. A queued power request is refused by WARDEN (R466). -/
def wardenFail (s : State) : State :=
  let s := ((s.put Reg.WDN_STAT.FAIL 1).put Reg.WDN_STAT.FROZEN 0).put Reg.WDN_TWL_STAT.PENDING 0
  let s := modWdn (fun w => { w with resetSince := none, tested := none, handover := none }) s
  let s := s.emit (.pin "WARDEN_FAIL" 1)
  let s := match s.pwr.queued with
    | some (t, r) => pwrRefused t r 2 (setQueued none s)
    | none => s
  if s.on Reg.WDN_TWL_STAT.HELD && !s.on Reg.MIR_CTRL.TWIN then lapse s else leaseReq 0 s

/-- WARDEN_FAULT: a lockstep mismatch or a watchdog expiry. One before the attempt in hand has succeeded makes that attempt fail. -/
def wardenFault (s : State) : State :=
  if s.on Reg.WDN_STAT.FAIL then s else
  let trying := s.on Reg.WDN_STAT.FROZEN || s.wdn.tested.isSome
  let n := s.get Reg.WDN_STAT.ATTEMPTS + b2n trying
  let s := (lpe 0x022 (s.inc Reg.WDN_SELF_RESET.CNT)).put Reg.WDN_STAT.ATTEMPTS (min 3 n)
  if 3 ≤ n then wardenFail s
  else modWdn (fun w => { w with resetSince := some s.core.ticks, tested := none }) (s.put Reg.WDN_STAT.FROZEN 1)

def execWardenFault (ofs : Fin 122880) (s : State) : Host.Outcome State Fault Refusal := run (fun s => wardenFault (s.at ofs)) s

/-- The reset and its self-test are over within 1 ms (R397, log entry 27). -/
def wardenTested (s : State) : State :=
  if s.on Reg.WDN_STAT.FROZEN && s.wdn.resetSince.all (fun t => decide (t + 8 ≤ s.core.ticks)) then
    modWdn (fun w => { w with resetSince := none, tested := some s.clk }) (s.put Reg.WDN_STAT.FROZEN 0)
  else s

/-- WARDEN_RECOVERED: 100 ms without a fault after the passed self-test. -/
def execWardenRecovered (ofs : Fin 122880) (s : State) : Host.Outcome State Fault Refusal :=
  run (fun s =>
    let s := s.at ofs
    if s.wdn.tested.any (fun c => decide (c + usClk 100000 ≤ s.clk)) then
      modWdn (fun w => { w with tested := none }) (s.put Reg.WDN_STAT.ATTEMPTS 0) else s) s

/-- What a tick boundary does in the Warden: resets end, handovers are carried out, FAILED clusters restart, a YIELD and the lease request
take effect. -/
def wardenBoundary (s : State) : State :=
  forceLeft (leaseAsk (yieldBoundary (autoRestart (handoverBoundary (wardenTested s)))))

/-- The part holds the twin transmit lease, or a FORCE_HOLD is active. -/
def holdsTwinLease (s : State) : Bool :=
  (s.on Reg.WDN_TWL_STAT.HELD && s.on Reg.MIR_CTRL.TWIN) || s.on Reg.WDN_FORCE_CTRL.ACTIVE

end Sys2Proof.Machine
end

