-- ==== Sys2Proof/Machine/Firmware.lean ====
section
/-! DEFINITION. Firmware loading and activation, facets and the life cycle (chapter 14). -/

namespace Sys2Proof.Machine

def modFw (f : FwS → FwS) (s : State) : State := { s with fw := f s.fw }

/-- A little-endian number of `n` octets at octet `i`. -/
def leAt (o : List Byte) (i n : Nat) : Nat := ofOctets ((List.range n).map (fun k => (o.getD (i + k) 0).toNat))

def octetNats (o : List Byte) : List Nat := o.map (·.toNat)

/-! ## Images and packages (R427, R428, R433) -/

/-- The fields of a package header (R427). The hashes are numbers of their octets, as `Config.sha384` answers them. -/
def PkgHdr.magic (h : PkgHdr) : Nat := leAt h.octets 0 4
def PkgHdr.format (h : PkgHdr) : Nat := leAt h.octets 4 2
def PkgHdr.kind (h : PkgHdr) : Nat := leAt h.octets 6 1
def PkgHdr.flags (h : PkgHdr) : Nat := leAt h.octets 7 1
def PkgHdr.targetVer (h : PkgHdr) : Nat := leAt h.octets 8 4
def PkgHdr.baseVer (h : PkgHdr) : Nat := leAt h.octets 12 4
def PkgHdr.part (h : PkgHdr) : Nat := leAt h.octets 16 2
def PkgHdr.rev (h : PkgHdr) : Nat := leAt h.octets 18 1
def PkgHdr.svn (h : PkgHdr) : Nat := leAt h.octets 19 1
def PkgHdr.targetLen (h : PkgHdr) : Nat := leAt h.octets 20 4
def PkgHdr.bodyLen (h : PkgHdr) : Nat := leAt h.octets 24 4
def PkgHdr.schemaVer (h : PkgHdr) : Nat := leAt h.octets 28 4
def PkgHdr.targetHash (h : PkgHdr) : Nat := leAt h.octets 32 48
def PkgHdr.baseHash (h : PkgHdr) : Nat := leAt h.octets 80 48

/-- Octets 0 to 159, which SIG covers, and the octets of SIG (R427). -/
def PkgHdr.signed (h : PkgHdr) : List Nat := octetNats (h.octets.take 160)
def PkgHdr.sig (h : PkgHdr) : List Nat := octetNats (h.octets.drop 160)

/-- Steps 1 and 2 of R428 on a header in on-chip memory: the LOAD_ERR code, 0 where it passes (R434). Signer 1 is the Evoxa firmware key. -/
def hdrErr (s : State) (h : PkgHdr) : Nat :=
  if h.octets.length ≠ 256 || h.magic ≠ 0x4B505645 || h.format ≠ 1 then 1
  else if !Config.sigVerify (1 :: h.signed) h.sig then 2
  else if h.part ≠ 0x7128 || h.rev ≠ s.get Reg.SYS_ID.REV then 1
  else if h.svn < s.otp.svn then 3
  else 0

/-- Step 4 of R428: the first TARGET_LEN octets of the bank have the hash of the header. -/
def hashOk (x : Image) : Bool :=
  x.hdr.targetLen ≤ x.octets.length && Config.sha384 (octetNats (x.octets.take x.hdr.targetLen)) == x.hdr.targetHash

/-- The image passes R428. -/
def imageOk (s : State) (x : Image) : Bool := hdrErr s x.hdr == 0 && hashOk x

/-- The operations of a delta body on a base image, with what has been built so far (R433); none where the body is invalid. -/
def deltaRun (base : List Byte) (target : Nat) : (fuel : Nat) → (body out : List Byte) → Option (List Byte)
  | 0, _, _ => none
  | n + 1, b, out =>
    if b.length < 8 then none else
    let len := leAt b 4 4
    let grow (more : List Byte) (used : Nat) : Option (List Byte) :=
      if target < out.length + more.length then none else deltaRun base target n (b.drop used) (out ++ more)
    match leAt b 0 1 with
    | 1 => if b.length < 16 || base.length < leAt b 8 4 + len then none else grow ((base.drop (leAt b 8 4)).take len) 16
    | 2 => if b.length < 8 + len then none else grow ((b.drop 8).take len) (8 + (len + 7) / 8 * 8)
    | 3 => if b.length < 16 || target < out.length + len then none else grow (List.replicate len (b.getD 8 0)) 16
    | 4 => if out.length = target then some out else none
    | _ => none

/-! ## Banks, slots and the directory (R426, R429, R430, R432, R435) -/

def setBank (b : Nat) (x : Bank) (s : State) : State := modFw (fun f => if b = 0 then { f with fb0 := x } else { f with fb1 := x }) s

def stgBank (s : State) : Nat := 1 - runBank s

def slotAt (s : State) (k : Nat) : Option Image := if k = 0 then s.fw.slot0 else s.fw.slot1
def setSlot (k : Nat) (x : Option Image) (s : State) : State := modFw (fun f => if k = 0 then { f with slot0 := x } else { f with slot1 := x }) s

/-- The valid directory copy with the higher SEQ: its number, SEQ and RUN_SLOT (R432). -/
def dirNow (s : State) : Option (Nat × Nat × Nat) :=
  match s.fw.dir0, s.fw.dir1 with
  | some (a, r), some (b, q) => if a < b then some (1, b, q) else some (0, a, r)
  | some (a, r), none => some (0, a, r)
  | none, some (b, q) => some (1, b, q)
  | none, none => none

/-- The slot the current directory does not name; slot 0 where no directory is valid (log entry 31). -/
def otherSlot (s : State) : Nat := match dirNow s with
  | some (_, _, r) => 1 - r
  | none => 0

/-- Offset and size of the flash regions (R426): the directory copies, the certificate chain, the firmware slots, the facet store, the counter
journal and the sealed Loupe region. -/
def flashRegions : List (Nat × Nat) :=
  [(0x0000000, 0x10000), (0x0010000, 0x10000), (0x0020000, 0xE0000), (0x0100000, 0x400000), (0x0500000, 0x400000), (0x0900000, 0x400000),
   (0x0D00000, 0x200000), (0x0F00000, 0x400000)]

/-- The octets of a directory copy (R426). -/
def dirOctets (seq slot : Nat) : List Nat :=
  let o := octetsLe 4 0x52445645 ++ octetsLe 4 seq ++ zeroTo 52 [slot]
  o ++ octetsLe 4 (crc32c 0xFFFFFFFF o)

/-- A directory copy is written. -/
def dirPut (copy seq slot : Nat) (s : State) : State :=
  (modFw (fun f => if copy = 0 then { f with dir0 := some (seq, slot) } else { f with dir1 := some (seq, slot) }) s).emit
    (.lanes "flash" ((flashRegions.getD copy (0, 0)).1 :: dirOctets seq slot))

/-- The directory is rewritten to name a slot: the other copy, with SEQ one higher (R435). -/
def dirWrite (slot : Nat) (s : State) : State :=
  match dirNow s with
  | some (c, q, _) => dirPut (1 - c) (q + 1) slot s
  | none => dirPut 0 1 slot s

/-- The slot that holds an image just staged or activated: the one that the directory does not name, but where COLD has named it already. -/
def slotOfImage (s : State) (x : Option Image) : Nat :=
  if slotAt s (otherSlot s) != x && slotAt s (1 - otherSlot s) == x then 1 - otherSlot s else otherSlot s

/-- FW_RUN_VER and FW_RUN_SCHEMA follow the run bank. -/
def runSync (s : State) : State :=
  let h : PkgHdr := ((bankAt s (runBank s)).img.map (·.hdr)).getD default
  (s.put Reg.FW_RUN_VER.VER h.targetVer).put Reg.FW_RUN_SCHEMA.VER h.schemaVer

/-- The staged image is gone. -/
def stgClear (s : State) : State :=
  (setBank (stgBank s) { img := none, verified := false } s).put Reg.FW_STG_VER.VER 0 |>.put Reg.FW_STAT.FLASH_DONE 0

/-- BOOT_SLOT_SELECT: the slot that boots: RUN_SLOT where it verifies, else the other (R432). -/
def bootChoice (s : State) : Option Nat :=
  match dirNow s with
  | none => none
  | some (_, _, r) =>
    if !s.fw.flash then none
    else if (slotAt s r).any (imageOk s) then some r
    else if (slotAt s (1 - r)).any (imageOk s) then some (1 - r)
    else none

/-- Both clusters, where they are members, boot from the run bank (R431). -/
def bootBoth (s : State) : State := bootCluster 1 (bootCluster 0 s)

/-- BOOT_IMAGE_VERIFIED: the chosen slot's image is in FB0 and verified, and the clusters enter BOOT (R431). -/
def bootImage (s : State) : State :=
  match s.fw.bootSlot with
  | none => s
  | some k =>
    if !s.on Reg.MEM_STAT.INIT_DONE || s.get Reg.LC_STATE.STATE = 4 then s else
    let s := setBank 0 { img := slotAt s k, verified := true } (modFw (fun f => { f with bootSlot := none }) s)
    bootBoth (runSync ((s.put Reg.FW_STAT.RUN_BANK 0).put Reg.FW_STAT.BOOT_SLOT k))

def execBootImageVerified (s : State) : Host.Outcome State Fault Refusal := run bootImage s

/-- An ECC event in a bank clears its VERIFIED flag and counts (R430). -/
def bankEcc (b : Nat) (s : State) : State :=
  (setBank b { bankAt s b with verified := false } s).inc Reg.FW_REVERIFY.CNT

/-- BANK_REVERIFY: a bank whose flag is clear has been hashed again; `good` says that the hash matches (R430). -/
def bankReverify (b : Nat) (good : Bool) (s : State) : State :=
  let x := bankAt s b
  if x.verified || x.img.isNone then s
  else if good then setBank b { x with verified := true } s
  else if b = stgBank s then ((stgClear s).put Reg.FW_STAT.LOAD_STATE 5 |>.put Reg.FW_STAT.LOAD_ERR 7).inc Reg.FW_LOAD_FAIL.CNT
  else match dirNow s with
    | none => setBank b { img := none, verified := false } s
    | some (_, _, r) =>
      let y := if s.fw.flash then slotAt s r else none
      runSync (setBank b (if y.any (imageOk s) then { img := y, verified := true } else { img := none, verified := false }) s)

def execBankReverify (b : Fin 2) (good : Bool) (s : State) : Host.Outcome State Fault Refusal := run (bankReverify b good) s

/-! ## Loading a package (R434, R435) -/

/-- A load is in hand: LOAD_STATE is 1 READING, 2 APPLYING or 3 VERIFYING. -/
def loading (s : State) : Bool := 1 ≤ s.get Reg.FW_STAT.LOAD_STATE && s.get Reg.FW_STAT.LOAD_STATE ≤ 3

/-- FW_LOAD: the staging bank's image is overwritten; refused during an activation. One while a load is in hand is ignored (log
entry 31). -/
def fwLoad (s : State) : State :=
  if activating s then s.put Reg.FW_STAT.LOAD_ERR 8
  else if loading s then s
  else ((stgClear s).put Reg.FW_STAT.LOAD_STATE 1).put Reg.FW_STAT.LOAD_ERR 0

def execFwLoad (s : State) : Host.Outcome State Fault Refusal := run (regAccess Reg.FW_CTRL.LOAD.addr fwLoad) s

/-- What a load builds in the staging bank from the header and body it read: a LOAD_ERR code, or the image. -/
def buildImage (s : State) (h : PkgHdr) (body : List Byte) : Nat × Option Image :=
  let base := (bankAt s (runBank s)).img
  if hdrErr s h ≠ 0 then (hdrErr s h, none)
  else if h.kind = 1 && (h.baseVer ≠ s.get Reg.FW_RUN_VER.VER || !base.any (fun b => b.hdr.targetHash == h.baseHash)) then (4, none)
  else
    let body := body.take h.bodyLen
    let built := if h.kind = 1 then deltaRun ((base.map (fun b => b.octets.take b.hdr.targetLen)).getD []) h.targetLen (body.length + 1) body [] else some body
    match built with
    | none => (5, none)
    | some o => if 2097152 < h.targetLen || !hashOk { hdr := h, octets := o } then (6, none) else (0, some { hdr := h, octets := o })

/-- FW_LOAD_DONE: the load has read the octets of a header and of a body, none where a read failed. -/
def fwLoadDone (p : Option (List Byte × Option (List Byte))) (s : State) : State :=
  if !loading s then s else
  let r : Nat × Option Image := match p with
    | none => (9, none)
    | some (h, none) => if hdrErr s ⟨h⟩ ≠ 0 then (hdrErr s ⟨h⟩, none) else (9, none)
    | some (h, some b) => buildImage s ⟨h⟩ b
  match r.2 with
  | none => ((s.put Reg.FW_STAT.LOAD_STATE 5).put Reg.FW_STAT.LOAD_ERR r.1).inc Reg.FW_LOAD_FAIL.CNT
  | some x =>
    ((setBank (stgBank s) { img := some x, verified := true } s).put Reg.FW_STAT.LOAD_STATE 4 |>.put Reg.FW_STG_VER.VER
      x.hdr.targetVer).inc Reg.FW_LOADS.CNT

def execFwLoadDone (p : Option (List Byte × Option (List Byte))) (s : State) : Host.Outcome State Fault Refusal := run (fwLoadDone p) s

/-- FW_FLASH_WRITE_DONE: the verified image stands in the free slot. After a boot from a host load, the directory then names it
(R432, R435, log entry 31). -/
def flashWritten (s : State) : State :=
  if s.get Reg.FW_STAT.LOAD_STATE ≠ 4 || s.on Reg.FW_STAT.FLASH_DONE || !s.fw.flash then s else
  let k := otherSlot s
  let hostBoot := s.get Reg.FW_STAT.BOOT_SLOT = 2 && (bankAt s (stgBank s)).img.isNone
  let s := (setSlot k (if hostBoot then (bankAt s (runBank s)).img else (bankAt s (stgBank s)).img) s).put Reg.FW_STAT.FLASH_DONE 1
  if hostBoot then dirWrite k s else s

def execFwFlashWriteDone (s : State) : Host.Outcome State Fault Refusal := run flashWritten s

/-- FW_COLD: the directory names the verified slot for the next boot (R436). -/
def fwCold (s : State) : State :=
  if s.get Reg.FW_STAT.LOAD_STATE = 4 && s.on Reg.FW_STAT.FLASH_DONE && s.fw.flash then
    dirWrite (slotOfImage s (bankAt s (stgBank s)).img) s else s

def execFwCold (s : State) : Host.Outcome State Fault Refusal := run (regAccess Reg.FW_CTRL.LOAD.addr fwCold) s

/-! ## Activation (R432, R436 to R440) -/

/-- In recovery, ACTIVATE boots the staging bank (R432). -/
def activateRecovery (s : State) : State :=
  let b := stgBank s
  if !(bankAt s b).verified then s.put Reg.FW_STAT.ACT_ERR 1 else
  let s := ((s.put Reg.FW_STAT.RUN_BANK b).put Reg.FW_STAT.RECOVERY 0).put Reg.FW_STAT.BOOT_SLOT 2
  let s := if s.on Reg.FW_STAT.FLASH_DONE then dirWrite (otherSlot s) s else s
  bootBoth (runSync s)

/-- ACT_ERR of an ACTIVATE, 0 where it is accepted (R437). -/
def actRefusal (s : State) : Nat :=
  let x := bankAt s (stgBank s)
  let h : PkgHdr := (x.img.map (·.hdr)).getD default
  if !(s.get Reg.FW_STAT.LOAD_STATE = 4 && x.verified && s.on Reg.FW_STAT.FLASH_DONE) then 1
  else if h.flags % 2 = 0 then 2
  else if h.baseVer ≠ s.get Reg.FW_RUN_VER.VER then 3
  else if !(stbyOk s && clActive s) then 4
  else 0

/-- ACTIVATE. One while an activation runs is ignored (log entry 31). -/
def activate (s : State) : State :=
  if s.on Reg.FW_STAT.RECOVERY then activateRecovery s
  else if activating s then s
  else if actRefusal s ≠ 0 then s.put Reg.FW_STAT.ACT_ERR (actRefusal s)
  else
    let c := clStandby s
    let s := modFw (fun f => { f with actSince := s.core.ticks, newCl := c }) (s.put Reg.FW_STAT.ACT_STATE 1)
    clearPath 0 (bootCluster c s)

def execFwActivate (s : State) : Host.Outcome State Fault Refusal := run (regAccess Reg.FW_CTRL.LOAD.addr activate) s

/-- ACTIVATION_TIMEOUT: the new standby is not CAUGHT_UP after MAX_TICKS ticks (R438). -/
def execActivationTimeout (s : State) : Host.Outcome State Fault Refusal :=
  run (fun s => if s.fw.actSince + max 1 (s.get Reg.FW_ACT_CFG.MAX_TICKS) ≤ s.core.ticks then actAbort 5 s else s) s

/-- FW_ABORT before HANDOVER (R438). -/
def execFwAbort (s : State) : Host.Outcome State Fault Refusal := run (regAccess Reg.FW_CTRL.LOAD.addr (actAbort 7)) s

/-- COMMIT_SVN after DONE burns fuses up to the running image's SVN (R440). -/
def commitSvn (s : State) : State :=
  if s.get Reg.FW_STAT.ACT_STATE ≠ 5 || s.get Reg.LC_STATE.STATE = 0 then s else
  let n := max s.otp.svn (min 64 (((bankAt s (runBank s)).img.map (·.hdr.svn)).getD 0))
  { s.put Reg.FW_SVN.SVN n with otp := { s.otp with svn := n } }

def execCommitSvn (s : State) : Host.Outcome State Fault Refusal := run (regAccess Reg.FW_CTRL.LOAD.addr commitSvn) s

/-! ## Facets (R441 to R448) -/

/-- The items of a facet body: `n` of them from the start (R441); none where the body is too short. -/
def parseItems : (n : Nat) → (b : List Byte) → Option (List FacetItem)
  | 0, _ => some []
  | n + 1, b =>
    let len := leAt b 6 2
    if b.length < 8 + len then none else
    let x : FacetItem := { id := leAt b 0 2, index := leAt b 2 2, iver := leAt b 4 1, val := (b.drop 8).take len }
    (parseItems n (b.drop (8 + (len + 3) / 4 * 4))).map (x :: ·)

/-- Items are sorted by ID and then INDEX, and no pair appears twice (R441). -/
def itemsSorted : List FacetItem → Bool
  | a :: b :: l => (decide (a.id < b.id) || (a.id == b.id && decide (a.index < b.index))) && itemsSorted (b :: l)
  | _ => true

/-- A base-only item: by its range (R443), or for a firmware setting by the schema (R442). -/
def baseOnly (schema id : Nat) : Bool := (0x200 ≤ id && id ≤ 0x2FF) || (!(0x100 ≤ id && id ≤ 0x1FF) && Config.schemaBase schema id)

/-- The item agrees with a schema (R442). -/
def itemOk (schema : Nat) (x : FacetItem) : Bool :=
  match Config.schemaItem schema x.id with
  | some [_, n, len, lo, hi] =>
    let v := leAt x.val 0 x.val.length
    x.id < 0x8000 && decide (x.index < n) && x.val.length == len && decide (lo ≤ v) && decide (v ≤ hi)
  | _ => false

/-- One entry of the timetable; none where a value or a reserved octet is wrong (R446). -/
def ttEntry (b : List Byte) : Option TtEntry :=
  let kind := leAt b 0 1
  let time := if kind = 2 then leAt b 4 6 else leAt b 4 4
  let bad := 2 < kind || 128 ≤ leAt b 1 1 || leAt b 2 2 % 2 = 1 || (kind < 2 && 86399 < time) || (kind < 2 && leAt b 8 2 ≠ 0) ||
    3 < leAt b 10 1 || leAt b 11 5 ≠ 0 || b.length < 16
  if bad then none else some { kind := kind, days := leAt b 1 1, mask := leAt b 2 2, time := time, power := leAt b 10 1 }

def ttEntries : (n : Nat) → (b : List Byte) → Option (List TtEntry)
  | 0, _ => some []
  | n + 1, b => match ttEntry (b.take 16), ttEntries n (b.drop 16) with
    | some x, some l => some (x :: l)
    | _, _ => none

/-- The timetable section: LOCAL_OFS and the entries (R446). -/
def timetable (b : List Byte) : Option (Int × List TtEntry) :=
  if b.length < 16 || leAt b 6 10 ≠ 0 || 64 < leAt b 4 2 then none
  else (ttEntries (leAt b 4 2) (b.drop 16)).map (fun l => (toSigned 32 (leAt b 0 4), l))

/-- A staged firmware has this schema, and the running one another (R447). -/
def forStaged (s : State) (schema : Nat) : Bool :=
  s.get Reg.FW_STAT.LOAD_STATE == 4 && (bankAt s (stgBank s)).img.any (fun x => x.hdr.schemaVer == schema) &&
  s.get Reg.FW_RUN_SCHEMA.VER != schema

/-- The checks of a facet image: FW_FCT_STAT.ERR, 0 where it is accepted, its number and what it holds (R441, R442, R446). -/
def facetCheck (s : State) (o : List Byte) : Nat × Nat × Facet :=
  let n := leAt o 6 1
  let body := o.drop 224
  let bodyLen := leAt o 16 4
  let schema := leAt o 8 4
  let bad (e : Nat) : Nat × Nat × Facet := (e, n % 16, default)
  if s.get Reg.LC_STATE.STATE = 0 then bad 6
  else if o.length < 224 || leAt o 0 4 ≠ 0x43465645 || leAt o 4 2 ≠ 1 || 15 < n || leAt o 28 4 ≠ 0 || leAt o 112 16 ≠ 0 then bad 1
  else if !signedBy 2 (facetKey s) (octetNats (o.take 128)) (octetNats ((o.drop 128).take 96)) then bad 1
  else if (if n = 0 then 262144 else 32768) < bodyLen || body.length ≠ bodyLen || s.get Reg.FW_FCT_LEN.LEN ≠ 224 + bodyLen then bad 7
  else if ((s.fw.store.get n).head?).any (fun f => decide (leAt o 12 4 < f.gen)) then bad 5
  else if Config.sha384 (octetNats body) ≠ leAt o 64 48 then bad 2
  else match parseItems (leAt o 20 4) body with
    | none => bad 3
    | some items =>
      let used := if forStaged s schema then schema else s.get Reg.FW_RUN_SCHEMA.VER
      if n ≠ 0 && items.any (fun x => baseOnly used x.id) then bad 4
      else if !itemsSorted items || items.any (fun x => !itemOk used x) then bad 3
      else
        let f : Facet := { schemaVer := schema, gen := leAt o 12 4, hash := leAt o 64 48, items := items, localOfs := 0, entries := [] }
        if leAt o 7 1 % 2 = 0 then (0, n, f)
        else if n ≠ 0 then bad 8
        else match timetable (body.drop (leAt o 24 4)) with
          | none => bad 8
          | some (l, es) => (0, n, { f with localOfs := l, entries := es })

/-- FACET_LOAD. -/
def execFacetLoad (s : State) : Host.Outcome State Fault Refusal :=
  run (regAccess Reg.FW_CTRL.LOAD.addr (fun s => s.put Reg.FW_FCT_STAT.STATE 1)) s

/-- FW_FACET_LOADED shows the facets held and verified. -/
def loadedSync (s : State) : State :=
  s.put Reg.FW_FACET_LOADED.LOADED ((s.fw.loaded.map (fun e => 2 ^ e.1)).sum)

/-- FACET_LOAD_DONE: the facet image as it was read, none where it could not be (log entry 32). -/
def facetLoadDone (o : Option (List Byte)) (s : State) : State :=
  if s.get Reg.FW_FCT_STAT.STATE ≠ 1 then s else
  let (err, n, f) := facetCheck s (o.getD [])
  let s := s.put Reg.FW_FCT_STAT.FACET n
  if err ≠ 0 then (s.put Reg.FW_FCT_STAT.STATE 3).put Reg.FW_FCT_STAT.ERR err else
  let s := (s.put Reg.FW_FCT_STAT.STATE 2).put Reg.FW_FCT_STAT.ERR 0
  let s := modFw (fun w => { w with store := w.store.set n (f :: (w.store.get n).take 1) }) s
  if forStaged s f.schemaVer then
    modFw (fun w => { w with held := w.held.set n f }) (s.put Reg.FW_FCT_STAT.PENDING 1)
  else loadedSync (modFw (fun w => { w with loaded := w.loaded.set n f }) (s.put Reg.FW_FCT_STAT.PENDING 0))

def execFacetLoadDone (o : Option (List Byte)) (s : State) : Host.Outcome State Fault Refusal := run (facetLoadDone o) s

/-- The overlays a mask names, in ascending order. -/
def maskList (m : Nat) : List Nat := (List.range 16).filter (fun i => i != 0 && bitAt m i)

/-- The active mask, with overlay n in bit n. -/
def activeMask (s : State) : Nat := 2 * s.get Reg.FW_FACET_ACTIVE.MASK

/-- The configuration digest (R448). -/
def cfgDigest (s : State) : Nat :=
  let m := activeMask s
  Config.sha384 (octetsLe 48 (s.fw.loaded.get 0).hash ++ octetsLe 2 m ++
    ((maskList m).filter (fun i => (s.fw.loaded.find? i).isSome)).flatMap (fun i => octetsLe 48 (s.fw.loaded.get i).hash))

def digestSync (s : State) : State :=
  let d := cfgDigest s
  let s := modMir (fun m => { m with configDigest := d }) s
  forEach (List.range 12) (fun i s => s.put (Reg.FW_CFG_DIGESTi.DIGEST i) (d / 2 ^ (32 * i) % 2 ^ 32)) s

/-- FACET_SWITCH at a cell boundary (R444, R445): the active cluster's commands bring the values. -/
def facetSwitch (mask : Nat) (host : Bool) (s : State) : State :=
  let s := (s.put Reg.FW_FACET_ACTIVE.MASK (mask / 2)).putB Reg.FW_FACET_ACTIVE.HOST host
  let absent := (maskList mask).filter (fun i => (s.fw.loaded.find? i).isNone)
  digestSync ((s.inc Reg.FW_FACET_SWITCH.CNT).incBy Reg.FW_FACET_ABSENT.CNT absent.length)

/-- FACET_REQUEST: GO with its mask (R445). `cell` is the current cell. -/
def facetRequest (cell mask : Nat) (s : State) : State :=
  let s := s.put Reg.FW_FACET_REQ.MASK (mask / 2)
  let early := cell + max 1 (s.get Reg.FW_FACET_CFG.LEAD)
  let want := s.get Reg.FW_FACET_CELL.CELL
  let late := want ≠ 0 && decide (want < early)
  let s := when late (fun s => (s.put Reg.FW_FACET_REQ.LATE 1).inc Reg.FW_FACET_LATE.CNT) s
  modFw (fun f => { f with request := some (mask / 2 * 2, max want early) }) s

def execFacetRequest (mask : Fin 65536) (s : State) : Host.Outcome State Fault Refusal :=
  run (regAccess Reg.FW_CTRL.LOAD.addr (fun s => facetRequest (cellNo s) mask s)) s

/-- A timetable entry has an instant after `a` and not after `b`, both local times in units of 2^−48 ns (R445, R446). -/
def ttFires (e : TtEntry) (a b : Int) : Bool :=
  let day : Int := 86400 * unitSec
  let t : Int := e.time * unitSec
  if e.kind = 2 then decide (a < t) && decide (t ≤ b) else
  let lo := (a - t) / day
  let n := ((b - t) / day - lo).toNat
  if e.kind = 0 then decide (0 < n) else (List.range (min n 7)).any (fun k => bitAt e.days (((lo + 1 + k + 4) % 7).toNat))

/-- The timetable entries that fire at this cell boundary, in table order. -/
def ttDue (s : State) : List TtEntry :=
  let f := s.fw.loaded.get 0
  let ofs : Int := (if s.on Reg.FW_TT_CTRL.OFS_EN then toSigned 32 (s.get Reg.FW_TT_OFS.OFS) else f.localOfs) * unitSec
  let b : Int := s.now
  let a : Int := (s.fw.lastCell.map (fun t => (t : Int))).getD (b - 1)
  if !s.on Reg.FW_TT_CTRL.EN || s.on Reg.FW_TT_CTRL.HOLD then [] else f.entries.filter (fun e => ttFires e (a + ofs) (b + ofs))

/-- The host's request that falls due at a cell boundary. -/
def hostDue (cell : Nat) (s : State) : Option (Nat × Nat) := s.fw.request.filter (fun r => decide (r.2 ≤ cell))

/-- The mask that a cell boundary switches to, and whether the host asked for it: a host request applies last and wins (R445). -/
def facetNext (cell : Nat) (s : State) : Option (Nat × Bool) :=
  match hostDue cell s, (ttDue s).getLast? with
  | some r, _ => some (r.1, true)
  | none, some e => some (e.mask, false)
  | none, none => none

/-- The facets' part of a cell boundary. Answers the entries that have fired, whose power requests follow. -/
def facetCell (cell : Nat) (s : State) : State × List TtEntry :=
  let due := ttDue s
  let host := hostDue cell s
  let next := facetNext cell s
  let s := modFw (fun f => { f with lastCell := some s.now, request := if host.isSome then none else f.request }) s
  (match next with
    | some (m, h) => facetSwitch m h s
    | none => s, due)

/-- FACET_DEFAULTING of one facet under a new schema (R447): event FACET_DEFAULTED and one entry of FW_DEFLIST per item. -/
def facetDefault (schema n : Nat) (s : State) : State :=
  let f := s.fw.loaded.get n
  if f.schemaVer = schema then s else
  let gone (x : FacetItem) : Bool := (Config.schemaItem schema x.id).isNone
  let kept (x : FacetItem) : Bool := (Config.schemaItem schema x.id).any (fun l => l.headD 0 == x.iver)
  let hit := f.items.filter (fun x => !kept x)
  let back (x : FacetItem) : FacetItem := { x with
    iver := ((Config.schemaItem schema x.id).getD []).headD 0, val := (Config.schemaDefault schema x.id x.index).map (BitVec.ofNat 8) }
  let s := modFw (fun w => { w with
    loaded := w.loaded.set n { f with
      schemaVer := schema, items := (f.items.filter (fun x => !gone x)).map (fun x => if kept x then x else back x) }
    defl := w.defl ++ hit.map (fun x => (x.id, x.index, n, gone x)) }) s
  if hit.isEmpty then s else raisePf 0x43 hit.length n s

/-- FW_DEFLIST shows the entry that the next read would pop (R13). -/
def deflSync (s : State) : State :=
  match s.fw.defl with
  | [] => forEach [Reg.FW_DEFLIST.ITEM, Reg.FW_DEFLIST.INDEX, Reg.FW_DEFLIST.FACET, Reg.FW_DEFLIST.DROPPED, Reg.FW_DEFLIST.VALID] (fun f s => s.put f 0) s
  | (i, x, n, d) :: _ =>
    ((((s.put Reg.FW_DEFLIST.ITEM i).put Reg.FW_DEFLIST.INDEX x).put Reg.FW_DEFLIST.FACET n).putB Reg.FW_DEFLIST.DROPPED d).put Reg.FW_DEFLIST.VALID 1

/-- The facets as the firmware that takes over treats them: held ones replace those of their number, the others are defaulted (R447). -/
def facetTakeover (s : State) : State :=
  let schema := s.get Reg.FW_RUN_SCHEMA.VER
  let s := modFw (fun w => { w with loaded := w.held.foldl (fun t e => if e.2.schemaVer = schema then t.set e.1 e.2 else t) w.loaded, held := [] }) s
  let s := s.put Reg.FW_FCT_STAT.PENDING 0
  modFw (fun w => { w with itemsDue := true }) (digestSync (loadedSync (deflSync (forEach (s.fw.loaded.map (·.1)) (facetDefault schema) s))))

/-- At the boot, the base facet and every overlay of the facet store are verified and loaded (R431); none in BLANK. -/
def facetBoot (s : State) : State :=
  if s.get Reg.LC_STATE.STATE = 0 then s else
  let l : Tab Facet := s.fw.store.filterMap (fun e => e.2.head?.map (fun f => (e.1, f)))
  digestSync (loadedSync (modFw (fun w => { w with loaded := l, itemsDue := true }) s))

/-- CLUSTER_BOOT_END. The facets are loaded by the first cluster that takes the lease after PORST_N is released (R431). -/
def clusterBootEnd (c : Nat) (s : State) : State :=
  let t := bootEnd c s
  if !s.wdn.firstTake && t.wdn.firstTake then facetBoot t else t

def execClusterBootEnd (c : Fin 2) (s : State) : Host.Outcome State Fault Refusal := run (clusterBootEnd c) s

/-- A read of a 64-bit RC register's low word: its value as words low and high. -/
def deflWord (s : State) : Nat :=
  match s.fw.defl with
  | [] => 0
  | (i, x, n, d) :: _ => i + 2 ^ 16 * x + 2 ^ 32 * n + 2 ^ 36 * b2n d + 2 ^ 63

/-- A read of the low word of FW_DEFLIST pops the entry and latches the high word (R13, R447). -/
def deflRead (s : State) : State :=
  let a := Reg.FW_DEFLIST.ITEM.addr
  if !windowOn s a then (s.inc Reg.HIF_PD_OFF_ACC.CNT).emit (.readWord 0 a 0) else
  let w := deflWord s
  let s := { s with core := { s.core with latch := s.core.latch.insert a (w / 2 ^ 32) } }
  (deflSync (modFw (fun f => { f with defl := f.defl.drop 1 }) s)).emit (.readWord 0 a (w % 2 ^ 32))

/-- FW_DEFLIST_READ. -/
def execFwDeflistRead (s : State) : Host.Outcome State Fault Refusal := run deflRead s

/-! ## Activation at a tick boundary (R437) -/

/-- The new standby has taken the lease: the staging bank becomes the run bank, pending facets take over, and the old cluster restarts
from it. -/
def actTakeover (s : State) : State :=
  let s := runSync (s.put Reg.FW_STAT.RUN_BANK (stgBank s))
  let slot := s.get Reg.FW_STAT.LOAD_STATE
  let s := (s.put Reg.FW_STAT.ACT_STATE 4).put Reg.FW_STAT.LOAD_STATE (if slot = 4 then 0 else slot)
  let s := facetTakeover ((s.put Reg.FW_STG_VER.VER 0).put Reg.FW_STAT.FLASH_DONE 0)
  clearPath 0 (bootCluster (1 - s.fw.newCl) s)

/-- STREAMING ends when the new standby is CAUGHT_UP and its bank VERIFIED; the handover is then asked for, and asked for again where it was
refused, an activation not being aborted from HANDOVER onwards (R438). -/
def actStreamed (s : State) : State :=
  let st := s.get Reg.FW_STAT.ACT_STATE
  if (st = 2 || (st = 3 && s.wdn.handover.isNone)) && clState s s.fw.newCl = clCAUGHT_UP && (bankAt s (stgBank s)).verified then
    modWdn (fun w => { w with handover := some false }) ((s.put Reg.FW_STAT.ACT_STATE 3).put Reg.WDN_CTRL.HANDOVER 1) else s

/-- RESTARTING ends when the old cluster is CAUGHT_UP again: the directory names the new slot. -/
def actDone (s : State) : State :=
  if s.get Reg.FW_STAT.ACT_STATE = 4 && clState s (1 - s.fw.newCl) = clCAUGHT_UP then
    dirWrite (slotOfImage s (bankAt s (runBank s)).img) ((s.put Reg.FW_STAT.ACT_STATE 5).inc Reg.FW_ACTIVATIONS.CNT) else s

/-- What a tick boundary does in an activation, after the Warden's part of it. -/
def fwBoundary (s : State) : State :=
  let s := if s.get Reg.FW_STAT.ACT_STATE = 3 && clState s s.fw.newCl = clACTIVE then actTakeover s else s
  actStreamed (actDone s)

/-! ## The life cycle (R449 to R453) -/

/-- The octets of an intent record of a pair and of a commit position that names it (R451); the digest's octets are as the payload's hash gives
them. -/
def intentOctets (n : Nat) (p : LcPair) : List Nat :=
  let o := zeroTo 28 ([0x49, p.src, p.dst, n, p.epoch % 256, p.copy] ++ octetsLe 12 p.digest)
  o ++ octetsLe 4 (crc32c 0xFFFFFFFF o)
def commitOctets (n : Nat) (p : LcPair) : List Nat :=
  let o := [0x43, p.dst, n, 0] ++ (intentOctets n p).drop 28 ++ [0, 0, 0, 0]
  o ++ octetsLe 4 (crc32c 0xFFFFFFFF o)

/-- The state of the life cycle: the TO of the highest committed pair (R451). -/
def lcStateOf (l : List LcPair) : Nat := ((l.filter (·.committed)).getLast?.map (·.dst)).getD 0

def lcSync (s : State) : State :=
  (s.put Reg.LC_STATE.STATE (lcStateOf s.otp.pairs)).put Reg.LC_STATE.SLOTS_USED s.otp.pairs.length

/-- The transition stands in the table of R450. -/
def lcListed (a b : Nat) : Bool := [(0, 1), (1, 2), (1, 3), (2, 3), (1, 4), (2, 4), (3, 4), (0, 4)].contains (a, b)

/-- It destroys keys before its intent record (R450). -/
def lcDestroys (a b : Nat) : Bool := b == 3 || (b == 4 && a != 0)

/-- Its signature by the operator key: the tag, the serial number and the challenge (R450). -/
def lcSigned (s : State) (b : Nat) : Bool :=
  operatorSigned s ([0x4C, 0x43, 0x52, if b = 3 then 0x4D else 0x54] ++ octetsLe 8 Config.serial ++ octetsLe 8 (s.get Reg.LC_CHAL.CHAL))
    (octetsOf s Reg.LC_SIGi.SIG 24)

def payload (s : State) : List Nat := (List.range 54).map (fun i => s.get (Reg.LC_PROV_ARGi.ARG i))

/-- The payload copy that a provisioning writes (R452): 0, else 1; 2 where neither is blank. -/
def payCopy (s : State) : Nat := if s.otp.pay0 = .blank then 0 else if s.otp.pay1 = .blank then 1 else 2

/-- LC_ARM: CODE = 0xC3 with its TARGET (R450). One while a transition runs is ignored. -/
def lcArm (target : Nat) (s : State) : State :=
  let s := s.put Reg.LC_REQ.TARGET target
  if s.on Reg.LC_STATE.BUSY then s else
  let n := Config.drbg s.core.free
  { (s.drawn.put Reg.LC_CHAL.CHAL n).put Reg.LC_REQ.ARMED 1 with lc := { s.lc with armed := some s.clk } }

def execLcArm (target : Fin 8) (ofs : Fin 122880) (s : State) : Host.Outcome State Fault Refusal := run (fun s => lcArm target (s.at ofs)) s

/-- The ERR code of a confirmation, 0 where the transition is carried out (R450). -/
def lcErr (s : State) (b : Nat) : Nat :=
  let a := s.get Reg.LC_STATE.STATE
  if !s.lc.armed.any (fun c => decide (s.clk ≤ c + usClk 1000)) then 2
  else if !lcListed a b then 1
  else if lcDestroys a b && !lcSigned s b then 3
  else if 8 ≤ s.otp.pairs.length then 4
  else if b = 1 && ((Config.provUnwrap (payload s)).isNone || payCopy s = 2) then 5
  else 0

/-- A register of a debug path: the PF's at its address, the JTAG path's beyond the PF BAR0 space (R497). -/
def pathFld (p : Nat) (f : Fld) : Fld := if p = 0 then f else { f with addr := f.addr + 2 ^ 32 }

def modDbg (f : DbgS → DbgS) (s : State) : State := { s with dbg := f s.dbg }

def dbgPath (s : State) (p : Nat) : DbgPath := if p = 0 then s.dbg.pf else s.dbg.jtag
def modPathDbg (p : Nat) (f : DbgPath → DbgPath) (s : State) : State :=
  modDbg (fun d => if p = 0 then { d with pf := f d.pf } else { d with jtag := f d.jtag }) s

/-- A halted cluster goes on from where it stood (R502): one that has been lost meanwhile waits for its restart (R392). -/
def resumeCluster (c : Nat) (s : State) : State :=
  if !s.on (Reg.DBG_CCc_STAT.HALTED c) then s else
  let was := s.dbg.was.get c
  let s := (s.put (Reg.DBG_CCc_STAT.HALTED c) 0).put (Reg.DBG_CCc_STAT.PATH c) 0
  let s := modWdn (fun w => { w with hungA := w.hungA && c != 0, hungB := w.hungB && c != 1 }) s
  let s := modDbg (fun d => { d with was := d.was.erase c }) s
  if clState s c = clHALTED then setCluster c was s else s

/-- A path's level returns to 0. When level 2 ends, every cluster the path halted resumes (R499). -/
def levelDrop (p : Nat) (s : State) : State :=
  let two := s.get (pathFld p Reg.DBG_AUTH_CTRL.CUR) = 2
  let s := modPathDbg p (fun x => { x with ends := none }) (s.put (pathFld p Reg.DBG_AUTH_CTRL.CUR) 0)
  if two then forEach [0, 1] (fun c s => if s.get (Reg.DBG_CCc_STAT.PATH c) = p then resumeCluster c s else s) s else s

def lcRefused (err : Nat) (s : State) : State := (s.put Reg.LC_STATE.DENIED 1).put Reg.LC_STATE.ERR err

/-- LC_CONFIRM: CODE = 0x3C (R450). An accepted transition drops both debug levels (R499). -/
def lcConfirm (target : Nat) (s : State) : State :=
  let s := s.put Reg.LC_REQ.TARGET target
  if s.on Reg.LC_STATE.BUSY then s else
  let err := lcErr s target
  let s := { s.put Reg.LC_REQ.ARMED 0 with lc := { s.lc with armed := none } }
  if err ≠ 0 then lcRefused err s else
  levelDrop 1 (levelDrop 0 { (s.put Reg.LC_STATE.BUSY 1).put Reg.LC_STATE.ERR 0 with lc := { s.lc with target := some target } })

def execLcConfirm (target : Fin 8) (ofs : Fin 122880) (s : State) : Host.Outcome State Fault Refusal := run (fun s => lcConfirm target (s.at ofs)) s

/-- An arming that no confirmation follows within 1 ms is refused (R450). -/
def lcBoundary (s : State) : State :=
  if s.lc.armed.any (fun c => decide (c + usClk 1000 < s.clk)) then
    lcRefused 2 { s.put Reg.LC_REQ.ARMED 0 with lc := { s.lc with armed := none } } else s

/-- Every slot and KEK_D zeroised, the node-secret region zero-filled and its window closed (R241, R450, R487). -/
def destroyKeys (s : State) : State :=
  let s := modKv (fun v => { v with slots := [], secrets := [], kekD := false }) (modSec (fun c => { c with cache := [] }) s)
  let s := (s.put Reg.KV_SLOTS_USED.USED 0).put (Reg.MEM_WINw_STAT.STATE 1) 0
  { s with mem := { s.mem with fillQ := setDel s.mem.fillQ 1 } }

/-- The work before the intent record (R450): for PROVISIONED the payload is written. -/
def preIntent (a b : Nat) (advance : Bool) (s : State) : State :=
  if lcDestroys a b then (if advance then burnEpoch (destroyKeys s) else destroyKeys s)
  else if b = 1 then
    let w := PayCopy.ok (payload s)
    { s with otp := if payCopy s = 0 then { s.otp with pay0 := w } else { s.otp with pay1 := w } }
  else s

/-- The record pair of a transition (R451). -/
def lcPair (s : State) (b copy : Nat) : LcPair :=
  { intent := .complete, src := s.get Reg.LC_STATE.STATE, dst := b, epoch := epoch s, copy := copy, digest := if b = 1 then Config.sha384 (payload s) % 2 ^ 96 else 0,
    c0 := .complete, c1 := .blank }

/-- LC_TRANSITION_DONE: the records are written and the part is in the new state (R451, R452). -/
def lcDone (s : State) : State :=
  match s.lc.target with
  | none => s
  | some b =>
    let copy := payCopy s
    let s := preIntent (s.get Reg.LC_STATE.STATE) b true s
    let p := lcPair s b (if b = 1 then copy else 0)
    let n := s.otp.pairs.length
    let s := { s with lc := { s.lc with target := none }, otp := { s.otp with pairs := s.otp.pairs ++ [p] } }
    let s := (s.emit (.lanes "OTP intent" (n :: intentOctets n p))).emit (.lanes "OTP commit 0" (n :: commitOctets n p))
    let s := forEach (List.range 54) (fun i s => s.put (Reg.LC_PROV_ARGi.ARG i) 0) s
    lcSync (s.put Reg.LC_STATE.BUSY 0)

def execLcTransitionDone (s : State) : Host.Outcome State Fault Refusal := run lcDone s

/-- What a transition that PORST_N or the supplies cut off leaves in OTP (R451, R453). `stage`: 0 nothing; 1 a spoiled payload copy; 2 the
pre-intent work; 3 a spoiled intent record; 4 a complete intent record; 5 a spoiled first commit position. -/
def lcCut (stage : Nat) (s : State) : State :=
  match s.lc.target with
  | none => s
  | some b =>
    let a := s.get Reg.LC_STATE.STATE
    let copy := payCopy s
    if stage = 0 then s
    else if stage = 1 then
      if b = 1 then { s with otp := if copy = 0 then { s.otp with pay0 := .bad } else { s.otp with pay1 := .bad } } else s
    else
      let s := preIntent a b true s
      let p := lcPair s b (if b = 1 then copy else 0)
      let add (p : LcPair) : State := { s with otp := { s.otp with pairs := s.otp.pairs ++ [p] } }
      if stage = 2 then s
      else if stage = 3 then add { p with intent := .spoiled, c0 := .blank }
      else if stage = 4 then add { p with c0 := .blank }
      else add { p with c0 := .spoiled }

/-- Rolls the last of the pairs forward where its intent record is the highest complete one and it is not committed. -/
def rollPair (p : LcPair) : LcPair := if p.c0 = .blank then { p with c0 := .complete } else { p with c1 := .complete }

/-- LIFECYCLE_ROLL_FORWARD at a boot (R453). -/
def lcRoll (s : State) : State :=
  let l := s.otp.pairs
  match (l.zip (List.range l.length)).filter (fun e => e.1.intent == .complete) |>.getLast? with
  | none => lcSync s
  | some (p, i) =>
    if p.committed then lcSync s else
    let s := preIntent (lcStateOf l) (if p.dst = 1 then 0 else p.dst) (decide (epoch s < p.epoch)) s
    let s := lcSync { s with otp := { s.otp with pairs := listSet s.otp.pairs default i (rollPair p) } }
    (s.emit (.lanes (if p.c0 = .blank then "OTP commit 0" else "OTP commit 1") (i :: commitOctets i p))).put Reg.LC_STATE.ROLLED 1

/-- The installation key that slot 0 holds: that of the payload copy which the committed PROVISIONED intent names (R230, R453). -/
def installKey (s : State) : Option Nat := (provPayload s).bind Config.provUnwrap

end Sys2Proof.Machine
end

