-- ==== Sys2Proof/Machine/Power.lean ====
section
/-! DEFINITION. Power domains, power states, their requests and sequences, pad hold and wake (chapter 15), and what wakes the part:
tamper and sensor trips (R246) and thermal shutdown (R520). -/

namespace Sys2Proof.Machine

/-! ## Domains (R454, R455) -/

/-- The wake order (R467). -/
def wakeOrder : List Nat :=
  [29, 27, 28, 26, 18, 19, 20, 21, 22, 23, 24, 25, 30, 31, 11, 12, 13, 14, 15, 16, 17, 3, 4, 5, 6, 7, 8, 9, 10, 1, 2]

/-- An engine is in the HUSH set. -/
def inHush (s : State) (e : Nat) : Bool := bitAt (s.get (Reg.PWR_HUSH_SETi.ENG (e / 32))) (e % 32)

/-- The engines of the group in a domain PD03 to PD10. -/
def groupEngines (d : Nat) : List Nat := (List.range 16).map (fun i => 16 * (d - 3) + i)

/-- A backhaul port counts as enabled while it has a link (log entry 33). -/
def ethEnabled (s : State) : Bool := !s.tm.linkUp.isEmpty

/-- The domain is off in TRIM (R454). -/
def offTrim (s : State) (d : Nat) : Bool :=
  let engOn (e : Nat) : Bool := s.on (Reg.CE_MODE.EN e)
  if d = 1 || d = 2 then !s.on (clEnFld (d - 1))
  else if d = 3 then !(groupEngines 3).any engOn && !s.on Reg.MAC_CTRL.EN
  else if 4 ≤ d && d ≤ 10 then !(groupEngines d).any engOn
  else if 11 ≤ d && d ≤ 14 then !s.on (portEn (2 * (d - 11))) && !s.on (portEn (2 * (d - 11) + 1))
  else if d = 15 || d = 16 then !(List.range 128).any (fun e => engOn e && s.get (Reg.CE_MODE.PHY e) == 3)
  else if d = 17 then !s.on Reg.TXC_CTRL.EN
  else if d = 18 then !s.on Reg.SEC_CTRL.EN
  else if d = 20 then !s.on Reg.FWD_CTRL.EN
  else if d = 21 then !s.on Reg.FWD_CTRL.EN ||
    !(List.range 256).any (fun t => s.on (Reg.HIF_Tt_CFG.EN t) && s.get (Reg.FWD_Tt_CFG.FP t) == 1)
  else if d = 22 then !s.on Reg.TM_CTRL.EN && !s.on Reg.FQ_CTRL.EN
  else if d = 24 then !ethEnabled s
  else if d = 25 then !s.on Reg.MIR_CTRL.TWIN && (!s.on (clEnFld 0) || !s.on (clEnFld 1))
  else if d = 31 then !s.on Reg.RSI_CTRL.EN
  else false

/-- The domain is off in HUSH by the HUSH column (R454). -/
def offHush (s : State) (d : Nat) : Bool :=
  if 4 ≤ d && d ≤ 10 then !(groupEngines d).any (inHush s)
  else if 11 ≤ d && d ≤ 14 then
    !(List.range 128).any (fun n => tuEn s n && (tuPort s n) / 2 == d - 11 && (tuTargets s n).any (inHush s))
  else if d = 15 then !(List.range 128).any (fun e => inHush s e && s.get (Reg.CE_MODE.PHY e) == 3)
  else d == 16 || d == 21

/-- PWR_TRIM_KEEP keeps the domain on. -/
def keepOn (s : State) (d : Nat) : Bool := d != 0 && bitAt (s.get Reg.PWR_TRIM_KEEP.KEEP) (d - 1)

/-- The state FULL, TRIM or HUSH (0, 1, 2) needs the domain (R454, R456). -/
def needsPd (s : State) (target d : Nat) : Bool :=
  if target = 0 then true
  else if keepOn s d then true
  else if target = 1 then !offTrim s d
  else !offTrim s d && !offHush s d

def domSync (s : State) : State :=
  (s.put Reg.PWR_DOM_ON.ON (((List.range 32).filter (pdOn s)).map (fun d => 2 ^ d)).sum).put Reg.DEC_ON.AVAIL
    (0x000FFF * b2n (pdOn s 15) + 0xFFF000 * b2n (pdOn s 16))

/-- A domain goes off: what its blocks were doing ends as R54, R82, R376, R455 and R472 give, and its registers keep their values. -/
def domainOff (d : Nat) (s : State) : State :=
  if !pdOn s d then s else
  let s := if d = 17 then feSync s else s
  let s := if 3 ≤ d && d ≤ 10 then forEach (groupEngines d) cePowerOff s else s
  let s := domSync (modPwr (fun p => { p with off := setAdd p.off d }) s)
  let s := if 3 ≤ d && d ≤ 10 then faQuery s else s
  if d = 1 || d = 2 then
    let s := setCluster (d - 1) clOFF s
    if d - 1 = clStandby s then clearPath 0 s else s
  else if 11 ≤ d && d ≤ 14 then portPowerOff (2 * (d - 11) + 1) (portPowerOff (2 * (d - 11)) s)
  else if d = 17 then modPwr (fun p => { p with txcOff := some s.core.ticks }) s
  else if d = 24 then modTm (fun t => { t with linkUp := [] }) s
  else if d = 25 then linkDown s
  else if d = 26 then s.put Reg.MEM_STAT.SELF_REFRESH 1
  else if d = 29 then forEach (List.range 8) stopOut (s.put Reg.CLK_STAT.LOCK 0)
  else if d = 31 then forEach (List.range 12) portPowerOff s
  else s

/-- A domain is released to its blocks (R455, R467), and PD17's pads follow their levels again but after a wake, whose release waits for the
host (R472, R473). -/
def domainOn (d : Nat) (s : State) : State :=
  let s := domSync (modPwr (fun p => { p with off := setDel p.off d }) s)
  if d = 17 then feSync (modTxc (fun t => { t with feMark := s.clk }) s)
  else if d = 26 then s.put Reg.MEM_STAT.SELF_REFRESH 0
  else if d = 29 then ((s.put Reg.CLK_STAT.RELOCKING 1).put Reg.CLK_STAT.LOCK 0)
  else s

/-! ## Requests (R463 to R466, R476) -/

def pwrState (s : State) : Nat := s.get Reg.PWR_STAT.STATE

/-- The first refuser of a request, by its code; requester 0 is the PF, 1 the facet timetable (R465). -/
def refuser (s : State) (target req : Nat) : Option Nat :=
  let deep := target = 3 || target = 4
  if 5 ≤ target || (req = 1 && deep) then some 1
  else if s.on Reg.WDN_STAT.FAIL then some 2
  else if deep && holdsTwinLease s then some 3
  else if deep && activating s then some 4
  else if deep && s.on Reg.LC_STATE.BUSY then some 5
  else if deep && (clState s 0 == clHALTED || clState s 1 == clHALTED || s.wdn.hungA || s.wdn.hungB) then some 6
  else none

/-- A request is queued; one queued before is discarded and counted. -/
def pwrQueue (target req : Nat) (s : State) : State :=
  setQueued (some (target, req)) (s.incIf s.pwr.queued.isSome Reg.PWR_REPLACED.CNT)

/-- A sequence is to start at the next tick boundary. -/
def pwrBegin (target req : Nat) (s : State) : State :=
  setSeq (some { target := target, phase := 0, ups := [], downs := [], cell := false, mark := 0, req := req }) s

/-- A bank with an image has its flag set (R430, R470). -/
def bankReady (b : Bank) : Bool := b.img.isNone || b.verified

/-- The domain that switches now and to what: the sequence's, else one of HUSH duty cycling (R458, R467). -/
def switching (s : State) : Option (Nat × Bool) :=
  match s.pwr.seqn with
  | some q => match q.ups, q.downs with
    | d :: _, _ =>
      if (d = 1 || d = 2) && q.phase = 10 && !(bankReady s.fw.fb0 && bankReady s.fw.fb1) then none else some (d, true)
    | [], d :: _ => if q.phase = 1 && !q.cell then none else some (d, false)
    | [], [] => s.pwr.cyc.head?
  | none => s.pwr.cyc.head?

/-- Microseconds of a domain's power-up or power-down (R467). -/
def powerUs (d : Nat) (on : Bool) : Nat :=
  if !on then 4 else if d = 1 || d = 2 then 20 else if 3 ≤ d && d ≤ 10 then 14 else if d = 15 || d = 16 || d = 29 then 12
  else if d = 27 || d = 28 then 20 else 10

/-- Microseconds from B by which a domain is up in a wake, each in its own time slot (R470). -/
def wakeSlot (d : Nat) : Nat :=
  let tens := [18, 19, 20, 21, 22, 23, 24, 25, 30, 31, 11, 12, 13, 14]
  if tens.contains d then 110 + 10 * tens.idxOf d else if 3 ≤ d && d ≤ 10 then 288 + 14 * (d - 3)
  else [(27, 20), (28, 40), (26, 100), (15, 252), (16, 264), (17, 274), (1, 2060), (2, 2080)].findSome? (fun e => if e.1 = d then some e.2 else none)
    |>.getD 0

/-- The clock at which a domain that starts to switch now is done. -/
def switchEnd (s : State) (d : Nat) (on : Bool) : Nat :=
  let e := s.clk + usClk (powerUs d on)
  match s.pwr.seqn with
  | some q => if q.phase ≠ 10 || !on then e else if d = 1 || d = 2 then max e (q.mark + usClk (wakeSlot d)) else q.mark + usClk (wakeSlot d)
  | none => e

/-- The next domain starts to switch (R467). -/
def swArm (s : State) : State :=
  match switching s with
  | none => modPwr (fun p => { p with sw := none }) s
  | some (d, on) =>
    if s.pwr.sw.any (fun x => x.1 == d && x.2.1 == on) then s else modPwr (fun p => { p with sw := some (d, on, switchEnd s d on) }) s

/-- A wake begins (R470, R475): `l` is every source seen with its GPIO, the first of them first. -/
def wakeStart (target : Nat) (l : List (Nat × Nat)) (s : State) : State :=
  let first := l.headD (0, 0)
  let all := ((List.range 5).filter (fun i => l.any (fun x => x.1 == i + 1))).map (2 ^ ·)
  let s := putAll [(Reg.PWR_LAST_WAKE.SRC, first.1), (Reg.PWR_LAST_WAKE.GPIO, if first.1 = 3 then first.2 else 0),
    (Reg.PWR_LAST_WAKE.ALL, all.sum), (Reg.PWR_LAST_WAKE_TICK.TICK, s.tick % 2 ^ 32), (Reg.PWR_STAT.PAD_HELD, 1)] s
  let s := modPwr (fun p => { p with wakes := [] }) (s.inc Reg.PWR_WAKES.CNT)
  swArm <| setSeq (some { target := target, phase := 8, ups := [29], downs := [], cell := false, mark := s.clk, req := 0 }) s

/-- The target that sources 2 to 4 wake to; 3 is treated as 0. -/
def wakeTarget (s : State) : Nat := s.get Reg.PWR_WAKE_CFG.TARGET % 3

/-- A wake source acts (R474): in DORMANT it wakes the part, during the entry it is held. A failed Warden wakes nothing (R477). -/
def wakeOn (src gpio target : Nat) (s : State) : State :=
  if s.on Reg.WDN_STAT.FAIL then s
  else match s.pwr.seqn with
  | some q => if q.target = 3 && q.phase ≤ 7 then modPwr (fun p => { p with wakes := p.wakes ++ [(src, gpio)] }) s else s
  | none => if pwrState s = 3 then wakeStart target (s.pwr.wakes ++ [(src, gpio)]) s else s

/-- POWER_REQUEST: the outcome of a request of the PF or the timetable (R464 to R466). The part in OFF takes none (R462). -/
def pwrRequest (target req : Nat) (s : State) : State :=
  if s.pwr.seqn.isNone && pwrState s = 4 then s
  else if s.on Reg.WDN_STAT.FROZEN then (pwrQueue target req s).put Reg.PWR_STAT.LAST_RESULT 2
  else match refuser s target req with
  | some r => pwrRefused target req r s
  | none => match s.pwr.seqn with
    | some q =>
      if q.target = target then
        (setQueued none (s.incIf s.pwr.queued.isSome Reg.PWR_REPLACED.CNT)).inc Reg.PWR_MERGED.CNT |>.put Reg.PWR_STAT.LAST_RESULT 3
      else (pwrQueue target req s).put Reg.PWR_STAT.LAST_RESULT 2
    | none =>
      if target = 0 && pwrState s = 0 then s.put Reg.PWR_STAT.LAST_RESULT 4
      else if pwrState s = 3 && target < 3 then wakeOn 1 0 target (s.put Reg.PWR_STAT.LAST_RESULT 1)
      else (pwrBegin target req s).put Reg.PWR_STAT.LAST_RESULT 1

def execPowerRequest (target : Fin 8) (s : State) : Host.Outcome State Fault Refusal :=
  run (fun s => pwrRequest target 0 (s.put Reg.PWR_REQ.TARGET target)) s

/-! ## Sequences (R467 to R471) -/

/-- A Loupe counter of the power manager, which counts while PD30 is off as well (R489, R490). -/
def lpeHeld (id : Nat) (s : State) : State :=
  { s with lpe := { s.lpe with cnt := s.lpe.cnt.set id (min (s.lpe.cnt.get id + 1) (2 ^ 48 - 1)) } }

/-- The queued request is checked again and starts, or is refused (R464). -/
def pwrUnqueue (s : State) : State :=
  if s.pwr.seqn.isSome || s.on Reg.WDN_STAT.FROZEN then s else
  match s.pwr.queued with
  | none => s
  | some (t, r) =>
    let s := setQueued none s
    match refuser s t r with
    | some x => pwrRefused t r x s
    | none => if t = 0 && pwrState s = 0 then s else if pwrState s = 3 && t < 3 then wakeOn 5 0 t s else pwrBegin t r s

/-- The state OFF is reached (R462). -/
def offReady (s : State) : State :=
  let s := s.put Reg.PWR_STAT.OFF_READY 1
  if s.on Reg.PWR_OFF_CFG.EN then
    let n := s.get Reg.PWR_OFF_CFG.GPIO
    (modPwr (fun p => { p with gpio := p.gpio ||| 2 ^ n }) s).emit (.pin "GPIO_HIGH" n)
  else s

/-- The wake timer has come (R474). -/
def timerDue (s : State) : Bool := s.on Reg.PWR_WAKE_CFG.TIMER_EN && decide (s.get Reg.PWR_WAKE_TICK.TICK ≤ s.tick)

/-- SEQUENCE_COMPLETE (R464, R474): the state is reached; a thermal shutdown that waited starts, or DORMANT is left at once for a
source held, or the queued request starts. -/
def pwrFinish (target : Nat) (s : State) : State :=
  let s := lpeHeld (0x080 + target) ((setSeq none (s.put Reg.PWR_STAT.STATE target)).inc Reg.PWR_TRANS.CNT)
  let s := modPwr (fun p => { p with need := none, cyc := [] }) s
  if s.pwr.thermal then
    let t := modPwr (fun p => { p with thermal := false }) s
    if target = 4 then offReady t
    else if target = 3 then
      offReady (lpeHeld 0x084 ((t.put Reg.PWR_STAT.STATE 4).inc Reg.PWR_TRANS.CNT))
    else pwrBegin 4 0 s
  else if target = 4 then offReady s
  else if target = 3 && !s.on Reg.WDN_STAT.FAIL then
    let l := s.pwr.wakes ++ (if timerDue s && !s.pwr.wakes.any (fun x => x.1 == 2) then [(2, 0)] else [])
    let wq := s.pwr.queued.any (fun q => decide (q.1 < 3) && (refuser s q.1 q.2).isNone)
    let l := l ++ (if wq then [(5, 0)] else [])
    match l with
    | [] => pwrUnqueue s
    | (5, _) :: _ => wakeStart ((s.pwr.queued.map (·.1)).getD 0) l (setQueued none s)
    | _ => wakeStart (wakeTarget s) l s
  else pwrUnqueue s

/-- The lease is withdrawn and nothing is sent any more (R469, R520). -/
def withdrawLease (s : State) : State :=
  leaseAbort ((modWdn (fun w => { w with leaseEnd := none, lastReq := none }) (s.put Reg.WDN_TWL_STAT.HELD 0)).emit (.pin "LEASE_REQ" 0))

/-- A running sequence starts at its tick boundary (R457, R468, R469). It is checked again; a thermal shutdown is not (R520). -/
def pwrStart (q : PwrSeq) (s : State) : State :=
  match (if s.pwr.thermal && q.target = 4 then none else refuser s q.target q.req) with
  | some r =>
    let t := pwrRefused q.target q.req r (setSeq none s)
    if s.pwr.thermal then pwrBegin 4 0 t else pwrUnqueue t
  | none =>
    let s := modPwr (fun p => { p with thermal := p.thermal && q.target != 4 }) s
    if q.target < 3 then
      let ups := wakeOrder.filter (fun d => !pdOn s d && needsPd s q.target d)
      let cycled := if q.target = 2 then (s.pwr.cyc.map (·.1)) else []
      let off := wakeOrder.filter (fun d => pdOn s d && !needsPd s q.target d && !cycled.contains d)
      let eng := off.filter (fun d => 3 ≤ d && d ≤ 10)
      let downs := eng.reverse ++ (off.filter (fun d => !(3 ≤ d && d ≤ 10))).reverse
      if ups.isEmpty && downs.isEmpty then pwrFinish q.target s
      else setSeq (some { q with phase := 1, ups := ups, downs := downs }) s
    else if 3 ≤ pwrState s then pwrFinish q.target s
    else setSeq (some { q with phase := 2 }) (modPwr (fun p => { p with quiet := true }) s)

/-- A seal of the Loupe counters is asked for (R493): the next tick boundary takes its snapshot. -/
def sealStart (s : State) : State :=
  if s.on Reg.LPE_CTRL.SEAL then s else { s.put Reg.LPE_CTRL.SEAL 1 with lpe := { s.lpe with sinceSeal := 0 } }

/-- The IDs of R490 and of the histograms of R491. -/
def lpeCounters : List (Nat × Nat) :=
  [(0x001, 0x003), (0x010, 0x018), (0x020, 0x023), (0x030, 0x034), (0x038, 0x03C), (0x040, 0x049), (0x050, 0x059), (0x060, 0x073),
   (0x080, 0x084), (0x088, 0x08D), (0x090, 0x094), (0x0A1, 0x0AA)]
def lpeHists : Nat × Nat := (0x100, 0x104)

def idsOf (r : Nat × Nat) : List Nat := (List.range (r.2 + 1 - r.1)).map (· + r.1)

/-- An entry of a record: the ID in 2 octets and the value in 6 (R493). -/
def lpeEntry (id v : Nat) : List Nat := octetsLe 2 id ++ octetsLe 6 v

/-- The entries of a snapshot, those of the counters that `shown` admits and of every histogram bin. -/
def lpeEntries (shown : Nat → Bool) (c : Tab Nat) : List Nat :=
  ((lpeCounters.flatMap idsOf).filter shown).flatMap (fun id => lpeEntry id (c.get id)) ++
  (idsOf lpeHists).flatMap (fun id => (List.range 32).flatMap (fun b => lpeEntry (Config.binEntry id b) (c.get (0x10000 + 32 * id + b))))

/-- The 64-octet header of a record (R493, R495). -/
def lpeHeader (seq tick flags : Nat) : List Nat :=
  (List.range 64).map (Config.loupeHead [0x4C505645, 1, seq, Config.serial, tick, flags])

/-- A seal record as it stands in flash: header, encrypted body, MIC. -/
def sealRecord (seq tick : Nat) (c : Tab Nat) : List Nat :=
  let body := lpeEntries (fun _ => true) c
  let nonce := Config.loupeNonce seq
  let head := lpeHeader seq tick 0
  head ++ Config.ccmText Config.loupeKey nonce body ++ octetsLe 16 (Config.ccmMic Config.loupeKey nonce head body)

/-- DORMANT_DRAIN_DONE: every frame due is released and every burst acknowledged; the active cluster parks, both are powered down, and
Loupe seals (R469 steps 3 to 6). -/
def drainDone (s : State) : State :=
  match s.pwr.seqn with
  | none => s
  | some q =>
    let wait := min 4 (max 1 (s.eff Reg.DEC_CTRL.BUDGET_TICKS)) + b2n (s.effOn Reg.MIR_CTRL.CNT_MIRROR && s.on Reg.MIR_CTRL.TWIN) + 2
    if q.phase ≠ 3 || s.core.ticks < q.mark + wait || !s.mir.int.unacked.isEmpty || !s.mir.twin.unacked.isEmpty then s else
    let s := modPwr (fun p => { p with parked := if clActive s then some (clHolder s) else none }) s
    setSeq (some { q with phase := 4 }) (sealStart (domainOff 2 (domainOff 1 s)))

def execDormantDrainDone (s : State) : Host.Outcome State Fault Refusal := run drainDone s

/-- Step 7 of R469: LPDDR5X is in self-refresh, and the domains are to go off in reverse wake order but for PD29. -/
def sealedOff (s : State) : State :=
  match s.pwr.seqn with
  | some q =>
    if q.phase = 4 then
      setSeq (some { q with phase := 5, downs := (wakeOrder.filter (fun d => d != 29 && pdOn s d)).reverse }) (s.put Reg.MEM_STAT.SELF_REFRESH 1)
    else s
  | none => s

/-- LOUPE_SEAL_DONE: the seal record is in flash, which holds 128 records in each of two halves (R469, R493). -/
def sealDone (s : State) : State :=
  match s.lpe.sealing with
  | none => s
  | some (c, tick) =>
    let l := s.lpe.flash
    let keep := if 256 ≤ l.length then l.drop 128 else l
    let s := s.emit (.lanes "flash seal" (sealRecord s.lpe.seq tick c))
    let s := { s with lpe := { s.lpe with sealing := none, seq := s.lpe.seq + 1, flash := keep ++ [(s.lpe.seq, c)] } }
    swArm (sealedOff ((s.inc Reg.LPE_STAT.SEALS).put Reg.LPE_CTRL.SEAL 0))

def execLoupeSealDone (s : State) : Host.Outcome State Fault Refusal := run sealDone s

/-- The service after a wake (R471): the cluster that parked takes the lease, the other enters RESYNC, and pads may be released. -/
def wakeResume (q : PwrSeq) (s : State) : State :=
  let s := match s.pwr.parked with
    | some c =>
      let s := takeLease c causeAlone s
      if s.on (clEnFld (1 - c)) && pdOn s (2 - c) then startPages 0 (setCluster (1 - c) clRESYNC s) else s
    | none => bootBoth s
  let s := modPwr (fun p => { p with parked := none, quiet := false }) s
  let s := if s.on Reg.MIR_CTRL.TWIN then s else s.put Reg.WDN_TWL_STAT.HELD 0
  pwrFinish q.target (s.put Reg.PWR_STAT.RELEASE_READY 1)

/-- The sequence goes on after a domain has completed. -/
def pwrNext (q : PwrSeq) (s : State) : State :=
  if !q.ups.isEmpty || !q.downs.isEmpty then setSeq (some q) s
  else if q.phase = 1 || q.phase = 7 then pwrFinish q.target s
  else if q.phase = 5 then setSeq (some { q with phase := 6 }) s
  else if q.phase = 8 then setSeq (some { q with phase := 9 }) s
  else if q.phase = 10 then setSeq (some { q with phase := 11 }) s
  else setSeq (some q) s

/-- A domain has completed, and the sequence or the duty cycling goes on to the next. -/
def switched (d : Nat) (on : Bool) (s : State) : State :=
  let s' := if on then domainOn d s else domainOff d s
  match s.pwr.seqn with
  | some q =>
    if !q.ups.isEmpty then pwrNext { q with ups := q.ups.drop 1 } s'
    else if !q.downs.isEmpty then pwrNext { q with downs := q.downs.drop 1 } s'
    else modPwr (fun p => { p with cyc := p.cyc.drop 1 }) s'
  | none => modPwr (fun p => { p with cyc := p.cyc.drop 1 }) s'

/-- DOMAIN_SWITCH_DONE (R467): the domain that switches is done at its clock, in the tick that holds it, and the next one starts. -/
def switchDone (s : State) : State :=
  match s.pwr.sw with
  | none => swArm s
  | some (d, on, c) =>
    if switching s ≠ some (d, on) then swArm s
    else if (s.core.ticks + 1) * Config.tickClocks ≤ c then s
    else swArm (switched d on (modPwr (fun p => { p with sw := none }) (s.at (c - s.core.ticks * Config.tickClocks))))

def execDomainSwitchDone (s : State) : Host.Outcome State Fault Refusal := run switchDone s

/-- PAD_RELEASE (R473): the front-end pins take the levels that are due, and the RSI ports that train are then armed for alignment (R471). -/
def padRelease (s : State) : State :=
  if s.on Reg.PWR_STAT.RELEASE_READY then
    feSync (modPwr (fun p => { p with rearm := true }) ((s.put Reg.PWR_STAT.PAD_HELD 0).put Reg.PWR_STAT.RELEASE_READY 0))
  else s

/-- After a wake, at the first tick boundary at which every enabled port has lock, the power sequencer writes RSI_SYSREF.ARM (R471). -/
def wakeArm (s : State) : State :=
  let locked (p : Nat) : Bool := !s.on (portEn p) || s.get (portState p) == psALIGNING || s.get (portState p) == psUP
  if s.pwr.rearm && (List.range 12).all locked then sysrefArm (modPwr (fun p => { p with rearm := false }) s) else s

def execPadRelease (s : State) : Host.Outcome State Fault Refusal := run padRelease s

/-- WAKE_TIMER: the tick count has reached PWR_WAKE_TICK (R474). -/
def execWakeTimer (s : State) : Host.Outcome State Fault Refusal :=
  run (fun s => if timerDue s then wakeOn 2 0 (wakeTarget s) s else s) s

/-- WAKE_GPIO: an edge on GPIO `n` (R474). -/
def execWakeGpio (n : Fin 16) (rising : Bool) (s : State) : Host.Outcome State Fault Refusal :=
  run (fun s => if bitAt (s.get Reg.PWR_WAKE_GPIO.EN) n && bitAt (s.get Reg.PWR_WAKE_GPIO.EDGE) n == rising then wakeOn 3 n (wakeTarget s) s else s) s

/-! ## HUSH duty cycling (R458) -/

/-- The groups PD04 to PD10 that hold an engine of the HUSH set and are not kept on. -/
def cycledGroups (s : State) : List Nat :=
  (List.range 7).map (· + 4) |>.filter (fun d => (groupEngines d).any (inHush s) && !keepOn s d)

/-- A cell needs a group: its plan gives one of the group's engines a window, or it runs the default plan with DEFAULT_OPEN = 1. -/
def cellNeeds (s : State) (cell d : Nat) : Bool :=
  match s.mac.plans.find? (fun p => p.cell == cell) with
  | some p => p.wins.any (fun w => w.engine / 16 + 3 == d)
  | none => s.effOn Reg.MAC_CTRL.DEFAULT_OPEN

/-- An engine of the group is receiving, holding or replaying a frame. -/
def groupBusy (s : State) (d : Nat) : Bool := (groupEngines d).any (fun e => (ceOf s e).cur.isSome || !(ceOf s e).held.isEmpty)

/-- Duty cycling runs. -/
def cycling (s : State) : Bool := pwrState s == 2 && s.pwr.seqn.isNone && s.pwr.need.isSome && s.mac.running

/-- A group that waits to switch. -/
def inCyc (s : State) (d : Nat) : Bool := s.pwr.cyc.any (fun x => x.1 == d)

/-- HUSH_UNPARK one tick before the cell that needs the group. -/
def hushUnpark (s : State) : State :=
  if !cycling s || (s.tick + 1) % s.mac.len ≠ 0 then s else
  let next := (s.tick + 1) / s.mac.len
  forEach ((cycledGroups s).filter (fun d => !pdOn s d && !inCyc s d && cellNeeds s next d))
    (fun d s => (modPwr (fun p => { p with cyc := p.cyc ++ [(d, true)] }) s).inc Reg.PWR_UNPARK.CNT) s

/-- HUSH_PARK of the groups no longer needed and idle; `late` says which parks are late. -/
def hushPark (late : Nat → Bool) (s : State) : State :=
  if !cycling s then s else
  let now := s.pwr.need.getD []
  forEach ((cycledGroups s).filter (fun d => pdOn s d && !inCyc s d && !now.contains d && !cellNeeds s (s.tick / s.mac.len + 1) d && !groupBusy s d))
    (fun d s => ((modPwr (fun p => { p with cyc := p.cyc ++ [(d, false)] }) s).inc Reg.PWR_PARK.CNT).incIf (late d) Reg.PWR_PARK_LATE.CNT) s

/-! ## Boundaries -/

/-- The part of a tick boundary before the other blocks' (R468, R469, R470). -/
def pwrBoundary (s : State) : State :=
  let s := if s.on Reg.WDN_STAT.FAIL && s.pwr.queued.isSome && s.pwr.seqn.isNone then pwrUnqueue s else s
  let s := pwrUnqueue s
  let s := match s.pwr.seqn with
    | none => s
    | some q =>
      if q.phase = 0 then pwrStart q s
      else if q.phase = 6 then setSeq (some { q with phase := 7, downs := [29] }) s
      else if q.phase = 9 then
        if s.on Reg.CLK_STAT.LOCK && decide (q.mark + usClk 1512 ≤ s.clk) then
          let s := modFw (fun f => { f with fb0 := { f.fb0 with verified := false }, fb1 := { f.fb1 with verified := false } }) s
          setSeq (some { q with phase := 10, mark := s.clk, ups := wakeOrder.filter (fun d => !pdOn s d && needsPd s q.target d) }) s
        else s
      else if q.phase = 11 && decide (q.mark + usClk 2080 ≤ s.clk) then wakeResume q s
      else s
  let s := hushUnpark (wakeArm s)
  swArm (if s.mac.running && s.tick % s.mac.len = 0 then s else hushPark (fun _ => true) s)

/-- The part of a cell boundary before the sequencer's: `cell` is the cell that begins. -/
def pwrCell (cell : Nat) (s : State) : State :=
  let s := match s.pwr.seqn with
    | none => s
    | some q =>
      if q.phase = 1 && !q.cell then pwrNext { q with cell := true } s
      else if q.phase = 2 then
        let s := modMac (fun m => { m with wins := [], follows := [], csma := [], fwq := m.csma.map (·.frame) ++ m.fwq }) (modPwr (fun p => { p with macStop := true }) s)
        setSeq (some { q with phase := 3, mark := s.core.ticks }) (withdrawLease s)
      else s
  let s := if s.pwr.macStop && s.pwr.seqn.isNone && clActive s && !s.on Reg.PWR_STAT.PAD_HELD && pwrState s < 3 then
    let s := modPwr (fun p => { p with macStop := false }) s
    if s.on Reg.MIR_CTRL.TWIN then s else s.put Reg.WDN_TWL_STAT.HELD 1 else s
  swArm <| if pwrState s = 2 && s.pwr.seqn.isNone && s.mac.running then
    let old := s.pwr.need
    let s := modPwr (fun p => { p with need := some ((cycledGroups s).filter (cellNeeds s cell)) }) s
    hushPark (fun d => old.any (fun l => !l.contains d)) s
  else s

/-! ## Tamper, sensors and thermal shutdown (R246, R515, R520) -/

/-- ZEROISE with what follows from it: debug levels end (R499), and DORMANT is left (R474). -/
def zeroiseAll (cause : Nat) (s : State) : State := wakeOn 4 0 (wakeTarget s) (levelDrop 1 (levelDrop 0 (zeroise cause s)))

/-- TAMPER_EVENT: TAMPER_N has been low for `ns` nanoseconds; `low` says that it still is. -/
def tamperEvent (ns : Nat) (low : Bool) (s : State) : State :=
  let acts := tamperActs s ns
  let s := (modKv (fun v => { v with tamperLow := low }) s).drawn
  if acts && !s.pwr.noSupply then zeroiseAll 1 s else s

def execTamperEvent (ns : Nat) (low : Bool) (s : State) : Host.Outcome State Fault Refusal := runPin (tamperEvent ns low) s

/-- SENSOR_TRIP: supply, clock or temperature (0, 1, 2), while enabled in KV_ZCTRL; a rail that falls with PORST_N asserted trips
nothing (R515). -/
def sensorTrip (k : Nat) (s : State) : State :=
  let en := s.on (if k = 0 then Reg.KV_ZCTRL.SUPPLY_EN else if k = 1 then Reg.KV_ZCTRL.CLOCK_EN else Reg.KV_ZCTRL.TEMP_EN)
  if en && !(k == 0 && s.pwr.porstLow) && !s.pwr.noSupply then zeroiseAll (k + 2) s else s

def execSensorTrip (k : Fin 3) (s : State) : Host.Outcome State Fault Refusal := runPin (sensorTrip k) s

/-- THERMAL_SHUTDOWN (R520). -/
def thermalShutdown (s : State) : State :=
  let s := lpeHeld 0x091 (leaseAbort ((modWdn (fun w => { w with leaseEnd := none, lastReq := none }) (s.put Reg.WDN_TWL_STAT.HELD 0)).emit
    (.pin "LEASE_REQ" 0)))
  let s := setQueued none (s.incIf s.pwr.queued.isSome Reg.PWR_REPLACED.CNT)
  match s.pwr.seqn with
  | some q => if q.target = 4 && q.phase != 0 then s else modPwr (fun p => { p with thermal := true }) s
  | none =>
    if pwrState s = 4 then s
    else if pwrState s = 3 then pwrFinish 4 s
    else pwrBegin 4 0 (modPwr (fun p => { p with thermal := true }) s)

def execThermalShutdown (s : State) : Host.Outcome State Fault Refusal := run thermalShutdown s

end Sys2Proof.Machine
end

