-- ==== Sys2Proof/Machine/Memory.lean ====
section
/-! DEFINITION. On-chip SRAM and LPDDR5X: initialisation, errors, windows; and Loupe (chapter 16). -/

namespace Sys2Proof.Machine

def modMem (f : MemS → MemS) (s : State) : State := { s with mem := f s.mem }

/-! ## SRAM errors (R480 to R483, R488) -/

/-- MEM_ECC_LOG shows the entry that the next read would pop (R13). -/
def eccSync (s : State) : State :=
  match s.mem.log with
  | [] => putAll [(Reg.MEM_ECC_LOG.REGION, 0), (Reg.MEM_ECC_LOG.READER, 0), (Reg.MEM_ECC_LOG.VALID, 0), (Reg.MEM_ECC_LOG.ADDR, 0)] s
  | (r, x, a) :: _ => putAll [(Reg.MEM_ECC_LOG.REGION, r), (Reg.MEM_ECC_LOG.READER, x), (Reg.MEM_ECC_LOG.VALID, 1), (Reg.MEM_ECC_LOG.ADDR, a)] s

/-- What a poisoned word costs its client (R483, R488). The item names what the word holds: an entry of the region's table, for PKT a
fetched descriptor by its number (below 2^32) or the host-bound packet at place `n` of a set (2^32 + set), for MISC a seen-cache
entry (kind 0) or a reassembly context (kind 1). -/
def poisonItem (region : Nat) (item : Option (Nat × Nat)) (s : State) : State :=
  match item with
  | none => s
  | some (k, n) =>
    if region = 0 || region = 1 then emtSync region (modPipe region (fun p => { p with emt := p.emt.erase n }) s)
    else if region = 2 then writeNth n { nthOf s n with valid := false } s
    else if region = 3 then
      if k < 2 ^ 32 then
        forEach (s.hif.fetched.filter (fun d => match d.src with | .desc r => r.id == n | _ => false))
          (fun d s => descEnd d stDMA_ERR 0 (dropDesc d s)) s
      else match ((s.tm.fq.get (k - 2 ^ 32)).pkts)[n]? with
        | none => s
        | some p => fqLeave (k - 2 ^ 32) p (modFq (k - 2 ^ 32) (fun q => { q with pkts := q.pkts.eraseIdx n }) s)
    else if region = 7 then
      if k = 0 then fldSync (modFld (fun f => { f with seen := f.seen.eraseIdx n }) s)
      else modFwd (fun w => { w with reasm := w.reasm.eraseIdx n }) (s.inc Reg.FWD_REASM_TO.CNT)
    else if region = 8 then modFwd (fun w => { w with ntc := w.ntc.erase n }) s
    else if region = 9 then secInc Reg.SEC_UNWRAP_FAIL.CNT (modKv (fun v => { v with secrets := v.secrets.erase n }) s)
    else s

/-- ECC_CORRECTION and ECC_POISON of one error found by a read. The scrubber reports a poisoned word once; a full write of the word,
after which it is found no more, ends the poison (R482). -/
def eccHit (h : EccHit) (s : State) : State :=
  let s := if h.region = 5 || h.region = 6 then bankEcc (h.region - 5) s else s
  if h.ce then lpe (0x040 + h.region) (s.inc (Reg.MEM_CE_CNTr.CNT h.region))
  else if h.reader = 0xFF && s.mem.poison.contains (h.region, h.addr) then s
  else
    let s := lpe (0x050 + h.region) (s.inc (Reg.MEM_UE_CNTr.CNT h.region))
    let s := modMem (fun m => { m with
      poison := if m.poison.contains (h.region, h.addr) then m.poison else m.poison ++ [(h.region, h.addr)]
      log := if m.log.length < 16 then m.log ++ [(h.region, h.reader, h.addr)] else m.log }) s
    eccSync (poisonItem h.region h.item (s.emit (.toFirmware "ecc" [h.region, h.addr, h.reader])))

/-- Words of SRAM that the scrubber walks: 64 MiB of 8 octets (R478, R481). -/
def sramWords : Nat := 8388608

/-- The scrubber reads the SRAM regions and the patrol the OPEN windows, each while it is enabled (R481, R488). -/
def scrubReads (s : State) (h : EccHit) : Bool :=
  if h.region < 8 then s.on Reg.MEM_SCRUB.EN
  else s.on Reg.MEM_DSCRUB.EN && s.get (Reg.MEM_WINw_STAT.STATE (h.region - 8)) == 3

/-- SRAM_SCRUB and DRAM_PATROL of a tick, with the errors found in it (R481, R488). -/
def memBoundary (hits : List EccHit) (s : State) : State :=
  let s := if !s.on Reg.MEM_SCRUB.EN then s else
    let n := s.mem.scrubbed + max 1 (s.get Reg.MEM_SCRUB.RATE)
    let s := if sramWords ≤ n then s.incWrap Reg.MEM_SCRUB_STAT.PASSES else s
    modMem (fun m => { m with scrubbed := n % sramWords }) s
  forEach (hits.filter (scrubReads s)) eccHit s

/-- A read of the low word of MEM_ECC_LOG pops the oldest entry and latches the high word (R13, R482). -/
def eccRead (s : State) : State :=
  let a := Reg.MEM_ECC_LOG.REGION.addr
  if !windowOn s a then (s.inc Reg.HIF_PD_OFF_ACC.CNT).emit (.readWord 0 a 0) else
  let e : Nat × Nat := match s.mem.log with
    | [] => (0, 0)
    | (r, x, w) :: _ => (r + 256 * x + 65536, w)
  let s := { s with core := { s.core with latch := s.core.latch.insert a e.2 } }
  (eccSync (modMem (fun m => { m with log := m.log.drop 1 }) s)).emit (.readWord 0 a e.1)

/-- MEM_ECC_LOG_READ. -/
def execMemEccLogRead (s : State) : Host.Outcome State Fault Refusal := run eccRead s

/-- SRAM_INIT_DONE (R479): every word is zero, and its clients are released. It is done once after PORST_N. SEC then finds the journal
region where the flash can be read (log entry 48). -/
def execSramInitDone (s : State) : Host.Outcome State Fault Refusal :=
  run (fun s => if s.on Reg.MEM_STAT.INIT_DONE then s else ((s.put Reg.MEM_STAT.INIT_DONE 1).put Reg.HIF_STAT.READY 1).putB Reg.SEC_STAT.JRNL_OK s.fw.flash) s

/-! ## LPDDR5X (R484 to R487) -/

def execDramTrain (s : State) : Host.Outcome State Fault Refusal :=
  run (regAccess Reg.MEM_DRAM_CFG.TRAIN.addr (fun s => s.put Reg.MEM_DRAM_CFG.TRAIN 1)) s

/-- DRAM_TRAIN_DONE with the capacity found: 0 where training failed, 1 for 2 GiB, 2 for 4 GiB, 3 for 8 GiB. -/
def execDramTrainDone (size : Fin 4) (s : State) : Host.Outcome State Fault Refusal :=
  run (fun s => if s.on Reg.MEM_DRAM_CFG.TRAIN then
    ((s.put Reg.MEM_DRAM_CFG.TRAIN 0).putB Reg.MEM_STAT.DRAM_OK (size != 0)).put Reg.MEM_STAT.DRAM_SIZE size else s) s

/-- The usable capacity in units of 64 MiB: seven eighths of 2, 4 or 8 GiB (R484). -/
def dramUnits (s : State) : Nat := [0, 28, 56, 112].getD (s.get Reg.MEM_STAT.DRAM_SIZE) 0

def winState (w : Nat) : Fld := Reg.MEM_WINw_STAT.STATE w

/-- The window overlaps the other or does not fit; each is 8 units long (R485). -/
def winBadPlace (s : State) (w : Nat) : Bool :=
  let a := s.get (Reg.MEM_WINw_BASE.BASE w)
  let b := s.get (Reg.MEM_WINw_BASE.BASE (1 - w))
  decide (dramUnits s < a + 8) || (decide (a < b + 8) && decide (b < a + 8))

/-- The window at the front of the queue fills. -/
def winFill (s : State) : State :=
  match s.mem.fillQ with
  | [] => s
  | w :: _ => s.put (winState w) 2

/-- WINDOW_OPEN: ignored while the window is not CLOSED; with ERR where it cannot be placed or LPDDR5X is not trained. -/
def windowOpen (w : Nat) (s : State) : State :=
  if s.get (winState w) ≠ 0 then s
  else if !s.on Reg.MEM_STAT.DRAM_OK || winBadPlace s w then s.put (Reg.MEM_WINw_STAT.ERR w) 1
  else winFill (modMem (fun m => { m with fillQ := m.fillQ ++ [w] }) (s.put (winState w) 1))

def execWindowOpen (w : Fin 2) (s : State) : Host.Outcome State Fault Refusal :=
  run (regAccess Reg.MEM_DRAM_CFG.TRAIN.addr (windowOpen w)) s

/-- What window 0 or 1 held is gone. The keys of the key cache stay usable. -/
def winForget (w : Nat) (s : State) : State :=
  if w = 0 then
    forEach [0, 1] (fun p s => modPipe p (fun x => { x with cache := [] }) s) (staleAll (modFwd (fun f => { f with ntc := [] }) s))
  else modKv (fun v => { v with secrets := v.secrets.filter (fun e => s.sec.cache.contains e.1) }) s

/-- WINDOW_FILL_DONE: the window that fills opens, zero; window 1 with fresh XTS keys from the DRBG (R485, R487). -/
def windowFilled (s : State) : State :=
  match s.mem.fillQ with
  | [] => s
  | w :: l =>
    let s := winForget w ((modMem (fun m => { m with fillQ := l }) s).put (winState w) 3)
    winFill (if w = 0 then s.put Reg.FWD_STAT.NTC_OPEN 1 else s.drawn)

def execWindowFillDone (s : State) : Host.Outcome State Fault Refusal := run windowFilled s

/-- WINDOW_CLOSE. -/
def windowClose (w : Nat) (s : State) : State :=
  if s.get (winState w) = 0 then s else
  let s := winForget w ((modMem (fun m => { m with fillQ := setDel m.fillQ w }) s).put (winState w) 0)
  winFill (if w = 0 then s.put Reg.FWD_STAT.NTC_OPEN 0 else s)

def execWindowClose (w : Fin 2) (s : State) : Host.Outcome State Fault Refusal :=
  run (regAccess Reg.MEM_DRAM_CFG.TRAIN.addr (windowClose w)) s

/-! ## Loupe (R489 to R495) -/

/-- The IDs of R490 and R491 that exist; sealed ones are those of the vault's refusals. -/
def lpeExists (id : Nat) : Bool :=
  (lpeHists :: lpeCounters).any (fun r => r.1 ≤ id && id ≤ r.2)
def lpeSealed (id : Nat) : Bool := 0x0A1 ≤ id && id ≤ 0x0AA
def lpeIsHist (id : Nat) : Bool := 0x100 ≤ id && id ≤ 0x104

/-- The debug level in force on a path (R497). -/
def dbgLevel (s : State) (p : Nat) : Nat := s.get (pathFld p Reg.DBG_AUTH_CTRL.CUR)

/-- LOUPE_SELECT (R492). -/
def loupeSelect (id bin : Nat) (s : State) : State :=
  let hidden := lpeSealed id && dbgLevel s 0 == 0
  let v := if hidden || !lpeExists id then 0 else s.lpe.cnt.get (if lpeIsHist id then 0x10000 + 32 * id + bin else id)
  putAll [(Reg.LPE_SEL.ID, id), (Reg.LPE_SEL.BIN, bin), (Reg.LPE_SEL.HIDDEN, b2n hidden), (Reg.LPE_VAL_LO.VAL, v % 2 ^ 32),
    (Reg.LPE_VAL_HI.VAL, v / 2 ^ 32)] s

def execLoupeSelect (id : Fin 4096) (bin : Fin 32) (s : State) : Host.Outcome State Fault Refusal :=
  run (regAccess Reg.LPE_SEL.ID.addr (loupeSelect id bin)) s

/-- LOUPE_PERIODIC_SEAL: PERIOD seconds of POWER_ON_S since the last seal began (R493). -/
def execLoupePeriodicSeal (s : State) : Host.Outcome State Fault Refusal :=
  run (fun s => if max 60 (s.get Reg.LPE_CFG.PERIOD) ≤ s.lpe.sinceSeal then sealStart s else s) s

def execLoupeSeal (s : State) : Host.Outcome State Fault Refusal := run (regAccess Reg.LPE_SEL.ID.addr sealStart) s

/-- LOUPE_EXPORT: the header and entries in clear, with a flag for the sealed counters, and a signature (R495). -/
def loupeExport (s : State) : State :=
  let open1 := decide (1 ≤ dbgLevel s 0)
  let msg := lpeHeader s.lpe.seq s.tick (b2n open1) ++ lpeEntries (fun id => open1 || !lpeSealed id) s.lpe.cnt
  s.emit (.lanes "host record" (s.get Reg.LPE_EXP_ADDR.ADDR / 64 * 64 :: (msg ++ (List.range 96).map (Config.loupeSign msg))))

def execLoupeExport (s : State) : Host.Outcome State Fault Refusal := run (regAccess Reg.LPE_SEL.ID.addr loupeExport) s

/-- The bin of a sample: 0 below `lo`, then one bin each `step`, 31 from 30 steps on (R491). -/
def histBin (lo step x : Int) : Nat := if x < lo then 0 else min 31 (((x - lo) / step).toNat + 1)

/-- The tick's excursions of VDD_CORE and correctable PCIe errors (R490, R513). -/
def loupeTick (exc aer : Nat) (s : State) : State := lpeBy 0x073 aer (lpeBy 0x090 exc s)

/-- The junction temperature: that of the hottest of the four sensors (R519). -/
def hottest (t : Int × Int × Int × Int) : Int := max (max t.1 t.2.1) (max t.2.2.1 t.2.2.2)

/-- Once a second: POWER_ON_S, and the samples of TJ (in 0.1 °C) and VCORE_MIN (in mV) with the tick that ends the second (R490, R491). -/
def loupeSecond (tj vcore : Int) (s : State) : State :=
  if s.core.ticks % 8000 ≠ 0 then s else
  let s := lpeHeld 0x001 s
  let s := { s with lpe := { s.lpe with sinceSeal := s.lpe.sinceSeal + 1 } }
  lpeHist 0x101 (histBin 680 5 vcore) (lpeHist 0x100 (histBin (-400) 50 tj) s)

/-- The snapshot of a seal that was asked for, at a tick boundary (R493). -/
def sealSnap (s : State) : State :=
  if s.on Reg.LPE_CTRL.SEAL && s.lpe.sealing.isNone then { s with lpe := { s.lpe with sealing := some (s.lpe.cnt, s.tick) } } else s

end Sys2Proof.Machine
end

