-- ==== Sys2Proof/Machine/Reset.lean ====
section
/-! DEFINITION. PORST_N, the supplies and the boot that follows (R234, R248, R345, R431, R432, R453, R494, R509, R510, R513, R514). -/

namespace Sys2Proof.Machine

/-- The pins in their power-up state (R509). -/
def powerUpPins : List Output :=
  [.pin "JTX" 0, .pin "ETH" 0, .pin "MIR" 0, .pin "PCIE" 0, .pin "CLKOUT" 0, .pin "MEM_RESET_N" 0, .pin "LF_CP" 0, .pin "SYSREF_OUT" 0,
   .pin "PPS_OUT" 0, .pin "TICK_OUT" 0, .pin "FE_CTL" 0, .pin "RFSPI_CS_N" 1, .pin "GPIO_OUT" 0, .pin "XSPI_RESET_N" 0, .pin "XSPI_CS_N" 1,
   .pin "LEASE_REQ" 0, .pin "WARDEN_FAIL" 0, .pin "TDO" 0]

/-- A firmware slot is being written (R435). -/
def slotWriting (s : State) : Bool := s.get Reg.FW_STAT.LOAD_STATE == 4 && !s.on Reg.FW_STAT.FLASH_DONE && s.fw.flash

/-- The flash after work on it is cut off: a slot that was being written is not valid, and the directory still names the other (cases of
chapter 14). -/
def flashKept (s : State) : FwS :=
  let f : FwS := { (default : FwS) with flash := s.fw.flash, slot0 := s.fw.slot0, slot1 := s.fw.slot1, dir0 := s.fw.dir0, dir1 := s.fw.dir1,
                                        store := s.fw.store }
  if !slotWriting s then f else if otherSlot s = 0 then { f with slot0 := none } else { f with slot1 := none }

/-- What is left when all work is abandoned: OTP, flash (its slots, its facet store, the counter journal and the seal records), the key slots
given, what the vault keeps of a zeroise, and the pins in their power-up state. -/
def abandoned (stage : Nat) (keep : State → Tab Slot) (s : State) : State :=
  let s := lcCut stage s
  let slots := keep s
  let t : State := { State.reset with
    core := { State.reset.core with ticks := s.core.ticks, free := s.core.free }
    otp := s.otp
    kv := { State.reset.kv with slots := slots, kekD := s.kv.kekD, drbg := s.kv.drbg, epochDue := s.kv.epochDue, tamperLow := s.kv.tamperLow }
    sec := { State.reset.sec with journal := s.sec.journal }
    fw := flashKept s
    lpe := { State.reset.lpe with flash := s.lpe.flash, seq := s.lpe.seq }
    pwr := { State.reset.pwr with porstLow := true }
    out := powerUpPins }
  putAll [(Reg.KV_STATE.STATE, s.get Reg.KV_STATE.STATE), (Reg.KV_STATE.CAUSE, s.get Reg.KV_STATE.CAUSE), (Reg.KV_STATE.EPOCH, s.otp.epoch),
    (Reg.KV_SLOTS_USED.USED, (slots.filter (fun e => e.2.active)).length)] t

/-- Slots keep their contents but for those with EXPIRE_AT_RESET; what was to happen to them at the next boundary does not (R234, R510). -/
def keptSlots (s : State) : Tab Slot :=
  (s.kv.slots.filter (fun e => !e.2.expire)).map (fun e => (e.1, { e.2 with commitDue := false }))

/-- PORST_ASSERT. `stage` says how far a life-cycle transition had come (R451). -/
def porstAssert (stage : Nat) (s : State) : State := if s.pwr.noSupply then s else abandoned stage keptSlots s

def execPorstAssert (stage : Fin 6) (s : State) : Host.Outcome State Fault Refusal := runPin (porstAssert stage) s

/-- SUPPLY_LOSS: the key slots are lost, slot 0 until OTP gives it again, as are CAUSE and an epoch advance not yet made (R234, R248, R514). -/
def supplyLoss (stage : Nat) (s : State) : State :=
  if s.pwr.noSupply then s else
  let t := abandoned stage (fun _ => []) s
  let t := (t.put Reg.KV_STATE.CAUSE 0).put Reg.KV_STATE.STATE 0
  { t with kv := { t.kv with epochDue := false, kekD := true, drbg := true }, pwr := { t.pwr with noSupply := true }, out := [] }

def execSupplyLoss (stage : Fin 6) (s : State) : Host.Outcome State Fault Refusal := runPin (supplyLoss stage) s

/-- SUPPLY_RAMP_UP: the rails are in range; every pin is in its power-up state until PORST_N is released (R509, R513). -/
def supplyRampUp (s : State) : State :=
  if s.pwr.noSupply then { s with pwr := { s.pwr with noSupply := false, porstLow := true }, out := powerUpPins } else s

def execSupplyRampUp (s : State) : Host.Outcome State Fault Refusal := runPin supplyRampUp s

/-- Loupe loads the valid seal record with the highest SEQ (R494), and counts the release. -/
def loupeLoad (s : State) : State :=
  let s := match s.lpe.flash.getLast? with
    | some (_, c) => { s with lpe := { s.lpe with cnt := c } }
    | none => { s.put Reg.LPE_STAT.FRESH 1 with lpe := { s.lpe with cnt := [] } }
  lpeHeld 0x002 s

/-- Slot 0 is loaded from OTP, with USAGE = UNWRAP, ORIGIN = IMPORTED and TENANT = 256 (R230, R453). -/
def loadSlot0 (s : State) : State :=
  modSlot 0 (fun _ => { (default : Slot) with active := true, key := (installKey s).getD 0, usage := .unwrap, imported := true, tenant := 256 }) s

/-- TAMPER_BOOT_CHECK (R247, R248): with TAMPER_N high the vault leaves ZEROISED and slot 0 is loaded; with TAMPER_N low the part zeroises
and the wrap epoch advances. -/
def tamperCheck (s : State) : State :=
  if s.kv.tamperLow then
    let s := burnEpoch (zeroise 5 s)
    modKv (fun v => { v with epochDue := false }) s
  else loadSlot0 (modKv (fun v => { v with kekD := true, drbg := true }) (s.put Reg.KV_STATE.STATE 0))

/-- BOOT_SLOT_SELECT: the slot that boots, or recovery (R432). -/
def bootSelect (s : State) : State :=
  match bootChoice s with
  | some k => modFw (fun f => { f with bootSlot := some k }) s
  | none => lpe 0x003 (s.put Reg.FW_STAT.RECOVERY 1)

/-- PORST_RELEASE: the Warden rolls a life-cycle transition forward, checks TAMPER_N and chooses the slot to boot; `flash` says whether the
flash can be read. In RETIRED the boot ends before the last two (R431). -/
def porstRelease (flash : Bool) (s : State) : State :=
  if s.pwr.noSupply || !s.pwr.porstLow then s else
  let s := modFw (fun f => { f with flash := flash }) (modPwr (fun p => { p with porstLow := false }) s)
  let s := lcRoll (loupeLoad s)
  let s := (s.put Reg.KV_STATE.EPOCH s.otp.epoch).put Reg.FW_SVN.SVN s.otp.svn
  let s := s.emit (.pin "XSPI_RESET_N" 1)
  if s.get Reg.LC_STATE.STATE = 4 then s else bootSelect (tamperCheck s)

def execPorstRelease (flash : Bool) (s : State) : Host.Outcome State Fault Refusal := runPin (porstRelease flash) s

end Sys2Proof.Machine
end

