-- ==== Sys2Proof/Machine/RegWrite.lean ====
section
/-! DEFINITION. Register accesses of the host and of the TAP's DBG_ACCESS: the register at an address (R38, R41), what a write of it
does (R9, R11 to R14, R16, R39, R40), and the 64-bit registers (R13). -/

namespace Sys2Proof.Machine

/-! ## The register map -/

/-- The registers of a block window (R38). -/
def winRows : Nat → List RegRow
  | 0 => regRowsSys
  | 1 => regRowsPwr
  | 2 => regRowsWdn
  | 3 => regRowsClk
  | 4 => regRowsTime
  | 5 => regRowsRsi
  | 6 => regRowsPrsm
  | 7 => regRowsCe
  | 8 => regRowsDec
  | 9 => regRowsTxc
  | 10 => regRowsMac
  | 11 => regRowsSec
  | 12 => regRowsKv
  | 13 => regRowsFwd
  | 14 => regRowsFld
  | 15 => regRowsTm
  | 16 => regRowsFq
  | 17 => regRowsHif
  | 19 => regRowsMir
  | 20 => regRowsMem
  | 21 => regRowsLpe
  | 22 => regRowsDbg
  | 23 => regRowsLc
  | 24 => regRowsFw
  | _ => []

/-- A register: the address of its first word, its width and its fields. -/
structure RegHit where
  addr : Nat
  bits : Nat
  flds : List Fld

def regFind : List RegRow → Nat → Option RegHit
  | [], _ => none
  | r :: l, a => match r.index? a with
    | some (i, j) => some { addr := r.addrAt i j, bits := r.bits, flds := r.flds i j }
    | none => regFind l a

/-- The register that holds the word at a PF BAR0 address, if one does (R14, R38). -/
def regAt (a : Nat) : Option RegHit := regFind (winRows (a / 0x100000)) a

/-- The register belongs to a ring that its function has not (R289). -/
def noRing (a : Nat) : Bool :=
  decide (0x1100000 ≤ a) && decide (a < 0x1180800) && decide (0x100 ≤ a % 0x800) && decide (a % 0x800 < 0x300) &&
  !ringExists ((a - 0x1100000) / 0x800) ((a % 0x800 - 0x100) / 0x20)

/-- What a read of a whole register gives; that of a ring that does not exist gives 0. -/
def regVal (s : State) (l : List Fld) : Nat :=
  sumNat (l.map (fun f => if f.ty = .wo || noRing f.addr then 0 else s.get f * 2 ^ f.lo))

/-- The PF BAR0 address of a VF's ring set-up register (R41): its function's block of the HIF window. -/
def vfAddr (fn o : Nat) : Option Nat := if o < 0x800 then some (0x1100000 + 0x800 * fn + o) else none

/-- The element of an array of registers at an address. -/
def arrayIx (base stride n a : Nat) : Option Nat :=
  if base ≤ a && (a - base) % stride == 0 && decide ((a - base) / stride < n) then some ((a - base) / stride) else none

/-! ## Writes -/

/-- The field has a row of its own in the command table, so a write of `v` by REGISTER_WRITE leaves it as it is. -/
def ownRow (f : Fld) (v : Nat) : Bool :=
  f == Reg.RSI_CTRL.EN || (List.range 12).any (fun p => f == portEn p) || f == Reg.TIME_SERVO.SRC || f == Reg.TIME_OFS_NS.NS ||
  (List.range 8).any (fun n => f == Reg.CLK_OUTn_CFG.SRC n || f == Reg.CLK_OUTn_CFG.FMT n || f == Reg.CLK_OUTn_CFG.DIV n) ||
  (v == 0 && (f == clEnFld 0 || f == clEnFld 1)) || (v == 1 && (f == Reg.FWD_EMTp_CTRL.REBUILD 0 || f == Reg.FWD_EMTp_CTRL.REBUILD 1)) ||
  f == Reg.LPE_SEL.ID || f == Reg.LPE_SEL.BIN ||
  (f.lo == 0 && decide (0x1100108 ≤ f.addr) && decide (f.addr < 0x1180800) && (f.addr - 0x1100000) % 0x800 ≥ 0x108 &&
    (f.addr - 0x1100000) % 0x800 < 0x300 && (f.addr - 0x1100000) % 32 == 8 &&
    !(v == 0 && ((f.addr - 0x1100000) % 0x800 == 0x188 || (f.addr - 0x1100000) % 0x800 == 0x1A8)))

/-- The field cannot be written now, by its Meaning column or its rule. -/
def held (s : State) (f : Fld) (v : Nat) : Bool :=
  match f.addr / 0x100000 with
  | 5 => (List.range 12).any (fun p => f.addr == (portEn p).addr && s.on (portEn p))
  | 7 => match arrayIx 0x700044 0x100 128 f.addr with
    | some e => s.on (Reg.CE_MODE.EN e)
    | none => false
  | 9 => decide (0x900800 ≤ f.addr) && decide (f.addr < 0x900A00)
  | 13 =>
    (f == Reg.FWD_CTRL.EN && v == 1 && !s.on Reg.FWD_STAT.NTC_OPEN) ||
    [0, 1].any (fun p => (f == Reg.FWD_EMTp_SEED1.SEED p || f == Reg.FWD_EMTp_SEED2.SEED p) && !s.on (Reg.FWD_EMTp_CTRL.REBUILD p))
  | 17 => noRing f.addr || (List.range 16).any (fun r =>
      let fn := (f.addr - 0x1100000) / 0x800
      (f == Reg.HIF_Rr_BASE.ADDR fn r || f == Reg.HIF_Rr_CFG.LOG2SZ fn r) && s.on (Reg.HIF_Rr_CFG.EN fn r))
  | 20 => [0, 1].any (fun w => f == Reg.MEM_WINw_BASE.BASE w && s.get (winState w) != 0)
  | 22 => f == Reg.DBG_CTRL.HOLD_LEASE && decide (dbgLevel s 0 < 2)
  | _ => false

/-- A write of a field by its type (R9). -/
def fieldStore (f : Fld) (v : Nat) (s : State) : State :=
  match f.ty with
  | .rw => s.hostPut f v
  | .rwl => if s.on Reg.SYS_LOCK.LOCK then s else s.hostPut f v
  | .w1c => s.put f (s.get f - (s.get f &&& v))
  | _ => s

/-- The token bucket whose EN a field is (R331). -/
def bucketOf (f : Fld) : Option Bucket :=
  if f.addr / 0x100000 ≠ 15 then none else
  let o := f.addr - 0xF00000
  let b : Option Bucket :=
    if o < 0x1000 then (arrayIx 0x100 32 3 o).map .port
    else if o < 0x9000 then
      let t := (o - 0x1000) / 0x80
      match (o - 0x1000) % 0x80 with
      | 0x28 => some (.tenant t 0)
      | 0x30 => some (.tenant t 1)
      | 0x38 => some (.tenant t 2)
      | 0x40 => some (.air t)
      | 0x48 => some (.policer t)
      | _ => none
    else if 0x10000 ≤ o then some (.queue ((o - 0x10000) / 0x200) ((o - 0x10000) % 0x200 / 0x10))
    else none
  b.filter (fun x => x.enFld == f)

/-- TWIN of MIR_CTRL changes: the lane pair trains, and the transmit lease is now the witness's (R407, R411), or no longer. -/
def twinWrite (on : Bool) (s : State) : State :=
  if on then
    let s := leaseAbort ((s.put Reg.WDN_TWL_STAT.HELD 0).put Reg.MIR_STAT.LINK 1)
    roleSync (s.put Reg.MIR_STAT.SIDE (Config.side % 2))
  else roleSync ((linkDown s).putB Reg.WDN_TWL_STAT.HELD (clActive s && !s.on Reg.WDN_STAT.FAIL))

/-- The field is one of a sub-band entry's that a host writes (R169). -/
def sbHas (f : Fld) (k : Nat) : Bool :=
  let b := k / 16
  let e := k % 16
  f == sbEnFld k || f == Reg.TXC_SBb_sCFG.DUTY b e || f == Reg.TXC_SBb_sCFG.WIN b e || f == Reg.TXC_SBb_sLO.LO b e || f == Reg.TXC_SBb_sHI.HI b e

/-- A write of the field waits for the next cell boundary (R187): the hop groups' registers and CH0 and SPC of the band contexts. -/
def hopHeld (f : Fld) : Bool :=
  (decide (0xA01000 ≤ f.addr) && decide (f.addr < 0xA02000)) ||
  (List.range 4).any (fun b => f == Reg.MAC_BANDb_CH0.CH0 b || f == Reg.MAC_BANDb_SPC.SPC b)

/-- What follows at once from the write of a field: `old` is the state before it. -/
def fieldHook (old : State) (f : Fld) (s : State) : State :=
  let was := old.get f
  let now := s.get f
  match f.addr / 0x100000 with
  | 2 => if f == clEnFld 0 && was == 0 && now == 1 && clState s 0 == clOFF then bootCluster 0 s
    else if f == clEnFld 1 && was == 0 && now == 1 && clState s 1 == clOFF then bootCluster 1 s else s
  | 3 => if f == Reg.CLK_PLL.N || (f.addr == 0x300020 || f.addr == 0x300030) then planWrote s
    else match arrayIx 0x300100 16 8 f.addr with
      | some n => if f.lo = 0 then checkOut n (when (now == 0) (fun s => (stopOut n s).put (Reg.CLK_OUTn_STAT.SHORT n) 0) s) else s
      | none => s
  | 4 => if f == Reg.TIME_PPS_IN.EN then
      (if was == 0 && now == 1 then modTime (fun t => { t with ppsLast := none, ppsMark := s.clk }) s else s)
    else if f == Reg.TIME_PPS_OUT.EN then
      (if was == 1 && now == 0 then (modTime (fun t => { t with ppsFall := s.clk }) s).emit (.pin "PPS_OUT" 0) else s)
    else if f == Reg.TIME_PPS_OUT.QUAL then ppsHeld s
    else if f == Reg.TIME_VCXO.EN then (if was != now then vcxoDrive s else s)
    else s
  | 5 => match (List.range 12).find? (fun p => f == (if p < 8 then Reg.RSI_RXn_DLY.RBD p else Reg.RSI_TXn_DLY.TXDLY (p - 8))) with
    | some p => faQuery (delayWrite p s)
    | none => s
  | 7 => match (List.range 128).find? (fun e => f == Reg.CE_CAPTURE.SIC_EN e) with
    | some e => if was == 0 && now == 1 then modCe e (fun c => { c with ringSince := s.clk }) s else s
    | none => s
  | 8 => faQuery s
  | 9 => match (List.range 64).find? (sbHas f) with
    | some k => if f == sbEnFld k then (if was == 0 && now == 1 then sbStart k s else s) else sbWrote k s
    | none => if f == Reg.TXC_CTRL.EN || (decide (0x901C00 ≤ f.addr) && decide (f.addr < 0x901C80)) then feSync s else s
  | 10 => if hopHeld f && (s.mac.hopOld.find? f.key).isNone then modMac (fun m => { m with hopOld := m.hopOld.insert f.key was }) s else s
  | 15 => match bucketOf f with
    | some b => bucketEnable b (was == 1) (now == 1) s
    | none => s
  | 17 => match (List.range 257).find? (fun fn => f == Reg.HIF_Rr_CFG.EN fn 4 || f == Reg.HIF_Rr_CFG.EN fn 5) with
    | some fn => if was == 1 && now == 0 then hostRingDisable fn (if f == Reg.HIF_Rr_CFG.EN fn 4 then 4 else 5) s else s
    | none => s
  | 19 => if f == Reg.MIR_CTRL.TWIN && was != now then twinWrite (now == 1) s else s
  | _ => s

/-- What is still due under the old value of a field: the edges of the FE_CTL pins up to now (R174). -/
def fieldBefore (f : Fld) (s : State) : State :=
  if f == Reg.TXC_CTRL.EN || (decide (0x901C00 ≤ f.addr) && decide (f.addr < 0x901C80)) then feSync s else s

/-- The host writes one field. -/
def fieldWrite (f : Fld) (v : Nat) (s : State) : State :=
  if ownRow f v || held s f v then s else fieldHook s f (fieldStore f v (fieldBefore f s))

/-- A whole register is written. -/
def regWrite (l : List Fld) (v : Nat) (s : State) : State := forEach l (fun f s => fieldWrite f (bitsAt v f.lo f.w) s) s

/-- A write of a register that its block ignores and counts (R180, R268), or ignores (R360). -/
def ignored (a : Nat) (s : State) : Option State :=
  if a = Reg.FWD_TCMD.OP.addr || a = Reg.FWD_TLOC.BUCKET.addr || (0xD00220 ≤ a && decide (a < 0xD00240)) then
    let s := tcmdSettle s
    if s.on Reg.FWD_TCMD.BUSY then some (s.inc Reg.FWD_TCMD_IGN.CNT) else none
  else if a = Reg.MAC_CELL.LEN.addr || a = Reg.MAC_ASN_OFS.OFS.addr then
    if s.on Reg.MAC_CTRL.EN || s.effOn Reg.MAC_CTRL.EN then some (s.inc Reg.MAC_CFG_IGN.CNT) else none
  else if a = Reg.TIME_PTP_TXCTL.LEN.addr then (if s.on Reg.TIME_PTP_CTRL.OWNER then none else some s)
  else none

/-- The held low word of the 64-bit register at an address, or the low word that the register stores (R13). -/
def lowWord (s : State) (h : RegHit) : Nat := (s.core.lowHeld.find? h.addr).getD (regVal s h.flds % 2 ^ 32)

def setLow (a : Nat) (v : Option Nat) (s : State) : State :=
  { s with core := { s.core with lowHeld := match v with
    | some w => s.core.lowHeld.insert a w
    | none => s.core.lowHeld.erase a } }

/-- A write of the word `v` at PF BAR0 address `a`: no effect where no register stands (R14), ignored and counted where the domain is off
(R39). The low word of a 64-bit register is held until the high word is written (R13). -/
def hostWord (a v : Nat) (s : State) : State :=
  if !windowOn s a then s.inc Reg.HIF_PD_OFF_ACC.CNT else
  match regAt a with
  | none => s
  | some h =>
    if h.bits = 32 then (ignored h.addr s).getD (regWrite h.flds v s)
    else if a = h.addr then setLow h.addr (some v) s
    else
      let w := lowWord s h + 2 ^ 32 * v
      let s := setLow h.addr none s
      (ignored h.addr s).getD (regWrite h.flds w s)

/-- The address a source reaches: the PF (0) all of PF BAR0, a VF (1 to 256) its own window (R40, R41). `a` is the address in the
source's window. -/
def busAddr (src a : Nat) : Option Nat := if src = 0 then some a else vfAddr src a

/-- A write over the TAP's DBG_ACCESS (R497): it reaches the registers of the JTAG path, and HOLD_LEASE at level 2. `o` is an offset in
the DBG window. -/
def jtagWord (o v : Nat) (s : State) : State :=
  if s.dbg.tap ≠ 2 then s
  else if o = 0 then (if dbgLevel s 1 = 2 then s.put Reg.DBG_CTRL.HOLD_LEASE v else s)
  else if o < 0x200 then
    match regAt (0x1600000 + o) with
    | some h => if h.bits = 32 || 0x1600000 + o = h.addr then
        (if h.bits = 32 then forEach h.flds (fun f s => fieldStore (pathFld 1 f) (bitsAt v f.lo f.w) s) s
         else setLow (h.addr + 2 ^ 32) (some v) s)
      else
        let l := h.flds.map (pathFld 1)
        let w := (s.core.lowHeld.find? (h.addr + 2 ^ 32)).getD (regVal s l % 2 ^ 32) + 2 ^ 32 * v
        forEach l (fun f s => fieldStore f (bitsAt w f.lo f.w) s) (setLow (h.addr + 2 ^ 32) none s)
    | none => s
  else s

/-- The access meets a domain that is off (R39): a VF's whole window, its counter page among it, is HIF's (R41). -/
def accessOff (s : State) (src a : Nat) : Bool := !windowOn s (if src = 0 then a else Reg.HIF_TCNT_SEL.TENANT.addr)

/-- A word write by a source: 257 is the TAP. -/
def writeWord (src a v : Nat) (s : State) : State :=
  if src = 257 then jtagWord a v s
  else if !fnOn s src then s
  else if accessOff s src a then s.inc Reg.HIF_PD_OFF_ACC.CNT else
  match busAddr src a with
  | some b => hostWord b v s
  | none => s

/-- SHORT_WRITE_DISCARD: a write with fewer than four byte enables. -/
def execShortWriteDiscard (s : State) : Host.Outcome State Fault Refusal := run (fun s => s.inc Reg.HIF_SHORT_WR.CNT) s

/-- WRITE_64_LOW_WORD and WRITE_64_HIGH_WORD act on a 64-bit register only. -/
def write64 (high : Bool) (src a v : Nat) (s : State) : State :=
  if src = 257 then jtagWord (a + 4 * b2n high) v s
  else if !fnOn s src then s
  else if accessOff s src a then s.inc Reg.HIF_PD_OFF_ACC.CNT else
  match busAddr src a with
  | some b => if (regAt b).any (fun h => h.bits == 64 && h.addr == b) then hostWord (b + 4 * b2n high) v s else s
  | none => s

def execWrite64LowWord (src : Fin 258) (w : Fin 16777216) (v : BitVec 32) (s : State) : Host.Outcome State Fault Refusal :=
  run (write64 false src (4 * w) v.toNat) s

def execWrite64HighWord (src : Fin 258) (w : Fin 16777216) (v : BitVec 32) (ofs : Fin 122880) (s : State) : Host.Outcome State Fault Refusal :=
  run (fun s => write64 true src (4 * w) v.toNat (s.at ofs)) s

/-! ## Reads of 64-bit registers (R13) -/

/-- The tenant counter at an offset of a source's window (R41): a VF's own page, and for the PF that of HIF_TCNT_SEL; its key in the
counter pages. -/
def tcntKey (s : State) (src a : Nat) : Option Nat :=
  if src = 0 then (if 0x11C0000 ≤ a && a < 0x11C2000 then some (s.get Reg.HIF_TCNT_SEL.TENANT * 0x2000 + (a - 0x11C0000)) else none)
  else if src ≤ 256 && 0x2000 ≤ a && a < 0x4000 then some ((src - 1) * 0x2000 + (a - 0x2000)) else none

/-- The 64-bit value at a source's address: the key of its latch and its value. -/
def wide (s : State) (src a : Nat) : Option (Nat × Nat) :=
  match tcntKey s src a with
  | some k => some (2 ^ 40 + k / 8 * 8, s.hif.tcnt.get (k / 8 * 8))
  | none => match busAddr src a with
    | some b => (regAt b).bind (fun h => if h.bits = 64 then some (h.addr, regVal s h.flds) else none)
    | none => none

def latchSet (k v : Nat) (s : State) : State := { s with core := { s.core with latch := s.core.latch.insert k v } }

/-- The 64-bit register of the TAP's own that holds the word at an offset of the DBG window, and its latch's key (R13, R497). -/
def tapWide (s : State) (o : Nat) : Option (Nat × Nat) :=
  if s.dbg.tap = 2 && decide (o < 0x200) then
    (regAt (0x1600000 + o)).bind (fun h => if h.bits = 64 then some (h.addr + 2 ^ 32, regVal s (h.flds.map (pathFld 1))) else none)
  else none

/-- A read of the low word of a 64-bit value latches its high word; a read of the high word gives the latched word, which empties the latch, or
the current one. -/
def lowRead (src a : Nat) (x : Option (Nat × Nat)) (s : State) : State :=
  match x with
  | some (k, v) => (latchSet k (v / 2 ^ 32) s).emit (.readWord src a (v % 2 ^ 32))
  | none => s.emit (.readWord src a 0)
def highRead (src a : Nat) (x : Option (Nat × Nat)) (s : State) : State :=
  match x with
  | some (k, v) => match s.core.latch.find? k with
    | some h => ({ s with core := { s.core with latch := s.core.latch.erase k } }).emit (.readWord src a h)
    | none => s.emit (.readWord src a (v / 2 ^ 32))
  | none => s.emit (.readWord src a 0)

/-- READ_64_LOW_WORD; of an RC register the entry is popped. Source 257 is the TAP. -/
def read64Low (src a : Nat) (s : State) : State :=
  if src = 257 then lowRead src a (tapWide s a) s else
  if !fnOn s src then s else
  if accessOff s src a then (s.inc Reg.HIF_PD_OFF_ACC.CNT).emit (.readWord src a 0)
  else if src = 0 && a = Reg.FW_DEFLIST.ITEM.addr then deflRead s
  else if src = 0 && a = Reg.MEM_ECC_LOG.REGION.addr then eccRead s
  else lowRead src a (wide s src a) s

def execRead64LowWord (src : Fin 258) (w : Fin 16777216) (s : State) : Host.Outcome State Fault Refusal :=
  run (read64Low src (4 * w)) s

/-- READ_64_HIGH_WORD at the address of the high word. -/
def read64High (src a : Nat) (s : State) : State :=
  if src = 257 then highRead src a (tapWide s (a - 4)) s else
  if !fnOn s src then s else
  if accessOff s src a then (s.inc Reg.HIF_PD_OFF_ACC.CNT).emit (.readWord src a 0)
  else highRead src a (wide s src (a - 4)) s

def execRead64HighWord (src : Fin 258) (w : Fin 16777216) (s : State) : Host.Outcome State Fault Refusal :=
  run (read64High src (4 * w)) s

/-- SYS_LOCK: every RWL field is locked until PORST_N is asserted (R9). -/
def execSysLock (s : State) : Host.Outcome State Fault Refusal := run (fun s => s.put Reg.SYS_LOCK.LOCK 1) s

end Sys2Proof.Machine
end

