-- ==== Sys2Proof/Machine/Debug.lean ====
section
/-! DEFINITION. The TAP, debug levels, the quiet view, debug reads and writes, and halted clusters (R496 to R503, R394). A path is 0, the
PF's DBG window, or 1, the JTAG TAP. -/

namespace Sys2Proof.Machine

/-! ## The TAP (R496) -/

def tapIDCODE : Nat := 0
def tapBYPASS : Nat := 1
def tapDBG : Nat := 2

/-- Instructions: 0 IDCODE, 1 BYPASS, 2 DBG_ACCESS, 3 SAMPLE/PRELOAD, 4 EXTEST, 5 EXTEST_PULSE, 6 EXTEST_TRAIN, 7 CLAMP, 8 HIGHZ. -/
def tapPermitted (s : State) (i : Nat) : Bool :=
  decide (i ≤ 3) || s.get Reg.LC_STATE.STATE == 0 || (dbgLevel s 1 == 2 && !s.on Reg.TXC_CTRL.EN && !s.effOn Reg.MAC_CTRL.EN)

/-- JTAG_INSTRUCTION: one that is not permitted acts as BYPASS. IDCODE puts out the identification code. -/
def tapLoad (i : Nat) (s : State) : State :=
  let i := if tapPermitted s i then i else tapBYPASS
  let s := { s with dbg := { s.dbg with tap := i } }
  if i = tapIDCODE then s.emit (.pin "TDO IDCODE" 0xB71289CF)
  else if 4 ≤ i then s.emit (.pin "BOUNDARY" i) else s

def execJtagInstruction (i : Fin 9) (s : State) : Host.Outcome State Fault Refusal := run (tapLoad i) s

/-- TAP_RESET: the TAP and nothing else. -/
def execTapReset (s : State) : Host.Outcome State Fault Refusal :=
  run (fun s => { s with dbg := { s.dbg with tap := tapIDCODE } }) s

/-! ## Levels (R497 to R499) -/

/-- A command over a path: the PF's reaches the DBG window, the TAP's needs DBG_ACCESS. -/
def onDbg (p : Nat) (f : State → State) (s : State) : State :=
  if p = 0 then regAccess Reg.DBG_AUTH_CTRL.CODE.addr f s else if s.dbg.tap = tapDBG then f s else s

/-- DEBUG_AUTH_ARM: LEVEL with CODE = 0xA5 gives a fresh challenge. One while a decision is in progress is ignored (log entry 36). -/
def dbgArm (p level : Nat) (s : State) : State :=
  let s := s.put (pathFld p Reg.DBG_AUTH_CTRL.LEVEL) level
  if s.on (pathFld p Reg.DBG_AUTH_CTRL.BUSY) then s else
  let n := Config.drbg s.core.free
  modPathDbg p (fun x => { x with armed := some s.clk }) (s.drawn.put (pathFld p Reg.DBG_AUTH_CHAL.CHAL) n)

def execDebugAuthArm (p : Fin 2) (level : Fin 4) (ofs : Fin 122880) (s : State) : Host.Outcome State Fault Refusal :=
  run (fun s => onDbg p (dbgArm p level) (s.at ofs)) s

/-- DEBUG_AUTH_CONFIRM: CODE = 0x5A starts the decision; without an arming it is ignored, and after 1 ms it will be refused (log entry 36). -/
def dbgConfirm (p : Nat) (s : State) : State :=
  match (dbgPath s p).armed with
  | none => s
  | some c =>
    modPathDbg p (fun x => { x with armed := none, late := decide (c + usClk 1000 < s.clk), decide := some (s.clk + usClk 4000) })
      (s.put (pathFld p Reg.DBG_AUTH_CTRL.BUSY) 1)

def execDebugAuthConfirm (p : Fin 2) (ofs : Fin 122880) (s : State) : Host.Outcome State Fault Refusal :=
  run (fun s => onDbg p (dbgConfirm p) (s.at ofs)) s

/-- The signature over "DBGA", the serial number, the challenge, LEVEL and DUR verifies under the key of the life-cycle state: the operator key,
or signer 4, the RMA debug key (R497, R498). -/
def dbgSigned (s : State) (p : Nat) : Bool :=
  let lc := s.get Reg.LC_STATE.STATE
  if lc = 0 then true
  else if lc = 4 then false
  else
    let msg := [0x44, 0x42, 0x47, 0x41] ++ octetsLe 8 Config.serial ++ octetsLe 8 (s.get (pathFld p Reg.DBG_AUTH_CHAL.CHAL)) ++
      octetsLe 1 (s.get (pathFld p Reg.DBG_AUTH_CTRL.LEVEL)) ++ octetsLe 4 (s.get (pathFld p Reg.DBG_AUTH_DUR.SEC))
    let sig := octetsOf s (fun i => pathFld p (Reg.DBG_AUTH_SIGi.SIG i)) 24
    if lc = 3 then signedBy 4 (some []) msg sig else operatorSigned s msg sig

/-- DUR in seconds: 0 is treated as 1, above 86,400 as 86,400. -/
def dbgDur (s : State) (p : Nat) : Nat := min 86400 (max 1 (s.get (pathFld p Reg.DBG_AUTH_DUR.SEC)))

/-- DEBUG_AUTH_DECISION, 4,000 µs after the confirmation: the level is granted or refused. A LEVEL of 0 asks for none and is refused (log
entry 36). A grant of level 1 ends a level 2. -/
def dbgDecision (p : Nat) (s : State) : State :=
  match (dbgPath s p).decide with
  | none => s
  | some c =>
    if s.clk < c then s else
    let late := (dbgPath s p).late
    let s := modPathDbg p (fun x => { x with decide := none, late := false }) (s.put (pathFld p Reg.DBG_AUTH_CTRL.BUSY) 0)
    let l := min 2 (s.get (pathFld p Reg.DBG_AUTH_CTRL.LEVEL))
    if late || l = 0 || !dbgSigned s p then lpe 0x094 (s.put (pathFld p Reg.DBG_AUTH_CTRL.DENIED) 1)
    else
      let s := if l = 1 then levelDrop p s else s
      lpe 0x093 (modPathDbg p (fun x => { x with ends := some (s.clk + dbgDur s p * 983040000) })
        (s.put (pathFld p Reg.DBG_AUTH_CTRL.CUR) l))

def execDebugAuthDecision (p : Fin 2) (ofs : Fin 122880) (s : State) : Host.Outcome State Fault Refusal :=
  run (fun s => dbgDecision p (s.at ofs)) s

/-- DEBUG_AUTH_DROP: CODE = 0xDE. -/
def execDebugAuthDrop (p : Fin 2) (s : State) : Host.Outcome State Fault Refusal := run (onDbg p (levelDrop p)) s

/-- DEBUG_AUTH_EXPIRY: DUR has run out. -/
def execDebugAuthExpiry (p : Fin 2) (ofs : Fin 122880) (s : State) : Host.Outcome State Fault Refusal :=
  run (fun s =>
    let s := s.at ofs
    if (dbgPath s p).ends.any (fun c => decide (c ≤ s.clk)) then levelDrop p s else s) s

/-! ## Reads (R10, R500, R501) -/

/-- The last word a read returned. -/
def lastRead (s : State) : Nat :=
  match s.out.getLast? with
  | some (.readWord _ _ v) => v
  | _ => 0

/-- The PF's reads that have effects of their own, by address (R9, R13). -/
def readEffect (a : Nat) : Option (State → State) :=
  if a = Reg.FWD_DIV.VALID.addr then some divRead
  else if a = Reg.FQ_POLL_TAG.TAG.addr then some pollTagRead
  else if a = Reg.TIME_NOW_NS.NS.addr then some timeNowRead
  else if a = Reg.TIME_TB_NS.NS.addr then some timeTbRead
  else if a = Reg.TIME_PTP_RXSTAT.VALID.addr then some (ptpRxRead false)
  else if a = Reg.TIME_PTP_TXTS_STAT.TAG.addr then some ptpTsRead
  else match regAt a with
    | some h => if h.bits = 64 then some (if a = h.addr then read64Low 0 a else read64High 0 a) else none
    | none => if (tcntKey default 0 a).isSome then some (if a % 8 = 0 then read64Low 0 a else read64High 0 a) else none

/-- An ordinary read of one word by the PF, with its effects: the word and the state after it. -/
def ordinaryRead (a : Nat) (s : State) : Nat × State :=
  let s := tcmdSettle s
  match readEffect a with
  | some f => let t := f s; (lastRead t, t)
  | none =>
    if !windowOn s a then (0, s.inc Reg.HIF_PD_OFF_ACC.CNT)
    else (((regAt a).map (fun h => regVal s h.flds)).getD 0, s)

/-- Ordinary reads of `n` words from an address on. -/
def ordinaryReads : (n a : Nat) → State → List Nat × State
  | 0, _, s => ([], s)
  | n + 1, a, s =>
    let (v, s) := ordinaryRead a s
    let (l, s) := ordinaryReads n (a + 4) s
    (v :: l, s)

/-- Registers as the quiet view returns them (R500): what ordinary reads would return with no latch loaded, of which nothing stays. -/
def quietReads (n a : Nat) (s : State) : List Nat :=
  (ordinaryReads n a { s with core := { s.core with latch := [] } }).1

/-- Word `w` of a window of LPDDR5X (R242, R250): zero outside an OPEN window (R486). -/
def dramWord (s : State) (win o : Nat) : Nat :=
  if s.get (winState win) ≠ 3 then 0
  else if win = 0 then (ntcPack (ntcOf s (o / 64))).getD (o % 64 / 4) 0
  else
    let r := s.kv.secrets.get (o / 64)
    if r = default then 0 else secretWord r (o % 64 / 4)

/-- The address register of a path: its address and space. -/
def qvAddr (s : State) (p : Nat) : Nat := s.get (pathFld p Reg.DBG_QV_ADDR.ADDR)
def qvSpace (s : State) (p : Nat) : Nat := s.get (pathFld p Reg.DBG_QV_ADDR.SPACE)

/-- The registers of an access as GO finds them. -/
def qvGo (p consume write words : Nat) (s : State) : State :=
  putAll [(pathFld p Reg.DBG_QV_CTRL.CONSUME, consume), (pathFld p Reg.DBG_QV_CTRL.WRITE, write), (pathFld p Reg.DBG_QV_CTRL.WORDS, words),
    (pathFld p Reg.DBG_QV_STAT.DONE, 0), (pathFld p Reg.DBG_QV_STAT.POISON, 0)] s

def qvDone (p : Nat) (l : List Nat) (poison : Bool) (s : State) : State :=
  let s := forEach l.zipIdx (fun x s => s.put (pathFld p (Reg.DBG_QV_DATAi.DATA x.2)) x.1) s
  (s.put (pathFld p Reg.DBG_QV_STAT.DONE) 1).putB (pathFld p Reg.DBG_QV_STAT.POISON) poison

def qvDenied (p : Nat) (s : State) : State := s.put (pathFld p Reg.DBG_QV_STAT.DENIED) 1

/-- The words of SRAM and whether one of them is poisoned (log entry 33). -/
def sramWordsAt (s : State) (n a : Nat) : List Nat × Bool :=
  let l := (List.range n).map (fun i => a + 4 * i)
  (l.map (Config.sramWord s.core.free), l.any (fun x => s.mem.poison.contains (Config.sramPlace x)))

/-- QUIET_VIEW_READ: no effect on the part. -/
def quietView (p words : Nat) (s : State) : State :=
  let s := qvGo p 0 0 words s
  let n := words + 1
  let a := qvAddr s p
  if dbgLevel s p = 0 || qvSpace s p = 3 then qvDenied p s
  else if qvSpace s p = 0 then qvDone p (quietReads n (a / 4 * 4) s) false s
  else if qvSpace s p = 1 then qvDone p (sramWordsAt s n (a / 4 * 4)).1 (sramWordsAt s n (a / 4 * 4)).2 s.drawn
  else qvDone p ((List.range n).map (fun i => dramWord s (a / 2 ^ 33 % 2) (a % 2 ^ 29 / 4 * 4 + 4 * i))) false s

def execQuietViewRead (p : Fin 2) (words : Fin 16) (ofs : Fin 122880) (s : State) : Host.Outcome State Fault Refusal :=
  run (fun s => onDbg p (quietView p words) (s.at ofs)) s

/-- DEBUG_CONSUME: ordinary reads, at level 2. -/
def debugConsume (p words : Nat) (s : State) : State :=
  let s := qvGo p 1 0 words s
  let n := words + 1
  let a := qvAddr s p
  if dbgLevel s p ≠ 2 || qvSpace s p = 3 then qvDenied p s
  else if qvSpace s p = 0 then
    let (l, s) := ordinaryReads n (a / 4 * 4) s
    qvDone p l false s
  else if qvSpace s p = 1 then qvDone p (sramWordsAt s n (a / 4 * 4)).1 (sramWordsAt s n (a / 4 * 4)).2 s.drawn
  else
    let w := a / 2 ^ 33 % 2
    let t := if s.get (winState w) = 3 then s else memRefuse w (a % 2 ^ 29 / 64) 0x16 s
    qvDone p ((List.range n).map (fun i => dramWord s w (a % 2 ^ 29 / 4 * 4 + 4 * i))) false t

def execDebugConsume (p : Fin 2) (words : Fin 16) (ofs : Fin 122880) (s : State) : Host.Outcome State Fault Refusal :=
  run (fun s => onDbg p (debugConsume p words) (s.at ofs)) s

/-! ## Halted clusters (R394, R502) -/

/-- HALT at level 2 (R394, R502): of the active cluster a fault report, or with HOLD_LEASE = 1 the lease stays; a standby reads HALTED. -/
def halt (p c : Nat) (s : State) : State :=
  let st := clState s c
  if dbgLevel s p ≠ 2 || s.on (Reg.DBG_CCc_STAT.HALTED c) || st = clOFF || st = clFAILED then s else
  let s := (s.put (Reg.DBG_CCc_STAT.HALTED c) 1).put (Reg.DBG_CCc_STAT.PATH c) p
  let s := modDbg (fun d => { d with was := d.was.insert c st }) s
  if st = clACTIVE then
    if s.on Reg.DBG_CTRL.HOLD_LEASE then
      modWdn (fun w => { w with hungA := w.hungA || c == 0, hungB := w.hungB || c == 1 }) s
    else faultReport (s.inc Reg.WDN_HALT_FAULT.CNT)
  else setCluster c clHALTED s

def execDbgHalt (p : Fin 2) (c : Fin 2) (ofs : Fin 122880) (s : State) : Host.Outcome State Fault Refusal :=
  run (fun s => onDbg p (halt p c) (s.at ofs)) s

/-- STEP: the halted cluster executes one instruction. -/
def execDbgStep (p : Fin 2) (c : Fin 2) (s : State) : Host.Outcome State Fault Refusal :=
  run (onDbg p (fun s => if dbgLevel s p = 2 && s.on (Reg.DBG_CCc_STAT.HALTED c) then s.emit (.toFirmware "step" [c]) else s)) s

/-- RESUME. -/
def execDbgResume (p : Fin 2) (c : Fin 2) (s : State) : Host.Outcome State Fault Refusal :=
  run (onDbg p (fun s => if dbgLevel s p = 2 then resumeCluster c s else s)) s

/-! ## Writes (R501) -/

/-- A command's state with the outputs of what went before. -/
def andThen (f : State → Host.Outcome State Fault Refusal) (s : State) : State :=
  match f s with
  | .next t => { t with out := s.out ++ t.out }
  | _ => s

/-- A table command by its OP (R268). -/
def tcmdByOp (e : DbgEnv) (op table : Nat) : State → Host.Outcome State Fault Refusal :=
  let t : Fin 4 := Fin.ofNat 4 table
  match op with
  | 1 => execTcmdRead e.ofs t
  | 2 => execTcmdSearch e.ofs t
  | 3 => execTcmdInsert e.ofs t e.took
  | 4 => execTcmdDelete e.ofs t
  | 5 => execTcmdReplace e.ofs t
  | 6 => execTcmdInvalidOp e.ofs 1 t
  | 7 => execTcmdInvalidOp e.ofs 2 t
  | _ => execTcmdInvalidOp e.ofs 0 t

/-- A ring's EN by the value written (R304, R305). -/
def ringByEn (fn r : Nat) (en : Bool) : List (State → Host.Outcome State Fault Refusal) :=
  if en then [execRingEnable (Fin.ofNat 257 fn) (Fin.ofNat 16 r)]
  else if r < 4 then [execTxRingDisable (Fin.ofNat 257 fn) (Fin.ofNat 4 r)]
  else if 6 ≤ r && r ≤ 13 then [execPartRingDisable (Fin.ofNat 257 fn) (Fin.ofNat 8 (r - 6))]
  else []

/-- Those of a list whose condition holds. -/
def pick (l : List (Bool × (State → Host.Outcome State Fault Refusal))) : List (State → Host.Outcome State Fault Refusal) :=
  (l.filter (·.1)).map (·.2)

/-- The commands that the word `v` written at a PF BAR0 address also gives: those of the fields with rows of their own, but for GO of the DBG
window. -/
def ownActs (e : DbgEnv) (a v : Nat) : List (State → Host.Outcome State Fault Refusal) :=
  let b (i : Nat) : Bool := bitAt v i
  match a / 0x100000 with
  | 0 => pick [(a == Reg.SYS_LOCK.LOCK.addr && b 0, execSysLock)]
  | 1 => pick [(a == Reg.PWR_REQ.GO.addr && b 3, execPowerRequest (Fin.ofNat 8 (bitsAt v 0 3))),
      (a == Reg.PWR_PAD_RELEASE.RELEASE.addr && b 0, execPadRelease)]
  | 2 => if a = Reg.WDN_CTRL.HANDOVER.addr then
      pick [(b 0, execHandover), (b 1, execClusterRestart), (!b 8, execClusterDisable 0), (!b 9, execClusterDisable 1)]
    else if a = Reg.WDN_FORCE_CTRL.CODE.addr then
      pick [(bitsAt v 0 8 == 0xF0, execForceHoldArm e.ofs), (bitsAt v 0 8 == 0x0F, execForceHoldConfirm e.ofs)] else []
  | 3 => if a = Reg.CLK_CTRL.RELOCK.addr then pick [(b 0, execRelock)]
    else if a = Reg.CLK_REFSEL.FORCE.addr then pick [(b 2, execClkForce)]
    else match arrayIx 0x300100 16 8 a with
      | some n => [execClkoutConfigWrite (Fin.ofNat 8 n) (Fin.ofNat 4 (bitsAt v 1 2)) (Fin.ofNat 8 (bitsAt v 3 3)) (Fin.ofNat 4096 (bitsAt v 8 12))]
      | none => []
  | 4 => if a = Reg.TIME_CTRL.SET.addr then pick [(b 0, execTimeSet), (b 2, execTimeStep)]
    else if a = Reg.TIME_SERVO.SRC.addr then [execServoSrcWrite (Fin.ofNat 4 (bitsAt v 0 2))]
    else if a = Reg.TIME_OFS_NS.NS.addr then [execOffsetDelivery e.ofs false (BitVec.ofNat 32 v)]
    else if a = Reg.TIME_PTP_TXCTL.GO.addr then
      pick [(b 14, execPtpTxGo false (Fin.ofNat 512 (bitsAt v 0 9)) (Fin.ofNat 2 (bitsAt v 12 1)) (b 13) (Fin.ofNat 65536 (bitsAt v 16 16)))]
    else []
  | 5 => if a = Reg.RSI_CTRL.EN.addr then execRsiEnableWrite (b 0) :: pick [(b 1, execLaneDiscoveryStart)]
    else if a = Reg.RSI_SYSREF.ARM.addr then pick [(b 5, execSysrefArm)]
    else match (List.range 12).find? (fun p => a == (portEn p).addr) with
      | some p => [execRsiPortEnable (Fin.ofNat 12 p) (b 0)]
      | none => []
  | 9 => if a = Reg.TXC_FIR_COMMIT.BANKS.addr then [execFirCommit (Fin.ofNat 65536 v)]
    else match arrayIx 0x901800 0x100 4 a, arrayIx 0x902000 0x400 4 a with
      | some p, _ => pick [(b 2, execMaskUngate (Fin.ofNat 4 p))]
      | none, some x => pick [(b 1, execDcPresetLoad (Fin.ofNat 4 x))]
      | none, none => []
  | 12 => if a = Reg.KV_CMD_GO.CODE.addr then [fun s => run (regSubmit (v % 256) default) s] else []
  | 13 => if a = Reg.FWD_TCMD.GO.addr then pick [(b 5, tcmdByOp e (bitsAt v 0 3) (bitsAt v 3 2))]
    else if a = Reg.FWD_NTCMD.GO.addr then
      pick [(b 2, if b 1 then execNtcmdWrite (Fin.ofNat 2 (bitsAt v 0 1)) else execNtcmdRead (Fin.ofNat 2 (bitsAt v 0 1)))]
    else match arrayIx 0xD00100 64 2 a with
      | some p => pick [(b 0, execEmtRebuild (Fin.ofNat 2 p)), (b 2, execJoinFill (Fin.ofNat 2 p))]
      | none => []
  | 17 => if a = Reg.HIF_PF_KICK.RINGS.addr then [execKick 0 (Fin.ofNat 65536 v) e.ofs false e.bell]
    else
      let fn := (a - 0x1100000) / 0x800
      match arrayIx 0x108 32 16 ((a - 0x1100000) % 0x800) with
      | some r => if fn < 257 then ringByEn fn r (b 0) else []
      | none => []
  | 19 => pick [(a == Reg.MIR_CTRL.YIELD.addr && b 16, execLeaseYield)]
  | 20 => if a = Reg.MEM_DRAM_CFG.TRAIN.addr then pick [(b 0, execDramTrain)]
    else match arrayIx 0x1400104 16 2 a with
      | some w => pick [(b 0, execWindowOpen (Fin.ofNat 2 w)), (b 1, execWindowClose (Fin.ofNat 2 w))]
      | none => []
  | 21 => if a = Reg.LPE_CTRL.SEAL.addr then pick [(b 0, execLoupeSeal), (b 1, execLoupeExport)]
    else if a = Reg.LPE_SEL.ID.addr then [execLoupeSelect (Fin.ofNat 4096 (bitsAt v 0 12)) (Fin.ofNat 32 (bitsAt v 16 5))] else []
  | 22 => if a = Reg.DBG_AUTH_CTRL.CODE.addr then
      pick [(bitsAt v 0 8 == 0xA5, execDebugAuthArm 0 (Fin.ofNat 4 (bitsAt v 8 2)) e.ofs),
        (bitsAt v 0 8 == 0x5A, execDebugAuthConfirm 0 e.ofs), (bitsAt v 0 8 == 0xDE, execDebugAuthDrop 0)]
    else match arrayIx 0x1600200 16 2 a with
      | some c => let c : Fin 2 := Fin.ofNat 2 c
        pick [(b 0, execDbgHalt 0 c e.ofs), (b 1, execDbgStep 0 c), (b 2, execDbgResume 0 c)]
      | none => []
  | 23 => if a = Reg.LC_REQ.CODE.addr then
      let t : Fin 8 := Fin.ofNat 8 (bitsAt v 8 3)
      pick [(bitsAt v 0 8 == 0xC3, execLcArm t e.ofs), (bitsAt v 0 8 == 0x3C, execLcConfirm t e.ofs)] else []
  | 24 => if a = Reg.FW_CTRL.LOAD.addr then
      pick [(b 0, execFwLoad), (b 1, execFwActivate), (b 2, execFwAbort), (b 3, execCommitSvn), (b 4, execFacetLoad), (b 5, execFwCold)]
    else pick [(a == Reg.FW_FACET_REQ.GO.addr && b 16, execFacetRequest (Fin.ofNat 65536 (bitsAt v 1 15 * 2)))]
  | _ => []

/-- An ordinary write of one word of the register space, with the commands it gives (R9), `more` among them. -/
def wordWith (more : List (State → Host.Outcome State Fault Refusal)) (e : DbgEnv) (a v : Nat) (s : State) : State :=
  if !windowOn s a then s.inc Reg.HIF_PD_OFF_ACC.CNT else forEach (ownActs e a v ++ more) andThen (hostWord a v s)

/-- The NT-C entry that holds octet `o` of window 0, with its word replaced. -/
def ntcWord (o v : Nat) (s : State) : State :=
  let l := ntcPack (ntcOf s (o / 64))
  writeNtc (o / 64) (ntcUnpack (fun i => if i = o % 64 / 4 then v else l.getD i 0)) s

/-- Ordinary writes over a debug path, at level 2, `word` being that of one word of the register space. They cannot write window 1, the KV
window or the firmware banks. Of SRAM, a full write of a word ends its poison; what else the word holds is not known to the model (log entry
33). -/
def debugWriteBy (word : Nat → Nat → State → State) (p words : Nat) (s : State) : State :=
  let s := qvGo p 0 1 words s
  let n := words + 1
  let a := qvAddr s p
  let data (i : Nat) : Nat := s.get (pathFld p (Reg.DBG_QV_DATAi.DATA i))
  if dbgLevel s p ≠ 2 || qvSpace s p = 3 then qvDenied p s
  else
    let t := if qvSpace s p = 0 then forEach (List.range n) (fun i s => let b := a / 4 * 4 + 4 * i; if b / 0x100000 = 12 then s else word b (data i) s) s
      else if qvSpace s p = 1 then
        let full := (List.range n).filter (fun i => i + 1 < n && (a / 4 + i) % 2 == 0)
        let gone := full.map (fun i => Config.sramPlace (a / 4 * 4 + 4 * i))
        { s with mem := { s.mem with poison := s.mem.poison.filter (fun x => !(gone.contains x) || x.1 == 5 || x.1 == 6) } }
      else if a / 2 ^ 33 % 2 = 1 then s
      else if s.get (winState 0) ≠ 3 then memRefuse 0 (a % 2 ^ 29 / 64) 0x16 s
      else forEach (List.range n) (fun i s => ntcWord (a % 2 ^ 29 / 4 * 4 + 4 * i) (data i) s) s
    t.put (pathFld p Reg.DBG_QV_STAT.DONE) 1

/-- What a write of DBG_QV_CTRL with GO = 1 in the PF's DBG window starts (R500, R501). The words that this access writes start no second one
on the path, on which one is under way (log entry 36). -/
def goActs (e : DbgEnv) (a v : Nat) : List (State → Host.Outcome State Fault Refusal) :=
  let n : Fin 16 := Fin.ofNat 16 (bitsAt v 4 4)
  if a ≠ Reg.DBG_QV_CTRL.GO.addr || !bitAt v 0 then []
  else if bitAt v 2 then [run (fun s => onDbg 0 (debugWriteBy (wordWith [] e) 0 n) (s.at e.ofs))]
  else if bitAt v 1 then [execDebugConsume 0 n e.ofs]
  else [execQuietViewRead 0 n e.ofs]

/-- A write of one word by firmware or over the TAP's path: an ordinary write, with every command it gives. -/
def fullWord (e : DbgEnv) (a v : Nat) (s : State) : State := wordWith (goActs e a v) e a v s

/-- DEBUG_WRITE. The PF's own path starts no second access of its own. -/
def debugWrite (p words : Nat) (e : DbgEnv) (s : State) : State :=
  debugWriteBy (if p = 0 then wordWith [] e else fullWord e) p words s

def execDebugWrite (p : Fin 2) (words : Fin 16) (e : DbgEnv) (s : State) : Host.Outcome State Fault Refusal :=
  run (fun s => onDbg p (debugWrite p words e) (s.at e.ofs)) s

end Sys2Proof.Machine
end

