-- ==== Sys2Proof/Machine/Pcie.lean ====
section
/-! DEFINITION. The PCI Express endpoint (R284, R286, R316): the MSI-X tables in BAR2, the capabilities in configuration space, and REGISTER_WRITE over
all that a host write can reach. -/

namespace Sys2Proof.Machine

/-- The identity of a function: device ID and class code (R284). -/
def deviceId (fn : Nat) : Nat := if fn = 0 then 0x7128 else 0x7129
def classCode : Nat := 0x0280

/-- Entries of a function's MSI-X table (R316). -/
def msixSize (fn : Nat) : Nat := if fn = 0 then 256 else 7

/-- The messages of a function that pend and are no longer masked are sent (R316). -/
def msixFlush (fn : Nat) (s : State) : State :=
  if !s.hif.pcie.msixOn.contains fn || s.hif.pcie.msixMask.contains fn then s else
  forEach ((List.range (msixSize fn)).filter (fun k => (s.hif.pcie.msix.get (256 * fn + k)).pend && (s.hif.pcie.msix.get (256 * fn + k)).clear))
    (fun k s => msixSend fn k (modPcie (fun c => { c with msix := c.msix.upd (256 * fn + k) (fun x => { x with pend := false }) }) s)) s

/-- A word write to BAR2 at an offset: an MSI-X entry's address, data or Mask bit; the PBA ignores writes (R286, R316). -/
def bar2Write (fn o v : Nat) (s : State) : State :=
  if msixSize fn ≤ o / 16 then s else
  let f (x : MsixEntry) : MsixEntry := match o % 16 / 4 with
    | 0 => { x with addr := x.addr / 2 ^ 32 * 2 ^ 32 + v / 4 * 4 }
    | 1 => { x with addr := x.addr % 2 ^ 32 + 2 ^ 32 * v }
    | 2 => { x with data := v }
    | _ => { x with clear := !bitAt v 0 }
  msixFlush fn (modPcie (fun c => { c with msix := c.msix.upd (256 * fn + o / 16) f }) s)

def setMember (l : List Nat) (k : Nat) (b : Bool) : List Nat := if b then setAdd l k else setDel l k

/-- VF Enable is written: VFs that go take what the interface holds for them along, as an FLR does. -/
def vfEnable (on : Bool) (s : State) : State :=
  let gone := if on then [] else (List.range 257).filter (fun f => f != 0 && fnOn s f)
  modPcie (fun c => { c with vfEn := on }) (forEach gone flr s)

/-- A write to a function's configuration space. The spec names the capabilities and gives no offsets: the model numbers the registers 0 Device Control,
1 power management control, 2 Link Control, 3 MSI-X Message Control, 4 SR-IOV Control, 5 NumVFs, each with the bit places of the base specification
(PRESUMED; the numbers DESIGN CHOICE, log entry 46). Values the part does not support change nothing (R284). -/
def configWrite (fn k v : Nat) (s : State) : State :=
  match k with
  | 0 => if fn = 0 then modPcie (fun c => { c with
      mps := if bitsAt v 5 3 ≤ 2 then bitsAt v 5 3 else c.mps, mrrs := if bitsAt v 12 3 ≤ 5 then bitsAt v 12 3 else c.mrrs }) s else s
  | 1 => if bitsAt v 0 2 = 0 || bitsAt v 0 2 = 3 then modPcie (fun c => { c with d3 := setMember c.d3 fn (bitsAt v 0 2 == 3) }) s else s
  | 2 => if fn = 0 then modPcie (fun c => { c with l1 := bitAt v 1 }) s else s
  | 3 => msixFlush fn (modPcie (fun c => { c with
      msixOn := setMember c.msixOn fn (bitAt v 15), msixMask := setMember c.msixMask fn (bitAt v 14) }) s)
  | 4 => if fn = 0 then vfEnable (bitAt v 0) s else s
  | 5 => if fn = 0 && !s.hif.pcie.vfEn && decide (v ≤ 256) then modPcie (fun c => { c with numVfs := v }) s else s
  | _ => s

/-- The function has a configuration space: the PF, or a VF that is enabled. -/
def fnThere (s : State) (fn : Nat) : Bool := fn == 0 || (s.hif.pcie.vfEn && decide (fn ≤ s.hif.pcie.numVfs))

/-- REGISTER_WRITE of word `w` of what the source names: 0 to 256 is BAR0 of that function, 257 the TAP, 258 to 514 BAR2 of function src − 258, and 515
to 771 the configuration space of function src − 515. -/
def execRegisterWrite (src : Fin 772) (w : Fin 16777216) (v : BitVec 32) (ofs : Fin 122880) (s : State) : Host.Outcome State Fault Refusal :=
  run (fun s =>
    let s := s.at ofs
    if src.val ≤ 257 then writeWord src (4 * w) v.toNat s
    else if src.val < 515 then (if fnOn s (src.val - 258) then bar2Write (src.val - 258) (4 * w) v.toNat s else s)
    else if fnThere s (src.val - 515) then configWrite (src.val - 515) w v.toNat s else s) s

end Sys2Proof.Machine
end

