-- ==== Sys2Proof/Machine/Items.lean ====
section
/-! DEFINITION. What the items of the facets in force set (R443, R444). -/

namespace Sys2Proof.Machine

/-- The fields of the register at an address. -/
def fldsAt (a : Nat) : List Fld := ((regAt a).map (·.flds)).getD []

/-- The register fields that an item sets (R443): none for a firmware setting, or an INDEX that the registers have not. -/
def itemFlds (id ix : Nat) : List Fld :=
  let alt := [Reg.PRSM_TUn_CFG.ALT_PORT ix, Reg.PRSM_TUn_CFG.ALT_EN ix]
  let within' (n : Nat) (l : List Nat) : List Fld := if ix < n then l.flatMap fldsAt else []
  match id with
  | 0x0101 => if ix < 128 then alt else []
  | 0x0102 => (within' 128 [(Reg.PRSM_TUn_CFG.EN ix).addr, (Reg.PRSM_TUn_FREQ.FREQ ix).addr]).filter (fun f => !alt.contains f)
  | 0x0110 => within' 128 [(Reg.CE_MODE.EN ix).addr, (Reg.CE_DET.RUN ix).addr, (Reg.CE_CAPTURE.EN ix).addr, (Reg.CE_DIV.MODE ix).addr]
  | 0x0120 => within' 128 [(Reg.MAC_ENGn_CFG.HOPG ix).addr, (Reg.MAC_ENGn_ACK.GAP ix).addr]
  | 0x0130 => within' 16 ([(Reg.MAC_HOPg_CFG.EN ix).addr, (Reg.MAC_HOPg_SEED.SEED ix).addr] ++
      (List.range 16).map (fun i => (Reg.MAC_HOPg_LISTi.CH0 ix i).addr))
  | 0x0150 => within' 4 ((List.range 16).flatMap (fun k =>
      [(Reg.TXC_SBb_sLO.LO ix k).addr, (Reg.TXC_SBb_sHI.HI ix k).addr, (Reg.TXC_SBb_sCFG.DUTY ix k).addr]))
  | 0x0160 => within' 16 [(Reg.TXC_PROFp_A.PHY ix).addr, (Reg.TXC_PROFp_B.NPRE ix).addr]
  | 0x0170 => within' 256 ((List.range 3).flatMap (fun p => [(Reg.TM_Tt_SHRp.RATE ix p).addr, (Reg.TM_Tt_SHBp.BURST ix p).addr]) ++
      [(Reg.TM_Tt_AIRR.RATE ix).addr, (Reg.TM_Tt_AIRB.BURST ix).addr])
  | 0x0180 => if ix = 0 then (List.range 4).map Reg.PWR_HUSH_SETi.ENG else []
  | 0x0200 => if ix = 0 then [Reg.MAC_CELL.LEN] else []
  | 0x0201 => within' 4 [(Reg.MAC_BANDb_CH0.CH0 ix).addr, (Reg.MAC_BANDb_SPC.SPC ix).addr]
  | _ => []

/-- The value of field `k` of an item from the item's octets: the schema, which the spec does not give, places it (log entry 30). -/
def itemField (id : Nat) (val : List Nat) (k : Nat) (f : Fld) : Nat := Config.itemField id val k % 2 ^ f.w

/-- Items of the facets loaded, each once. -/
def itemKeys (s : State) : List (Nat × Nat) :=
  (s.fw.loaded.flatMap (fun e => e.2.items.map (fun x => (x.id, x.index)))).foldl (fun l k => if l.contains k then l else l ++ [k]) []

/-- The effective value of an item under a mask, as octets (R444): that of the highest-numbered active overlay that holds it, else the base
facet's, else the schema's default. -/
def effective (s : State) (mask : Nat) (k : Nat × Nat) : List Nat :=
  let holds (n : Nat) : Option FacetItem := (s.fw.loaded.get n).items.find? (fun x => x.id == k.1 && x.index == k.2)
  match ((0 :: maskList mask).reverse.findSome? holds) with
  | some x => octetNats x.val
  | none => Config.schemaDefault (s.get Reg.FW_RUN_SCHEMA.VER) k.1 k.2

/-- An item's effective value is set: register fields, a tenant's link quota (R209), or a setting of firmware's own. The cell length waits
until the sequencer is off (R443). -/
def itemSet (k : Nat × Nat) (val : List Nat) (s : State) : State :=
  if k.1 = 0x0200 && s.mac.running then s
  else if k.1 = 0x0140 then modMac (fun m => { m with quota := m.quota.set k.2 (Config.itemField k.1 val 0) }) s
  else match itemFlds k.1 k.2 with
    | [] => s.emit (.toFirmware "item" (k.1 :: k.2 :: val))
    | l => forEach l.zipIdx (fun f s => fieldWrite f.1 (itemField k.1 val f.2 f.1) s) s

/-- The effective values of every item under a mask. -/
def itemsSet (mask : Nat) (s : State) : State :=
  modFw (fun f => { f with itemsDue := false }) (forEach (itemKeys s) (fun k t => itemSet k (effective s mask k) t) s)

/-- The facets' commands of a tick commit that has been accepted (R443, R444): at the boundary of a switch, and after a boot or a take-over of
firmware, every item's effective value; as the sequencer is enabled, the cell length. -/
def itemCommands (cell : Option Nat) (s : State) : State :=
  let next := cell.bind (fun c => facetNext c s)
  if next.isSome || s.fw.itemsDue then itemsSet ((next.map (·.1)).getD (activeMask s)) s
  else if s.on Reg.MAC_CTRL.EN && !s.mac.running && (itemKeys s).contains (0x0200, 0) then
    itemSet (0x0200, 0) (effective s (activeMask s) (0x0200, 0)) s
  else s

end Sys2Proof.Machine
end

