-- ==== Sys2Proof/Machine/Tick.lean ====
section
/-! DEFINITION. The boundaries of ticks and cells and the release deadline (R15, R16, R18, R20 to R24, R181). -/

namespace Sys2Proof.Machine

/-! ## The release deadline (R20 to R24) -/

/-- Counter-commit mirroring to a twin part is on (C_mir, R21). -/
def cMir (s : State) : Bool := s.on Reg.MIR_CTRL.TWIN && s.effOn Reg.MIR_CTRL.CNT_MIRROR

/-- The clock at which the frame is to have been released: the end of its decode-deadline tick, or 51 µs later with C_mir = 1. -/
def releaseBy (s : State) (f : Frame) : Nat := (f.deadTick + 1) * Config.tickClocks + (if cMir s then usClk 51 else 0)

/-- The frame is late, and no bubble holds it (R24). -/
def releaseLate (s : State) (f : Frame) : Bool := !f.bubble && !f.waits.isEmpty && decide (releaseBy s f ≤ s.clk)

/-- A late frame is discarded; its counter stays committed. A release missed at the end of tick k is found at the boundary that ends it, and
SYS_OVR_TICK records k + 1 (DESIGN CHOICE, log entry 50). The downlink frame that a late Enh-ACK acknowledges has had no
acknowledgement (R203). -/
def releaseDrop (f : Frame) (s : State) : State :=
  let s := overrun Reg.SYS_OVR_STAT.SEC_REL_LATE (secFail f 0x0D Reg.SEC_REL_LATE.CNT s)
  match f.ackOf with
  | some d => waitEnd { (default : AckWait) with engine := f.mrec.engine, frame := d } s
  | none => s

def releaseDeadline (s : State) : State :=
  let late := s.sec.release.filter (releaseLate s)
  forEach late releaseDrop (modSec (fun c => { c with release := c.release.filter (fun f => !releaseLate s f) }) s)

def execReleaseDeadline (ofs : Fin 122880) (s : State) : Host.Outcome State Fault Refusal := run (fun s => releaseDeadline (s.at ofs)) s

/-! ## The commands of the tick commit (R15, R387) -/

/-- A frame that the active cluster gives for a TX_FW or TX_CSMA window: a secured one is first composed, with a counter (R221); another has the
checks of R163 at once. -/
def fwSend (t node prof len : Nat) (secured bcast ar : Bool) (s : State) : State :=
  if secured then
    let d : FDesc :=
      { src := .firmware t, tenant := t, node := node, queue := 0, profile := prof, ar := ar, bcast := bcast, lifetime := 65535, words := 0,
        tick := s.core.ticks, compTick := s.core.ticks, made := 0, total := 1, tried := none, srh := none, sizes := [], pkt := { (default : Packet) with len := len } }
    modHif (fun h => { h with fetched := h.fetched ++ [d] }) s
  else
    let f : FwFrame :=
      { (default : FwFrame) with
        tenant := t, node := node, prof := prof, len := len, bcast := bcast, ar := ar, seq := Config.seqNo s.core.free % 256 }
    match compCheck s t prof len with
    | some (st, cnt) => airFinal (fwAir f) st (s.inc cnt)
    | none => modMac (fun m => { m with fwq := m.fwq ++ [f] }) s.drawn

/-- Firmware installs a node's key at its join, or stages one when it rekeys the node, through the vault's wrap (R237, R243, R245). -/
def fwNodeKey (n key : Nat) (s : State) : State :=
  if zeroised s || decide (64 ≤ epoch s) || !(nthOf s n).valid then s
  else if !secretsOpen s then memRefuse 1 (nthOf s n).endpoint 0x0C s
  else nodeInstall n key s

/-- Firmware commits the staged key of a node (R237). -/
def fwNodeCommit (n v : Nat) (s : State) : State :=
  let ep := (nthOf s n).endpoint
  if (nodeStagedOf s ep).map Config.kcv = some v then modKv (fun k => { k with nodeCommit := setAdd k.nodeCommit ep }) s else s

/-- Firmware's write of an NT-H entry (R251): the whole entry at a join, which is a write that leaves STATE at JOINING of an entry that was NONE
or JOINING, with FC_VALID = 0 and APT_N = 0; otherwise only firmware's own fields (DEDUCED, log entry 53). -/
def fwEntry (old x : NtH) : NtH :=
  if x.state = 1 && old.state ≤ 1 then { x with fcValid := false, aptN := 0 }
  else
    { old with valid := x.valid, state := x.state, nkey := x.nkey, tenant := x.tenant, endpoint := x.endpoint, eui := x.eui, short := x.short }

/-- One command of the active cluster takes effect. Firmware writes the NT-C entries of LOCAL = 1 (R251). -/
def fwApply (c : FwCmd) (s : State) : State :=
  match c with
  | .setNth n x => fwNth (n % 262144) (fwEntry (nthOf s (n % 262144)) x) s
  | .setNtc e x => if x.isLocal || (ntcOf s e).isLocal then fwNtc e x s else s
  | .joinAdd n =>
    let s := learnRun 1 (learnRun 0 s)
    let x := nthOf s n
    forEach (joinEntries n x) (fun e s => (emtInsert (pipeServing s x.tenant) e s).1) (diffTouch (pipeServing s x.tenant) (joinEntries n x) s)
  | .joinDel n =>
    let s := learnRun 1 (learnRun 0 s)
    let x := nthOf s n
    forEach (joinEntries n x) (fun e s =>
      match emtFind s (pipeServing s x.tenant) e.ty e.tenant e.key with
      | some k => emtClear (pipeServing s x.tenant) k s
      | none => s) (diffTouch (pipeServing s x.tenant) (joinEntries n x) s)
  | .setIphc t c v => modFwd (fun w => { w with iphc := w.iphc.set (t * 16 + c) v }) s
  | .aptReset n => setNth n { nthOf s n with aptM := true } s
  | .nodeKey n key => fwNodeKey n key s
  | .nodeKeyCommit n v => fwNodeCommit n v s
  | .ackFrame t node prof len seq secured pending corr nominal span key level =>
    let f : FwFrame :=
      { tenant := t, node := node, prof := prof, len := len, secured := secured, bcast := false, ar := false, isAck := true, seq := seq
        pending := pending, corr := corr, nominal := nominal, span := span, keyRef := if secured then some key else none
        keyBits := (keyBits s key t).getD 0, retries := 0, level := level, sec := none }
    modMac (fun m => { m with fwq := m.fwq ++ [f] }) s
  | .sendFrame t node prof len secured bcast ar => fwSend t node prof len secured bcast ar s
  | .quota t n => modMac (fun m => { m with quota := m.quota.set t n }) s
  | .setReg a v e => fullWord e a v s
  | .handUp t p r => toException (t % 256) p r 1 3 s
  | .delta version len body => mirPost (.fwDelta version len body) s
  | .lock l take stby => lockSet l take stby s

/-- Ticks of a cell. Cells are counted whether the sequencer runs or not. -/
def cellLen (s : State) : Nat := if s.mac.running then s.mac.len else clampCell (s.get Reg.MAC_CELL.LEN)

/-- The accepted commit takes effect, with the facets' commands in it, and the Warden waits for the next one. -/
def commitApply (s : State) : State :=
  let took := s.wdn.accepted.isSome
  let c := s.wdn.accepted.getD default
  let l := c.cmds
  let s := plansAccept c (modWdn (fun w => { w with accepted := none, posted := none }) s)
  let s := if took && clActive s then itemCommands (if s.tick % cellLen s = 0 then some (s.tick / cellLen s) else none) s else s
  forEach l fwApply s

/-! ## The tick boundary -/

/-- What is left at the end of a tick (R18, R19, R23). -/
def endOfTick (s : State) : State := telemetry (tqEnter (composeDeadline (decodeDeadline (reportDeadline s))))

/-- Tick-aligned writes take effect (R16). A written tuner leaves its alternate port, and SYSREF_OUT's period counts from the boundary
at which its mode takes effect (R55, R76). -/
def alignedApply (s : State) : State :=
  let wrote (a : Nat) : Bool := s.inForce.any (fun e => e.1 / 64 == a)
  let tuners := (List.range 128).filter (fun n => wrote (Reg.PRSM_TUn_CFG.EN n).addr)
  let s := forEach tuners (fun n s => s.put (Reg.PRSM_TUn_STAT.ON_ALT n) 0) s
  let s := modPrsm (fun r => { r with wrote := tuners, cfg := s.inForce.any (fun e => e.1 / 64 / 0x100000 == 6) }) s
  let s := if (s.inForce.find? Reg.RSI_SYSREF.MODE.key).isSome then { s with rsi := { s.rsi with perBase := s.core.ticks } } else s
  let s := { s with inForce := [] }
  if s.on Reg.TIME_TICK_OUT.EN then s else modTime (fun t => { t with tickFall := 0 }) s

/-- The composer's part. A return of PD17 empties what the sub-windows rolled over while it was off (R170). -/
def composerBoundary (s : State) : State :=
  match s.pwr.txcOff with
  | some t => if pdOn s 17 then modPwr (fun p => { p with txcOff := none }) (txBoundary (s.core.ticks - t) s) else s
  | none => txBoundary 0 s

/-- CSMA_RESEED (R204, R240): the generator's state shows nowhere else, its counts being free values. -/
def csmaReseed (s : State) : State := s.incIf (!s.on Reg.KV_STATE.ENT_OK) Reg.KV_RESEED_SKIP.SKIPS

/-- What the blocks do at a boundary once the tick-aligned writes are in force: `ran` says whether the sequencer ran, and `old` is the
state in which the old values were still in force. -/
def tickRest (ran : Bool) (old : State) (e : TickEnv) (s : State) : State :=
  let s := timeBoundary (ran || s.on Reg.MAC_CTRL.EN) (releaseDeadline s)
  let s := ceBoundary old (pwrBoundary s)
  let s := sysrefBoundary e.arrive (ceStart (prismBoundary s))
  let s := expireAir (waitsOver (fun _ => true) (macBoundary s))
  let s := csmaReseed (keyBoundary (composerBoundary s))
  let s := hifBoundary e.bells (fwdBoundary e.shadow s)
  let s := clkBoundary (tmBoundary old s)
  let s := lcBoundary (fwBoundary (wardenBoundary s))
  faQuery (sealSnap (loupeSecond (hottest e.tj) e.vcore (loupeTick e.exc e.aer (memBoundary e.hits (offerWins s)))))

/-- TICK_BOUNDARY. The count of ticks stands until the synthesizer first locks (R345). -/
def tickBoundary (e : TickEnv) (s : State) : State :=
  if !s.time.going then s else
  let old := txClip (commitApply (prismTick e.rx (advanceTick (endOfTick s))))
  tickRest s.mac.running old e (alignedApply old)

def execTickBoundary (e : TickEnv) (s : State) : Host.Outcome State Fault Refusal := run (tickBoundary e) s

/-! ## The cell boundary (R7, R181, R444, R446) -/

/-- A cell boundary whose cell has not begun yet. -/
def cellDue (s : State) : Bool := s.time.going && s.tick % cellLen s == 0 && s.ofs == 0 && s.fw.cellTick != some s.core.ticks

/-- Facets switch at a cell boundary, and the fired entries' power states are requested (R446). -/
def cellFacets (cell : Nat) (s : State) : State :=
  if !clActive s then s else
  let (s, due) := facetCell cell s
  forEach (due.filter (fun e => e.power != 0)) (fun e s => pwrRequest (e.power - 1) 1 s) s

/-- The sequencer's part. Towards DORMANT or OFF it opens no windows (R469). -/
def cellMac (cell : Nat) (s : State) : State :=
  if !s.mac.running then tunersUpdate s
  else if s.pwr.macStop then tunersUpdate (modMac (fun m => { m with cell := cell, cellTick := s.core.ticks }) s)
  else cellStart s

def cellBoundary (s : State) : State :=
  if !cellDue s then s else
  let cell := s.tick / cellLen s
  let s := modFw (fun f => { f with cellTick := some s.core.ticks }) s
  faQuery (offerWins (ceStart (cellMac cell (returnTuners (cellFacets cell (pwrCell cell s))))))

def execCellBoundary (s : State) : Host.Outcome State Fault Refusal := run cellBoundary s

end Sys2Proof.Machine
end

