-- ==== Sys2Proof/Machine/Dispatch.lean ====
section
/-! DEFINITION. What each command does to the state beside the queue: one arm for each constructor, each a direct call of its meaning. -/

namespace Sys2Proof.Machine

def exec (i : Instr) (s : State) : Host.Outcome State Fault Refusal :=
  match i with
  | .registerWrite src w v ofs => Sys2Proof.Machine.execRegisterWrite src w v ofs s
  | .shortWriteDiscard => Sys2Proof.Machine.execShortWriteDiscard s
  | .read64LowWord src w => Sys2Proof.Machine.execRead64LowWord src w s
  | .read64HighWord src w => Sys2Proof.Machine.execRead64HighWord src w s
  | .write64LowWord src w v => Sys2Proof.Machine.execWrite64LowWord src w v s
  | .write64HighWord src w v ofs => Sys2Proof.Machine.execWrite64HighWord src w v ofs s
  | .sysLock => Sys2Proof.Machine.execSysLock s
  | .tickBoundary e => Sys2Proof.Machine.execTickBoundary e s
  | .intakeCutoff => Sys2Proof.Machine.execIntakeCutoff s
  | .burstA => Sys2Proof.Machine.execBurstA s
  | .burstB => Sys2Proof.Machine.execBurstB s
  | .tickCommit ofs tick crcOk cmds => Sys2Proof.Machine.execTickCommit ofs tick crcOk cmds s
  | .wardenCommitCheck => Sys2Proof.Machine.execWardenCommitCheck s
  | .commitGraceExpiry => Sys2Proof.Machine.execCommitGraceExpiry s
  | .decodeDeadline => Sys2Proof.Machine.execDecodeDeadline s
  | .releaseDeadline ofs => Sys2Proof.Machine.execReleaseDeadline ofs s
  | .compositionDeadline => Sys2Proof.Machine.execCompositionDeadline s
  | .tickReportDeadline => Sys2Proof.Machine.execTickReportDeadline s
  | .rsiEnableWrite en => Sys2Proof.Machine.execRsiEnableWrite en s
  | .rsiPortEnable p en => Sys2Proof.Machine.execRsiPortEnable p en s
  | .laneDiscoveryStart => Sys2Proof.Machine.execLaneDiscoveryStart s
  | .laneDiscoveryEnd found => Sys2Proof.Machine.execLaneDiscoveryEnd found s
  | .portLock p lanes => Sys2Proof.Machine.execPortLock p lanes s
  | .laneLockLoss p ofs => Sys2Proof.Machine.execLaneLockLoss p ofs s
  | .portDown p ofs => Sys2Proof.Machine.execPortDown p ofs s
  | .portRetry p => Sys2Proof.Machine.execPortRetry p s
  | .crc12Error p ofs => Sys2Proof.Machine.execCrc12Error p ofs s
  | .sysrefArm => Sys2Proof.Machine.execSysrefArm s
  | .sysrefEdge dev arrive => Sys2Proof.Machine.execSysrefEdge dev arrive s
  | .tunerFillComplete n => Sys2Proof.Machine.execTunerFillComplete n s
  | .invalidSampleAbort e => Sys2Proof.Machine.execInvalidSampleAbort e s
  | .frameDetection e ofs d acq => Sys2Proof.Machine.execFrameDetection e ofs d acq s
  | .sfdSearchTimeout e => Sys2Proof.Machine.execSfdSearchTimeout e s
  | .heldFrameOverflow e slice ofs => Sys2Proof.Machine.execHeldFrameOverflow e slice ofs s
  | .modeSwitchPhr e mode ok => Sys2Proof.Machine.execModeSwitchPhr e mode ok s
  | .modeSwitchTimeout e => Sys2Proof.Machine.execModeSwitchTimeout e s
  | .frameConfirmation e ofs x => Sys2Proof.Machine.execFrameConfirmation e ofs x s
  | .sicReplayStart e slice ofs npre stored => Sys2Proof.Machine.execSicReplayStart e slice ofs npre stored s
  | .sicReplayEnd e slice ofs x => Sys2Proof.Machine.execSicReplayEnd e slice ofs x s
  | .tickReport e noise => Sys2Proof.Machine.execTickReport e noise s
  | .earlyHeader e c => Sys2Proof.Machine.execEarlyHeader e c s
  | .codewordStaging e ofs age held c m => Sys2Proof.Machine.execCodewordStaging e ofs age held c m s
  | .headerConfirmTimeout e ofs => Sys2Proof.Machine.execHeaderConfirmTimeout e ofs s
  | .decoderDispatch d ofs => Sys2Proof.Machine.execDecoderDispatch d ofs s
  | .decodeComplete d ofs psdu => Sys2Proof.Machine.execDecodeComplete d ofs psdu s
  | .fastAckWithdraw d ofs => Sys2Proof.Machine.execFastAckWithdraw d ofs s
  | .mirrorAckReceived p seq ofs => Sys2Proof.Machine.execMirrorAckReceived p seq ofs s
  | .reassemblyTimeout => Sys2Proof.Machine.execReassemblyTimeout s
  | .fastAckLaunch e ofs => Sys2Proof.Machine.execFastAckLaunch e ofs s
  | .cellBoundary => Sys2Proof.Machine.execCellBoundary s
  | .cellPlanPost p => Sys2Proof.Machine.execCellPlanPost p s
  | .planAmendment a => Sys2Proof.Machine.execPlanAmendment a s
  | .sfSet c sf len hopg => Sys2Proof.Machine.execSfSet c sf len hopg s
  | .sfDel c sf => Sys2Proof.Machine.execSfDel c sf s
  | .linkAdd c l => Sys2Proof.Machine.execLinkAdd c l s
  | .linkDel c sf pos chofs node => Sys2Proof.Machine.execLinkDel c sf pos chofs node s
  | .nodeRate c node up down airtime => Sys2Proof.Machine.execNodeRate c node up down airtime s
  | .aptReset c node => Sys2Proof.Machine.execAptReset c node s
  | .ebSet c period prof chofs => Sys2Proof.Machine.execEbSet c period prof chofs s
  | .schedQuery c => Sys2Proof.Machine.execSchedQuery c s
  | .csmaBackoffExpiry e ofs power => Sys2Proof.Machine.execCsmaBackoffExpiry e ofs power s
  | .ackWaitExpiry e ofs => Sys2Proof.Machine.execAckWaitExpiry e ofs s
  | .kick fn rings ofs merged b => Sys2Proof.Machine.execKick fn rings ofs merged b s
  | .descriptorFetch ofs d => Sys2Proof.Machine.execDescriptorFetch ofs d s
  | .composeFrame ofs size => Sys2Proof.Machine.execComposeFrame ofs size s
  | .txLaunch e ofs => Sys2Proof.Machine.execTxLaunch e ofs s
  | .txEnd m ofs => Sys2Proof.Machine.execTxEnd m ofs s
  | .dcSubwindowRollover b e => Sys2Proof.Machine.execDcSubwindowRollover b e s
  | .dcPresetLoad b => Sys2Proof.Machine.execDcPresetLoad b s
  | .firCommit banks => Sys2Proof.Machine.execFirCommit banks s
  | .maskViolation p ofs => Sys2Proof.Machine.execMaskViolation p ofs s
  | .maskUngate p => Sys2Proof.Machine.execMaskUngate p s
  | .maskHoldExpiry p => Sys2Proof.Machine.execMaskHoldExpiry p s
  | .feReadbackCheck n ofs level => Sys2Proof.Machine.execFeReadbackCheck n ofs level s
  | .trickleFire ix => Sys2Proof.Machine.execTrickleFire ix s
  | .trickleExpiry => Sys2Proof.Machine.execTrickleExpiry s
  | .seenEntryExpiry => Sys2Proof.Machine.execSeenEntryExpiry s
  | .hifReset speed width => Sys2Proof.Machine.execHifReset speed width s
  | .functionLevelReset fn => Sys2Proof.Machine.execFunctionLevelReset fn s
  | .ringEnable fn r => Sys2Proof.Machine.execRingEnable fn r s
  | .txRingDisable fn r => Sys2Proof.Machine.execTxRingDisable fn r s
  | .partRingDisable fn r => Sys2Proof.Machine.execPartRingDisable fn r s
  | .rxDelivery => Sys2Proof.Machine.execRxDelivery s
  | .sbkSpaceReturn => Sys2Proof.Machine.execSbkSpaceReturn s
  | .fqPollTagRead => Sys2Proof.Machine.execFqPollTagRead s
  | .portSelect p => Sys2Proof.Machine.execPortSelect p s
  | .backhaulPacket p t pkt => Sys2Proof.Machine.execBackhaulPacket p t pkt s
  | .ethLinkDown p => Sys2Proof.Machine.execEthLinkDown p s
  | .ethLinkUp p => Sys2Proof.Machine.execEthLinkUp p s
  | .ethTxPolarityFlip p => Sys2Proof.Machine.execEthTxPolarityFlip p s
  | .tcmdRead ofs table => Sys2Proof.Machine.execTcmdRead ofs table s
  | .tcmdSearch ofs table => Sys2Proof.Machine.execTcmdSearch ofs table s
  | .tcmdInsert ofs table took => Sys2Proof.Machine.execTcmdInsert ofs table took s
  | .tcmdDelete ofs table => Sys2Proof.Machine.execTcmdDelete ofs table s
  | .tcmdReplace ofs table => Sys2Proof.Machine.execTcmdReplace ofs table s
  | .tcmdInvalidOp ofs op table => Sys2Proof.Machine.execTcmdInvalidOp ofs op table s
  | .ntcmdRead region => Sys2Proof.Machine.execNtcmdRead region s
  | .ntcmdWrite region => Sys2Proof.Machine.execNtcmdWrite region s
  | .emtRebuild p => Sys2Proof.Machine.execEmtRebuild p s
  | .emtClearDone p => Sys2Proof.Machine.execEmtClearDone p s
  | .joinFill p => Sys2Proof.Machine.execJoinFill p s
  | .joinFillDone p => Sys2Proof.Machine.execJoinFillDone p s
  | .agingWalk => Sys2Proof.Machine.execAgingWalk s
  | .shadowConfirm x => Sys2Proof.Machine.execShadowConfirm x s
  | .fwdDivRead => Sys2Proof.Machine.execFwdDivRead s
  | .keyGenerate src a => Sys2Proof.Machine.execKeyGenerate src a s
  | .keyImport src a => Sys2Proof.Machine.execKeyImport src a s
  | .keyStage src a => Sys2Proof.Machine.execKeyStage src a s
  | .keyCommit src a => Sys2Proof.Machine.execKeyCommit src a s
  | .keyCancel src a => Sys2Proof.Machine.execKeyCancel src a s
  | .keyDestroy src a => Sys2Proof.Machine.execKeyDestroy src a s
  | .keyQuery src a => Sys2Proof.Machine.execKeyQuery src a s
  | .kvAttest src a => Sys2Proof.Machine.execKvAttest src a s
  | .kvRandom src a => Sys2Proof.Machine.execKvRandom src a s
  | .nodeImport src a => Sys2Proof.Machine.execNodeImport src a s
  | .nodeRestore src a => Sys2Proof.Machine.execNodeRestore src a s
  | .kvInvalidCode code a => Sys2Proof.Machine.execKvInvalidCode code a s
  | .kvCommandComplete ofs => Sys2Proof.Machine.execKvCommandComplete ofs s
  | .journalEntryWritten ref good => Sys2Proof.Machine.execJournalEntryWritten ref good s
  | .tamperEvent ns low => Sys2Proof.Machine.execTamperEvent ns low s
  | .sensorTrip k => Sys2Proof.Machine.execSensorTrip k s
  | .epochAdvance => Sys2Proof.Machine.execEpochAdvance s
  | .entropyHealthFail => Sys2Proof.Machine.execEntropyHealthFail s
  | .entropyRecovery => Sys2Proof.Machine.execEntropyRecovery s
  | .timeSet => Sys2Proof.Machine.execTimeSet s
  | .timeStep => Sys2Proof.Machine.execTimeStep s
  | .offsetDelivery ofs firmware ns => Sys2Proof.Machine.execOffsetDelivery ofs firmware ns s
  | .servoSrcWrite src => Sys2Proof.Machine.execServoSrcWrite src s
  | .servoHoldoverTimeout ofs => Sys2Proof.Machine.execServoHoldoverTimeout ofs s
  | .ppsInEdge ofs rising dev => Sys2Proof.Machine.execPpsInEdge ofs rising dev s
  | .ppsInMiss ofs => Sys2Proof.Machine.execPpsInMiss ofs s
  | .ppsOutPulse ofs => Sys2Proof.Machine.execPpsOutPulse ofs s
  | .timeNowRead ofs => Sys2Proof.Machine.execTimeNowRead ofs s
  | .timeTbRead => Sys2Proof.Machine.execTimeTbRead s
  | .ptpFrameReceived ofs p o dev => Sys2Proof.Machine.execPtpFrameReceived ofs p o dev s
  | .ptpRxstatRead firmware => Sys2Proof.Machine.execPtpRxstatRead firmware s
  | .ptpTxGo firmware len p one tag => Sys2Proof.Machine.execPtpTxGo firmware len p one tag s
  | .ptpTxDone ofs dev => Sys2Proof.Machine.execPtpTxDone ofs dev s
  | .ptpTxtsRead => Sys2Proof.Machine.execPtpTxtsRead s
  | .relock => Sys2Proof.Machine.execRelock s
  | .pllLock kvco => Sys2Proof.Machine.execPllLock kvco s
  | .pllLossOfLock => Sys2Proof.Machine.execPllLossOfLock s
  | .refLoss r => Sys2Proof.Machine.execRefLoss r s
  | .refEdgesReturn r => Sys2Proof.Machine.execRefEdgesReturn r s
  | .monitorWindowEnd ofs d01 off0 off1 => Sys2Proof.Machine.execMonitorWindowEnd ofs d01 off0 off1 s
  | .clkForce => Sys2Proof.Machine.execClkForce s
  | .clkoutConfigWrite n src fmt div => Sys2Proof.Machine.execClkoutConfigWrite n src fmt div s
  | .clkoutShort n => Sys2Proof.Machine.execClkoutShort n s
  | .clkoutShortRetry n again => Sys2Proof.Machine.execClkoutShortRetry n again s
  | .clusterFaultReport ofs => Sys2Proof.Machine.execClusterFaultReport ofs s
  | .clusterRestart => Sys2Proof.Machine.execClusterRestart s
  | .clusterBootEnd c => Sys2Proof.Machine.execClusterBootEnd c s
  | .handover => Sys2Proof.Machine.execHandover s
  | .clusterDisable c => Sys2Proof.Machine.execClusterDisable c s
  | .wardenFault ofs => Sys2Proof.Machine.execWardenFault ofs s
  | .wardenRecovered ofs => Sys2Proof.Machine.execWardenRecovered ofs s
  | .mirrorBurstReceived p b ofs => Sys2Proof.Machine.execMirrorBurstReceived p b ofs s
  | .mirrorNakReceived p seq ofs => Sys2Proof.Machine.execMirrorNakReceived p seq ofs s
  | .mirrorBurstMissing p mic => Sys2Proof.Machine.execMirrorBurstMissing p mic s
  | .mirrorRetransmitTimer p seq ofs => Sys2Proof.Machine.execMirrorRetransmitTimer p seq ofs s
  | .receiverLost p => Sys2Proof.Machine.execReceiverLost p s
  | .resyncBurst p ofs => Sys2Proof.Machine.execResyncBurst p ofs s
  | .twinLinkTrained => Sys2Proof.Machine.execTwinLinkTrained s
  | .keyingReceived nonce ver => Sys2Proof.Machine.execKeyingReceived nonce ver s
  | .confirmReceived key ofs => Sys2Proof.Machine.execConfirmReceived key ofs s
  | .confirmRetry ofs => Sys2Proof.Machine.execConfirmRetry ofs s
  | .twinLinkDown => Sys2Proof.Machine.execTwinLinkDown s
  | .leaseRenewalEdge ofs => Sys2Proof.Machine.execLeaseRenewalEdge ofs s
  | .leaseGrant ofs => Sys2Proof.Machine.execLeaseGrant ofs s
  | .transmitLeaseLapse ofs => Sys2Proof.Machine.execTransmitLeaseLapse ofs s
  | .requestHoldoffEnd ofs => Sys2Proof.Machine.execRequestHoldoffEnd ofs s
  | .witPresentChange level ofs => Sys2Proof.Machine.execWitPresentChange level ofs s
  | .leaseYield => Sys2Proof.Machine.execLeaseYield s
  | .forceHoldArm ofs => Sys2Proof.Machine.execForceHoldArm ofs s
  | .forceHoldConfirm ofs => Sys2Proof.Machine.execForceHoldConfirm ofs s
  | .forceHoldDecision ofs => Sys2Proof.Machine.execForceHoldDecision ofs s
  | .forceHoldEnd ofs => Sys2Proof.Machine.execForceHoldEnd ofs s
  | .porstRelease flash => Sys2Proof.Machine.execPorstRelease flash s
  | .porstAssert stage => Sys2Proof.Machine.execPorstAssert stage s
  | .sramInitDone => Sys2Proof.Machine.execSramInitDone s
  | .fwLoad => Sys2Proof.Machine.execFwLoad s
  | .fwLoadDone p => Sys2Proof.Machine.execFwLoadDone p s
  | .fwFlashWriteDone => Sys2Proof.Machine.execFwFlashWriteDone s
  | .bankReverify b good => Sys2Proof.Machine.execBankReverify b good s
  | .fwActivate => Sys2Proof.Machine.execFwActivate s
  | .activationTimeout => Sys2Proof.Machine.execActivationTimeout s
  | .fwAbort => Sys2Proof.Machine.execFwAbort s
  | .commitSvn => Sys2Proof.Machine.execCommitSvn s
  | .fwCold => Sys2Proof.Machine.execFwCold s
  | .facetLoad => Sys2Proof.Machine.execFacetLoad s
  | .facetRequest mask => Sys2Proof.Machine.execFacetRequest mask s
  | .fwDeflistRead => Sys2Proof.Machine.execFwDeflistRead s
  | .lcArm target ofs => Sys2Proof.Machine.execLcArm target ofs s
  | .lcConfirm target ofs => Sys2Proof.Machine.execLcConfirm target ofs s
  | .powerRequest target => Sys2Proof.Machine.execPowerRequest target s
  | .domainSwitchDone => Sys2Proof.Machine.execDomainSwitchDone s
  | .dormantDrainDone => Sys2Proof.Machine.execDormantDrainDone s
  | .loupeSealDone => Sys2Proof.Machine.execLoupeSealDone s
  | .wakeTimer => Sys2Proof.Machine.execWakeTimer s
  | .wakeGpio n rising => Sys2Proof.Machine.execWakeGpio n rising s
  | .padRelease => Sys2Proof.Machine.execPadRelease s
  | .thermalShutdown => Sys2Proof.Machine.execThermalShutdown s
  | .memEccLogRead => Sys2Proof.Machine.execMemEccLogRead s
  | .dramTrain => Sys2Proof.Machine.execDramTrain s
  | .dramTrainDone size => Sys2Proof.Machine.execDramTrainDone size s
  | .windowOpen w => Sys2Proof.Machine.execWindowOpen w s
  | .windowFillDone => Sys2Proof.Machine.execWindowFillDone s
  | .windowClose w => Sys2Proof.Machine.execWindowClose w s
  | .loupePeriodicSeal => Sys2Proof.Machine.execLoupePeriodicSeal s
  | .loupeSeal => Sys2Proof.Machine.execLoupeSeal s
  | .loupeExport => Sys2Proof.Machine.execLoupeExport s
  | .loupeSelect id bin => Sys2Proof.Machine.execLoupeSelect id bin s
  | .debugAuthArm p level ofs => Sys2Proof.Machine.execDebugAuthArm p level ofs s
  | .debugAuthConfirm p ofs => Sys2Proof.Machine.execDebugAuthConfirm p ofs s
  | .debugAuthDecision p ofs => Sys2Proof.Machine.execDebugAuthDecision p ofs s
  | .debugAuthDrop p => Sys2Proof.Machine.execDebugAuthDrop p s
  | .debugAuthExpiry p ofs => Sys2Proof.Machine.execDebugAuthExpiry p ofs s
  | .quietViewRead p words ofs => Sys2Proof.Machine.execQuietViewRead p words ofs s
  | .debugConsume p words ofs => Sys2Proof.Machine.execDebugConsume p words ofs s
  | .debugWrite p words e => Sys2Proof.Machine.execDebugWrite p words e s
  | .dbgHalt p c ofs => Sys2Proof.Machine.execDbgHalt p c ofs s
  | .dbgStep p c => Sys2Proof.Machine.execDbgStep p c s
  | .dbgResume p c => Sys2Proof.Machine.execDbgResume p c s
  | .jtagInstruction ix => Sys2Proof.Machine.execJtagInstruction ix s
  | .tapReset => Sys2Proof.Machine.execTapReset s
  | .supplyRampUp => Sys2Proof.Machine.execSupplyRampUp s
  | .supplyLoss stage => Sys2Proof.Machine.execSupplyLoss stage s
  | .bootImageVerified => Sys2Proof.Machine.execBootImageVerified s
  | .facetLoadDone o => Sys2Proof.Machine.execFacetLoadDone o s
  | .lcTransitionDone => Sys2Proof.Machine.execLcTransitionDone s

end Sys2Proof.Machine
end

