-- ==== Sys2Proof/Safety.lean ====
section
/-! DEFINITION. What claims call a safe run: the one-time-programmable memory only ever gains, and commands leave the queue in order. -/

namespace Sys2Proof.Machine

/-- Fuses stay programmed and record pairs stay in use (R245, R440, R451). -/
def OtpS.le (a b : OtpS) : Prop := a.epoch ≤ b.epoch ∧ a.svn ≤ b.svn ∧ a.pairs.length ≤ b.pairs.length

/-- PORST_N is high: the block carries out the commands it gets (R510). -/
def State.live (s : State) : Prop := s.pwr.porstLow = false

/-- The state from which a command works: the outputs of the command before are gone. -/
def State.cleared (s : State) : State := { s with out := [] }

/-- The same at the tick offset that a command names. -/
def State.asOf (s : State) (ofs : Nat) : State := s.cleared.at ofs

/-- The commands at a supply, PORST_N, TAMPER_N or a sensor, which act while PORST_N is low too. -/
def pinCommand : Instr → Bool
  | .porstAssert _ => true
  | .porstRelease _ => true
  | .supplyLoss _ => true
  | .supplyRampUp => true
  | .tamperEvent _ _ => true
  | .sensorTrip _ => true
  | _ => false

/-- A run of `n` steps, by the state it ends in; none where a step stops. -/
def runSteps : Nat → State → Option State
  | 0, s => some s
  | n + 1, s => match step s with
    | .next t => runSteps n t
    | _ => none

/-- The part has at least the fuses burnt and the record pairs in use that `a` has: nothing programmed once is lost (R245, R440, R451). -/
def State.Inv (a : OtpS) (s : State) : Prop := a.le s.otp

end Sys2Proof.Machine
end

