-- ==== Sys2Proof/Certificates/Slice0/Obligations.lean ====
section
/-! DEFINITION. The statements about the model. A statement of the form `exec c s = .next (settle s t)` says the whole next state: every
register, table, queue and counter that `t` does not write is as it was, `settle` leaves the queue of commands and what is programmed, and
`s.cleared` and `s.asOf ofs` are `s` without the outputs of the command before and, for a command that names its instant, with the
tick-offset counter there. Every command's statement rests on three choices of the model: a command names its instant (log entry 2), the
outputs listed are those of the last command (log entry 5), and a part that is not `live` does nothing but for pins (log entry 34). -/

open Sys2Proof Sys2Proof.Machine

/-! ## The queue and the step -/

/-- The step takes the command at the front of the queue and carries it out on the state with the rest of the queue; on an empty queue the
block idles (log entry 1, DESIGN CHOICE). The command table gives no bits, so no word spells a command. -/
def Obligations.StepRunsFrontCommand : Prop :=
  (∀ (c : Instr) (l : List Instr) (s : State), step { s with pending := c :: l } = exec c { s with pending := l }) ∧
  (∀ s : State, s.pending = [] → step s = .next s) ∧
  (∀ nbits w : Nat, decodeTableWord nbits w = none ∧ ∀ s : State, s.withFetchWord nbits w = s)

/-- Every command answers a next state; it leaves the queue as it is and unprograms no fuse and no record pair (R245, R440, R451). -/
def Obligations.EveryCommandAnswers : Prop :=
  ∀ (c : Instr) (s : State), ∃ t, exec c s = .next t ∧ t.pending = s.pending ∧ s.otp.le t.otp

/-- As many steps as commands wait empty the queue, and nothing programmed is lost on the way. -/
def Obligations.QueueRunsInOrder : Prop :=
  ∀ s : State, ∃ t, runSteps s.pending.length s = some t ∧ t.pending = [] ∧ s.otp.le t.otp

/-- While PORST_N is low, a command other than those at a supply, PORST_N, TAMPER_N or a sensor changes nothing but the list of outputs
(log entry 34). -/
def Obligations.PorstLowHoldsStill : Prop :=
  ∀ (c : Instr) (s : State), s.pwr.porstLow = true → pinCommand c = false → exec c s = .next s.cleared

/-- Whatever has been programmed once by some state, every fuse burnt and every record pair in use, a step from that state keeps, for every
command and every state (R245, R440, R451). -/
def Obligations.EveryStepKeepsInv : Prop := ∀ (a : OtpS) (s t : State), step s = .next t → s.Inv a → t.Inv a

/-- At reset the one-time-programmable memory holds the fuses of the part modelled and no record pair (log entry 4, DESIGN CHOICE). -/
def Obligations.ResetMeetsInv : Prop :=
  ∀ a : OtpS, State.reset.Inv a ↔ a.epoch ≤ Config.epochFuses ∧ a.svn ≤ Config.svnFuses ∧ a.pairs = []

/-! ## Registers -/

/-- What the updates that the statements below are written with leave alone: writing, counting or clearing one field leaves every other field
and everything outside the register store; an output or a fresh free value leaves every register; the end of a command leaves all but the
queue and what is programmed once. -/
def Obligations.NamedUpdates : Prop :=
  ∀ (f g : Fld) (v n : Nat) (b : Bool) (o : Output) (s t : State),
    (s.put f v).get f = v % 2 ^ f.w ∧ (s.inc f).get f = min (s.get f + 1) (2 ^ f.w - 1) ∧
    (g.key ≠ f.key → (s.put f v).get g = s.get g ∧ (s.putB f b).get g = s.get g ∧ (s.inc f).get g = s.get g ∧
      (s.incBy f n).get g = s.get g ∧ (s.incIf b f).get g = s.get g) ∧
    s.put f v = { s with regs := (s.put f v).regs } ∧ s.incBy f n = { s with regs := (s.incBy f n).regs } ∧
    s.asOf n = { s with out := [], regs := (s.asOf n).regs } ∧ s.cleared = { s with out := [] } ∧
    (g.key ≠ Reg.SYS_TICK_OFFSET.CLOCKS.key → (s.asOf n).get g = s.get g) ∧
    s.emit o = { s with out := s.out ++ [o] } ∧ s.drawn = { s with core := { s.core with free := s.core.free + 1 } } ∧
    settle s t = { t with pending := s.pending, otp := s.otp.keep t.otp }

/-- When PORST_N is released every register field holds its reset value, in force and as read, and every counter page reads 0. -/
def Obligations.ResetValues : Prop :=
  (∀ f : Fld, State.reset.get f = f.rst ∧ State.reset.eff f = f.rst) ∧
  (∀ k : Nat, State.reset.hif.tcnt.get k = 0 ∧ State.reset.lpe.cnt.get k = 0) ∧
  State.reset.get Reg.MAC_CELL.LEN = 80 ∧ State.reset.get Reg.CLK_PLL.N = 192 ∧ State.reset.live ∧ State.reset.pending = []

/-- R9, of a field that no other row and no rule of its own holds back: RW takes the value written, RWL takes it until SYS_LOCK, W1C
clears the bits written as 1, and RO, RC and WO fields keep what they hold. Every other field keeps its value. -/
def Obligations.RegisterFieldTypes : Prop :=
  ∀ (f : Fld) (v : Nat) (s : State),
    (f.ty = .rw → (fieldStore f v s).get f = v % 2 ^ f.w) ∧
    (f.ty = .rwl → s.get Reg.SYS_LOCK.LOCK = 0 → (fieldStore f v s).get f = v % 2 ^ f.w) ∧
    (f.ty = .rwl → s.get Reg.SYS_LOCK.LOCK ≠ 0 → fieldStore f v s = s) ∧
    (f.ty = .w1c → s.get f < 2 ^ f.w → (fieldStore f v s).get f = s.get f - (s.get f &&& v)) ∧
    (f.ty = .ro ∨ f.ty = .rc ∨ f.ty = .wo → fieldStore f v s = s) ∧
    (∀ g : Fld, g.key ≠ f.key → (fieldStore f v s).get g = s.get g) ∧
    (∀ g : Fld, g.key ≠ f.key → (fieldStore f v s).eff g = s.eff g)

/-- R16: a write of a tick-aligned field is read at once and takes effect at the next boundary; any other RW field takes effect when
written. -/
def Obligations.TickAligned : Prop :=
  ∀ (f : Fld) (v : Nat) (s : State), f.ty = .rw →
    (fieldStore f v s).get f = v % 2 ^ f.w ∧
    (f.ta = true → (fieldStore f v s).eff f = s.eff f) ∧
    (f.ta = false → s.inForce.find? f.key = none → (fieldStore f v s).eff f = v % 2 ^ f.w) ∧
    ((∀ n : Nat, f.key ≠ (Reg.PRSM_TUn_STAT.ON_ALT n).key) → ∀ t : State, (alignedApply t).eff f = t.get f)

/-- REGISTER_WRITE by the PF, a VF or the TAP; where the source reaches nothing it does nothing. Sources 258 to 514 write BAR2 and
515 to 771 the configuration space of a function (R286, R316; log entry 46). A write with fewer than four byte
enables is discarded and counted, and SYS_LOCK locks. What rests on log entry 14 is the model's choice. -/
def Obligations.RegisterWrites : Prop :=
  ∀ (w : Fin 16777216) (v : BitVec 32) (ofs : Fin 122880) (s : State), s.live →
    (∀ (src : Fin 772) (b : Nat), src.val < 257 → fnOn s src = true → accessOff s src (4 * w) = false → busAddr src (4 * w) = some b →
      exec (.registerWrite src w v ofs) s = .next (settle s (hostWord b v.toNat (s.asOf ofs)))) ∧
    (∀ src : Fin 772, src.val < 257 → fnOn s src = false ∨ (busAddr src (4 * w) = none ∧ accessOff s src (4 * w) = false) →
      exec (.registerWrite src w v ofs) s = .next (settle s (s.asOf ofs))) ∧
    (∀ src : Fin 772, src.val < 257 → fnOn s src = true → accessOff s src (4 * w) = true →
      exec (.registerWrite src w v ofs) s = .next (settle s ((s.asOf ofs).inc Reg.HIF_PD_OFF_ACC.CNT))) ∧
    exec (.registerWrite 257 w v ofs) s = .next (settle s (jtagWord (4 * w) v.toNat (s.asOf ofs))) ∧
    (∀ src : Fin 772, 258 ≤ src.val → src.val < 515 → exec (.registerWrite src w v ofs) s = .next (settle s
      (if fnOn s (src.val - 258) then bar2Write (src.val - 258) (4 * w) v.toNat (s.asOf ofs) else s.asOf ofs))) ∧
    (∀ src : Fin 772, 515 ≤ src.val → exec (.registerWrite src w v ofs) s = .next (settle s
      (if fnThere s (src.val - 515) then configWrite (src.val - 515) w v.toNat (s.asOf ofs) else s.asOf ofs))) ∧
    exec .shortWriteDiscard s = .next (settle s (s.cleared.inc Reg.HIF_SHORT_WR.CNT)) ∧
    exec .sysLock s = .next (settle s (s.cleared.put Reg.SYS_LOCK.LOCK 1))

/-- What a host's word write does: nothing where no register stands (R14), the count alone where the block's domain is off (R39), each
field of a 32-bit register else; of a 64-bit register the low word is held and the high word writes the whole (R13). -/
def Obligations.HostWordWrites : Prop :=
  ∀ (a v : Nat) (s : State),
    (windowOn s a = false → hostWord a v s = s.inc Reg.HIF_PD_OFF_ACC.CNT) ∧
    (windowOn s a = true → regAt a = none → hostWord a v s = s) ∧
    (∀ h : RegHit, windowOn s a = true → regAt a = some h → h.bits = 32 → ignored h.addr s = none →
      hostWord a v s = regWrite h.flds v s) ∧
    (∀ h : RegHit, windowOn s a = true → regAt a = some h → h.bits = 64 → a = h.addr →
      (hostWord a v s).core.lowHeld.find? h.addr = some v ∧ (hostWord a v s).regs = s.regs) ∧
    (∀ (h : RegHit) (low : Nat), windowOn s a = true → regAt a = some h → h.bits = 64 → a ≠ h.addr →
      s.core.lowHeld.find? h.addr = some low → ignored h.addr (setLow h.addr none s) = none →
      hostWord a v s = regWrite h.flds (low + 2 ^ 32 * v) (setLow h.addr none s))

/-- The accesses to 64-bit registers (R13): reading the low word latches the high word, reading the high word empties the latch; a
write of either word of a register goes where a word write goes. The TAP (source 257) reads its own registers so. -/
def Obligations.WideRegisters : Prop :=
  ∀ (w : Fin 16777216) (v : BitVec 32) (ofs : Fin 122880) (s : State), s.live →
    (∀ (src : Fin 258) (k x : Nat), src.val ≠ 257 → fnOn s src = true → accessOff s src (4 * w) = false →
      4 * w.val ≠ Reg.FW_DEFLIST.ITEM.addr → 4 * w.val ≠ Reg.MEM_ECC_LOG.REGION.addr → wide s.cleared src (4 * w) = some (k, x) →
      exec (.read64LowWord src w) s = .next (settle s
        ((latchSet k (x / 2 ^ 32) s.cleared).emit (.readWord src (4 * w) (x % 2 ^ 32))))) ∧
    (∀ (src : Fin 258) (k x h : Nat), src.val ≠ 257 → fnOn s src = true → accessOff s src (4 * w) = false →
      wide s.cleared src (4 * w - 4) = some (k, x) → s.core.latch.find? k = some h →
      exec (.read64HighWord src w) s = .next (settle s
        (State.emit { s.cleared with core := { s.core with latch := s.core.latch.erase k } } (.readWord src (4 * w) h)))) ∧
    (∀ (src : Fin 258) (k x : Nat), src.val ≠ 257 → fnOn s src = true → accessOff s src (4 * w) = false →
      wide s.cleared src (4 * w - 4) = some (k, x) → s.core.latch.find? k = none →
      exec (.read64HighWord src w) s = .next (settle s (s.cleared.emit (.readWord src (4 * w) (x / 2 ^ 32))))) ∧
    (∀ k x : Nat, tapWide s.cleared (4 * w) = some (k, x) →
      exec (.read64LowWord 257 w) s = .next (settle s
        ((latchSet k (x / 2 ^ 32) s.cleared).emit (.readWord 257 (4 * w) (x % 2 ^ 32))))) ∧
    (∀ k x h : Nat, tapWide s.cleared (4 * w - 4) = some (k, x) → s.core.latch.find? k = some h →
      exec (.read64HighWord 257 w) s = .next (settle s
        (State.emit { s.cleared with core := { s.core with latch := s.core.latch.erase k } } (.readWord 257 (4 * w) h)))) ∧
    (∀ (src : Fin 258) (b : Nat) (h : RegHit), src.val ≠ 257 → fnOn s src = true → accessOff s src (4 * w) = false →
      busAddr src (4 * w) = some b → regAt b = some h → h.bits = 64 → h.addr = b →
      exec (.write64LowWord src w v) s = .next (settle s (hostWord b v.toNat s.cleared)) ∧
      exec (.write64HighWord src w v ofs) s = .next (settle s (hostWord (b + 4) v.toNat (s.asOf ofs))))

/-! ## Ticks, deadlines and cells -/

/-- TICK_BOUNDARY: before the synthesizer first locks nothing happens; then the tick ends, its offset returns to 0 and the count of ticks goes
up, Prism gives the samples of the tick, and the commands of the commit, the tick-aligned writes and the blocks' work follow in that order (R15, R16, R17, R345).
What rests on log entries 2 and 45 is the model's choice. -/
def Obligations.TickBoundaries : Prop :=
  ∀ (e : TickEnv) (s : State), s.live → let u := s.cleared
    (u.time.going = false → exec (.tickBoundary e) s = .next (settle s u)) ∧
    (u.time.going = true → exec (.tickBoundary e) s = .next (settle s
      (let old := txClip (commitApply (prismTick e.rx (advanceTick (endOfTick u)))); tickRest u.mac.running old e (alignedApply old)))) ∧
    (advanceTick u).ofs = 0 ∧ (advanceTick u).tick = (u.tick + 1) % 2 ^ 64 ∧ (advanceTick u).core.ticks = u.core.ticks + 1

/-- A commit's commands take effect in their order at the boundary, and no commit is left (R15, R387); the cell plans posted are accepted with
it (R181), and of the active cluster the effective facet values come first.
What rests on log entries 30 and 45 is the model's choice. -/
def Obligations.CommitTakesEffect : Prop :=
  ∀ (c : Commit) (x : FwCmd) (l : List FwCmd) (s : State), c.cmds = x :: l → clActive s = false →
    commitApply { s with wdn := { s.wdn with accepted := some c } } =
      forEach l fwApply (fwApply x (plansAccept c { s with wdn := { s.wdn with accepted := none, posted := none } })) ∧
    (∀ t : State, t.wdn.accepted = none → commitApply t = plansAccept default { t with wdn := { t.wdn with posted := none } })

/-- What the deadlines in a tick do (R18, R19, R23, R24): one frame, packet or report that is late is given up and counted; at the cut-off
every function's positions are written and the composition intake closes (R34). What rests on log entry 2 is the model's choice. -/
def Obligations.TickDeadlines : Prop :=
  ∀ (e : Nat) (c : CeS) (f : RxFrame) (r : Frame) (d : FDesc) (ofs : Fin 122880) (s : State), s.live →
    let u := s.cleared
    let v := s.asOf ofs
    let w := s.asOf Config.ofsDecode
    exec .intakeCutoff s = .next (settle s (forEach (posFns u) posRecord
      (modHif (fun h => { h with intakeOpen := false }) (s.asOf Config.ofsIntake)))) ∧
    (composeDue u = [] → exec .compositionDeadline s = .next (settle s u)) ∧
    (composeDue u = [d] → exec .compositionDeadline s = .next (settle s (composeLate d u))) ∧
    (u.rx.ce.filter (fun x => x.2.report.isSome) = [(e, c)] → exec .tickReportDeadline s = .next (settle s
      (modCe e (fun c => { c with report := none }) (overrun Reg.SYS_OVR_STAT.CE_RPT_LATE (u.inc (Reg.CE_RPT_LATE.CNT e)))))) ∧
    (rxFrames w = [(e, f.fseq)] → findRx w e f.fseq = some f → rxDue w f = true →
      exec .decodeDeadline s = .next (settle s (dupSettle (dupDeadline (lateFrame e f w))))) ∧
    (rxFrames w = [(e, f.fseq)] → findRx w e f.fseq = some f → rxDue w f = false →
      exec .decodeDeadline s = .next (settle s (dupSettle (dupDeadline w)))) ∧
    (v.sec.release = [r] → releaseLate v r = true → exec (.releaseDeadline ofs) s = .next (settle s
      (releaseDrop r { v with sec := { v.sec with release := [] } }))) ∧
    (v.sec.release = [r] → releaseLate v r = false → exec (.releaseDeadline ofs) s = .next (settle s v))

/-- The tick commit (R25, R387 to R391): posted before the Warden's check it waits for it; at the check a valid one is accepted, any other
counts as missing; a cluster that took the lease in this tick has until 120 µs. What rests on log entries 2, 27 and 35 is the model's choice. -/
def Obligations.CommitRules : Prop :=
  ∀ (ofs : Fin 122880) (tick : Nat) (ok : Bool) (cmds : List FwCmd) (s : State), s.live →
    let u := s.asOf ofs
    let v := s.asOf Config.ofsCheck
    let w := s.asOf (usClk 120)
    (clActive u = true → u.on (Reg.DBG_CCc_STAT.HALTED (clHolder u)) = false → u.ofs < Config.ofsCheck →
      exec (.tickCommit ofs tick ok cmds) s = .next (settle s
        (modWdn (fun w => { w with posted := some { tick := tick, crcOk := ok, late := decide (Config.ofsCommit < u.ofs) && decide (u.ofs < Config.ofsCheck), cmds := cmds, plans := (u.wdn.posted.elim ([], []) (fun c => (c.plans, c.amends))).1 ++ u.mac.fresh, amends := (u.wdn.posted.elim ([], []) (fun c => (c.plans, c.amends))).2 ++ u.mac.freshAmends } }) (bufferClear u)))) ∧
    (∀ c : Commit, clActive v = true → v.wdn.accepted = none → v.wdn.posted = some c → commitOk v c = true →
      exec .wardenCommitCheck s = .next (settle s
        ((modWdn (fun w => { w with accepted := some c, posted := none, misses := 0 }) v).incIf c.late Reg.WDN_CMT_LATE.CNT))) ∧
    (∀ c : Commit, clActive v = true → v.wdn.accepted = none → v.wdn.posted = some c → commitOk v c = false →
      v.wdn.tookIn ≠ some v.core.ticks →
      exec .wardenCommitCheck s = .next (settle s (missCommit (modWdn (fun w => { w with posted := none }) v)))) ∧
    (clActive v = true → v.wdn.accepted = none → v.wdn.posted = none → v.wdn.tookIn ≠ some v.core.ticks →
      exec .wardenCommitCheck s = .next (settle s (missCommit v))) ∧
    (clActive w = true → w.wdn.accepted = none → w.wdn.tookIn = some w.core.ticks → exec .commitGraceExpiry s = .next (settle s
      (overrun Reg.SYS_OVR_STAT.CMT_MISS (w.inc Reg.WDN_CMT_MISS.CNT)))) ∧
    (w.wdn.tookIn ≠ some w.core.ticks → exec .commitGraceExpiry s = .next (settle s w))

/-- R25: a valid commit posted after 80 µs and before the check at 85 µs is accepted at the check and counted in WDN_CMT_LATE; one posted
after the check is discarded (of a cluster that holds the lease since before this tick). -/
def Obligations.LateCommit : Prop :=
  ∀ (ofs : Fin 122880) (tick : Nat) (cmds : List FwCmd) (s : State), s.live → clActive s = true →
    s.get (Reg.DBG_CCc_STAT.HALTED (clHolder s)) = 0 → s.wdn.tookIn ≠ some s.core.ticks →
    (s.wdn.accepted = none → tick = (s.tick + 1) % 2 ^ 64 → s.ofs ≤ ofs → Config.ofsCommit < ofs.val → ofs.val < Config.ofsCheck →
      ∃ t u, exec (.tickCommit ofs tick true cmds) s = .next t ∧ exec .wardenCommitCheck t = .next u ∧
        u.wdn.accepted = some { tick := tick, crcOk := true, late := true, cmds := cmds
                                plans := (s.wdn.posted.elim ([], []) (fun c => (c.plans, c.amends))).1 ++ s.mac.fresh
                                amends := (s.wdn.posted.elim ([], []) (fun c => (c.plans, c.amends))).2 ++ s.mac.freshAmends } ∧
        u.get Reg.WDN_CMT_LATE.CNT = min (s.get Reg.WDN_CMT_LATE.CNT + 1) (2 ^ 32 - 1)) ∧
    (∀ ok : Bool, Config.ofsCheck ≤ (s.asOf ofs).ofs → exec (.tickCommit ofs tick ok cmds) s = .next (settle s (bufferClear (s.asOf ofs))))

/-- Cells (R7, R181, R183): a boundary whose tick starts a cell begins it once; a plan for one of the next three cells replaces the one
posted for it, and once the commit it came with is accepted the one held for it; an amendment within the current cell goes the same way. Any other plan or amendment counts in MAC_PLAN_ERR.
What rests on log entry 37 is the model's choice. -/
def Obligations.Cells : Prop :=
  ∀ (p : Plan) (a : Amend) (s : State), s.live →
    let u := s.cleared
    (cellDue u = false → exec .cellBoundary s = .next (settle s u)) ∧
    (cellDue u = true → exec .cellBoundary s = .next (settle s (faQuery (offerWins (ceStart (cellMac (u.tick / cellLen u)
      (returnTuners (cellFacets (u.tick / cellLen u) (pwrCell (u.tick / cellLen u)
        (modFw (fun f => { f with cellTick := some u.core.ticks }) u)))))))))) ∧
    (cellNo u < p.cell → p.cell ≤ cellNo u + 3 → exec (.cellPlanPost p) s = .next (settle s
      (modMac (fun m => { m with fresh := m.fresh.filter (fun q => q.cell != p.cell) ++ [p] }) u))) ∧
    (∀ c : Commit, c.plans = [p] → c.amends = [a] → plansAccept c u = { u with mac := { u.mac with
      plans := u.mac.plans.filter (fun q => q.cell != p.cell) ++ [p], amends := u.mac.amends ++ [a] } }) ∧
    (p.cell ≤ cellNo u ∨ cellNo u + 3 < p.cell → exec (.cellPlanPost p) s = .next (settle s (u.inc Reg.MAC_PLAN_ERR.CNT))) ∧
    (u.mac.running = true → u.mac.planned = true → u.tick < a.tick → a.tick < (u.mac.cell + 1) * u.mac.len →
      exec (.planAmendment a) s = .next (settle s (modMac (fun m => { m with freshAmends := m.freshAmends ++ [a] }) u))) ∧
    (u.mac.running = false ∨ u.mac.planned = false ∨ a.tick ≤ u.tick ∨ (u.mac.cell + 1) * u.mac.len ≤ a.tick →
      exec (.planAmendment a) s = .next (settle s (u.inc Reg.MAC_PLAN_ERR.CNT)))

/-! ## The RSI ports, lanes and tuners -/

/-- The enables of the RSI (R39, R44, R53, R522): while the window is off the write is counted only; EN of the RSI takes every port to
DISABLED or every enabled port to TRAINING; EN of a port the one port, with the odd port of its lanes judged anew, and a write of 1 to an enabled port changes nothing. -/
def Obligations.PortEnables : Prop :=
  ∀ (en : Bool) (p : Fin 12) (s : State), s.live → let u := s.cleared
    (windowOn u Reg.RSI_CTRL.EN.addr = false →
      exec (.rsiEnableWrite en) s = .next (settle s (u.inc Reg.HIF_PD_OFF_ACC.CNT)) ∧
      exec (.rsiPortEnable p en) s = .next (settle s (u.inc Reg.HIF_PD_OFF_ACC.CNT))) ∧
    (windowOn u Reg.RSI_CTRL.EN.addr = true →
      exec (.rsiEnableWrite false) s = .next (settle s (forEach (List.range 12) disablePort (u.put Reg.RSI_CTRL.EN 0))) ∧
      (u.on Reg.RSI_CTRL.EN = false → exec (.rsiEnableWrite true) s = .next (settle s
        (forEach (List.range 12) (fun p t => if t.on (portEn p) then trainPort p t else t) (u.put Reg.RSI_CTRL.EN 1)))) ∧
      (u.on Reg.RSI_CTRL.EN = true → exec (.rsiEnableWrite true) s = .next (settle s (u.put Reg.RSI_CTRL.EN 1))) ∧
      (u.on (portEn p) = false ∨ p.val % 2 = 1 →
        exec (.rsiPortEnable p false) s = .next (settle s (disablePort p ((u.put (portEn p) 0).put (portErr p) 0)))) ∧
      (u.on (portEn p) = true → p.val % 2 = 0 → exec (.rsiPortEnable p false) s = .next (settle s
        (judgePort (p + 1) (disablePort p ((u.put (portEn p) 0).put (portErr p) 0))))) ∧
      (u.on (portEn p) = true → exec (.rsiPortEnable p true) s = .next (settle s (u.put (portEn p) 1))) ∧
      (u.on (portEn p) = false → p.val % 2 = 1 →
        exec (.rsiPortEnable p true) s = .next (settle s (trainPort p (u.put (portEn p) 1)))) ∧
      (u.on (portEn p) = false → p.val % 2 = 0 →
        exec (.rsiPortEnable p true) s = .next (settle s (judgePort (p + 1) (trainPort p (u.put (portEn p) 1))))))

/-- The states of a port (R47, R51, R53, R54): lock, which on an 8b/10b set gives the lane order and polarity, loss of lock, a loss of 2 µs or longer, the retry after it and CRC errors. A port in another
state ignores the event. -/
def Obligations.PortEvents : Prop :=
  ∀ (p : Fin 12) (q : Fin 8) (ofs : Fin 122880) (l : List LaneLock) (x : LaneLock) (s : State), s.live →
    let u := s.cleared
    let v := s.asOf ofs
    (u.get (portState p) = psTRAINING → 8 ≤ p.val ∨ coded8b (u.get (portSet p)) = false →
      exec (.portLock p l) s = .next (settle s (setPort p psALIGNING u))) ∧
    (u.get (portState p) = psTRAINING → p.val < 8 → u.get (portSet p) = 6 → x.lid < 2 → exec (.portLock p [x]) s = .next (settle s
      (setPort p psALIGNING ((u.put (Reg.RSI_RXLANEl.LOGICAL x.lane) (p + x.lid)).putB (Reg.RSI_RXLANEl.POL x.lane) x.inverted)))) ∧
    (u.get (portState p) ≠ psTRAINING → exec (.portLock p l) s = .next (settle s u)) ∧
    (v.get (portState p) = psALIGNING → exec (.laneLockLoss p ofs) s = .next (settle s (setPort p psTRAINING v))) ∧
    (v.get (portState p) = psUP → p.val < 8 → exec (.laneLockLoss p ofs) s = .next (settle s (prismGap p v))) ∧
    (v.get (portState p) = psUP → 8 ≤ p.val → exec (.portDown p ofs) s = .next (settle s (setPort p psDOWN v))) ∧
    (v.get (portState p) = psUP → p.val < 8 → let t := lpe (0x068 + p) (setPort p psDOWN v)
      let d := (t.put (Reg.RSI_RXn_CNT.DOWN_EVT p) (min 65535 (t.get (Reg.RSI_RXn_CNT.DOWN_EVT p) + 1))).put (Reg.RSI_RXn_STAT.DOWN_CAUSE p) 1
      exec (.portDown p ofs) s = .next (settle s (portLost p d))) ∧
    (v.get (portState p) ≠ psUP → exec (.portDown p ofs) s = .next (settle s v)) ∧
    (u.get (portState p) = psDOWN → pdOn u 31 = true → 8 ≤ p.val ∨ pdOn u (quadPd p) = true →
      exec (.portRetry p) s = .next (settle s (setPort p psTRAINING u))) ∧
    (portPowered u p = false → exec (.portRetry p) s = .next (settle s u)) ∧
    (u.get (portState p) ≠ psDOWN → exec (.portRetry p) s = .next (settle s u)) ∧
    (let t := lpe (0x060 + q) v
     let d := t.put (Reg.RSI_RXn_CNT.CRC_ERR q) (min 65535 (t.get (Reg.RSI_RXn_CNT.CRC_ERR q) + 1))
     exec (.crc12Error q ofs) s = .next (settle s (if d.on (Reg.RSI_RXn_CFG.CRC_ACT q) then prismGap q d else d)))

/-- Lane discovery (R49, R50), SYSREF (R55, R56) and what a tuner's fill and an INVALID sample do (R73, R74, R105). -/
def Obligations.LanesAndTuners : Prop :=
  ∀ (found : List (List Bool)) (dev : Fin 30720) (arrive : List Nat) (n e : Fin 128) (f : RxFrame) (s : State), s.live →
    let u := s.cleared
    let seen := u.put Reg.RSI_SYSREF_STAT.IN_SEEN 1
    let gone := takeFrame e f.fseq (dropFrame e f 0x04 0 (u.inc (Reg.CE_ABORT_SYNC.CNT e)))
    (windowOn u Reg.RSI_CTRL.EN.addr = true → exec .laneDiscoveryStart s = .next (settle s
      (forEach (List.range 8) (fun p t => if t.get (portState p) = psTRAINING then setPort p psDISCOVERY t else t)
        ((u.put Reg.RSI_CTRL.DISC_START 1).put Reg.RSI_CTRL.DISC_DONE 0)))) ∧
    exec (.laneDiscoveryEnd found) s = .next (settle s (laneDiscoveryEnd found u)) ∧
    laneDiscoveryEnd [] u =
      forEach (List.range 8) (fun p t => if t.get (portState p) = psDISCOVERY then setPort p psTRAINING t else t)
        (forEach (List.range 8) (fun l t => t.putB (Reg.RSI_RXLANEl.FOUND l) false)
          (((u.put Reg.RSI_CTRL.DISC_START 0).put Reg.RSI_CTRL.DISC_DONE 1).put Reg.RSI_CTRL.DISC_FOUND 0)) ∧
    (windowOn u Reg.RSI_SYSREF.MODE.addr = true → exec .sysrefArm s = .next (settle s
      (armSync (modRsi (fun r => { r with armPulse := true, armEdge := u.on Reg.RSI_SYSREF.SRC }) u)))) ∧
    (windowOn u Reg.RSI_SYSREF.MODE.addr = false → exec .sysrefArm s = .next (settle s (u.inc Reg.HIF_PD_OFF_ACC.CNT))) ∧
    (sysrefMode u = 0 → sysrefBoundary arrive u = armSync (modRsi (fun r => { r with armPulse := false, armEdge := false }) u)) ∧
    (u.on Reg.RSI_SYSREF.SRC = false → exec (.sysrefEdge dev arrive) s = .next (settle s u)) ∧
    (u.on Reg.RSI_SYSREF.SRC = true → sysrefMode u = 2 → exec (.sysrefEdge dev arrive) s = .next (settle s (applyEdge dev arrive seen))) ∧
    (u.on Reg.RSI_SYSREF.SRC = true → sysrefMode u = 1 → u.rsi.armEdge = true → exec (.sysrefEdge dev arrive) s = .next (settle s
      (armSync (modRsi (fun r => { r with armEdge := false }) (applyEdge dev arrive seen))))) ∧
    (u.on Reg.RSI_SYSREF.SRC = true → sysrefMode u = 0 → exec (.sysrefEdge dev arrive) s = .next (settle s seen)) ∧
    (u.get (Reg.PRSM_TUn_STAT.STATE n) = 1 → exec (.tunerFillComplete n) s = .next (settle s (tunerFilled n u))) ∧
    ((tunerFilled n u).get (Reg.PRSM_TUn_STAT.STATE n) = if u.get (Reg.PRSM_TUn_STAT.STATE n) = 1 then 2 else u.get (Reg.PRSM_TUn_STAT.STATE n)) ∧
    (u.get (Reg.PRSM_TUn_STAT.STATE n) ≠ 1 → exec (.tunerFillComplete n) s = .next (settle s u)) ∧
    ((ceOf u e).cur = some f → (ceOf u e).held = [] → exec (.invalidSampleAbort e) s = .next (settle s
      (modCe e (fun c => { c with ringSince := gone.clk }) gone))) ∧
    ((ceOf u e).cur = none → (ceOf u e).held = [] → exec (.invalidSampleAbort e) s = .next (settle s
      (modCe e (fun c => { c with ringSince := u.clk }) u)))

/-! ## Reception -/

/-- A detection (R82, R87, R97): an engine that listens counts it; in SEARCH, in a window, it begins a frame where the acquisition holds;
during a frame it is a candidate captor. A detection that does not meet the engine's rule is none.
What rests on log entries 11 and 39 is the model's choice. -/
def Obligations.Detections : Prop :=
  ∀ (e : Fin 128) (ofs : Fin 122880) (d : Detect) (acq : Option Acq) (a : Acq) (f : RxFrame) (w : RxWin) (s : State), s.live →
    let u := s.asOf ofs
    let v := modCe e (fun c => { c with dets := c.dets + 1 }) (u.inc (Reg.CE_DET_CNT.CNT e))
    (ceListens u e = false ∨ detects u e d = false → exec (.frameDetection e ofs d acq) s = .next (settle s (dupSettle u))) ∧
    (ceListens u e = true → detects u e d = true → (ceOf u e).cur = some f →
      exec (.frameDetection e ofs d acq) s = .next (settle s (dupSettle (candidate e f d f.win acq v)))) ∧
    (ceListens u e = true → detects u e d = true → (ceOf u e).cur = none → searchWin u e = none →
      exec (.frameDetection e ofs d acq) s = .next (settle s (dupSettle u))) ∧
    (ceListens u e = true → detects u e d = true → (ceOf u e).cur = none → searchWin u e = some w →
      exec (.frameDetection e ofs d acq) s = .next (settle s (dupSettle (beginFrame e (some w) acq id v)))) ∧
    (acqFound v e a = true → acqOk v e a = true → (streamsIn v e).contains false = false →
      beginFrame e (some w) (some a) id v = ceSync e (modCe e (fun c =>
      { c with cur := some (newFrame v e (some w) (some a)), fseq := (c.fseq + 1) % 65536, busyFrom := some (c.busyFrom.getD a.syncClk) }) v)) ∧
    (acqFound v e a = true → acqOk v e a = true → (streamsIn v e).contains false = true →
      beginFrame e (some w) (some a) id v = ceSync e (modCe e (fun c => { c with
        cur := some { newFrame v e (some w) (some a) with dropped := true }, fseq := (c.fseq + 1) % 65536, busyFrom := some (c.busyFrom.getD a.syncClk) })
        (v.inc (Reg.CE_DIV_DROP.CNT e)))) ∧
    (acqFound v e a = true → acqOk v e a = false → beginFrame e (some w) (some a) id v =
      ceSync e (modCe e (fun c => { c with cur := none }) (v.inc (Reg.CE_SYNC_FAIL.CNT e))))

/-- The other ends of a reception in progress: the SFD limit (R87), the hold capacity of a held frame (R99), a PHR that announces a mode
and the end of its announcement (R84). What rests on log entry 39 is the model's choice. -/
def Obligations.ReceptionEvents : Prop :=
  ∀ (e : Fin 128) (k : Fin 2) (mode : Fin 16) (ok : Bool) (ofs : Fin 122880) (f : RxFrame) (a : Acq) (s : State), s.live →
    let u := s.cleared
    let v := s.asOf ofs
    let back (e : Nat) (f : RxFrame) (u : State) : State := modCe e (fun c => { c with fseq := f.fseq }) (ceFree e u)
    ((ceOf u e).cur = some f → f.acq = none → f.captor = false →
      exec (.sfdSearchTimeout e) s = .next (settle s (dupSettle (ceFree e (u.inc (Reg.CE_SYNC_FAIL.CNT e)))))) ∧
    ((ceOf u e).cur = some f → f.acq = none → f.captor = true → exec (.sfdSearchTimeout e) s = .next (settle s
      (dupSettle (captorOutcome e f.fseq false (ceFree e (u.inc (Reg.CE_SYNC_FAIL.CNT e))))))) ∧
    ((ceOf u e).cur = none → exec (.sfdSearchTimeout e) s = .next (settle s (dupSettle u))) ∧
    ((ceOf v e).held.find? (fun h => h.slice == k.val) = some f → f.acq = some a →
      holdCap v e k f.phy ≤ samplesIn (engChain v e) (v.clk - a.startClk) → v.clk < frameEnd f →
      exec (.heldFrameOverflow e k ofs) s = .next (settle s
        (dupSettle (lpe 0x033 ((sicFail e f.fseq 0x08 4 v).inc (Reg.CE_SIC_NOBUF.CNT e)))))) ∧
    ((ceOf v e).held.find? (fun h => h.slice == k.val) = none → exec (.heldFrameOverflow e k ofs) s = .next (settle s (dupSettle v))) ∧
    ((ceOf u e).cur = some f → f.phy = 0 → f.acq = some a → (ceFree e u).eff (Reg.CE_MODE.MODE e) / 16 % 2 = 1 →
      chainFor 0 mode = some (engChain (back e f u) e) → exec (.modeSwitchPhr e mode true) s = .next (settle s
        (dupSettle (modCe e (fun c => { c with msMode := some mode.val }) (back e f u))))) ∧
    ((ceOf u e).cur = some f → f.phy = 0 → f.acq = some a → ok = false ∨ (ceFree e u).eff (Reg.CE_MODE.MODE e) / 16 % 2 = 0 →
      exec (.modeSwitchPhr e mode ok) s = .next (settle s (dupSettle ((back e f u).inc (Reg.CE_MS_REJECT.CNT e))))) ∧
    ((ceOf u e).cur = none → exec (.modeSwitchTimeout e) s = .next (settle s
      (dupSettle (modCe e (fun c => { c with msMode := none }) u)))) ∧
    ((ceOf u e).cur = some f → exec (.modeSwitchTimeout e) s = .next (settle s (dupSettle u)))

/-- How a frame that an engine decodes itself ends (R85, R102, R103, R104, R134): confirmed, failed or late; and the tick's report (R113).
What rests on log entries 8, 10, 13, 38 and 39 is the model's choice. -/
def Obligations.FrameEnds : Prop :=
  ∀ (e : Fin 128) (k : Fin 2) (ofs : Fin 122880) (x : Confirm) (f g : RxFrame) (a : Acq) (noise : Nat × Nat) (npre : Fin 65) (stored : List (Int × Int)) (rg : Regen) (busy dets : Nat)
    (arr : List Int) (c : Nat) (s : State), s.live →
    let u := s.cleared
    let v := s.asOf ofs
    let w := modFrame e f.fseq (fun _ => measured f x) v
    let z := v.incIf (faInelig v e x.psdu x.octets.length) Reg.MAC_FA_INELIG.CNT
    let floor := if noise.2 = 0 then 0x1FF else powerField noise.1 noise.2
    ((ceOf v e).cur = some f → f.phy ≠ 3 → f.acq = some a → f.lastClk.getD 0 ≤ v.clk →
      exec (.frameConfirmation e ofs x) s = .next (settle s (dupSettle (confirmEngine e f x v)))) ∧
    ((ceOf v e).cur = none → exec (.frameConfirmation e ofs x) s = .next (settle s (dupSettle v))) ∧
    confirmEngine e f x v = engineEnd e (measured f x) x w ∧
    (decodeLate v g = true → engineEnd e g x v = lateFrame e g v) ∧
    (decodeLate v g = false → g.phy = 1 → x.hcsOk = false ∨ 6 < x.mcs → engineEnd e g x v = decodeFail e g 0x01 v) ∧
    (decodeLate v g = false → g.phy = 2 → 127 < x.octets.length → engineEnd e g x v = decodeFail e g 0x01 v) ∧
    (decodeLate v g = false → phrBad g x = false → fcsOk g x = false → engineEnd e g x v = decodeFail e g 0x02 v) ∧
    (decodeLate v g = false → phrBad g x = false → fcsOk g x = true → engineEnd e g x v =
      confirmFrame e g x.psdu x.octets.length (fcsOf g x) (x.octets.flatMap (bitsLsb 8)) (faElig z e x.psdu x.octets.length && !g.held) z) ∧
    (2 ≤ x.octets.length → x.fcs4 = false → (fcsOk g x = true ↔
      ofOctets (x.octets.drop (x.octets.length - 2)) = crc16 (x.octets.take (x.octets.length - 2)))) ∧
    ((ceOf v e).held.find? (fun h => h.slice == k.val && h.captorOk && !h.replay && decide (frameEnd h ≤ v.clk)) = some f →
      f.regen = some rg → exec (.sicReplayStart e k ofs npre stored) s = .next (settle s (dupSettle (modFrame e f.fseq
        (fun g => { g with replay := true, hdrStaged := none, residual := sicResidual v e npre f rg stored }) v)))) ∧
    ((ceOf v e).held = [] → exec (.sicReplayStart e k ofs npre stored) s = .next (settle s (dupSettle v))) ∧
    ((ceOf v e).held.find? (fun h => h.slice == k.val && h.replay) = some f → f.phy ≠ 3 →
      exec (.sicReplayEnd e k ofs x) s = .next (settle s
        (dupSettle (confirmEngine e f { x with octets := Config.oqpskOctets f.residual } v)))) ∧
    ((ceOf v e).held.find? (fun h => h.slice == k.val && h.replay) = some f → f.phy = 3 → x.hcsOk = false → decodeLate v f = false →
      exec (.sicReplayEnd e k ofs x) s = .next (settle s (dupSettle (decodeFail e f 0x02 v)))) ∧
    ((ceOf v e).held.find? (fun h => h.slice == k.val && h.replay) = some f → f.phy = 3 → x.hcsOk = true →
      exec (.sicReplayEnd e k ofs x) s = .next (settle s (dupSettle v))) ∧
    ((ceOf v e).cur = some f → f.hdrStaged = some c → f.hdr = none → c + samplesClk (engChain v e) 64 ≤ v.clk →
      exec (.headerConfirmTimeout e ofs) s = .next (settle s
        (dupSettle (frameFail e f 0x03 (v.inc Reg.DEC_HDR_LATE.CNT))))) ∧
    ((ceOf v e).cur = some f → f.hdrStaged = some c → f.hdr = none → v.clk < c + samplesClk (engChain v e) 64 →
      exec (.headerConfirmTimeout e ofs) s = .next (settle s (dupSettle v))) ∧
    ((ceOf u e).report = some (busy, dets, arr) → exec (.tickReport e noise) s = .next (settle s
      ((modCe e (fun c => { c with report := none }) (((u.put (Reg.CE_TREP.BUSY e) (min 255 (clocksNs busy / 500))).put (Reg.CE_TREP.NOISE e)
        floor).put (Reg.CE_TREP.DETS e) (min 255 dets))).emit
        (.toFirmware "tick report" ([e.val, busy, floor, dets] ++ arr.map (ofSigned 32)))))) ∧
    ((ceOf u e).report = none → exec (.tickReport e noise) s = .next (settle s u))

/-- The LD header and codewords on their way through staging and the decoder array (R132 to R142, R26).
What rests on log entry 39 is the model's choice. -/
def Obligations.DecoderArray : Prop :=
  ∀ (e : Fin 128) (d : Fin 24) (ofs : Fin 122880) (age : Fin 1967) (held ok : Bool) (x : List Bool) (chips : Chips) (m : Meas)
    (psdu : Psdu) (f : RxFrame) (a : Acq) (h : LdHdr) (j : DecJob) (c : CwS) (n : Nat) (s : State), s.live →
    let u := s.cleared
    let v := s.asOf ofs
    let bits := (softBits u e 4 0 36 f chips).map (fun v => decide (v < 0))
    let w := lpe 0x038 (modFrame e f.fseq (fun f => { f with early := some (hNode bits), specUsed := true }) u)
    let y := nthOf w (hNode bits)
    let z := decSync (modRx (fun r => { r with jobs := r.jobs.erase d }) (v.incBy Reg.DEC_ITER_TOT.CNT n))
    ((ceOf u e).cur = some f → f.phy = 3 → f.acq = some a → f.hdr = none → f.early = none → f.hdrStaged = none →
      u.effOn Reg.DEC_CTRL.SPEC_EARLY = true → exec (.earlyHeader e chips) s = .next (settle s (dupSettle
        (if hVer bits = 0 ∧ hDir bits = false ∧ 1 ≤ hLen bits then specStart e (hNode bits) f.fseq true
          (if y.joined && secretsOpen (windowKeys w) && (nodeKeyOf (windowKeys w) y.endpoint ((windowKeys w).kv.secrets.get y.endpoint).tenant).isSome then
            cacheKey y.endpoint (lpe 0x03C (windowKeys w)) else windowKeys w)
        else u)))) ∧
    ((ceOf u e).cur = none → exec (.earlyHeader e chips) s = .next (settle s (dupSettle u))) ∧
    ((ceOf v e).cur = some f → f.phy = 3 → f.acq = some a → f.hdr = none → f.hdrStaged = none →
      exec (.codewordStaging e ofs age false chips m) s = .next (settle s (dupSettle (stageHeader e f chips v)))) ∧
    ((ceOf v e).cur = some f → f.phy = 3 → f.acq = some a → f.hdr = some h →
      exec (.codewordStaging e ofs age false chips m) s = .next (settle s (dupSettle (stagePayload e age f h chips m v)))) ∧
    ((ceOf v e).cur = none → (ceOf v e).held = [] →
      exec (.codewordStaging e ofs age held chips m) s = .next (settle s (dupSettle v))) ∧
    (v.rx.jobs.find? d = none → pdOn v (decPd d) = true →
      cwFirst (v.rx.staged.filter (fun c => !decide (d.val < min 12 (v.eff Reg.DEC_CTRL.FA_RSV)) || decide (cwClass c ≤ 2))) = some c →
      exec (.decoderDispatch d ofs) s = .next (settle s (dupSettle (decSync (modRx (fun r => { r with
        staged := r.staged.erase c
        jobs := r.jobs.insert d ⟨c, v.clk, if c.hdr then maxHdr v else if c.faElig then max (maxFa v) (maxPay v) else maxPay v,
          maxFa v, false⟩ }) v))))) ∧
    (v.rx.jobs.find? d = some j → exec (.decoderDispatch d ofs) s = .next (settle s (dupSettle v))) ∧
    (v.rx.jobs.find? d = some j → decodeCw j = (n, ok, x) → v.clk < j.start + cwClocks (jobCode j) n →
      exec (.decodeComplete d ofs psdu) s = .next (settle s (dupSettle v))) ∧
    (v.rx.jobs.find? d = some j → decodeCw j = (n, ok, x) → j.start + cwClocks (jobCode j) n ≤ v.clk → j.cw.hdr = true →
      j.cw.faElig = false → findRx z j.cw.engine j.cw.fseq = some f → f.held = false →
      exec (.decodeComplete d ofs psdu) s = .next (settle s (dupSettle (headerDone j.cw.engine n ok f x z)))) ∧
    (v.rx.jobs.find? d = some j → decodeCw j = (n, ok, x) → j.start + cwClocks (jobCode j) n ≤ v.clk → j.cw.hdr = false →
      j.cw.faElig = false → findRx z j.cw.engine j.cw.fseq = some f → decodeLate z f = false →
      exec (.decodeComplete d ofs psdu) s = .next (settle s (dupSettle (payloadDone j.cw.engine n ok j.cw f x psdu z)))) ∧
    (v.rx.jobs.find? d = none → exec (.decodeComplete d ofs psdu) s = .next (settle s (dupSettle v)) ∧
      exec (.fastAckWithdraw d ofs) s = .next (settle s (dupSettle v))) ∧
    (v.rx.jobs.find? d = some j → j.cw.hdr = false → j.cw.faElig = true → j.withdrawn = false →
      j.start + cwClocks (jobCode j) j.faLimit ≤ v.clk → decodeCw j = (n, ok, x) → ok = false ∨ j.faLimit < n →
      exec (.fastAckWithdraw d ofs) s = .next (settle s (dupSettle (faWithdraw d j v))))

/-! ## Medium access -/

/-- Scheduler commands (R184 to R191, R208, R312, R415): each does what its code says at its turn in its function's CMD ring and completes with
its status; one that is refused, or sent to a follower, changes no slotframe, link, rate or beacon. It waits for those of tenants of lower
numbers (R209). Which links the scheduler chooses for a rate is free (log entry 10). What rests on log entry 37 is the model's choice. -/
def Obligations.SchedulerCommands : Prop :=
  ∀ (c : CmdSrc) (e : CmdEntry) (sf len hopg pos chofs node up down airtime period prof : Nat) (l : Link) (f : Slotframe) (s : State),
    s.live →
    let u := s.cleared
    let t := e.ten c.fn
    let m := { l with tenant := t, auto := false }
    let g : Slotframe := ⟨t, sf, len, hopg⟩
    let put := modMac (fun m => { m with sfs := m.sfs.filter (fun x => !(x.tenant == t && x.sf == sf)) ++ [g] }) u
    let clear := modMac (fun m => { m with
      links := m.links.filter (fun x => !(x.auto && x.tenant == t && x.node == node)), rates := m.rates.filter (fun x => x.node != node) }) u
    let chosen := rateLinks u t node up down airtime
    (cmdNext u c.fn 0x20 = some e → lowerWaits u t = true → exec (.sfSet c sf len hopg) s = .next (settle s u)) ∧
    (lowerWaits u t = false →
    (cmdNext u c.fn 0x20 = some e → isFollower u = false → sf ≤ 3 → 1 ≤ len → len ≤ 65535 → hopg ≤ 15 → hopg = u.eff (Reg.MAC_Tt_POL.HOPG t) →
      (sfOf u t sf).isSome = true ∨ u.mac.sfs.length < 64 →
      (u.mac.links.filter (fun l => l.tenant == t && l.sf == sf)).any (fun l => u.mac.links.any (fun m => m != l && linkClash put g l m)) = false →
      exec (.sfSet c sf len hopg) s = .next (settle s (schedFinish c e 0x20 0 noMore put))) ∧
    (cmdNext u c.fn 0x20 = some e → isFollower u = false → sf ≤ 3 → 1 ≤ len → len ≤ 65535 → hopg ≤ 15 → hopg = u.eff (Reg.MAC_Tt_POL.HOPG t) →
      (u.mac.links.filter (fun l => l.tenant == t && l.sf == sf)).any (fun l => u.mac.links.any (fun m => m != l && linkClash put g l m)) = true →
      exec (.sfSet c sf len hopg) s = .next (settle s (schedFinish c e 0x20 stNO_SPACE noMore u))) ∧
    (cmdNext u c.fn 0x20 = some e → isFollower u = false → 3 < sf ∨ len = 0 ∨ 65535 < len ∨ 15 < hopg →
      exec (.sfSet c sf len hopg) s = .next (settle s (schedFinish c e 0x20 stBAD_PARAM noMore u))) ∧
    (cmdNext u c.fn 0x20 = some e → isFollower u = true →
      exec (.sfSet c sf len hopg) s = .next (settle s (schedFinish c e 0x20 stDENIED noMore u))) ∧
    (cmdNext u c.fn 0x20 = none → exec (.sfSet c sf len hopg) s = .next (settle s u)) ∧
    (cmdNext u c.fn 0x21 = some e → isFollower u = false → (sfOf u t sf).isSome = true → exec (.sfDel c sf) s = .next (settle s
      (schedFinish c e 0x21 0 noMore (modMac (fun m => { m with
        sfs := m.sfs.filter (fun x => !(x.tenant == t && x.sf == sf))
        links := m.links.filter (fun x => !(x.tenant == t && x.sf == sf)) }) u)))) ∧
    (cmdNext u c.fn 0x21 = some e → isFollower u = false → sfOf u t sf = none →
      exec (.sfDel c sf) s = .next (settle s (schedFinish c e 0x21 stBAD_PARAM noMore u))) ∧
    (cmdNext u c.fn 0x22 = some e → isFollower u = false → sfOf u t m.sf = some f → m.pos < f.len → m.chofs ≤ 63 → m.kind ≤ 6 →
      m.node ≤ 262143 → m.ofs ≤ 511999 → m.span ≤ 511999 → m.lead ≤ 65535 → m.prof ≤ 15 →
      (m.kind ≠ 0 ∧ m.kind ≠ 3) ∨ ownNode u t m.node = true → (u.mac.links.filter (fun x => x.tenant == t)).length < linkQuota u t →
      u.mac.links.length < 524288 → u.mac.links.any (linkClash u f m) = false → exec (.linkAdd c l) s = .next (settle s
        (schedFinish c e 0x22 0 noMore (modMac (fun x => { x with links := x.links ++ [m] }) u)))) ∧
    (cmdNext u c.fn 0x23 = some e → isFollower u = false → (sfOf u t sf).isSome = true → node ≤ 262143 → chofs ≤ 63 →
      u.mac.links.any (fun x => x.tenant == t && x.sf == sf && x.pos == pos && x.chofs == chofs && x.node == node) = true →
      exec (.linkDel c sf pos chofs node) s = .next (settle s (schedFinish c e 0x23 0 noMore (modMac (fun m => { m with
        links := m.links.filter (fun x => !(x.tenant == t && x.sf == sf && x.pos == pos && x.chofs == chofs && x.node == node)) }) u)))) ∧
    (cmdNext u c.fn 0x23 = some e → isFollower u = false → (sfOf u t sf).isSome = true → node ≤ 262143 → chofs ≤ 63 →
      u.mac.links.any (fun x => x.tenant == t && x.sf == sf && x.pos == pos && x.chofs == chofs && x.node == node) = false →
      ownNode u t node = false → exec (.linkDel c sf pos chofs node) s = .next (settle s (schedFinish c e 0x23 stDENIED noMore u))) ∧
    (cmdNext u c.fn 0x24 = some e → isFollower u = false → node ≤ 262143 → ownNode u t node = true → 0 < up ∨ 0 < down →
      exec (.nodeRate c node up down airtime) s = .next (settle s (if linksFit clear t chosen then schedFinish c e 0x24 0 noMore
        (modMac (fun m => { m with links := m.links ++ chosen, rates := m.rates ++ [⟨t, node, up, down, airtime⟩] }) clear).drawn
        else schedFinish c e 0x24 stNO_SPACE noMore u))) ∧
    (cmdNext u c.fn 0x24 = some e → isFollower u = false → node ≤ 262143 → ownNode u t node = false →
      exec (.nodeRate c node up down airtime) s = .next (settle s (schedFinish c e 0x24 stDENIED noMore u))) ∧
    (cmdNext u c.fn 0x25 = some e → isFollower u = false → node ≤ 262143 → ownNode u t node = true →
      exec (.aptReset c node) s = .next (settle s (schedFinish c e 0x25 0 noMore
        (modMac (fun m => { m with resets := setAdd m.resets node }) u)))) ∧
    (cmdNext u c.fn 0x26 = some e → isFollower u = false → prof ≤ 15 → chofs ≤ 63 → 0 < period →
      exec (.ebSet c period prof chofs) s = .next (settle s (schedFinish c e 0x26 0 noMore
        (modMac (fun m => { m with beacons := m.beacons.filter (fun x => x.tenant != t) ++ [⟨t, period, prof, chofs⟩] }) u)))) ∧
    (cmdNext u c.fn 0x27 = some e → isFollower u = false →
      exec (.schedQuery c) s = .next (settle s (schedFinish c e 0x27 0 schedUse u))))

/-- The sequencer's timers: CSMA-CA backoff (R204), the end of an ACK wait (R203) and the launch of an acknowledgement (R196 to R200).
The drawn number of backoff periods is free (log entry 6). What rests on log entry 38 is the model's choice. -/
def Obligations.MacTimers : Prop :=
  ∀ (e : Fin 128) (m : Nat) (ofs : Fin 122880) (power : Int) (c : Csma) (w : AckWait) (a d : AckPend)
    (s : State), s.live →
    let v := s.asOf ofs
    let b := v.inc Reg.MAC_CSMA_BUSY.CNT
    let be := min (c.be + 1) (csmaMaxBe b)
    let z := beforeFw c.engine v
    let prof := v.eff (Reg.MAC_ENGn_ACK.PROF a.engine)
    (v.mac.csma.find? (fun c => c.engine == e.val && decide (c.due ≤ v.clk)) = none → exec (.csmaBackoffExpiry e ofs power) s = .next (settle s v)) ∧
    (v.mac.csma.find? (fun c => c.engine == e.val && decide (c.due ≤ v.clk)) = some c → ccaBusy v e power = true → b.get Reg.MAC_CSMA_CFG.MAX_BO < c.nb + 1 →
      exec (.csmaBackoffExpiry e ofs power) s = .next (settle s (csmaDefer c (b.inc Reg.MAC_CSMA_FAIL.CNT)))) ∧
    (v.mac.csma.find? (fun c => c.engine == e.val && decide (c.due ≤ v.clk)) = some c → ccaBusy v e power = true → c.nb + 1 ≤ b.get Reg.MAC_CSMA_CFG.MAX_BO →
      exec (.csmaBackoffExpiry e ofs power) s = .next (settle s (modMac (fun m => { m with csma := m.csma.map (fun y =>
        if y = c then { c with nb := c.nb + 1, be := be, due := backoffEnd b c.win be } else y) }) b).drawn)) ∧
    (v.mac.csma.find? (fun c => c.engine == e.val && decide (c.due ≤ v.clk)) = some c → ccaBusy v e power = false →
      verdict z false true c.engine c.win.w.prof c.frame.len (some (csmaRoom z c.win)) = .go m →
      exec (.csmaBackoffExpiry e ofs power) s = .next (settle s (txStart m c.engine c.win.w.prof c.frame.len (.fw c.frame)
        (modMac (fun m => { m with csma := m.csma.filter (fun y => y != c) }) z)))) ∧
    (acksDue v = [] → winsDue v = [] → z = v) ∧
    (v.mac.waits.filter (fun w => w.engine == e.val && decide (w.hi < v.clk) && !waitBusy v w) = [w] →
      exec (.ackWaitExpiry e ofs) s = .next (settle s (waitEnd w v))) ∧
    (v.mac.waits.filter (fun w => w.engine == e.val && decide (w.hi < v.clk) && !waitBusy v w) = [] →
      exec (.ackWaitExpiry e ofs) s = .next (settle s v)) ∧
    (acksDue v = [a] → a.engine = e.val → exec (.fastAckLaunch e ofs) s =
      .next (settle s (ackLaunch a (modMac (fun m => { m with acks := m.acks.filter (fun b => b != a) }) v)))) ∧
    (acksDue v = [a, d] → a.engine < d.engine → d.engine = e.val →
      exec (.fastAckLaunch e ofs) s = .next (settle s (ackServe d (ackServe a v)))) ∧
    ((acksDue v).any (fun a => a.engine == e.val) = false → exec (.fastAckLaunch e ofs) s = .next (settle s v)) ∧
    (v.clk < a.ready → ackLaunch a v = ackUnsent a (overrun Reg.SYS_OVR_STAT.ACK_LATE (v.inc Reg.MAC_ACK_LATE.CNT))) ∧
    (a.ready ≤ v.clk → holdsTx v = false → ackLaunch a v = v.inc Reg.MAC_NOLEASE_ACK.CNT) ∧
    (a.ready ≤ v.clk → holdsTx v = true → a.secured = false → verdict v true true a.engine prof a.psduLen none = .go m →
      ackLaunch a v = ackSent a (txStart m a.engine prof a.psduLen (.ack a) v))

/-! ## Transmission -/

/-- A packet's way to the air (R295 to R304, R278, R200, R204, R281): the KICK, the fetch of its descriptor, composition, launch and end.
What rests on log entry 38 is the model's choice. -/
def Obligations.TransmitPath : Prop :=
  ∀ (fn : Fin 257) (rings : Fin 65536) (ofs : Fin 122880) (b : Bell) (p : Packet) (o : Option RawDesc) (raw : RawDesc) (j : FetchJob)
    (q : List FetchJob) (st : Nat) (fd : FDesc) (fl : List FDesc) (size : Fin 2048) (e : Fin 128) (x : WinS)
    (m : Fin 32) (tx : TxS) (f : AirFrame) (g : FwFrame) (ak : AckPend) (s : State), s.live →
    windowOn s.cleared Reg.HIF_PF_KICK.RINGS.addr = true →
    let v := s.asOf ofs
    let k := sampleFn fn (if rings.val = 0 then 0xFFFF else rings) true b (modFn fn (fun q => { q with kicks := q.kicks + 1 }) v)
    let y := modMac (fun m => { m with wins := m.wins.map (fun y => if y = x then { y with used := true } else y) }) v
    let d := descUnpack raw
    let w := descReads j (some d) v
    let r := txRemove m tx (tx.start + t3Clocks tx.onAir) false v
    (fnOn v fn = false ∨ v.on (Reg.HIF_FN_CTRL.EN fn) = false → exec (.kick fn rings ofs false b) s = .next (settle s v)) ∧
    (fnOn v fn = true → v.on (Reg.HIF_FN_CTRL.EN fn) = true → v.on (Reg.HIF_FN_STAT.FLR fn) = false → v.pwr.quiet = false →
      v.get Reg.HIF_CFG.KICK_MAX ≤ (v.hif.fns.get fn).kicks → exec (.kick fn rings ofs false b) s = .next (settle s (fnCnt fn 0x2040 1 v))) ∧
    (fnOn v fn = true → v.on (Reg.HIF_FN_CTRL.EN fn) = true → v.on (Reg.HIF_FN_STAT.FLR fn) = false → v.pwr.quiet = false →
      (v.hif.fns.get fn).kicks < v.get Reg.HIF_CFG.KICK_MAX → k.hif.fetchQ.any (fun j => j.fn == fn.val && j.kick) = false →
      exec (.kick fn rings ofs false b) s = .next (settle s (posRecord fn k))) ∧
    (v.hif.fetchQ = [] → exec (.descriptorFetch ofs o) s = .next (settle s v)) ∧
    (v.hif.fetchQ = j :: q → ringRunning v j.fn j.ring = false → exec (.descriptorFetch ofs o) s = .next (settle s (fetchEnd j v))) ∧
    (v.hif.fetchQ = j :: q → ringRunning v j.fn j.ring = true → ringRunning v j.fn ringTXCPL = true →
      (v.hif.fns.get j.fn).outstanding < ringFree v j.fn ringTXCPL →
      exec (.descriptorFetch ofs none) s = .next (settle s (fetchEnd j (ringError j.fn j.ring 4 (descReads j none v)))) ∧
      (descBad v (descTenant j d) d = none → d.pkt = some p →
        (tqOf v (descTenant j d) (d.queue % 32)).depth + (wordsOf d.len + 1) ≤ v.get (Reg.TM_Tt_Qq_CFG.LIMIT (descTenant j d) (d.queue % 32)) →
        wordsOf d.len + 1 ≤ v.get Reg.TM_POOL.FREE →
        exec (.descriptorFetch ofs (some raw)) s = .next (settle s (fetchNext j (descAccept (descRef w j d) d p (descCount j d w))))) ∧
      (descBad v (descTenant j d) d = some st →
        exec (.descriptorFetch ofs (some raw)) s = .next (settle s (fetchNext j (completeTx (descRef w j d) st 0 0 (descCount j d w)))))) ∧
    (composeDue v = fd :: fl → exec (.composeFrame ofs size) s = .next (settle s (composeOne fd size v))) ∧
    (composeDue v = [] → exec (.composeFrame ofs size) s = .next (settle s v)) ∧
    (txWindow v e = none → exec (.txLaunch e ofs) s = .next (settle s v)) ∧
    (winsDue v = [x] → x.w.engine = e.val → acksDue v = [] →
      (x.w.kind = 3 → exec (.txLaunch e ofs) s = .next (settle s (launchNode e { x with used := true } y))) ∧
      (x.w.kind = 4 → exec (.txLaunch e ofs) s = .next (settle s (launchFw e x y))) ∧
      (x.w.kind = 5 → exec (.txLaunch e ofs) s = .next (settle s (startCsma e x y))) ∧
      (x.w.kind = 6 → exec (.txLaunch e ofs) s = .next (settle s (launchFlood e x y)))) ∧
    (winsDue v = [x] → x.w.engine = e.val → exec (.txLaunch e ofs) s = .next (settle s (winServe x (forEach (acksDue v) ackServe v)))) ∧
    (v.txc.mods.find? m = none → exec (.txEnd m ofs) s = .next (settle s v)) ∧
    (v.txc.mods.find? m = some tx → v.clk < tx.start + t3Clocks tx.onAir → exec (.txEnd m ofs) s = .next (settle s v)) ∧
    (v.txc.mods.find? m = some tx → tx.start + t3Clocks tx.onAir ≤ v.clk →
      (tx.kind = .data f → exec (.txEnd m ofs) s = .next (settle s (sentFrame tx f r))) ∧
      (tx.kind = .fw g → g.isAck = false → exec (.txEnd m ofs) s = .next (settle s (sentFrame tx (fwAir g) r))) ∧
      (tx.kind = .fw g → g.isAck = true → exec (.txEnd m ofs) s = .next (settle s r)) ∧
      (tx.kind = .ack ak → exec (.txEnd m ofs) s = .next (settle s r)))

/-- Duty-cycle budgets and FIR banks (R156, R166, R169): a sub-window that starts is emptied, once in its tick; a preset or a commit is asked for until its
boundary. A write to the window of the composer that is off is counted only. -/
def Obligations.Budgets : Prop :=
  ∀ (b : Fin 4) (e : Fin 16) (banks : Fin 65536) (s : State), s.live → let u := s.cleared
    let k := 16 * b.val + e.val
    (u.on (sbEnFld k) = true → u.tick % sbSw (sbOf u k) = 0 → (sbOf u k).rolled ≠ u.core.ticks + 1 →
      exec (.dcSubwindowRollover b e) s = .next (settle s
        (sbSync k (modSb k (fun x => { x with sw := listSet x.sw 0 (sbTurn u x % 60) 0, rolled := u.core.ticks + 1 }) u)))) ∧
    (u.on (sbEnFld k) = false ∨ u.tick % sbSw (sbOf u k) ≠ 0 ∨ (sbOf u k).rolled = u.core.ticks + 1 → exec (.dcSubwindowRollover b e) s = .next (settle s u)) ∧
    (windowOn u (Reg.TXC_BANDb_DC.PRESET b).addr = true →
      exec (.dcPresetLoad b) s = .next (settle s (u.put (Reg.TXC_BANDb_DC.PRESET b) 1))) ∧
    (windowOn u Reg.TXC_FIR_COMMIT.BANKS.addr = true → exec (.firCommit banks) s = .next (settle s
      (u.put Reg.TXC_FIR_COMMIT.BANKS (u.get Reg.TXC_FIR_COMMIT.BANKS ||| banks.val / 4)))) ∧
    (windowOn u (Reg.TXC_BANDb_DC.PRESET b).addr = false → exec (.dcPresetLoad b) s = .next (settle s (u.inc Reg.HIF_PD_OFF_ACC.CNT))) ∧
    (windowOn u Reg.TXC_FIR_COMMIT.BANKS.addr = false → exec (.firCommit banks) s = .next (settle s (u.inc Reg.HIF_PD_OFF_ACC.CNT)))

/-- The spectral mask and the front-end pins (R172, R173, R176): with EN = 1 the first bin over its limit counts VIOL and stands in FIRST_BIN, and
with ACT = 1 a port that is not gated gates; a write of UNGATE and the end of HOLD are kept for the boundary, at which the port ungates. A pin that reads
back as it is driven changes nothing; one that does not sets its bit of RB_ERR and counts, and with RB_GATE = 1 one that serves a port gates that port,
where it is not gated. -/
def Obligations.MaskAndFrontEnd : Prop :=
  ∀ (p : Fin 4) (n : Fin 16) (ofs : Fin 122880) (level : Bool) (g : Nat) (s : State), s.live →
    let u := s.cleared
    let v := s.asOf ofs
    let c (b : Int) : State := (v.put (Reg.TXC_MASKp_STAT.VIOL p) (min (2 ^ 16 - 1) (v.get (Reg.TXC_MASKp_STAT.VIOL p) + 1))).putS (Reg.TXC_MASKp_STAT.FIRST_BIN p) b
    let f := feSync (s.asOf ofs)
    let r := (f.put Reg.TXC_FE_STAT.RB_ERR (f.get Reg.TXC_FE_STAT.RB_ERR ||| 2 ^ n.val)).inc Reg.TXC_FE_RB.CNT
    let port := r.get (Reg.TXC_FEn_CFG.PORT n)
    (v.on (Reg.TXC_MASKp_CTRL.EN p) = true → v.on (Reg.TXC_MASKp_CTRL.ACT p) = false →
      exec (.maskViolation p ofs) s = .next (settle s ((maskFirst v p).elim v c))) ∧
    (v.on (Reg.TXC_MASKp_CTRL.EN p) = true → v.on (Reg.TXC_MASKp_CTRL.ACT p) = true → v.on (Reg.TXC_MASKp_STAT.GATED p) = false →
      exec (.maskViolation p ofs) s = .next (settle s ((maskFirst v p).elim v (fun b => gatePort p false (c b))))) ∧
    (v.on (Reg.TXC_MASKp_CTRL.EN p) = true → v.on (Reg.TXC_MASKp_CTRL.ACT p) = true → v.on (Reg.TXC_MASKp_STAT.GATED p) = true →
      exec (.maskViolation p ofs) s = .next (settle s ((maskFirst v p).elim v c))) ∧
    (v.on (Reg.TXC_MASKp_CTRL.EN p) = false → exec (.maskViolation p ofs) s = .next (settle s v)) ∧
    (windowOn u (Reg.TXC_MASKp_CTRL.UNGATE p).addr = true →
      exec (.maskUngate p) s = .next (settle s (u.put (Reg.TXC_MASKp_CTRL.UNGATE p) 1))) ∧
    (u.on (Reg.TXC_MASKp_STAT.GATED p) = true → u.get (Reg.TXC_MASKp_CTRL.HOLD p) ≠ 0 → u.txc.gateClk.find? p = some g →
      g + u.get (Reg.TXC_MASKp_CTRL.HOLD p) * 122880 ≤ u.clk → exec (.maskHoldExpiry p) s = .next (settle s
        { u with txc := { u.txc with holdDone := setAdd u.txc.holdDone p } })) ∧
    (u.on (Reg.TXC_MASKp_STAT.GATED p) = false ∨ u.get (Reg.TXC_MASKp_CTRL.HOLD p) = 0 → exec (.maskHoldExpiry p) s = .next (settle s u)) ∧
    (ungatePort p u = feSync (modTxc (fun t => { t with gateClk := t.gateClk.erase p, holdDone := setDel t.holdDone p })
      ((u.put (Reg.TXC_MASKp_STAT.GATED p) 0).put (Reg.TXC_MASKp_CTRL.UNGATE p) 0))) ∧
    (f.on (Reg.TXC_FEn_CFG.RB_EN n) = false ∨ bitAt (f.get Reg.TXC_FE_STAT.LEVEL) n = level → exec (.feReadbackCheck n ofs level) s = .next (settle s f)) ∧
    (f.on (Reg.TXC_FEn_CFG.RB_EN n) = true → bitAt (f.get Reg.TXC_FE_STAT.LEVEL) n ≠ level →
      (r.on (Reg.TXC_FEn_CFG.RB_GATE n) = false ∨ r.on (Reg.TXC_MASKp_STAT.GATED port) = true →
        exec (.feReadbackCheck n ofs level) s = .next (settle s r)) ∧
      (r.get (Reg.TXC_FEn_CFG.SRC n) ≠ 1 → r.get (Reg.TXC_FEn_CFG.SRC n) ≠ 2 → exec (.feReadbackCheck n ofs level) s = .next (settle s r)) ∧
      (r.on (Reg.TXC_FEn_CFG.RB_GATE n) = true → r.get (Reg.TXC_FEn_CFG.SRC n) = 1 ∨ r.get (Reg.TXC_FEn_CFG.SRC n) = 2 →
        r.on (Reg.TXC_MASKp_STAT.GATED port) = false → exec (.feReadbackCheck n ofs level) s = .next (settle s (gatePort port true r))))

/-! ## Forwarding, flooding and the host interface -/

/-- What time does to flooded messages, to the seen cache and to reassembly (R274, R281, R283). A timer that fires in the second half of its
message's interval makes a transmission due at that instant unless k consistent copies have been heard, and fires once; at expiry after its
last interval a message leaves the buffer, its skipped transmission counted; an entry past its life leaves the seen cache and raises its
seed's MinSequence; a datagram past its timeout is discarded and counted. What rests on log entry 53 is the model's choice. -/
def Obligations.FloodTimers : Prop :=
  ∀ (i : Fin 256) (m : FloodMsg) (x : Seen) (d : Seed) (c : Reasm) (s : State), s.live → let u := s.cleared
    let late := { m with start := m.start + m.interval, interval := min (2 * m.interval) (iMax u m.tenant), count := m.count + 1, heard := 0,
                         fired := m.kept.isSome, shot := false, waits := false }
    let shot := { m with shot := true, fired := decide (m.heard < max 1 (u.get (Reg.FLD_Tt_CFG.K m.tenant))), fireClk := u.clk }
    (u.fld.buf[i.val]? = some m → u.fld.buf.all (fun y => decide (u.ms < y.start + y.interval)) = true →
      (m.shot = false → u.effOn Reg.FLD_CTRL.EN = true → m.start + m.interval / 2 ≤ u.ms → m.count < maxIntervals u m.tenant →
        exec (.trickleFire i) s = .next (settle s (modFld (fun f => { f with buf := u.fld.buf.set i shot }) u))) ∧
      (m.shot = true ∨ u.effOn Reg.FLD_CTRL.EN = false ∨ u.ms < m.start + m.interval / 2 → exec (.trickleFire i) s = .next (settle s u))) ∧
    (u.fld.buf.all (fun y => decide (u.ms < y.start + y.interval)) = true → exec .trickleExpiry s = .next (settle s (fldSync
      { u with fld := { u.fld with buf := u.fld.buf.filter (fun y => decide (y.count < maxIntervals u y.tenant)) } }))) ∧
    (u.fld.buf = [m] → m.start + m.interval ≤ u.ms → m.count + 1 = maxIntervals u m.tenant → ∃ t, exec .trickleExpiry s = .next t ∧
      t.fld.buf = [] ∧ t.fld.seen = u.fld.seen ∧ t.get Reg.FLD_STAT.BUF_USED = 0 ∧
      t.get Reg.FLD_NO_WIN.CNT = (u.incIf (m.fired && m.kept.isNone) Reg.FLD_NO_WIN.CNT).get Reg.FLD_NO_WIN.CNT) ∧
    (u.fld.buf = [m] → m.start + m.interval ≤ u.ms → m.count + 1 < maxIntervals u m.tenant → ∃ t, exec .trickleExpiry s = .next t ∧
      t.fld = { u.fld with buf := [late] }) ∧
    (u.fld.seen.all (fun y => decide (u.clk < y.expire)) = true → exec .seenEntryExpiry s = .next (settle s (fldSync u))) ∧
    (u.fld.seen = [x] → x.expire ≤ u.clk → u.fld.seeds = [d] → d.tenant = x.tenant → d.seed = x.seed → serialOlder x.seq d.minSeq = false →
      exec .seenEntryExpiry s = .next (settle s (fldSync
        { u with fld := { u.fld with seen := [], seeds := [{ d with minSeq := (x.seq + 1) % 256 }] } }))) ∧
    (u.fwd.reasm.all (fun y => decide (u.clk < y.deadline)) = true → exec .reassemblyTimeout s = .next (settle s
      (u.incBy Reg.FWD_REASM_TO.CNT 0))) ∧
    (u.fwd.reasm = [c] → c.deadline ≤ u.clk → exec .reassemblyTimeout s = .next (settle s
      { (u.incBy Reg.FWD_REASM_TO.CNT 1) with fwd := { u.fwd with reasm := [] } }))

/-- Resets and rings of the host interface (R39, R285, R288, R289, R292, R297, R304, R305). -/
def Obligations.RingsAndResets : Prop :=
  ∀ (fn : Fin 257) (r : Fin 16) (tr : Fin 4) (pr : Fin 8) (speed : Fin 6) (width : Fin 5) (s : State), s.live →
    let u := s.cleared
    let en := (((u.put (Reg.HIF_Rr_CFG.EN fn r) 1).put (Reg.HIF_Rr_STAT.STATE fn r) 1).put (Reg.HIF_Rr_STAT.ERR fn r) 0)
    let z := (en.put (Reg.HIF_Rr_POS.POS fn r) 0).put (Reg.HIF_Rr_HPOS.HPOS fn r) 0
    exec (.hifReset speed width) s = .next (settle s
      (((modHif (fun h => { h with fns := [], fetchQ := [], pcie := PcieS.atReset }) (clearRange (fnBase 0) (fnBase 257) (discardFor (fun _ => true) u))).put
        Reg.HIF_STAT.SPEED speed).put Reg.HIF_STAT.WIDTH ([0, 1, 2, 4, 8].getD width 0))) ∧
    exec (.functionLevelReset 0) s = .next (settle s (hifReset (u.get Reg.HIF_STAT.SPEED) (u.get Reg.HIF_STAT.WIDTH) u)) ∧
    (fn.val ≠ 0 → u.hif.fetched.filter (ofRing fn none) = [] →
      exec (.functionLevelReset fn) s = .next (settle s (fnForget fn (discardFor (· == fn.val) u)))) ∧
    (windowOn u (Reg.HIF_Rr_CFG.EN fn r).addr = false → exec (.ringEnable fn r) s = .next (settle s (u.inc Reg.HIF_PD_OFF_ACC.CNT))) ∧
    (windowOn u (Reg.HIF_Rr_CFG.EN fn r).addr = true → ringExists fn r = true → u.on (Reg.HIF_Rr_CFG.EN fn r) = false → fn.val ≠ 0 →
      exec (.ringEnable fn r) s = .next (settle s (noCplSync fn (flushHeld fn r z)))) ∧
    (windowOn u (Reg.HIF_Rr_CFG.EN fn r).addr = true → ringExists fn r = false ∨ u.on (Reg.HIF_Rr_CFG.EN fn r) = true → exec (.ringEnable fn r) s = .next (settle s u)) ∧
    (windowOn u (Reg.HIF_Rr_CFG.EN fn tr).addr = true → u.on (Reg.HIF_Rr_CFG.EN fn tr) = true → exec (.txRingDisable fn tr) s = .next (settle s
      (forEach (u.hif.fetched.filter (ofRing fn (some tr.val))) (fun d t => descEnd d stFLUSHED 0 (dropUnmade d t))
        (modHif (fun h => { h with fetchQ := h.fetchQ.filter (fun j => !(j.fn == fn.val && j.ring == tr.val)) }) (ringOff fn tr u))))) ∧
    (windowOn u (Reg.HIF_Rr_CFG.EN fn tr).addr = true → u.on (Reg.HIF_Rr_CFG.EN fn tr) = false → exec (.txRingDisable fn tr) s = .next (settle s u)) ∧
    (windowOn u (Reg.HIF_Rr_CFG.EN fn (6 + pr)).addr = true → ringExists fn (6 + pr) = true → u.on (Reg.HIF_Rr_CFG.EN fn (6 + pr)) = true → exec (.partRingDisable fn pr) s = .next (settle s
      (noCplSync fn ((u.put (Reg.HIF_Rr_CFG.EN fn (6 + pr)) 0).put (Reg.HIF_Rr_STAT.STATE fn (6 + pr)) 0)))) ∧
    (windowOn u (Reg.HIF_Rr_CFG.EN fn (6 + pr)).addr = true → ringExists fn (6 + pr) = false ∨ u.on (Reg.HIF_Rr_CFG.EN fn (6 + pr)) = false → exec (.partRingDisable fn pr) s = .next (settle s u))

/-- Deliveries to the host (R306 to R308, R325 to R333) and the return of space to the secret-backup ring (R310).
What rests on log entry 42 is the model's choice. -/
def Obligations.HostDeliveries : Prop :=
  ∀ (p : FqPkt) (k : Nat) (s : State), s.live → let u := s.cleared
    let sets := (u.tm.fq.map (·.1)).filter (fun t =>
      decide (t < 256) && (fqHead u t).isSome && canDeliver u t && eligible u (.port portHost) && eligible u (.tenant t portHost))
    (canDeliver u 256 = true → eligible u (.port portHost) = true → fqHead u 256 = some p →
      exec .rxDelivery s = .next (settle s (deliver 256 (charge (.port portHost) (hostCharge u p) u)))) ∧
    (fqHead u 256 = none → leastTag u (sets.map leafHost) = none → exec .rxDelivery s = .next (settle s u)) ∧
    (fqHead u 256 = none → leastTag u (sets.map leafHost) = some k → fqHead u (k - 8192) = some p →
      exec .rxDelivery s = .next (settle s (deliver (k - 8192) (charge (.tenant (k - 8192) portHost) (hostCharge u p)
        (charge (.port portHost) (hostCharge u p) (sentTag portHost k u)))))) ∧
    (u.on Reg.HIF_STAT.SBK_OVF = false → exec .sbkSpaceReturn s = .next (settle s u)) ∧
    (u.on Reg.HIF_STAT.SBK_OVF = true → ringTakes u 0 ringSBK = true → u.hif.sbkAll = false → exec .sbkSpaceReturn s = .next (settle s
      (sbkDrain (modHif (fun h => { h with
        sbkPass := (List.filter (fun e => e.2.valid) u.kv.secrets).map (·.1)
        sbkAll := true }) u)))) ∧
    (u.on Reg.HIF_STAT.SBK_OVF = true → ringTakes u 0 ringSBK = true → u.hif.sbkAll = true →
      exec .sbkSpaceReturn s = .next (settle s (sbkDrain u))) ∧
    (windowOn u Reg.FQ_POLL_TAG.TAG.addr = true → exec .fqPollTagRead s = .next (settle s (pollRead u))) ∧
    (windowOn u Reg.FQ_POLL_TAG.TAG.addr = false → exec .fqPollTagRead s = .next (settle s
      ((u.inc Reg.HIF_PD_OFF_ACC.CNT).emit (.readWord 0 Reg.FQ_POLL_TAG.TAG.addr 0)))) ∧
    (u.on Reg.FQ_POLL_SEL.EN = false → pollRead u =
      ((u.put Reg.FQ_POLL_TAG.TAG 0).put Reg.FQ_POLL_TAG.VALID 0).emit (.readWord 0 Reg.FQ_POLL_TAG.TAG.addr 0))

/-- The Ethernet ports (R331, R333, R334, R276): a port that is down selects nothing and keeps its queues and tags; one that is up takes the
packet of the least finish tag; a packet from it meets the policer and is forwarded. An output inverts 500 ms after the link was lost.
What rests on log entries 18 and 33 is the model's choice. -/
def Obligations.EthernetPorts : Prop :=
  ∀ (p : Fin 2) (tn : Fin 256) (pkt : Packet) (k : Nat) (x y : EthPkt) (l : List EthPkt) (s : State), s.live → let u := s.cleared
    let q := k % 32
    let t := k / 32
    let c := ethCharge u p x
    let m := modTq t q (fun z => { z with eth := y :: l }) u
    let d := tqCnt t q 3 c (tqCnt t q 1 1 (tqTel t q (fun y => { y with dep := y.dep + 1 }) (poolGive x.words
      (charge (.queue t q) c (charge (.tenant t p) c (charge (.port p) c (sentTag p k m)))))))
    (u.tm.linkUp.contains p.val = false → exec (.portSelect (p.castAdd 1)) s = .next (settle s u)) ∧
    (exec (.portSelect 2) s = .next (settle s (hostSelect u))) ∧
    (u.effOn Reg.TM_CTRL.EN = true → u.tm.linkUp.contains p.val = true → leastTag u (ethEligible u p) = some k → (tqOf u t q).eth = x :: y :: l →
      exec (.portSelect (p.castAdd 1)) s = .next (settle s (let z := tqSync t q (headTag p k (ethCharge d p y) d)
        z.emit (.eth p t q x.octets (z.get (Reg.FWD_NHr_MAC.MAC x.nh)) (Config.vlan t) x.pkt)))) ∧
    (u.tm.linkUp.contains p.val = false → exec (.backhaulPacket p tn pkt) s = .next (settle s u)) ∧
    (u.tm.linkUp.contains p.val = true → pdOn u 24 = true → u.on (Bucket.policer tn.val).enFld = false → u.effOn Reg.FWD_CTRL.EN = true →
      (isMulticast pkt.dst = true → exec (.backhaulPacket p tn pkt) s = .next (settle s (multicastIn tn pkt u))) ∧
      (isMulticast pkt.dst = false → exec (.backhaulPacket p tn pkt) s = .next (settle s
        (downlinkIn tn true (Config.fwdProfile u.core.free % 16) (Config.fwdAr u.core.free) pkt u.drawn)))) ∧
    (u.tm.linkUp.contains p.val = true → exec (.ethLinkDown p) s = .next (settle s
      (modTm (fun t => { t with linkUp := setDel t.linkUp p, ethSince := t.ethSince.setD 0 p u.core.ticks }) (lpe (0x070 + p) u)))) ∧
    (pdOn u 24 = true → exec (.ethLinkUp p) s = .next (settle s (modTm (fun t => { t with linkUp := setAdd t.linkUp p }) u))) ∧
    (pdOn u 24 = false → exec (.ethLinkUp p) s = .next (settle s u)) ∧
    (u.tm.linkUp.contains p.val = false → u.tm.ethSince.getD 0 p + 4000 ≤ u.core.ticks → pdOn u 24 = true →
      exec (.ethTxPolarityFlip p) s = .next (settle s (modTm (fun t => { t with
        ethFlip := if t.ethFlip.contains p.val then setDel t.ethFlip p else t.ethFlip ++ [p.val]
        ethSince := t.ethSince.setD 0 p u.core.ticks }) u))) ∧
    (u.tm.linkUp.contains p.val = true ∨ u.core.ticks < u.tm.ethSince.getD 0 p + 4000 →
      exec (.ethTxPolarityFlip p) s = .next (settle s u))

/-- Table commands (R258, R259, R261, R268, R269): while one runs a new one is ignored and counted; otherwise OP and TABLE take the values
written, the operation does its work, and BUSY stays 1 for its clocks, at whose end STATUS holds the outcome.
What rests on log entries 15 and 41 is the model's choice. -/
def Obligations.TableCommands : Prop :=
  ∀ (ofs : Fin 122880) (tb : Fin 4) (took : Fin 4113) (op : Fin 3) (k : Nat) (s : State), s.live →
    windowOn s Reg.FWD_TCMD.GO.addr = true →
    let v := s.asOf ofs
    let w := tcmdSettle v
    let ic := insertClocks s.cleared (if tb.val = 1 then 1 else 0) + (if tb.val = 2 then insertClocks s.cleared 1 else 0)
    let c := if op.val = 0 then 0 else 5 + op.val
    (w.on Reg.FWD_TCMD.BUSY = true →
      exec (.tcmdRead ofs tb) s = .next (settle s (w.inc Reg.FWD_TCMD_IGN.CNT)) ∧
      exec (.tcmdInsert ofs tb took) s = .next (settle s (w.inc Reg.FWD_TCMD_IGN.CNT))) ∧
    (w.on Reg.FWD_TCMD.BUSY = false →
      exec (.tcmdRead ofs tb) s = .next (settle s (tcmdAnswer 12 (tableRead tb (tcmdStart 1 tb w)))) ∧
      exec (.tcmdSearch ofs tb) s = .next (settle s (tcmdAnswer 12 (tableSearch tb (tcmdStart 2 tb w)))) ∧
      exec (.tcmdInsert ofs tb took) s = .next (settle s (tcmdAnswer (min took ic) (tableInsertAll tb (tcmdStart 3 tb w)))) ∧
      exec (.tcmdDelete ofs tb) s = .next (settle s (tcmdAnswer (12 * tablesOf tb) (tableDeleteAll tb (tcmdStart 4 tb w)))) ∧
      exec (.tcmdReplace ofs tb) s = .next (settle s (tcmdAnswer (12 * tablesOf tb) (tableReplaceAll tb (tcmdStart 5 tb w)))) ∧
      exec (.tcmdInvalidOp ofs op tb) s = .next (settle s (tcmdAnswer 0 (tcmdStart c tb w, stBadEntry)))) ∧
    (tb.val < 2 → tableOff w tb = false →
      (w.get Reg.FWD_TLOC.BUCKET < 98304 → tableRead tb w = (bufPut Reg.FWD_TBUFi.WORD
        (emtPack (emtAt w tb (4 * w.get Reg.FWD_TLOC.BUCKET + w.get Reg.FWD_TLOC.SLOT))) w, stOk)) ∧
      ((tbuf w).okType = false → tableSearch tb w = (w, stBadEntry) ∧ tableDeleteAll tb w = (w, stBadEntry)) ∧
      (emtFind w tb (tbuf w).ty (tbuf w).tenant (tbuf w).key = none →
        ((tbuf w).okType = true → tableSearch tb w = (w, stNotFound)) ∧ tableDelete tb (tbuf w) w = (w, stNotFound) ∧ tableReplace tb (tbuf w) w = (w, stNotFound)) ∧
      (emtFind w tb (tbuf w).ty (tbuf w).tenant (tbuf w).key = some k →
        tableDelete tb (tbuf w) w = (emtClear tb k w, stOk) ∧
        (emtInsert tb (tbuf w) w = (w, stExists)) ∧
        ((emtAt w tb k).origin = 2 → tableReplace tb (tbuf w) w = (emtPut tb k (tbuf w) w, stOk)) ∧
        ((emtAt w tb k).origin ≠ 2 → tableReplace tb (tbuf w) w = (w, stOrigin)))) ∧
    (v.on Reg.FWD_TCMD.BUSY = true → v.fwd.tcmdEnd ≤ v.clk →
      w = (v.put Reg.FWD_TCMD.STATUS v.fwd.tcmdStatus).put Reg.FWD_TCMD.BUSY 0) ∧
    (2 ≤ tb.val → tableRead tb w = (w, stBadEntry) ∧ tableSearch tb w = (w, stBadEntry))

/-- The commands of the node tables (R251, R486): an NT-H index beyond the table answers 1; a read fills the buffer; a write reaches NT-C
entries of LOCAL = 0 only. -/
def Obligations.NodeTableCommands : Prop :=
  ∀ (region : Fin 2) (s : State), s.live →
    let u := s.cleared
    let r0 := (u.put Reg.FWD_NTCMD.OP 0).put Reg.FWD_NTCMD.REGION region
    let r1 := (u.put Reg.FWD_NTCMD.OP 1).put Reg.FWD_NTCMD.REGION region
    let i0 := r0.get Reg.FWD_NTIDX.INDEX
    let i1 := r1.get Reg.FWD_NTIDX.INDEX
    let x := ntcUnpack (fun j => r1.get (Reg.FWD_NTBUFi.WORD j))
    (windowOn u Reg.FWD_NTCMD.GO.addr = false →
      exec (.ntcmdRead region) s = .next (settle s (u.inc Reg.HIF_PD_OFF_ACC.CNT)) ∧
      exec (.ntcmdWrite region) s = .next (settle s (u.inc Reg.HIF_PD_OFF_ACC.CNT))) ∧
    (windowOn u Reg.FWD_NTCMD.GO.addr = true →
      (region = 0 → i0 < 262144 → exec (.ntcmdRead region) s = .next (settle s
        ((bufPut Reg.FWD_NTBUFi.WORD (nthPack (nthOf r0 i0)) r0).put Reg.FWD_NTCMD.STATUS 0))) ∧
      (region = 0 → 262144 ≤ i0 → exec (.ntcmdRead region) s = .next (settle s (r0.put Reg.FWD_NTCMD.STATUS 1))) ∧
      (region = 1 → ntcOpen r0 = true → exec (.ntcmdRead region) s = .next (settle s
        ((bufPut Reg.FWD_NTBUFi.WORD (ntcPack (ntcOf r0 i0)) r0).put Reg.FWD_NTCMD.STATUS 0))) ∧
      (region = 0 → i1 < 262144 → exec (.ntcmdWrite region) s = .next (settle s (r1.put Reg.FWD_NTCMD.STATUS 2))) ∧
      (region = 1 → (ntcOf r1 i1).isLocal = false → x.isLocal = false →
        exec (.ntcmdWrite region) s = .next (settle s ((writeNtc i1 x r1).put Reg.FWD_NTCMD.STATUS 0))) ∧
      (region = 1 → (ntcOf r1 i1).isLocal = true ∨ x.isLocal = true →
        exec (.ntcmdWrite region) s = .next (settle s (r1.put Reg.FWD_NTCMD.STATUS 2))))

/-- The upkeep of the mapping tables (R260 to R264, R270 to R272): rebuild, join fill, aging, the confirmation of a difference and the reads of
the log. What rests on log entries 16 and 17 is the model's choice. -/
def Obligations.TableUpkeep : Prop :=
  ∀ (p : Fin 2) (e : EmtEntry) (d : Diff) (l : List Diff) (s : State), s.live →
    let u := s.cleared
    let c := ((((u.put (Reg.FWD_EMTp_CTRL.REBUILD p) 1).put (Reg.FWD_EMTp_STAT.CLEARING p) 1).put (Reg.FWD_EMTp_STAT.NEED_REHASH p) 0).put
      (Reg.FWD_EMTp_STAT.JOIN_DONE p) 0)
    let r := modFwd (fun w => { w with diffs := l }) u
    (windowOn u (Reg.FWD_EMTp_CTRL.REBUILD p).addr = true → u.on (Reg.FWD_EMTp_CTRL.REBUILD p) = false →
      exec (.emtRebuild p) s = .next (settle s (emtSync p (modPipe p (fun x => { x with emt := [], learnQ := [] })
        (modFwd (fun w => { w with slots := w.slots.map (fun x => (x.1, { x.2 with stale := true })) }) c))))) ∧
    (windowOn u (Reg.FWD_EMTp_CTRL.REBUILD p).addr = true → u.on (Reg.FWD_EMTp_CTRL.REBUILD p) = true →
      exec (.emtRebuild p) s = .next (settle s u)) ∧
    exec (.emtClearDone p) s = .next (settle s (u.put (Reg.FWD_EMTp_STAT.CLEARING p) 0)) ∧
    (windowOn u (Reg.FWD_EMTp_CTRL.JOIN_FILL p).addr = true → exec (.joinFill p) s = .next (settle s
      ((u.put (Reg.FWD_EMTp_CTRL.JOIN_FILL p) 1).put (Reg.FWD_EMTp_STAT.JOIN_DONE p) 0))) ∧
    (u.on (Reg.FWD_EMTp_CTRL.JOIN_FILL p) = true → exec (.joinFillDone p) s = .next (settle s
      (((joinInstall p (fun t => u.eff (Reg.FWD_Tt_CFG.FP t) == p.val) u).put (Reg.FWD_EMTp_CTRL.JOIN_FILL p) 0).put
        (Reg.FWD_EMTp_STAT.JOIN_DONE p) 1))) ∧
    (u.on (Reg.FWD_EMTp_CTRL.JOIN_FILL p) = false → exec (.joinFillDone p) s = .next (settle s u)) ∧
    (u.get Reg.FWD_LEARN.AGE = 0 → exec .agingWalk s = .next (settle s u)) ∧
    (u.get Reg.FWD_LEARN.AGE ≠ 0 → pdOn u 20 = true → pdOn u 21 = false → exec .agingWalk s = .next (settle s (ageTable 0 u))) ∧
    (comparerOn u = false → exec (.shadowConfirm (some e)) s = .next (settle s (comparerOff u))) ∧
    (comparerOn u = true → u.on Reg.FWD_SHADOW_CFG.PAUSE = true ∨ u.fwd.diffs = [] → exec (.shadowConfirm (some e)) s = .next (settle s u)) ∧
    (comparerOn u = true → u.on Reg.FWD_SHADOW_CFG.PAUSE = false → u.fwd.diffs = d :: l → d.due ≤ u.core.ticks →
      exec (.shadowConfirm none) s = .next (settle s (shadowReadErr u)) ∧
      (d.touched = true ∨ stillDiffers r d e = false → exec (.shadowConfirm (some e)) s = .next (settle s r)) ∧
      (d.touched = false → stillDiffers r d e = true → exec (.shadowConfirm (some e)) s = .next (settle s (diverge d e r)))) ∧
    (windowOn u Reg.FWD_DIV.VALID.addr = true → u.fwd.divLog = [] → exec .fwdDivRead s = .next (settle s
      ((divSync (modFwd (fun w => { w with divLog := w.divLog.drop 1 }) u)).emit (.readWord 0 Reg.FWD_DIV.VALID.addr 0)))) ∧
    (∀ (t k sid : Nat) (q : List (Nat × Nat × Nat)), windowOn u Reg.FWD_DIV.VALID.addr = true → u.fwd.divLog = (t, k, sid) :: q →
      exec .fwdDivRead s = .next (settle s ((divSync (modFwd (fun w => { w with divLog := w.divLog.drop 1 }) u)).emit
        (.readWord 0 Reg.FWD_DIV.VALID.addr (t + 2 * k + 8 + 65536 * sid)))))

/-! ## The key vault -/

/-- How a vault command arrives (R231, R232): on the PF's registers it is ignored with GO_IGN while the one before is not complete; on a CMD
ring it waits for its turn and for room; else it joins the queue, which the vault serves in order. A register command, whose arguments
the registers hold (log entry 55), waits in front of a full queue for room (log entry 7). -/
def Obligations.VaultSubmission : Prop :=
  ∀ (fn : Fin 257) (a : VArgs) (code : Fin 256) (e : CmdEntry) (s : State), s.live →
    let u := s.cleared
    let g (c : Nat) : VCmd :=
      { fn := 0, reg := true, asTenant := 256, code := c, tag := 0, discard := false, args := regArgs u c a, start := 0 }
    let r (c : Nat) : State := vaultStart u.clk (regEnter (modKv (fun v => { v with regWait := some (g c) }) u))
    let t := cmdTake fn u
    let y (c : Nat) : State := vaultStart t.clk (vaultQueued (modKv (fun v => { v with queue := v.queue ++
      [{ fn := fn, reg := false, asTenant := e.ten fn, code := c, tag := e.tag, discard := false, args := a, start := 0 }] }) t))
    (vaultRoom u 0 = true → r 1 = vaultStart u.clk (vaultQueued { u with kv := { u.kv with regWait := none, queue := u.kv.queue ++ [g 1] } })) ∧
    (vaultRoom u 0 = false → regEnter (modKv (fun v => { v with regWait := some (g 1) }) u) =
      modKv (fun v => { v with regWait := some (g 1) }) u) ∧
    (regBusy u = true → exec (.keyGenerate ⟨true, fn⟩ a) s = .next (settle s (u.put Reg.KV_STAT.GO_IGN 1))) ∧
    (regBusy u = false →
      exec (.keyGenerate ⟨true, fn⟩ a) s = .next (settle s (r 1)) ∧ exec (.keyImport ⟨true, fn⟩ a) s = .next (settle s (r 2)) ∧
      exec (.keyStage ⟨true, fn⟩ a) s = .next (settle s (r 3)) ∧ exec (.keyCommit ⟨true, fn⟩ a) s = .next (settle s (r 4)) ∧
      exec (.keyCancel ⟨true, fn⟩ a) s = .next (settle s (r 5)) ∧ exec (.keyDestroy ⟨true, fn⟩ a) s = .next (settle s (r 6)) ∧
      exec (.keyQuery ⟨true, fn⟩ a) s = .next (settle s (r 7)) ∧ exec (.kvAttest ⟨true, fn⟩ a) s = .next (settle s (r 8)) ∧
      exec (.kvRandom ⟨true, fn⟩ a) s = .next (settle s (r 9)) ∧ exec (.nodeImport ⟨true, fn⟩ a) s = .next (settle s (r 10)) ∧
      exec (.nodeRestore ⟨true, fn⟩ a) s = .next (settle s (r 11)) ∧
      (code.val = 0 ∨ 11 < code.val → exec (.kvInvalidCode code a) s = .next (settle s (r code)))) ∧
    (cmdNext u fn 0x41 = some e → vaultRoom u fn = true →
      exec (.keyGenerate ⟨false, fn⟩ a) s = .next (settle s (cmdSettle fn ((y 1).hif.fns.get fn).cmdQ (y 1)))) ∧
    (cmdNext u fn 0x49 = some e → vaultRoom u fn = true →
      exec (.kvRandom ⟨false, fn⟩ a) s = .next (settle s (cmdSettle fn ((y 9).hif.fns.get fn).cmdQ (y 9)))) ∧
    (cmdNext u fn 0x41 = some e → vaultRoom u fn = false → exec (.keyGenerate ⟨false, fn⟩ a) s = .next (settle s u)) ∧
    (cmdNext u fn 0x41 = none → exec (.keyGenerate ⟨false, fn⟩ a) s = .next (settle s u))

/-- How a vault command ends (R231, R233): at its fixed time whatever its outcome, with its effect where nothing refuses it, with DENIED and no
data where something does; a command that draws from the DRBG draws in both cases, and the vault goes on with the next command.
What rests on log entries 7 and 30 is the model's choice. -/
def Obligations.VaultCompletion : Prop :=
  ∀ (ofs : Fin 122880) (c : VCmd) (r : Nat) (s : State), s.live →
    let v := s.asOf ofs
    let w := (modKv (fun v => { v with running := none }) v).put Reg.KV_STAT.BUSY 0
    let d := c.start + Config.usClocks (vaultUs c.code)
    let x := (vaultEffect c (unwrapUse c w)).1
    (v.kv.running = none → exec (.kvCommandComplete ofs) s = .next (settle s v)) ∧
    (v.kv.running = some c → v.clk < d → exec (.kvCommandComplete ofs) s = .next (settle s v)) ∧
    (v.kv.running = some c → d ≤ v.clk → refusal w c = none → exec (.kvCommandComplete ofs) s = .next (settle s
      (vaultStart d (vaultPost c 0 (vaultEffect c (unwrapUse c w)).2 (if drawsDrbg c then x.drawn else x))))) ∧
    (v.kv.running = some c → d ≤ v.clk → refusal w c = some r → secretsOpen w = true → exec (.kvCommandComplete ofs) s = .next (settle s
      (vaultStart d (vaultPost c stDENIED [] (if drawsDrbg c then (lpe (0x0A0 + r) w).drawn else lpe (0x0A0 + r) w)))))

/-- What the vault's commands do where nothing refuses them (R231, R234 to R239, R242, R243). What rests on log entry 7 is the model's choice. -/
def Obligations.VaultEffects : Prop :=
  ∀ (c : VCmd) (s : State), let a := c.args; let k := slotOf s a.slot
    (c.code = 1 → vaultEffect c s = (installSlot a (Config.drbg s.core.free) false s, [Config.kcv (Config.drbg s.core.free)])) ∧
    (c.code = 2 → vaultEffect c s = (installSlot a a.wrapped.key true s, [Config.kcv a.wrapped.key])) ∧
    (c.code = 3 → a.gen = false → (slotOf (vaultEffect c s).1 a.slot) =
      { k with staged := some a.wrapped.key, stagedLive := false, commitDue := false }) ∧
    (c.code = 4 → a.slot < 4096 → (slotOf (vaultEffect c s).1 a.slot) = { k with commitDue := true } ∧ (vaultEffect c s).2 = []) ∧
    (c.code = 5 → (slotOf (vaultEffect c s).1 a.slot).staged = none ∧ (slotOf (vaultEffect c s).1 a.slot).key = k.key) ∧
    (c.code = 6 → (slotOf (vaultEffect c s).1 a.slot).active = false ∧ (slotOf (vaultEffect c s).1 a.slot).key = 0 ∧
      (vaultEffect c s).1.sec.ctr.find? a.slot = none) ∧
    (c.code = 7 → vaultEffect c s = (s, slotEntry s a.slot)) ∧
    (c.code = 8 → vaultEffect c s = (s.emit (.statement c.fn (statement s c)), [])) ∧
    (c.code = 9 → vaultEffect c s = (s, randomWords (Config.drbg s.core.free) a.len)) ∧
    (c.code = 10 → a.gen = false → vaultEffect c s = (nodeInstall a.node a.wrapped.key s, [Config.kcv a.wrapped.key])) ∧
    (∀ j : Nat, j ≠ a.slot → 1 ≤ c.code → c.code ≤ 9 → slotOf (vaultEffect c s).1 j = slotOf s j)

/-- Zeroise (R245 to R248): TAMPER_N low for 200 ns, or an enabled sensor, erases every slot, KEK_D, the node secrets, the cached keys and the
DRBG, and makes an epoch advance due; the advance burns one fuse and no more than 64; entropy stops and comes back.
What rests on log entry 12 is the model's choice. -/
def Obligations.Zeroise : Prop :=
  ∀ (ns : Nat) (low : Bool) (k : Fin 3) (cause : Nat) (s : State),
    let u := s.cleared
    let z := zeroise cause s
    let t := (modKv (fun v => { v with tamperLow := low }) u).drawn
    let en (j : Fin 3) : Fld := if j = 0 then Reg.KV_ZCTRL.SUPPLY_EN else if j = 1 then Reg.KV_ZCTRL.CLOCK_EN else Reg.KV_ZCTRL.TEMP_EN
    (z.kv.slots = [] ∧ z.kv.secrets = [] ∧ z.kv.kekD = false ∧ z.kv.drbg = false ∧ z.kv.epochDue = true ∧ z.sec.cache = [] ∧
      z.get Reg.KV_STATE.STATE = 1 ∧ z.get Reg.KV_STATE.CAUSE = cause % 2 ^ Reg.KV_STATE.CAUSE.w ∧ z.get Reg.SEC_STAT.ZEROISED = 1) ∧
    (200 ≤ ns → s.pwr.noSupply = false → exec (.tamperEvent ns low) s = .next (settle s (zeroiseAll 1 t))) ∧
    (ns < 100 → exec (.tamperEvent ns low) s = .next (settle s t)) ∧
    (u.on (en k) = true → s.pwr.noSupply = false → s.live → exec (.sensorTrip k) s = .next (settle s (zeroiseAll (k + 2) u))) ∧
    (u.on (en k) = false → exec (.sensorTrip k) s = .next (settle s u)) ∧
    (s.live → u.kv.epochDue = true → ∃ w, exec .epochAdvance s = .next w ∧ w.otp.epoch = max s.otp.epoch (min 64 (epoch s + 1)) ∧
      epoch w = min 64 (epoch s + 1) ∧ w.kv.epochDue = false) ∧
    (s.live → u.kv.epochDue = false → exec .epochAdvance s = .next (settle s u)) ∧
    (s.live → exec .entropyHealthFail s = .next (settle s (u.put Reg.KV_STATE.ENT_OK 0)) ∧
      exec .entropyRecovery s = .next (settle s ((modKv (fun v => { v with drbg := !zeroised u }) u).put Reg.KV_STATE.ENT_OK 1)))

/-- The counter journal (R223, R227, R228): a reservation that a lease waits for is written with the CHK it reads back with; only a good one
that covers the lease ends the wait, and nothing happens where no lease waits for the journal. -/
def Obligations.CounterJournal : Prop :=
  ∀ (ref : Fin 8392704) (good : Bool) (l : Lease) (s : State), s.live → let u := s.cleared
    let key := if ref.val < 4096 then (slotOf u ref).key else (u.kv.secrets.get (ref.val - 4096)).wkey.key
    let res := journalRes u (Config.fpr key) + 65536
    let j := (modSec (fun c => { c with journal := c.journal ++ [(Config.fpr key, res, good)] }) (if good then u else secInc Reg.SEC_JRNL_BAD.CNT u)).emit
      (.lanes "flash journal" (journalOctets (Config.fpr key) res))
    ((ctrOf u ref).lease = none → exec (.journalEntryWritten ref good) s = .next (settle s u)) ∧
    ((ctrOf u ref).lease = some l → l.journal = false → exec (.journalEntryWritten ref good) s = .next (settle s u)) ∧
    ((ctrOf u ref).lease = some l → l.journal = true → good = true → l.hw ≤ res → exec (.journalEntryWritten ref good) s = .next (settle s
      (leaseSettle ref (modCtr ref (fun c => { c with lease := some { l with journal := false } }) (journalFill (journalCompact j)))))) ∧
    ((ctrOf u ref).lease = some l → l.journal = true → good = false →
      exec (.journalEntryWritten ref good) s = .next (settle s (journalFill (journalCompact j))))

/-! ## Reticle time -/

/-- The servo and the setting of Reticle time (R346 to R353): SET and STEP are asked for until the boundary; an offset reaches the servo from the
selected writer only; a change of source frees the servo; without offsets it goes to HOLDOVER with its average. Below SPIKE_N spikes in a row a spike is counted
and dropped; after a step DISCARD offsets are; every other one is accepted. What rests on log entry 22 is the model's choice. -/
def Obligations.TimeControl : Prop :=
  ∀ (ofs : Fin 122880) (fwm : Bool) (ns : BitVec 32) (src : Fin 4) (th : Int) (s : State), s.live →
    let u := s.cleared
    let v := s.asOf ofs
    let w := v.put Reg.TIME_OFS_NS.NS ns.toNat
    let n := w.time.spikes + 1
    let f := modTime (fun t => { t with first := false, holdFirst := false }) w
    let z := modTime (fun t => { t with spikes := 0 }) f
    exec .timeSet s = .next (settle s (u.put Reg.TIME_CTRL.SET 1)) ∧
    exec .timeStep s = .next (settle s (u.put Reg.TIME_CTRL.STEP 1)) ∧
    (w.get Reg.TIME_SERVO.SRC = (if fwm then 2 else 1) → exec (.offsetDelivery ofs fwm ns) s = .next (settle s
      (servoOffset (ns.toInt * 65536 + (w.get Reg.TIME_OFS_FRAC.FRAC : Nat)) w))) ∧
    (w.get Reg.TIME_SERVO.SRC ≠ (if fwm then 2 else 1) →
      exec (.offsetDelivery ofs fwm ns) s = .next (settle s (w.inc Reg.TIME_OFS_IGN.CNT))) ∧
    exec (.servoSrcWrite src) s = .next (settle s (showServo
      (modTime (fun t => { t with i := 0, y := 0, yAvg := 0, tPrev := none, first := true, spikes := 0 })
        (setServo svFREE (u.put Reg.TIME_SERVO.SRC src))))) ∧
    (servoState v = svACQUIRE ∨ servoState v = svLOCKED → v.time.lastAcc + max 1 (v.get Reg.TIME_HOLD.HOLD_TO) * 983040000 ≤ v.clk →
      exec (.servoHoldoverTimeout ofs) s = .next (settle s
        (showServo (modTime (fun t => { t with y := t.yAvg }) ((setServo svHOLDOVER v).inc Reg.TIME_HOLD_ENTRY.CNT))))) ∧
    (servoState v ≠ svACQUIRE → servoState v ≠ svLOCKED → exec (.servoHoldoverTimeout ofs) s = .next (settle s v)) ∧
    (w.time.first = false → w.time.holdFirst = false → w.get Reg.TIME_FILT.SPIKE * 65536 < th.natAbs → n < max 1 (w.get Reg.TIME_FILT.SPIKE_N) →
      servoOffset th w = (modTime (fun t => { t with spikes := n }) f).inc Reg.TIME_OFS_SPIKE.CNT) ∧
    (th.natAbs ≤ w.get Reg.TIME_FILT.SPIKE * 65536 → 0 < w.time.discard →
      servoOffset th w = (modTime (fun t => { t with discard := t.discard - 1 }) z).inc Reg.TIME_OFS_DISCARD.CNT) ∧
    (th.natAbs ≤ w.get Reg.TIME_FILT.SPIKE * 65536 → w.time.discard = 0 → servoOffset th w = servoAccept th z)

/-- R344: a read of TIME_NOW_NS returns the nanoseconds of the clock of the read and latches the seconds and the fraction; a read of TIME_TB_NS
latches the other two words of the boundary. -/
def Obligations.TimeReads : Prop :=
  ∀ (ofs : Fin 122880) (s : State), s.live →
    let n := (s.asOf ofs).now
    (∃ t, exec (.timeNowRead ofs) s = .next t ∧ t.get Reg.TIME_NOW_NS.NS = nsOf n ∧ t.get Reg.TIME_NOW_SEC_LO.SEC = secOf n % 2 ^ 32 ∧
      t.get Reg.TIME_NOW_SEC_HI.SEC = secOf n / 2 ^ 32 % 2 ^ 16 ∧ t.get Reg.TIME_NOW_SEC_HI.FRAC = fracOf n % 2 ^ 16 ∧
      t.out = [.readWord 0 Reg.TIME_NOW_NS.NS.addr (nsOf n)]) ∧
    (∃ t, exec .timeTbRead s = .next t ∧ t.get Reg.TIME_TB_SEC_LO.SEC = s.time.tbSec % 2 ^ 32 ∧
      t.get Reg.TIME_TB_SEC_HI.SEC = s.time.tbSec / 2 ^ 32 % 2 ^ 16 ∧ t.get Reg.TIME_TB_SEC_HI.FRAC = s.time.tbFrac % 2 ^ 16 ∧
      t.out = [.readWord 0 Reg.TIME_TB_NS.NS.addr (s.get Reg.TIME_TB_NS.NS)])

/-- The pulse-per-second pins (R349 to R351): an edge of the captured kind is timestamped, a missing one counted; the output rises at a whole
second of Reticle time, no sooner than 500 ms after its last rise. What rests on log entry 24 is the model's choice. -/
def Obligations.PpsPins : Prop :=
  ∀ (ofs : Fin 122880) (rising : Bool) (dev : Fin 262145) (s : State), s.live →
    let v := s.asOf ofs
    let fall := v.clk + min 999 (max 1 (v.get Reg.TIME_PPS_OUT.WIDTH)) * 983040
    (v.on Reg.TIME_PPS_IN.EN = true → rising ≠ v.on Reg.TIME_PPS_IN.POL → isDormant v = false →
      exec (.ppsInEdge ofs rising dev) s = .next (settle s (ppsEdge (instant dev v) v))) ∧
    (v.on Reg.TIME_PPS_IN.EN = false ∨ rising = v.on Reg.TIME_PPS_IN.POL →
      exec (.ppsInEdge ofs rising dev) s = .next (settle s v)) ∧
    (v.on Reg.TIME_PPS_IN.EN = true → v.time.ppsMark + 983040000 + 98304 < v.clk → exec (.ppsInMiss ofs) s = .next (settle s
      ((modTime (fun t => { t with ppsMark := t.ppsMark + 983040000 }) v).inc Reg.TIME_PPS_MISS.CNT))) ∧
    (v.clk ≤ v.time.ppsMark + 983040000 + 98304 → exec (.ppsInMiss ofs) s = .next (settle s v)) ∧
    (v.on Reg.TIME_PPS_OUT.EN = true → ppsQual v = true → ppsDue v = true → v.time.ppsRise = none →
      exec (.ppsOutPulse ofs) s = .next (settle s (((modTime (fun t => { t with ppsRise := some v.clk, ppsFall := fall }) v).emit
        (.pin "PPS_OUT" 1)).emit (.edge "PPS_OUT" 0 fall)))) ∧
    (∀ c : Nat, v.time.ppsRise = some c → v.clk < c + 491520000 → exec (.ppsOutPulse ofs) s = .next (settle s v)) ∧
    (v.on Reg.TIME_PPS_OUT.EN = false ∨ ppsQual v = false ∨ ppsDue v = false → exec (.ppsOutPulse ofs) s = .next (settle s v))

/-- The PTP path (R360 to R364): frames diverted to its queue, the reads that consume it, the frame it sends and the egress timestamps. -/
def Obligations.PtpPath : Prop :=
  ∀ (ofs : Fin 122880) (p : Fin 2) (o : List Byte) (dev : BitVec 24) (f : PtpForm) (e : PtpRx) (l : List PtpRx) (len : Fin 512) (one : Bool)
    (tag : Fin 65536) (x : PtpTx) (k ts : Nat) (q : List (Nat × Nat)) (s : State), s.live →
    let u := s.cleared
    let v := s.asOf ofs
    let r := v.inc (Reg.TIME_PTPp_CNT.RX p)
    let a := modTime (fun t => { t with rxq := t.rxq ++
      [{ port := p.val, octets := o.take 256, ts := ptpStamp p (ptpType o f == 0) dev r }] }) r
    let g := (((u.put Reg.TIME_PTP_TXCTL.LEN len).put Reg.TIME_PTP_TXCTL.PORT p).putB Reg.TIME_PTP_TXCTL.ONE_STEP one).put
      Reg.TIME_PTP_TXCTL.TAG tag
    let d := ((modTime (fun t => { t with tx := none }) v).put Reg.TIME_PTP_TXCTL.BUSY 0).inc (Reg.TIME_PTPp_CNT.TX x.port)
    (ptpForm o = none → exec (.ptpFrameReceived ofs p o dev) s = .next (settle s v)) ∧
    (ptpForm o = some f → v.tm.linkUp.contains p.val = true → pdOn v 24 = true → ptpDiverts v p f = true →
      (r.time.rxq.length < 64 → exec (.ptpFrameReceived ofs p o dev) s = .next (settle s
        (a.put Reg.TIME_PTP_RXSTAT.QUEUED a.time.rxq.length))) ∧
      (64 ≤ r.time.rxq.length → exec (.ptpFrameReceived ofs p o dev) s = .next (settle s (r.inc Reg.TIME_PTP_RXDROP.CNT)))) ∧
    (u.time.rxq = [] → exec (.ptpRxstatRead true) s = .next (settle s
      (u.emit (.readWord 0 Reg.TIME_PTP_RXSTAT.VALID.addr (u.get Reg.TIME_PTP_RXSTAT.QUEUED * 65536))))) ∧
    (u.on Reg.TIME_PTP_CTRL.OWNER = false → exec (.ptpRxstatRead false) s = .next (settle s
      (u.emit (.readWord 0 Reg.TIME_PTP_RXSTAT.VALID.addr (u.get Reg.TIME_PTP_RXSTAT.QUEUED * 65536))))) ∧
    (u.time.rxq = e :: l → exec (.ptpRxstatRead true) s = .next (settle s (((bufPut Reg.TIME_PTP_RXDATAi.DATA (wordsLE e.octets 64)
      (latch16 Reg.TIME_PTP_RX_NS.NS Reg.TIME_PTP_RX_SEC_LO.SEC Reg.TIME_PTP_RX_SEC_HI.SEC Reg.TIME_PTP_RX_SEC_HI.FRAC e.ts
        (modTime (fun t => { t with rxq := l }) u))).put Reg.TIME_PTP_RXSTAT.QUEUED l.length).emit
      (.readWord 0 Reg.TIME_PTP_RXSTAT.VALID.addr (1 + 2 * e.port + 4 * e.octets.length + 65536 * l.length))))) ∧
    (u.on Reg.TIME_PTP_CTRL.OWNER = true → exec (.ptpTxGo true len p one tag) s = .next (settle s u)) ∧
    (u.on Reg.TIME_PTP_CTRL.OWNER = true → u.on Reg.TIME_PTP_TXCTL.BUSY = false → 14 ≤ len.val → len.val ≤ 256 →
      exec (.ptpTxGo false len p one tag) s = .next (settle s ((modTime (fun t => { t with
        tx := some { port := p.val, oneStep := one, tag := tag.val, octets := ptpBuffer g len } }) g).put Reg.TIME_PTP_TXCTL.BUSY 1))) ∧
    (u.on Reg.TIME_PTP_CTRL.OWNER = true → len.val < 14 ∨ 256 < len.val → exec (.ptpTxGo false len p one tag) s = .next (settle s g)) ∧
    (v.time.tx = none → exec (.ptpTxDone ofs dev) s = .next (settle s v)) ∧
    (v.time.tx = some x → v.tm.linkUp.contains x.port = true → pdOn v 24 = true → x.oneStep = false → d.time.tsq.length < 16 →
      exec (.ptpTxDone ofs dev) s = .next (settle s (modTime (fun t => { t with
        tsq := t.tsq ++ [(x.tag, ptpStamp x.port ((ptpForm x.octets).map (ptpType x.octets) == some 1) dev d)] })
        (d.emit (.lanes "ETH PTP" (x.port :: withFcs x.octets)))))) ∧
    (u.time.tsq = [] → exec .ptpTxtsRead s = .next (settle s (u.emit (.readWord 0 Reg.TIME_PTP_TXTS_STAT.TAG.addr 0)))) ∧
    (u.time.tsq = (k, ts) :: q → exec .ptpTxtsRead s = .next (settle s
      ((latch16 Reg.TIME_PTP_TXTS_NS.NS Reg.TIME_PTP_TXTS_SEC_LO.SEC Reg.TIME_PTP_TXTS_SEC_HI.SEC Reg.TIME_PTP_TXTS_SEC_HI.FRAC ts
        (modTime (fun t => { t with tsq := q }) u)).emit (.readWord 0 Reg.TIME_PTP_TXTS_STAT.TAG.addr (k + 65536)))))

/-! ## The synthesizer -/

/-- The synthesizer's lock and references (R374 to R384): RELOCK is refused with CFG_ERR while a block that needs the clock is enabled or the
plan is invalid; the first lock starts tick 0; a reference lost, or selected by FORCE, switches the loop or holds it.
What rests on log entry 25 is the model's choice. -/
def Obligations.Synthesizer : Prop :=
  ∀ (k : Fin 41) (r : Fin 2) (ofs : Fin 122880) (d01 : BitVec 32) (off0 off1 : Bool) (s : State), s.live →
    let u := s.cleared
    let v := s.asOf ofs
    let pref := u.get Reg.CLK_REFSEL.PREF
    let x := if refState u pref = refVALID then pref else clkSel u
    let l := (u.put Reg.CLK_STAT.LOCK 1).put Reg.CLK_STAT.KVCO (k.val + 40)
    let y := ((((((stopFrom 0 u).put Reg.CLK_CTRL.RELOCK 1).put Reg.CLK_STAT.RELOCKING 1).put Reg.CLK_STAT.LOCK 0).put Reg.CLK_STAT.SEL x).put Reg.MEM_STAT.SELF_REFRESH 1)
    let q := y.put Reg.CLK_STAT.HOLD 0
    let a := refAbsent r u
    (windowOn u Reg.CLK_CTRL.RELOCK.addr = true → u.effOn Reg.MAC_CTRL.EN = true →
      exec .relock s = .next (settle s (u.put Reg.CLK_STAT.CFG_ERR 2))) ∧
    (windowOn u Reg.CLK_CTRL.RELOCK.addr = true → u.on Reg.RSI_CTRL.EN = false → u.on Reg.TXC_CTRL.EN = false → u.effOn Reg.MAC_CTRL.EN = false →
      (planValid u x = false → exec .relock s = .next (settle s (u.put Reg.CLK_STAT.CFG_ERR 1))) ∧
      (planValid u x = true → refState y x ≠ refVALID → exec .relock s = .next (settle s (showAlt (modClock (fun c => { c with
        n := y.get Reg.CLK_PLL.N, icp := y.get Reg.CLK_CP.ICP, pre := y.get (Reg.CLK_REFr_CFG.PRE x)
        rdiv := y.get (Reg.CLK_REFr_CFG.REF_DIV x) }) y)))) ∧
      (planValid u x = true → refState y x = refVALID → exec .relock s = .next (settle s (showAlt (modClock (fun c => { c with
        n := q.get Reg.CLK_PLL.N, icp := q.get Reg.CLK_CP.ICP, pre := q.get (Reg.CLK_REFr_CFG.PRE x)
        rdiv := q.get (Reg.CLK_REFr_CFG.REF_DIV x) }) q))))) ∧
    (u.on Reg.CLK_STAT.LOCK = true → exec (.pllLock k) s = .next (settle s u)) ∧
    (u.on Reg.CLK_STAT.LOCK = false → pdOn u 29 = true → u.time.going = true → refState u (clkSel u) = refVALID →
      exec (.pllLock k) s = .next (settle s l)) ∧
    (u.on Reg.CLK_STAT.LOCK = false → pdOn u 29 = true → u.time.going = false → refState u (clkSel u) ≠ refABSENT →
      exec (.pllLock k) s = .next (settle s (showAlt (forEach (List.range 8) startOut (clockBack
        (modTime (fun t => { t with going := true }) (l.put Reg.SYS_TICK_OFFSET.CLOCKS 0))))))) ∧
    (u.on Reg.CLK_STAT.LOCK = true → inService u = true →
      exec .pllLossOfLock s = .next (settle s ((u.put Reg.CLK_STAT.LOCK 0).inc Reg.CLK_LOL_CNT.CNT))) ∧
    (u.on Reg.CLK_STAT.LOCK = false → exec .pllLossOfLock s = .next (settle s u)) ∧
    (refState u r = refABSENT → exec (.refLoss r) s = .next (settle s u)) ∧
    (refState u r ≠ refABSENT → r.val ≠ clkSel a → exec (.refLoss r) s = .next (settle s a)) ∧
    (refState u r ≠ refABSENT → r.val = clkSel a → exec (.refLoss r) s = .next (settle s (leaveRef a))) ∧
    (inService a = true → a.on Reg.CLK_STAT.HOLD = false → refState a (1 - clkSel a) ≠ refVALID →
      leaveRef a = (a.put Reg.CLK_STAT.HOLD 1).inc Reg.CLK_HOLD_CNT.CNT) ∧
    (inService a = true → a.on Reg.CLK_STAT.HOLD = false → refState a (1 - clkSel a) = refVALID → isAlternate a (1 - clkSel a) = true →
      leaveRef a = switchTo (1 - clkSel a) a) ∧
    (refState u r = refABSENT → exec (.refEdgesReturn r) s = .next (settle s
      (modClock (fun c => { c with quals := c.quals.set r 0 }) (u.put (Reg.CLK_REFr_STAT.STATE r) refQUALIFYING)))) ∧
    (refState u r ≠ refABSENT → exec (.refEdgesReturn r) s = .next (settle s u)) ∧
    (pdOn v 29 = true → exec (.monitorWindowEnd ofs d01 off0 off1) s = .next (settle s (monitorEnd d01.toInt off0 off1 v))) ∧
    (pdOn v 29 = false → exec (.monitorWindowEnd ofs d01 off0 off1) s = .next (settle s v)) ∧
    (windowOn u Reg.CLK_CTRL.RELOCK.addr = true → refState u pref = refVALID → isAlternate u pref = true → inService u = true →
      clkSel u ≠ pref → exec .clkForce s = .next (settle s (switchTo pref u))) ∧
    (windowOn u Reg.CLK_CTRL.RELOCK.addr = true → refState u pref ≠ refVALID → exec .clkForce s = .next (settle s u))

/-- The clock outputs (R375 to R378): a write that changes an output stops it; a short stops it and is tried again after 10 ms. -/
def Obligations.ClockOutputs : Prop :=
  ∀ (n : Fin 8) (src : Fin 4) (fmt : Fin 8) (dv : Fin 4096) (again : Bool) (s : State), s.live → let u := s.cleared
    let c (t : State) := ((t.put (Reg.CLK_OUTn_CFG.SRC n) src).put (Reg.CLK_OUTn_CFG.FMT n) fmt).put (Reg.CLK_OUTn_CFG.DIV n) dv
    (windowOn u Reg.CLK_CTRL.RELOCK.addr = true → u.get (Reg.CLK_OUTn_CFG.SRC n) ≠ src →
      exec (.clkoutConfigWrite n src fmt dv) s = .next (settle s (checkOut n (c (stopOut n u))))) ∧
    (windowOn u Reg.CLK_CTRL.RELOCK.addr = true → u.get (Reg.CLK_OUTn_CFG.SRC n) = src → u.get (Reg.CLK_OUTn_CFG.FMT n) = fmt →
      u.get (Reg.CLK_OUTn_CFG.DIV n) = dv → exec (.clkoutConfigWrite n src fmt dv) s = .next (settle s (checkOut n (c u)))) ∧
    (u.on (Reg.CLK_OUTn_STAT.RUN n) = true → exec (.clkoutShort n) s = .next (settle s
      (modClock (fun c => { c with retry := c.retry.set n u.core.ticks })
        (((stopOut n u).put (Reg.CLK_OUTn_STAT.SHORT n) 1).inc Reg.CLK_SHORT_CNT.CNT)))) ∧
    (u.on (Reg.CLK_OUTn_STAT.RUN n) = false → exec (.clkoutShort n) s = .next (settle s u)) ∧
    (u.on (Reg.CLK_OUTn_CFG.EN n) = true → u.on (Reg.CLK_OUTn_STAT.SHORT n) = true → u.clock.retry.get n + 80 ≤ u.core.ticks →
      pdOn u 29 = true → exec (.clkoutShortRetry n false) s = .next (settle s (u.put (Reg.CLK_OUTn_STAT.SHORT n) 0)) ∧
        exec (.clkoutShortRetry n true) s = .next (settle s (outShort n u))) ∧
    (u.core.ticks < u.clock.retry.get n + 80 → exec (.clkoutShortRetry n again) s = .next (settle s u))

/-! ## Clusters, mirroring and the transmit lease -/

/-- The clusters and the Warden's own recovery (R386 to R398, R431): a fault report moves the lease to a standby that is CAUGHT_UP; a boot that
ends takes the lease or enters RESYNC; a handover is accepted only with such a standby; the third failed recovery of the Warden is its last.
What rests on log entries 27 and 28 is the model's choice. -/
def Obligations.ClustersAndWarden : Prop :=
  ∀ (ofs : Fin 122880) (c : Fin 2) (k : Nat) (s : State), s.live →
    let u := s.cleared
    let v := s.asOf ofs
    let b := bootCluster 0 u
    let z := takeLease c causeAlone (forgetFirmware u)
    let y := setCluster c clOFF (u.put (clEnFld c) 0)
    let t := handover true u
    let n := v.get Reg.WDN_STAT.ATTEMPTS + b2n (v.on Reg.WDN_STAT.FROZEN || v.wdn.tested.isSome)
    let w := (lpe 0x022 (v.inc Reg.WDN_SELF_RESET.CNT)).put Reg.WDN_STAT.ATTEMPTS (min 3 n)
    (clActive v = false → exec (.clusterFaultReport ofs) s = .next (settle s v)) ∧
    (clActive v = true → actBefore v = false → wardenWorks v = true → stbyOk v = true →
      exec (.clusterFaultReport ofs) s = .next (settle s (moveLease v))) ∧
    (clActive v = true → actBefore v = false → wardenWorks v = false ∨ stbyOk v = false →
      exec (.clusterFaultReport ofs) s = .next (settle s v)) ∧
    (u.on Reg.WDN_STAT.FAIL = false → clState u 0 ≠ clFAILED → clState u 1 = clFAILED → u.on (Reg.DBG_CCc_STAT.HALTED 1) = false →
      exec .clusterRestart s = .next (settle s (bootCluster 1 u))) ∧
    (u.on Reg.WDN_STAT.FAIL = false → clState u 0 = clFAILED → u.on (Reg.DBG_CCc_STAT.HALTED 0) = false → clState b 1 ≠ clFAILED →
      exec .clusterRestart s = .next (settle s b)) ∧
    (u.on Reg.WDN_STAT.FAIL = true → exec .clusterRestart s = .next (settle s u)) ∧
    (u.wdn.firstTake = true → clState u c = clBOOT → (clBank u c).verified = true → clState u (1 - c) = clACTIVE →
      u.get Reg.FW_STAT.ACT_STATE ≠ 1 → exec (.clusterBootEnd c) s = .next (settle s (startPages 0 (setCluster c clRESYNC u)))) ∧
    (u.wdn.firstTake = true → clState u c = clBOOT → (clBank u c).verified = true → clState u (1 - c) ≠ clACTIVE →
      clState z (1 - c) ≠ clRESYNC → exec (.clusterBootEnd c) s = .next (settle s z)) ∧
    (clState u c ≠ clBOOT ∨ (clBank u c).verified = false → exec (.clusterBootEnd c) s = .next (settle s u)) ∧
    (stbyOk u = true → clActive u = true → u.on Reg.WDN_STAT.FAIL = false → exec .handover s = .next (settle s
      (modWdn (fun w => { w with handover := some (w.handover.getD false) }) (u.put Reg.WDN_CTRL.HANDOVER 1)))) ∧
    (stbyOk u = false ∨ clActive u = false ∨ u.on Reg.WDN_STAT.FAIL = true → exec .handover s = .next (settle s
      ((u.put Reg.WDN_CTRL.HANDOVER 0).put Reg.WDN_STAT.HO_REFUSED 1))) ∧
    (clState u c ≠ clACTIVE → c.val ≠ clStandby y → exec (.clusterDisable c) s = .next (settle s y)) ∧
    (clState u c ≠ clACTIVE → c.val = clStandby y → exec (.clusterDisable c) s = .next (settle s (clearPath 0 y))) ∧
    (clState u c = clACTIVE → t.wdn.handover = some true → exec (.clusterDisable c) s = .next (settle s (t.put (clEnFld c) 0))) ∧
    (clState u c = clACTIVE → t.wdn.handover ≠ some true → exec (.clusterDisable c) s = .next (settle s t)) ∧
    (v.on Reg.WDN_STAT.FAIL = true → exec (.wardenFault ofs) s = .next (settle s v)) ∧
    (v.on Reg.WDN_STAT.FAIL = false → n < 3 → exec (.wardenFault ofs) s = .next (settle s
      (modWdn (fun w => { w with resetSince := some v.core.ticks, tested := none }) (w.put Reg.WDN_STAT.FROZEN 1)))) ∧
    (v.on Reg.WDN_STAT.FAIL = false → 3 ≤ n → exec (.wardenFault ofs) s = .next (settle s (wardenFail w))) ∧
    (v.wdn.tested = some k → k + usClk 100000 ≤ v.clk → exec (.wardenRecovered ofs) s = .next (settle s
      (modWdn (fun w => { w with tested := none }) (v.put Reg.WDN_STAT.ATTEMPTS 0)))) ∧
    (v.wdn.tested = none → exec (.wardenRecovered ofs) s = .next (settle s v))

/-- The bursts of the mirror (R399 to R406, R409, R420): what is sent and what is received on the internal path (0) and the twin path (1); an
acknowledgement ends the waits for the burst, a NAK or a timer sends it again, and a receiver silent for LOST_TICKS ticks is lost.
What rests on log entry 26 is the model's choice. -/
def Obligations.MirrorBursts : Prop :=
  ∀ (ofs : Fin 122880) (p : Fin 2) (kind seq : Nat) (mic : Bool) (b : Burst) (l q : List MirRec) (x : Sent) (s : State), s.live →
    let u := s.cleared
    let v := s.asOf ofs
    let i := modPath 0 (fun x => { x with queue := q }) u
    let a := v.inc Reg.MIR_NAK_RX.CNT
    let r := lpe 0x072 (a.inc Reg.MIR_RETX.CNT)
    let m := modPath p (fun q => { q with unacked := q.unacked.filter (fun x => decide (seq < x.burst.seq)) }) v
    let ids := x.burst.recs.filterMap recId
    let lim := min 8 (max 1 (u.get Reg.MIR_CFG.LOST_TICKS))
    let h := pathOf v p
    let sent := if h.pagesTick = v.core.ticks then h.pagesSent else 0
    let n := min 7 (min h.pagesLeft (pagesPerTick v p - sent))
    let w := modPath p (fun x => { x with pagesLeft := x.pagesLeft - n, pagesTick := v.core.ticks, pagesSent := sent + n }) v
    exec .burstA s = .next (settle s (burstOn 0 1 (burstOn 0 0 (s.asOf Config.ofsBurstA)))) ∧
    exec .burstB s = .next (settle s (burstOn 1 1 (burstOn 1 0 (s.asOf Config.ofsBurstB)))) ∧
    (pathHasReceiver u 0 = true → takeRecs 32704 u.mir.int.queue = (l, q) →
      burstOn kind 0 u = sendBurst 0 { burstHead (i.incIf (!q.isEmpty) Reg.MIR_BURST_FULL.CNT) 0 kind with recs := l }
        (i.incIf (!q.isEmpty) Reg.MIR_BURST_FULL.CNT)) ∧
    (pathHasReceiver u 0 = false → burstOn kind 0 u = u) ∧ (twinUp u = false → burstOn kind 1 u = u) ∧
    (pathHasReceiver v 0 = true → b.seq = v.mir.int.rxNext → exec (.mirrorBurstReceived 0 b ofs) s = .next (settle s
      (modPath 0 (fun q => { q with rxNext := b.seq + 1 }) v))) ∧
    (b.seq ≠ v.mir.int.rxNext → exec (.mirrorBurstReceived 0 b ofs) s = .next (settle s v)) ∧
    (twinUp v = true → v.on Reg.MIR_STAT.TWIN_LOST = false →
      (b.seq < v.mir.twin.rxNext → exec (.mirrorBurstReceived 1 b ofs) s = .next (settle s v)) ∧
      (v.mir.twin.rxNext < b.seq → v.mir.twin.ahead = [] → exec (.mirrorBurstReceived 1 b ofs) s = .next (settle s
        (modPath 1 (fun q => { q with ahead := q.ahead ++ [b] }) v))) ∧
      (b.seq = v.mir.twin.rxNext → exec (.mirrorBurstReceived 1 b ofs) s = .next (settle s
        (selfCaught (applyAhead (applyBurst b v).mir.twin.ahead.length (applyBurst b v)))))) ∧
    (mirPathUp u p = false → exec (.mirrorBurstMissing p mic) s = .next (settle s u)) ∧
    (mirPathUp u p = true → exec (.mirrorBurstMissing p mic) s = .next (settle s
      (((u.incIf mic Reg.MIR_MIC_FAIL.CNT).inc Reg.MIR_NAK_TX.CNT).emit (.lanes "mirror NAK" (p :: nakBlock ((u.incIf mic Reg.MIR_MIC_FAIL.CNT).inc Reg.MIR_NAK_TX.CNT) p))))) ∧
    (h.unacked.filter (fun y => decide (y.burst.seq ≤ seq)) = [] → exec (.mirrorAckReceived p seq ofs) s = .next (settle s v)) ∧
    (h.unacked.filter (fun y => decide (y.burst.seq ≤ seq)) = [x] → v.clk ≤ x.norm →
      (p = 0 → exec (.mirrorAckReceived p seq ofs) s = .next (settle s (standbyCaught (endWaits 0 ids m)))) ∧
      (p = 1 → exec (.mirrorAckReceived p seq ofs) s = .next (settle s (endWaits 1 ids (m.put Reg.MIR_SEQ_ACK.ACK seq))))) ∧
    ((pathOf a p).unacked.find? (fun y => y.burst.seq == seq) = none → exec (.mirrorNakReceived p seq ofs) s = .next (settle s a)) ∧
    ((pathOf a p).unacked.find? (fun y => y.burst.seq == seq) = some x → r.clk ≤ x.norm →
      exec (.mirrorNakReceived p seq ofs) s = .next (settle s ((modPath p (fun q => { q with unacked := q.unacked.map (fun y =>
        if y.burst.seq = seq then { y with due := retxDue p (r.clk + burstClks p x.len) } else y) }) r).emit
          (.lanes "mirror" (p :: burstWire p (v.get Reg.MIR_STAT.SIDE) v.mir.session x.burst))))) ∧
    (h.unacked.any (fun x => x.burst.seq == seq && decide (x.due ≤ v.clk)) = true →
      exec (.mirrorRetransmitTimer p seq ofs) s = .next (settle s (retransmit p seq v))) ∧
    (h.unacked.any (fun x => x.burst.seq == seq && decide (x.due ≤ v.clk)) = false →
      exec (.mirrorRetransmitTimer p seq ofs) s = .next (settle s v)) ∧
    ((pathOf u p).unacked.any (fun x => decide (x.tick + lim ≤ u.core.ticks)) = false → exec (.receiverLost p) s = .next (settle s u)) ∧
    (u.mir.int.unacked.any (fun x => decide (x.tick + lim ≤ u.core.ticks)) = true → exec (.receiverLost 0) s = .next (settle s
      (clearPath 0 ((setCluster (clStandby u) clFAILED u).inc Reg.WDN_STBY_LOST.CNT)))) ∧
    (u.mir.twin.unacked.any (fun x => decide (x.tick + lim ≤ u.core.ticks)) = true →
      exec (.receiverLost 1) s = .next (settle s (twinLost u))) ∧
    (n = 0 ∨ v.ofs < usClk 45 ∨ Config.ofsDecode < v.ofs + burstClks p (resyncLen n) → exec (.resyncBurst p ofs) s = .next (settle s v)) ∧
    (n ≠ 0 → usClk 45 ≤ v.ofs → v.ofs + burstClks p (resyncLen n) ≤ Config.ofsDecode → mirPathUp v p = true →
      (pathOf w p).pagesLeft ≠ 0 → exec (.resyncBurst p ofs) s = .next (settle s (sendBurst p
        { burstHead w p 2 with pages := (List.range n).map (fun i => resyncPage (h.pagesLeft - i)) } w)))

/-- The twin path (R406 to R408): a trained link sends its part of the session's key; the peer's part makes the session key under the pair key; a
CONFIRM under that key links the path, another one does not; a lost link begins the split.
What rests on log entries 7 and 29 is the model's choice. -/
def Obligations.TwinLink : Prop :=
  ∀ (ofs : Fin 122880) (nonce : BitVec 128) (ver : BitVec 32) (k c : Nat) (s : State), s.live →
    let u := s.cleared
    let v := s.asOf ofs
    let n := Config.drbg u.core.free
    let x := Config.sessionKey k (u.mir.nonce ^^^ nonce.toNat)
    let w := modMir (fun m => { m with peerNonce := some nonce.toNat, peerFw := ver.toNat }) u
    let y := modMir (fun m => { m with session := none, confirmFail := none }) (u.put Reg.MIR_STAT.LINK 0)
    (u.on Reg.MIR_CTRL.TWIN = true → pdOn u 25 = true → u.get Reg.MIR_STAT.LINK ≤ 1 → exec .twinLinkTrained s = .next (settle s
      (((modMir (fun m => { m with nonce := n, peerNonce := none, session := none, confirmFail := none }) u.drawn).put
        Reg.MIR_STAT.LINK 2).emit (.lanes "mirror KEYING" (keyingWire (burstHead u 1 4).flags (u.tick % 2 ^ 32) n (u.get Reg.FW_RUN_VER.VER)))))) ∧
    (u.on Reg.MIR_CTRL.TWIN = false → exec .twinLinkTrained s = .next (settle s u)) ∧
    (u.get Reg.MIR_STAT.LINK ≠ 2 → exec (.keyingReceived nonce ver) s = .next (settle s u)) ∧
    (u.get Reg.MIR_STAT.LINK = 2 → pairKey w = none → exec (.keyingReceived nonce ver) s = .next (settle s w)) ∧
    (u.get Reg.MIR_STAT.LINK = 2 → pairKey w = some k → exec (.keyingReceived nonce ver) s = .next (settle s
      ((modMir (fun m => { m with session := some x }) w).emit (.lanes "mirror CONFIRM" (confirmWire (u.get Reg.MIR_STAT.SIDE) x (burstHead w 1 5).flags (u.tick % 2 ^ 32)))))) ∧
    (v.get Reg.MIR_STAT.LINK ≠ 2 → exec (.confirmReceived k ofs) s = .next (settle s v)) ∧
    (v.get Reg.MIR_STAT.LINK = 2 → v.mir.session = some k → exec (.confirmReceived k ofs) s = .next (settle s (linked v))) ∧
    (v.get Reg.MIR_STAT.LINK = 2 → v.mir.session ≠ some k → exec (.confirmReceived k ofs) s = .next (settle s
      (modMir (fun m => { m with confirmFail := some v.clk }) (v.inc Reg.MIR_MIC_FAIL.CNT)))) ∧
    (v.mir.confirmFail = some c → c + usClk 1000 ≤ v.clk → v.get Reg.MIR_STAT.LINK = 2 → exec (.confirmRetry ofs) s = .next (settle s
      (modMir (fun m => { m with confirmFail := none, session := none }) (v.put Reg.MIR_STAT.LINK 1)))) ∧
    (v.mir.confirmFail = none → exec (.confirmRetry ofs) s = .next (settle s v)) ∧
    (u.get Reg.MIR_STAT.LINK = 3 → exec .twinLinkDown s = .next (settle s (twinLost (y.inc Reg.MIR_LINK_DOWN.CNT)))) ∧
    (u.get Reg.MIR_STAT.LINK ≠ 3 → exec .twinLinkDown s = .next (settle s y))

/-- The transmit lease of a twin pair (R410 to R416, R418, R419): renewal, grant, lapse and its hold-off, the witness's presence, a planned yield, and
the override FORCE_HOLD with its challenge, decision and end. What rests on log entry 29 is the model's choice. -/
def Obligations.TransmitLease : Prop :=
  ∀ (ofs : Fin 122880) (level : Bool) (c : Nat) (s : State), s.live →
    let u := s.cleared
    let v := s.asOf ofs
    let z := modWdn (fun w => { w with forceSince := none }) (v.put Reg.WDN_FORCE_CTRL.ARMED 0)
    let y := modWdn (fun w => { w with forceDecide := none }) (v.put Reg.WDN_FORCE_CTRL.BUSY 0)
    let e := y.clk + forceDur y * 983040000
    let w := modWdn (fun w => { w with forceEnd := some e, leaseEnd := some e })
      ((y.put Reg.WDN_FORCE_CTRL.ACTIVE 1).put Reg.WDN_FORCE_LEFT.SEC (forceDur y))
    let t := modWdn (fun w => { w with forceEnd := none }) ((v.put Reg.WDN_FORCE_CTRL.ACTIVE 0).put Reg.WDN_FORCE_LEFT.SEC 0)
    let refused (x : State) : State := (x.put Reg.WDN_FORCE_CTRL.DENIED 1).inc Reg.WDN_FORCE_DENY.CNT
    (v.on Reg.MIR_CTRL.TWIN = true → v.on Reg.WDN_TWL_STAT.HELD = true → v.on Reg.WDN_STAT.FAIL = false → v.wdn.yieldStop = false →
      v.on Reg.WDN_FORCE_CTRL.ACTIVE = false →
      (v.wdn.yieldDue = false → renewalDue v = true → exec (.leaseRenewalEdge ofs) s = .next (settle s
        (((modWdn (fun w => { w with lastReq := some v.clk, granted := false })
          (v.incIf (v.wdn.lastReq.isSome && !v.wdn.granted) Reg.WDN_TWL_NOGRANT.CNT)).emit (.pin "LEASE_REQ" 1)).emit
            (.edge "LEASE_REQ" 0 (v.clk + usClk 5))))) ∧
      (v.wdn.yieldDue = false → v.wdn.lastReq = some c → v.clk < c + usClk 10 → exec (.leaseRenewalEdge ofs) s = .next (settle s v)) ∧
      (v.wdn.yieldDue = true → v.txc.mods = [] → exec (.leaseRenewalEdge ofs) s = .next (settle s
        (modWdn (fun w => { w with yieldStop := true }) v)))) ∧
    (v.on Reg.MIR_CTRL.TWIN = false ∨ v.on Reg.WDN_TWL_STAT.HELD = false → exec (.leaseRenewalEdge ofs) s = .next (settle s v)) ∧
    (v.on Reg.MIR_CTRL.TWIN = true → witOk v = true → v.on Reg.WDN_FORCE_CTRL.ACTIVE = false →
      (v.on Reg.WDN_TWL_STAT.PENDING = true → exec (.leaseGrant ofs) s = .next (settle s
        ((twinTake (v.clk + usClk 29) v).emit (.pin "LEASE_REQ" 0)))) ∧
      (v.on Reg.WDN_TWL_STAT.PENDING = false → v.wdn.lastReq = some c → v.on Reg.WDN_TWL_STAT.HELD = true → v.wdn.granted = false →
        v.clk ≤ c + usClk 2 → exec (.leaseGrant ofs) s = .next (settle s
          (modWdn (fun w => { w with granted := true, leaseEnd := some (c + usClk 30) }) v)))) ∧
    (witOk v = false → exec (.leaseGrant ofs) s = .next (settle s v)) ∧
    (v.on Reg.MIR_CTRL.TWIN = true → v.on Reg.WDN_TWL_STAT.HELD = true → v.on Reg.WDN_FORCE_CTRL.ACTIVE = false → v.wdn.leaseEnd = some c →
      (c ≤ v.clk → exec (.transmitLeaseLapse ofs) s = .next (settle s (lapse v))) ∧
      (v.clk < c → exec (.transmitLeaseLapse ofs) s = .next (settle s v))) ∧
    (v.wdn.holdoff = some c → c ≤ v.clk → exec (.requestHoldoffEnd ofs) s = .next (settle s
      (leaseAsk (modWdn (fun w => { w with holdoff := none }) v)))) ∧
    (v.wdn.holdoff = none → exec (.requestHoldoffEnd ofs) s = .next (settle s v)) ∧
    exec (.witPresentChange level ofs) s = .next (settle s (modWdn (fun w => { w with
      witHigh := if !level then none else if v.on Reg.WDN_TWL_STAT.WIT then w.witHigh else some v.clk }) (v.putB Reg.WDN_TWL_STAT.WIT level))) ∧
    (windowOn u Reg.MIR_CTRL.YIELD.addr = false → exec .leaseYield s = .next (settle s (u.inc Reg.HIF_PD_OFF_ACC.CNT))) ∧
    (windowOn u Reg.MIR_CTRL.YIELD.addr = true → u.on Reg.MIR_CTRL.TWIN = true → u.on Reg.WDN_TWL_STAT.HELD = true → twinLinked u = true →
      u.mir.peerCaughtUp = true → u.on Reg.WDN_TWL_STAT.WIT = true → exec .leaseYield s = .next (settle s
        (modWdn (fun w => { w with yieldSet := true }) (u.put Reg.MIR_CTRL.YIELD 1)))) ∧
    (windowOn u Reg.MIR_CTRL.YIELD.addr = true → twinLinked u = false ∨ u.mir.peerCaughtUp = false ∨ u.on Reg.WDN_TWL_STAT.WIT = false →
      u.wdn.yieldSet = false →
      exec .leaseYield s = .next (settle s ((u.put Reg.MIR_CTRL.YIELD 0).put Reg.MIR_STAT.YIELD_REFUSED 1))) ∧
    (v.on Reg.WDN_FORCE_CTRL.BUSY = true → exec (.forceHoldArm ofs) s = .next (settle s v)) ∧
    (v.on Reg.WDN_FORCE_CTRL.BUSY = false → exec (.forceHoldArm ofs) s = .next (settle s
      (modWdn (fun w => { w with forceSince := some v.clk })
        ((v.drawn.put Reg.WDN_FORCE_CHAL.CHAL (Config.drbg v.core.free)).put Reg.WDN_FORCE_CTRL.ARMED 1)))) ∧
    (v.wdn.forceSince = none → exec (.forceHoldConfirm ofs) s = .next (settle s v)) ∧
    (v.wdn.forceSince = some c → z.clk ≤ c + usClk 1000 → exec (.forceHoldConfirm ofs) s = .next (settle s
      (modWdn (fun w => { w with forceDecide := some (z.clk + usClk 4000) }) (z.put Reg.WDN_FORCE_CTRL.BUSY 1)))) ∧
    (v.wdn.forceSince = some c → c + usClk 1000 < z.clk → exec (.forceHoldConfirm ofs) s = .next (settle s (refused z))) ∧
    (v.wdn.forceDecide = none → exec (.forceHoldDecision ofs) s = .next (settle s v)) ∧
    (v.wdn.forceDecide = some c → c ≤ v.clk →
      (forceSigned y = true → y.on Reg.WDN_TWL_STAT.WIT = false → twinLinked y = false → w.on Reg.WDN_TWL_STAT.HELD = false →
        exec (.forceHoldDecision ofs) s = .next (settle s ((twinTake e w).emit (.pin "LEASE_REQ" 0)))) ∧
      (forceSigned y = true → y.on Reg.WDN_TWL_STAT.WIT = false → twinLinked y = false → w.on Reg.WDN_TWL_STAT.HELD = true →
        exec (.forceHoldDecision ofs) s = .next (settle s w)) ∧
      (forceSigned y = false ∨ y.on Reg.WDN_TWL_STAT.WIT = true →
        exec (.forceHoldDecision ofs) s = .next (settle s (refused y)))) ∧
    (v.on Reg.WDN_FORCE_CTRL.ACTIVE = true → v.wdn.forceEnd = some c → c ≤ v.clk →
      (t.on Reg.MIR_CTRL.TWIN = true → exec (.forceHoldEnd ofs) s = .next (settle s (lapse t))) ∧
      (t.on Reg.MIR_CTRL.TWIN = false → exec (.forceHoldEnd ofs) s = .next (settle s t))) ∧
    (v.on Reg.WDN_FORCE_CTRL.ACTIVE = false → exec (.forceHoldEnd ofs) s = .next (settle s v))

/-! ## Reset, firmware, facets and the life cycle -/

/-- The supplies, PORST_N and the boot up to the clusters (R247, R248, R431, R432, R453, R479, R494, R509 to R514): what is kept when all work is
abandoned, and what follows the release in its order; in RETIRED the boot goes no further than the life-cycle state.
What rests on log entries 33, 34 and 44 is the model's choice. -/
def Obligations.ResetsAndBoot : Prop :=
  ∀ (flash : Bool) (stage : Fin 6) (k : Nat) (s : State),
    let u := s.cleared
    let b := lcRoll (loupeLoad (modFw (fun f => { f with flash := flash }) (modPwr (fun p => { p with porstLow := false }) u)))
    let d := ((b.put Reg.KV_STATE.EPOCH b.otp.epoch).put Reg.FW_SVN.SVN b.otp.svn).emit (.pin "XSPI_RESET_N" 1)
    let t := ((abandoned stage (fun _ => []) u).put Reg.KV_STATE.CAUSE 0).put Reg.KV_STATE.STATE 0
    let y := setBank 0 { img := slotAt u k, verified := true } (modFw (fun f => { f with bootSlot := none }) u)
    (u.pwr.noSupply = true → exec .supplyRampUp s = .next (settle s
      { u with pwr := { u.pwr with noSupply := false, porstLow := true }, out := powerUpPins })) ∧
    (u.pwr.noSupply = false → exec .supplyRampUp s = .next (settle s u)) ∧
    (u.pwr.noSupply = true → exec (.porstAssert stage) s = .next (settle s u) ∧ exec (.supplyLoss stage) s = .next (settle s u)) ∧
    (u.pwr.noSupply = false → exec (.porstAssert stage) s = .next (settle s (abandoned stage keptSlots u))) ∧
    (u.pwr.noSupply = false → exec (.supplyLoss stage) s = .next (settle s
      { t with kv := { t.kv with epochDue := false, kekD := true, drbg := true }, pwr := { t.pwr with noSupply := true }, out := [] })) ∧
    (u.pwr.noSupply = true ∨ u.pwr.porstLow = false → exec (.porstRelease flash) s = .next (settle s u)) ∧
    (u.pwr.noSupply = false → u.pwr.porstLow = true → d.get Reg.LC_STATE.STATE = 4 →
      exec (.porstRelease flash) s = .next (settle s d)) ∧
    (u.pwr.noSupply = false → u.pwr.porstLow = true → d.get Reg.LC_STATE.STATE ≠ 4 →
      exec (.porstRelease flash) s = .next (settle s (bootSelect (tamperCheck d)))) ∧
    (s.live → u.on Reg.MEM_STAT.INIT_DONE = false → exec .sramInitDone s = .next (settle s
      (((u.put Reg.MEM_STAT.INIT_DONE 1).put Reg.HIF_STAT.READY 1).putB Reg.SEC_STAT.JRNL_OK u.fw.flash))) ∧
    (s.live → u.on Reg.MEM_STAT.INIT_DONE = true → exec .sramInitDone s = .next (settle s u)) ∧
    (s.live → u.fw.bootSlot = some k → u.on Reg.MEM_STAT.INIT_DONE = true → u.get Reg.LC_STATE.STATE ≠ 4 →
      exec .bootImageVerified s = .next (settle s
        (bootCluster 1 (bootCluster 0 (runSync ((y.put Reg.FW_STAT.RUN_BANK 0).put Reg.FW_STAT.BOOT_SLOT k)))))) ∧
    (s.live → u.fw.bootSlot = none → exec .bootImageVerified s = .next (settle s u))

/-- Firmware (R428 to R440): a load is refused during an activation; what it built is verified or it fails with the error's code; an activation
is accepted for a verified image in flash with a standby that is CAUGHT_UP, and aborted up to its handover; COMMIT_SVN raises the fuses' SVN.
What rests on log entry 31 is the model's choice. -/
def Obligations.FirmwareCommands : Prop :=
  ∀ (b : Fin 2) (h : PkgHdr) (o : List Byte) (x : Image) (e : Nat) (s : State), s.live →
    let u := s.cleared
    let k := stgBank u
    let c := clStandby u
    let r := ((u.put Reg.FW_STAT.RUN_BANK k).put Reg.FW_STAT.RECOVERY 0).put Reg.FW_STAT.BOOT_SLOT 2
    let a := ((u.put Reg.FW_STAT.ACT_STATE 0).put Reg.FW_STAT.ACT_ERR e).inc Reg.FW_ACT_ABORT.CNT
    let n := max u.otp.svn (min 64 (((bankAt u (runBank u)).img.map (·.hdr.svn)).getD 0))
    windowOn u Reg.FW_CTRL.LOAD.addr = true →
    (activating u = true → exec .fwLoad s = .next (settle s (u.put Reg.FW_STAT.LOAD_ERR 8))) ∧
    (activating u = false → loading u = true → exec .fwLoad s = .next (settle s u)) ∧
    (activating u = false → loading u = false → exec .fwLoad s = .next (settle s
      (((stgClear u).put Reg.FW_STAT.LOAD_STATE 1).put Reg.FW_STAT.LOAD_ERR 0))) ∧
    (loading u = false → exec (.fwLoadDone none) s = .next (settle s u)) ∧
    (loading u = true → exec (.fwLoadDone none) s = .next (settle s
      (((u.put Reg.FW_STAT.LOAD_STATE 5).put Reg.FW_STAT.LOAD_ERR 9).inc Reg.FW_LOAD_FAIL.CNT))) ∧
    (loading u = true → buildImage u h o = (e, none) → exec (.fwLoadDone (some (h.octets, some o))) s = .next (settle s
      (((u.put Reg.FW_STAT.LOAD_STATE 5).put Reg.FW_STAT.LOAD_ERR e).inc Reg.FW_LOAD_FAIL.CNT))) ∧
    (loading u = true → buildImage u h o = (e, some x) → exec (.fwLoadDone (some (h.octets, some o))) s = .next (settle s
      ((((setBank k { img := some x, verified := true } u).put Reg.FW_STAT.LOAD_STATE 4).put Reg.FW_STG_VER.VER
        x.hdr.targetVer).inc Reg.FW_LOADS.CNT))) ∧
    (u.get Reg.FW_STAT.LOAD_STATE = 4 → u.on Reg.FW_STAT.FLASH_DONE = false → u.fw.flash = true → u.get Reg.FW_STAT.BOOT_SLOT ≠ 2 →
      exec .fwFlashWriteDone s = .next (settle s ((setSlot (otherSlot u) (bankAt u k).img u).put Reg.FW_STAT.FLASH_DONE 1))) ∧
    (u.get Reg.FW_STAT.LOAD_STATE ≠ 4 ∨ u.on Reg.FW_STAT.FLASH_DONE = true ∨ u.fw.flash = false →
      exec .fwFlashWriteDone s = .next (settle s u)) ∧
    ((bankAt u b).verified = true ∨ (bankAt u b).img = none → exec (.bankReverify b true) s = .next (settle s u)) ∧
    ((bankAt u b).verified = false → (bankAt u b).img = some x →
      exec (.bankReverify b true) s = .next (settle s (setBank b { bankAt u b with verified := true } u)) ∧
      (b.val = k → exec (.bankReverify b false) s = .next (settle s
        ((((stgClear u).put Reg.FW_STAT.LOAD_STATE 5).put Reg.FW_STAT.LOAD_ERR 7).inc Reg.FW_LOAD_FAIL.CNT))) ∧
      (b.val ≠ k → dirNow u = none → exec (.bankReverify b false) s = .next (settle s
        (setBank b { img := none, verified := false } u)))) ∧
    (u.on Reg.FW_STAT.RECOVERY = true → (bankAt u k).verified = false → exec .fwActivate s = .next (settle s
      (u.put Reg.FW_STAT.ACT_ERR 1))) ∧
    (u.on Reg.FW_STAT.RECOVERY = true → (bankAt u k).verified = true → r.on Reg.FW_STAT.FLASH_DONE = false →
      exec .fwActivate s = .next (settle s (bootCluster 1 (bootCluster 0 (runSync r))))) ∧
    (u.on Reg.FW_STAT.RECOVERY = false → activating u = true → exec .fwActivate s = .next (settle s u)) ∧
    (u.on Reg.FW_STAT.RECOVERY = false → activating u = false → actRefusal u ≠ 0 → exec .fwActivate s = .next (settle s
      (u.put Reg.FW_STAT.ACT_ERR (actRefusal u)))) ∧
    (u.on Reg.FW_STAT.RECOVERY = false → activating u = false → actRefusal u = 0 → exec .fwActivate s = .next (settle s
      (clearPath 0 (bootCluster c (modFw (fun f => { f with actSince := u.core.ticks, newCl := c }) (u.put Reg.FW_STAT.ACT_STATE 1)))))) ∧
    (actBefore u = true → clState a (clStandby a) ≠ clACTIVE →
      (e = 7 → exec .fwAbort s = .next (settle s (clearPath 0 (bootCluster (clStandby a) a)))) ∧
      (e = 5 → u.fw.actSince + max 1 (u.get Reg.FW_ACT_CFG.MAX_TICKS) ≤ u.core.ticks →
        exec .activationTimeout s = .next (settle s (clearPath 0 (bootCluster (clStandby a) a))))) ∧
    (actBefore u = false → exec .fwAbort s = .next (settle s u) ∧ exec .activationTimeout s = .next (settle s u)) ∧
    (u.get Reg.FW_STAT.ACT_STATE = 5 → u.get Reg.LC_STATE.STATE ≠ 0 → exec .commitSvn s = .next (settle s
      { u.put Reg.FW_SVN.SVN n with otp := { u.otp with svn := n } })) ∧
    (u.get Reg.FW_STAT.ACT_STATE ≠ 5 ∨ u.get Reg.LC_STATE.STATE = 0 → exec .commitSvn s = .next (settle s u)) ∧
    (u.get Reg.FW_STAT.LOAD_STATE = 4 → u.on Reg.FW_STAT.FLASH_DONE = true → u.fw.flash = true →
      exec .fwCold s = .next (settle s (dirWrite (slotOfImage u (bankAt u (stgBank u)).img) u))) ∧
    (u.get Reg.FW_STAT.LOAD_STATE ≠ 4 → exec .fwCold s = .next (settle s u))

/-- Facets (R441 to R447): a load's image is held for the staged schema, or loaded; a request is for no cell sooner than LEAD cells from now;
a read pops the list of items that took their default. What rests on log entry 32 is the model's choice. -/
def Obligations.FacetCommands : Prop :=
  ∀ (mask : Fin 65536) (o : Option (List Byte)) (e n : Nat) (f : Facet) (s : State), s.live →
    let u := s.cleared
    let r := u.put Reg.FW_FACET_REQ.MASK (mask / 2)
    let want := r.get Reg.FW_FACET_CELL.CELL
    let lead := cellNo u + max 1 (r.get Reg.FW_FACET_CFG.LEAD)
    let a := u.put Reg.FW_FCT_STAT.FACET n
    let y := modFw (fun w => { w with store := w.store.set n (f :: (w.store.get n).take 1) })
      ((a.put Reg.FW_FCT_STAT.STATE 2).put Reg.FW_FCT_STAT.ERR 0)
    let w := deflWord u
    let d := Reg.FW_DEFLIST.ITEM.addr
    windowOn u Reg.FW_CTRL.LOAD.addr = true →
    exec .facetLoad s = .next (settle s (u.put Reg.FW_FCT_STAT.STATE 1)) ∧
    (want = 0 ∨ lead ≤ want → exec (.facetRequest mask) s = .next (settle s
      (modFw (fun f => { f with request := some (mask / 2 * 2, max want lead) }) r))) ∧
    (want ≠ 0 → want < lead → exec (.facetRequest mask) s = .next (settle s
      (modFw (fun f => { f with request := some (mask / 2 * 2, max want lead) }) ((r.put Reg.FW_FACET_REQ.LATE 1).inc Reg.FW_FACET_LATE.CNT)))) ∧
    (u.get Reg.FW_FCT_STAT.STATE ≠ 1 → exec (.facetLoadDone o) s = .next (settle s u)) ∧
    (u.get Reg.FW_FCT_STAT.STATE = 1 → facetCheck u (o.getD []) = (e, n, f) →
      (e ≠ 0 → exec (.facetLoadDone o) s = .next (settle s ((a.put Reg.FW_FCT_STAT.STATE 3).put Reg.FW_FCT_STAT.ERR e))) ∧
      (e = 0 → forStaged y f.schemaVer = true → exec (.facetLoadDone o) s = .next (settle s
        (modFw (fun w => { w with held := w.held.set n f }) (y.put Reg.FW_FCT_STAT.PENDING 1)))) ∧
      (e = 0 → forStaged y f.schemaVer = false → exec (.facetLoadDone o) s = .next (settle s
        (loadedSync (modFw (fun w => { w with loaded := w.loaded.set n f }) (y.put Reg.FW_FCT_STAT.PENDING 0)))))) ∧
    (windowOn u d = true → exec .fwDeflistRead s = .next (settle s
      ((deflSync (modFw (fun f => { f with defl := f.defl.drop 1 })
        { u with core := { u.core with latch := u.core.latch.insert d (w / 2 ^ 32) } })).emit (.readWord 0 d (w % 2 ^ 32)))))

/-- Life-cycle transitions (R450 to R452, R499): an arming gives a challenge and is lapsed after 1 ms; a confirmation is refused with its code,
or accepted with both debug levels dropped; its end writes the record pair and the new state. What rests on log entry 33 is the model's choice. -/
def Obligations.LifeCycle : Prop :=
  ∀ (target : Fin 8) (ofs : Fin 122880) (b : Nat) (s : State), s.live →
    let u := s.cleared
    let v := s.asOf ofs
    let r := v.put Reg.LC_REQ.TARGET target
    let x := r.drawn.put Reg.LC_CHAL.CHAL (Config.drbg r.core.free)
    let a := r.put Reg.LC_REQ.ARMED 0
    let y : State := { a with lc := { a.lc with armed := none } }
    let z := (y.put Reg.LC_STATE.BUSY 1).put Reg.LC_STATE.ERR 0
    let w := preIntent (u.get Reg.LC_STATE.STATE) b true u
    let p := lcPair w b (if b = 1 then payCopy u else 0)
    let t : State := { w with lc := { w.lc with target := none }, otp := { w.otp with pairs := w.otp.pairs ++ [p] } }
    let n := w.otp.pairs.length
    let o := (t.emit (.lanes "OTP intent" (n :: intentOctets n p))).emit (.lanes "OTP commit 0" (n :: commitOctets n p))
    (r.on Reg.LC_STATE.BUSY = true → exec (.lcArm target ofs) s = .next (settle s r) ∧ exec (.lcConfirm target ofs) s = .next (settle s r)) ∧
    (r.on Reg.LC_STATE.BUSY = false →
      exec (.lcArm target ofs) s = .next (settle s { x.put Reg.LC_REQ.ARMED 1 with lc := { r.lc with armed := some r.clk } }) ∧
      (lcErr r target ≠ 0 → exec (.lcConfirm target ofs) s = .next (settle s
        ((y.put Reg.LC_STATE.DENIED 1).put Reg.LC_STATE.ERR (lcErr r target)))) ∧
      (lcErr r target = 0 → exec (.lcConfirm target ofs) s = .next (settle s
        (levelDrop 1 (levelDrop 0 { z with lc := { z.lc with target := some target.val } })))) ∧
      (r.lc.armed = none → lcErr r target = 2)) ∧
    (u.lc.target = none → exec .lcTransitionDone s = .next (settle s u)) ∧
    (u.lc.target = some b → exec .lcTransitionDone s = .next (settle s
      (lcSync ((forEach (List.range 54) (fun i s => s.put (Reg.LC_PROV_ARGi.ARG i) 0) o).put Reg.LC_STATE.BUSY 0))))

/-! ## Power, memory, Loupe and debug -/

/-- Power requests and sequences (R462 to R477, R520): refused with the refuser's code, queued behind another, merged with the same, answered at once
where the state is reached; the steps of a sequence; the wake sources of DORMANT; the thermal shutdown drops the transmit lease.
What rests on log entry 33 is the model's choice. -/
def Obligations.PowerSequences : Prop :=
  ∀ (target : Fin 8) (n : Fin 16) (rising on : Bool) (r d k tick : Nat) (q : PwrSeq) (c : Tab Nat) (s : State), s.live →
    let u := s.cleared
    let p := u.put Reg.PWR_REQ.TARGET target
    let o := modPwr (fun p => { p with sw := none }) (u.at (k - u.core.ticks * Config.tickClocks))
    let x := if on then domainOn d o else domainOff d o
    let wait := min 4 (max 1 (u.eff Reg.DEC_CTRL.BUDGET_TICKS)) + b2n (u.effOn Reg.MIR_CTRL.CNT_MIRROR && u.on Reg.MIR_CTRL.TWIN) + 2
    let t := modPwr (fun p => { p with parked := if clActive u then some (clHolder u) else none }) u
    let f := if 256 ≤ u.lpe.flash.length then u.lpe.flash.drop 128 else u.lpe.flash
    let g := u.emit (.lanes "flash seal" (sealRecord u.lpe.seq tick c))
    let y : State := { g with lpe := { u.lpe with sealing := none, seq := u.lpe.seq + 1, flash := f ++ [(u.lpe.seq, c)] } }
    let l := lpeHeld 0x091 (leaseAbort ((modWdn (fun w => { w with leaseEnd := none, lastReq := none }) (u.put Reg.WDN_TWL_STAT.HELD 0)).emit
      (.pin "LEASE_REQ" 0)))
    let m := setQueued none (l.incIf l.pwr.queued.isSome Reg.PWR_REPLACED.CNT)
    (p.pwr.seqn = none → pwrState p = 4 → exec (.powerRequest target) s = .next (settle s p)) ∧
    (p.pwr.seqn ≠ none ∨ pwrState p ≠ 4 →
      (p.on Reg.WDN_STAT.FROZEN = true → exec (.powerRequest target) s = .next (settle s
        ((pwrQueue target 0 p).put Reg.PWR_STAT.LAST_RESULT 2))) ∧
      (p.on Reg.WDN_STAT.FROZEN = false → refuser p target 0 = some r →
        exec (.powerRequest target) s = .next (settle s (pwrRefused target 0 r p))) ∧
      (p.on Reg.WDN_STAT.FROZEN = false → refuser p target 0 = none →
        (p.pwr.seqn = none → target = 0 → pwrState p = 0 →
          exec (.powerRequest target) s = .next (settle s (p.put Reg.PWR_STAT.LAST_RESULT 4))) ∧
        (p.pwr.seqn = none → target.val ≠ 0 ∨ pwrState p ≠ 0 → pwrState p ≠ 3 ∨ 3 ≤ target.val →
          exec (.powerRequest target) s = .next (settle s ((pwrBegin target 0 p).put Reg.PWR_STAT.LAST_RESULT 1))) ∧
        (p.pwr.seqn = none → pwrState p = 3 → target.val < 3 →
          exec (.powerRequest target) s = .next (settle s (wakeOn 1 0 target (p.put Reg.PWR_STAT.LAST_RESULT 1)))) ∧
        (p.pwr.seqn = some q → q.target ≠ target.val →
          exec (.powerRequest target) s = .next (settle s ((pwrQueue target 0 p).put Reg.PWR_STAT.LAST_RESULT 2))) ∧
        (p.pwr.seqn = some q → q.target = target.val → exec (.powerRequest target) s = .next (settle s
          (((setQueued none (p.incIf p.pwr.queued.isSome Reg.PWR_REPLACED.CNT)).inc Reg.PWR_MERGED.CNT).put Reg.PWR_STAT.LAST_RESULT 3))))) ∧
    (u.pwr.sw = none → exec .domainSwitchDone s = .next (settle s (swArm u))) ∧
    (u.pwr.sw = some (d, on, k) → switching u = some (d, on) → (u.core.ticks + 1) * Config.tickClocks ≤ k →
      exec .domainSwitchDone s = .next (settle s u)) ∧
    (u.pwr.sw = some (d, on, k) → switching u = some (d, on) → k < (u.core.ticks + 1) * Config.tickClocks →
      (u.pwr.seqn = none → exec .domainSwitchDone s = .next (settle s (swArm (modPwr (fun p => { p with cyc := p.cyc.drop 1 }) x)))) ∧
      (u.pwr.seqn = some q → q.ups ≠ [] →
        exec .domainSwitchDone s = .next (settle s (swArm (pwrNext { q with ups := q.ups.drop 1 } x)))) ∧
      (u.pwr.seqn = some q → q.ups = [] → q.downs ≠ [] →
        exec .domainSwitchDone s = .next (settle s (swArm (pwrNext { q with downs := q.downs.drop 1 } x))))) ∧
    (u.pwr.seqn = none → exec .dormantDrainDone s = .next (settle s u)) ∧
    (u.pwr.seqn = some q → q.phase = 3 → q.mark + wait ≤ u.core.ticks → u.mir.int.unacked = [] → u.mir.twin.unacked = [] →
      exec .dormantDrainDone s = .next (settle s (setSeq (some { q with phase := 4 }) (sealStart (domainOff 2 (domainOff 1 t)))))) ∧
    (u.pwr.seqn = some q → q.phase ≠ 3 ∨ u.core.ticks < q.mark + wait → exec .dormantDrainDone s = .next (settle s u)) ∧
    (u.lpe.sealing = none → exec .loupeSealDone s = .next (settle s u)) ∧
    (u.lpe.sealing = some (c, tick) → exec .loupeSealDone s = .next (settle s
      (swArm (sealedOff ((y.inc Reg.LPE_STAT.SEALS).put Reg.LPE_CTRL.SEAL 0))))) ∧
    (timerDue u = true → exec .wakeTimer s = .next (settle s (wakeOn 2 0 (wakeTarget u) u))) ∧
    (timerDue u = false → exec .wakeTimer s = .next (settle s u)) ∧
    (bitAt (u.get Reg.PWR_WAKE_GPIO.EN) n = true → bitAt (u.get Reg.PWR_WAKE_GPIO.EDGE) n = rising →
      exec (.wakeGpio n rising) s = .next (settle s (wakeOn 3 n (wakeTarget u) u))) ∧
    (bitAt (u.get Reg.PWR_WAKE_GPIO.EN) n = false → exec (.wakeGpio n rising) s = .next (settle s u)) ∧
    (u.on Reg.PWR_STAT.RELEASE_READY = true → exec .padRelease s = .next (settle s
      (feSync (modPwr (fun p => { p with rearm := true }) ((u.put Reg.PWR_STAT.PAD_HELD 0).put Reg.PWR_STAT.RELEASE_READY 0))))) ∧
    (u.on Reg.PWR_STAT.RELEASE_READY = false → exec .padRelease s = .next (settle s u)) ∧
    (m.pwr.seqn = some q → q.target = 4 → q.phase ≠ 0 → exec .thermalShutdown s = .next (settle s m)) ∧
    (m.pwr.seqn = some q → q.target ≠ 4 ∨ q.phase = 0 → exec .thermalShutdown s = .next (settle s (modPwr (fun p => { p with thermal := true }) m))) ∧
    (m.pwr.seqn = none → pwrState m ≠ 4 → pwrState m ≠ 3 → exec .thermalShutdown s = .next (settle s
      (pwrBegin 4 0 (modPwr (fun p => { p with thermal := true }) m)))) ∧
    (m.pwr.seqn = none → pwrState m = 3 → exec .thermalShutdown s = .next (settle s (pwrFinish 4 m))) ∧
    (m.pwr.seqn = none → pwrState m = 4 → exec .thermalShutdown s = .next (settle s m))

/-- Memory and Loupe (R482 to R487, R490 to R495): the training of LPDDR5X, the two windows and the log of errors; the counters are read through
LPE_SEL, sealed to flash with the snapshot of a tick boundary, and put out as octets under a signature. What rests on log entry 33 is the model's choice. -/
def Obligations.MemoryAndLoupe : Prop :=
  ∀ (w : Fin 2) (size : Fin 4) (id : Fin 4096) (bin : Fin 32) (a b e k : Nat) (l : List (Nat × Nat × Nat)) (q : List Nat) (s : State), s.live →
    let u := s.cleared
    let g := Reg.MEM_ECC_LOG.REGION.addr
    let o := modMem (fun m => { m with fillQ := m.fillQ ++ [w.val] }) (u.put (winState w) 1)
    let f := winForget k ((modMem (fun m => { m with fillQ := q }) u).put (winState k) 3)
    let c := winForget w ((modMem (fun m => { m with fillQ := setDel m.fillQ w }) u).put (winState w) 0)
    let hidden := lpeSealed id && dbgLevel u 0 == 0
    let v := if hidden || !lpeExists id then 0 else u.lpe.cnt.get (if lpeIsHist id then 0x10000 + 32 * id + bin else id)
    let open1 := decide (1 ≤ dbgLevel u 0)
    let msg := lpeHeader u.lpe.seq u.tick (b2n open1) ++ lpeEntries (fun id => open1 || !lpeSealed id) u.lpe.cnt
    windowOn u g = true → windowOn u Reg.MEM_DRAM_CFG.TRAIN.addr = true → windowOn u Reg.LPE_SEL.ID.addr = true →
    (u.mem.log = (a, b, e) :: l → exec .memEccLogRead s = .next (settle s ((eccSync (modMem (fun m => { m with log := l })
      { u with core := { u.core with latch := u.core.latch.insert g e } })).emit (.readWord 0 g (a + 256 * b + 65536))))) ∧
    (u.mem.log = [] → exec .memEccLogRead s = .next (settle s ((eccSync (modMem (fun m => { m with log := [] })
      { u with core := { u.core with latch := u.core.latch.insert g 0 } })).emit (.readWord 0 g 0)))) ∧
    exec .dramTrain s = .next (settle s (u.put Reg.MEM_DRAM_CFG.TRAIN 1)) ∧
    (u.on Reg.MEM_DRAM_CFG.TRAIN = true → exec (.dramTrainDone size) s = .next (settle s
      (((u.put Reg.MEM_DRAM_CFG.TRAIN 0).putB Reg.MEM_STAT.DRAM_OK (size != 0)).put Reg.MEM_STAT.DRAM_SIZE size))) ∧
    (u.on Reg.MEM_DRAM_CFG.TRAIN = false → exec (.dramTrainDone size) s = .next (settle s u)) ∧
    (u.get (winState w) ≠ 0 → exec (.windowOpen w) s = .next (settle s u)) ∧
    (u.get (winState w) = 0 → u.on Reg.MEM_STAT.DRAM_OK = true → winBadPlace u w = false → exec (.windowOpen w) s = .next (settle s (winFill o))) ∧
    (u.get (winState w) = 0 → u.on Reg.MEM_STAT.DRAM_OK = false ∨ winBadPlace u w = true →
      exec (.windowOpen w) s = .next (settle s (u.put (Reg.MEM_WINw_STAT.ERR w) 1))) ∧
    (u.mem.fillQ = [] → exec .windowFillDone s = .next (settle s u)) ∧
    (u.mem.fillQ = 0 :: q → k = 0 → exec .windowFillDone s = .next (settle s (winFill (f.put Reg.FWD_STAT.NTC_OPEN 1)))) ∧
    (u.mem.fillQ = k :: q → k ≠ 0 → exec .windowFillDone s = .next (settle s (winFill f.drawn))) ∧
    (u.get (winState w) = 0 → exec (.windowClose w) s = .next (settle s u)) ∧
    (u.get (winState w) ≠ 0 → w = 0 → exec (.windowClose w) s = .next (settle s (winFill (c.put Reg.FWD_STAT.NTC_OPEN 0)))) ∧
    (u.get (winState w) ≠ 0 → w = 1 → exec (.windowClose w) s = .next (settle s (winFill c))) ∧
    (u.on Reg.LPE_CTRL.SEAL = false → exec .loupeSeal s = .next (settle s
      { u.put Reg.LPE_CTRL.SEAL 1 with lpe := { u.lpe with sinceSeal := 0 } })) ∧
    (u.on Reg.LPE_CTRL.SEAL = true → u.lpe.sealing = none → sealSnap u = { u with lpe := { u.lpe with sealing := some (u.lpe.cnt, u.tick) } }) ∧
    (u.on Reg.LPE_CTRL.SEAL = true → exec .loupeSeal s = .next (settle s u) ∧ exec .loupePeriodicSeal s = .next (settle s u)) ∧
    (u.on Reg.LPE_CTRL.SEAL = false → max 60 (u.get Reg.LPE_CFG.PERIOD) ≤ u.lpe.sinceSeal → exec .loupePeriodicSeal s = .next (settle s
      { u.put Reg.LPE_CTRL.SEAL 1 with lpe := { u.lpe with sinceSeal := 0 } })) ∧
    (u.lpe.sinceSeal < max 60 (u.get Reg.LPE_CFG.PERIOD) → exec .loupePeriodicSeal s = .next (settle s u)) ∧
    exec .loupeExport s = .next (settle s (u.emit (.lanes "host record"
      (u.get Reg.LPE_EXP_ADDR.ADDR / 64 * 64 :: (msg ++ (List.range 96).map (Config.loupeSign msg)))))) ∧
    exec (.loupeSelect id bin) s = .next (settle s (putAll [(Reg.LPE_SEL.ID, id.val), (Reg.LPE_SEL.BIN, bin.val), (Reg.LPE_SEL.HIDDEN, b2n hidden),
      (Reg.LPE_VAL_LO.VAL, v % 2 ^ 32), (Reg.LPE_VAL_HI.VAL, v / 2 ^ 32)] u))

/-- The debug paths (R394, R496 to R502): a challenge, its decision and the level it gives; the quiet view reads without effect at any level but 0;
reads with effect and writes need level 2, as do halting and resuming a cluster; the TAP.
What rests on log entries 33 and 36 is the model's choice. -/
def Obligations.DebugPaths : Prop :=
  ∀ (p c : Fin 2) (level : Fin 4) (words : Fin 16) (e : DbgEnv) (i : Fin 9) (k : Nat) (s : State), s.live →
    let u := s.cleared
    let v := s.asOf e.ofs
    let reach (x : State) : Bool := if p = 0 then windowOn x Reg.DBG_AUTH_CTRL.CODE.addr else decide (x.dbg.tap = 2)
    let r := v.put (pathFld p Reg.DBG_AUTH_CTRL.LEVEL) level
    let y := modPathDbg p (fun x => { x with decide := none, late := false }) (v.put (pathFld p Reg.DBG_AUTH_CTRL.BUSY) 0)
    let l := min 2 (y.get (pathFld p Reg.DBG_AUTH_CTRL.LEVEL))
    let z := if l = 1 then levelDrop p y else y
    let g (consume write : Nat) : State := qvGo p consume write words v
    let n := words.val + 1
    let st := clState v c
    let h := modDbg (fun d => { d with was := d.was.insert c st })
      ((v.put (Reg.DBG_CCc_STAT.HALTED c) 1).put (Reg.DBG_CCc_STAT.PATH c) p)
    let was := u.dbg.was.get c
    let w := modDbg (fun d => { d with was := d.was.erase c.val }) (modWdn (fun w => { w with hungA := w.hungA && c.val != 0, hungB := w.hungB && c.val != 1 })
      ((u.put (Reg.DBG_CCc_STAT.HALTED c) 0).put (Reg.DBG_CCc_STAT.PATH c) 0))
    (reach v = true → r.on (pathFld p Reg.DBG_AUTH_CTRL.BUSY) = true → exec (.debugAuthArm p level e.ofs) s = .next (settle s r)) ∧
    (reach v = true → r.on (pathFld p Reg.DBG_AUTH_CTRL.BUSY) = false → exec (.debugAuthArm p level e.ofs) s = .next (settle s
      (modPathDbg p (fun x => { x with armed := some r.clk }) (r.drawn.put (pathFld p Reg.DBG_AUTH_CHAL.CHAL) (Config.drbg r.core.free))))) ∧
    (reach v = true → (dbgPath v p).armed = none → exec (.debugAuthConfirm p e.ofs) s = .next (settle s v)) ∧
    (reach v = true → (dbgPath v p).armed = some k → exec (.debugAuthConfirm p e.ofs) s = .next (settle s
      (modPathDbg p (fun x => { x with armed := none, late := decide (k + usClk 1000 < v.clk), decide := some (v.clk + usClk 4000) })
        (v.put (pathFld p Reg.DBG_AUTH_CTRL.BUSY) 1)))) ∧
    ((dbgPath v p).decide = none → exec (.debugAuthDecision p e.ofs) s = .next (settle s v)) ∧
    ((dbgPath v p).decide = some k → k ≤ v.clk →
      ((dbgPath v p).late = true ∨ l = 0 ∨ dbgSigned y p = false → exec (.debugAuthDecision p e.ofs) s = .next (settle s
        (lpe 0x094 (y.put (pathFld p Reg.DBG_AUTH_CTRL.DENIED) 1)))) ∧
      ((dbgPath v p).late = false → l ≠ 0 → dbgSigned y p = true → exec (.debugAuthDecision p e.ofs) s = .next (settle s
        (lpe 0x093 (modPathDbg p (fun x => { x with ends := some (z.clk + dbgDur z p * 983040000) })
          (z.put (pathFld p Reg.DBG_AUTH_CTRL.CUR) l)))))) ∧
    (reach u = true → exec (.debugAuthDrop p) s = .next (settle s (levelDrop p u))) ∧
    (u.get (pathFld p Reg.DBG_AUTH_CTRL.CUR) ≠ 2 → levelDrop p u =
      modPathDbg p (fun x => { x with ends := none }) (u.put (pathFld p Reg.DBG_AUTH_CTRL.CUR) 0)) ∧
    ((dbgPath v p).ends = some k → k ≤ v.clk → exec (.debugAuthExpiry p e.ofs) s = .next (settle s (levelDrop p v))) ∧
    ((dbgPath v p).ends = none → exec (.debugAuthExpiry p e.ofs) s = .next (settle s v)) ∧
    (reach v = true → dbgLevel (g 0 0) p = 0 → exec (.quietViewRead p words e.ofs) s = .next (settle s (qvDenied p (g 0 0)))) ∧
    (reach v = true → dbgLevel (g 0 0) p ≠ 0 → qvSpace (g 0 0) p = 0 → exec (.quietViewRead p words e.ofs) s = .next (settle s
      (qvDone p (quietReads n (qvAddr (g 0 0) p / 4 * 4) (g 0 0)) false (g 0 0)))) ∧
    (reach v = true → dbgLevel (g 1 0) p ≠ 2 → exec (.debugConsume p words e.ofs) s = .next (settle s (qvDenied p (g 1 0)))) ∧
    (reach v = true → dbgLevel (g 1 0) p = 2 → qvSpace (g 1 0) p = 0 → exec (.debugConsume p words e.ofs) s = .next (settle s
      (qvDone p (ordinaryReads n (qvAddr (g 1 0) p / 4 * 4) (g 1 0)).1 false (ordinaryReads n (qvAddr (g 1 0) p / 4 * 4) (g 1 0)).2))) ∧
    (reach v = true → dbgLevel (g 0 1) p ≠ 2 → exec (.debugWrite p words e) s = .next (settle s (qvDenied p (g 0 1)))) ∧
    (reach v = true → dbgLevel (g 0 1) p = 2 → qvSpace (g 0 1) p = 0 → exec (.debugWrite p words e) s = .next (settle s
      ((forEach (List.range n) (fun i s =>
        let b := qvAddr (g 0 1) p / 4 * 4 + 4 * i
        if b / 0x100000 = 12 then s else
          (if p.val = 0 then wordWith [] e else fullWord e) b ((g 0 1).get (pathFld p (Reg.DBG_QV_DATAi.DATA i))) s) (g 0 1)).put (pathFld p Reg.DBG_QV_STAT.DONE) 1))) ∧
    (reach v = true → dbgLevel v p ≠ 2 → exec (.dbgHalt p c e.ofs) s = .next (settle s v)) ∧
    (reach v = true → dbgLevel v p = 2 → v.on (Reg.DBG_CCc_STAT.HALTED c) = false →
      (st = clOFF ∨ st = clFAILED → exec (.dbgHalt p c e.ofs) s = .next (settle s v)) ∧
      (st ≠ clOFF → st ≠ clFAILED → st ≠ clACTIVE → exec (.dbgHalt p c e.ofs) s = .next (settle s (setCluster c clHALTED h))) ∧
      (st = clACTIVE → h.on Reg.DBG_CTRL.HOLD_LEASE = true → exec (.dbgHalt p c e.ofs) s = .next (settle s
        (modWdn (fun w => { w with hungA := w.hungA || c.val == 0, hungB := w.hungB || c.val == 1 }) h))) ∧
      (st = clACTIVE → h.on Reg.DBG_CTRL.HOLD_LEASE = false → exec (.dbgHalt p c e.ofs) s = .next (settle s
        (faultReport (h.inc Reg.WDN_HALT_FAULT.CNT))))) ∧
    (reach u = true → dbgLevel u p = 2 → u.on (Reg.DBG_CCc_STAT.HALTED c) = true →
      exec (.dbgStep p c) s = .next (settle s (u.emit (.toFirmware "step" [c.val]))) ∧
      (clState w c = clHALTED → exec (.dbgResume p c) s = .next (settle s (setCluster c was w))) ∧
      (clState w c ≠ clHALTED → exec (.dbgResume p c) s = .next (settle s w))) ∧
    (dbgLevel u p ≠ 2 → reach u = true → exec (.dbgStep p c) s = .next (settle s u) ∧ exec (.dbgResume p c) s = .next (settle s u)) ∧
    (tapPermitted u i = false → exec (.jtagInstruction i) s = .next (settle s { u with dbg := { u.dbg with tap := tapBYPASS } })) ∧
    (i.val ≠ 0 → i.val < 4 → tapPermitted u i = true → exec (.jtagInstruction i) s = .next (settle s { u with dbg := { u.dbg with tap := i.val } })) ∧
    (tapPermitted u 0 = true → exec (.jtagInstruction 0) s = .next (settle s
      ({ u with dbg := { u.dbg with tap := tapIDCODE } : State }.emit (.pin "TDO IDCODE" 0xB71289CF)))) ∧
    (4 ≤ i.val → tapPermitted u i = true → exec (.jtagInstruction i) s = .next (settle s
      ({ u with dbg := { u.dbg with tap := i.val } : State }.emit (.pin "BOUNDARY" i)))) ∧
    exec .tapReset s = .next (settle s { u with dbg := { u.dbg with tap := tapIDCODE } })
end

