-- ==== Sys2Proof/Laws/Tab.lean ====
section
/-! SUPPORT. Lemmas about sparse tables: a read after a write, and that every operation keeps the canonical form. -/

namespace Sys2Proof.Machine

variable {α : Type}

theorem Tab.find?_insert_self (t : Tab α) (i : Nat) (x : α) : (t.insert i x).find? i = some x := by
  induction t with
  | nil => simp [Tab.insert, Tab.find?]
  | cons e t ih =>
    obtain ⟨k, v⟩ := e
    simp only [Tab.insert]
    split
    · simp [Tab.find?]
    · split
      · simp [Tab.find?]
      · next h => simp [Tab.find?, Ne.symm h, ih]

theorem Tab.find?_insert_ne (t : Tab α) {i j : Nat} (x : α) (h : i ≠ j) : (t.insert i x).find? j = t.find? j := by
  induction t with
  | nil => simp [Tab.insert, Tab.find?, h]
  | cons e t ih =>
    obtain ⟨k, v⟩ := e
    simp only [Tab.insert]
    split
    · simp [Tab.find?, h]
    · split
      · next hk => subst hk; simp [Tab.find?, h]
      · simp [Tab.find?, ih]

theorem Tab.find?_erase_self (t : Tab α) (i : Nat) : (t.erase i).find? i = none := by
  induction t with
  | nil => rfl
  | cons e t ih =>
    obtain ⟨k, v⟩ := e
    simp only [Tab.erase]
    split
    · exact ih
    · next h => simp [Tab.find?, h, ih]

theorem Tab.find?_erase_ne (t : Tab α) {i j : Nat} (h : i ≠ j) : (t.erase i).find? j = t.find? j := by
  induction t with
  | nil => rfl
  | cons e t ih =>
    obtain ⟨k, v⟩ := e
    simp only [Tab.erase]
    split
    · next hk => subst hk; simp [Tab.find?, h, ih]
    · simp [Tab.find?, ih]

/-- A read of a key after a write of it gives the value written. -/
theorem Tab.getD_setD_self [DecidableEq α] (t : Tab α) (d : α) (i : Nat) (x : α) : (t.setD d i x).getD d i = x := by
  unfold Tab.setD Tab.getD
  split
  · next h => simp [Tab.find?_erase_self, h]
  · simp [Tab.find?_insert_self]

/-- A write leaves every other key as it reads. -/
theorem Tab.getD_setD_ne [DecidableEq α] (t : Tab α) (d : α) {i j : Nat} (x : α) (h : i ≠ j) :
    (t.setD d i x).getD d j = t.getD d j := by
  unfold Tab.setD Tab.getD
  split
  · rw [Tab.find?_erase_ne t h]
  · rw [Tab.find?_insert_ne t x h]

theorem Tab.get_set_self [Inhabited α] [DecidableEq α] (t : Tab α) (i : Nat) (x : α) : (t.set i x).get i = x :=
  Tab.getD_setD_self t default i x

theorem Tab.get_set_ne [Inhabited α] [DecidableEq α] (t : Tab α) {i j : Nat} (x : α) (h : i ≠ j) : (t.set i x).get j = t.get j :=
  Tab.getD_setD_ne t default x h

/-! ## The canonical form -/

/-- Every key of the table is above `i`. -/
def Tab.above (i : Nat) (t : Tab α) : Prop := ∀ e ∈ t, i < e.1

theorem Tab.rising_cons {k : Nat} {v : α} {t : Tab α} : Tab.rising ((k, v) :: t) = true ↔ Tab.above k t ∧ Tab.rising t = true := by
  induction t generalizing k v with
  | nil => simp [Tab.rising, Tab.above]
  | cons e t ih =>
    obtain ⟨k', v'⟩ := e
    simp only [Tab.rising, Bool.and_eq_true, decide_eq_true_eq]
    constructor
    · rintro ⟨h, hr⟩
      refine ⟨fun e he => ?_, hr⟩
      rcases List.mem_cons.1 he with rfl | he
      · exact h
      · exact Nat.lt_trans h ((ih.1 hr).1 e he)
    · rintro ⟨h, hr⟩
      exact ⟨h _ (List.mem_cons_self ..), hr⟩

theorem Tab.mem_insert {t : Tab α} {i : Nat} {x : α} {e : Nat × α} (h : e ∈ t.insert i x) : e = (i, x) ∨ e ∈ t := by
  induction t with
  | nil => simpa [Tab.insert] using h
  | cons a t ih =>
    obtain ⟨k, v⟩ := a
    simp only [Tab.insert] at h
    split at h
    · simpa using h
    · split at h
      · rcases List.mem_cons.1 h with h | h
        · exact .inl h
        · exact .inr (List.mem_cons_of_mem _ h)
      · rcases List.mem_cons.1 h with h | h
        · exact .inr (h ▸ List.mem_cons_self ..)
        · rcases ih h with h | h
          · exact .inl h
          · exact .inr (List.mem_cons_of_mem _ h)

theorem Tab.mem_erase {t : Tab α} {i : Nat} {e : Nat × α} (h : e ∈ t.erase i) : e ∈ t := by
  induction t with
  | nil => simp [Tab.erase] at h
  | cons a t ih =>
    obtain ⟨k, v⟩ := a
    simp only [Tab.erase] at h
    split at h
    · exact List.mem_cons_of_mem _ (ih h)
    · rcases List.mem_cons.1 h with h | h
      · exact h ▸ List.mem_cons_self ..
      · exact List.mem_cons_of_mem _ (ih h)

theorem Tab.rising_insert (t : Tab α) (i : Nat) (x : α) (h : t.rising = true) : (t.insert i x).rising = true := by
  induction t with
  | nil => rfl
  | cons a t ih =>
    obtain ⟨k, v⟩ := a
    have hc := Tab.rising_cons.1 h
    simp only [Tab.insert]
    split
    · next hi =>
      refine Tab.rising_cons.2 ⟨fun e he => ?_, h⟩
      rcases List.mem_cons.1 he with rfl | he
      · exact hi
      · exact Nat.lt_trans hi (hc.1 e he)
    · split
      · next hk => subst hk; exact Tab.rising_cons.2 hc
      · next h1 h2 =>
        refine Tab.rising_cons.2 ⟨fun e he => ?_, ih hc.2⟩
        rcases Tab.mem_insert he with rfl | he
        · show k < i; omega
        · exact hc.1 e he

theorem Tab.rising_erase (t : Tab α) (i : Nat) (h : t.rising = true) : (t.erase i).rising = true := by
  induction t with
  | nil => rfl
  | cons a t ih =>
    obtain ⟨k, v⟩ := a
    have hc := Tab.rising_cons.1 h
    simp only [Tab.erase]
    split
    · exact ih hc.2
    · exact Tab.rising_cons.2 ⟨fun e he => hc.1 e (Tab.mem_erase he), ih hc.2⟩

/-- Every write keeps the canonical form. -/
theorem Tab.wf_setD [DecidableEq α] (t : Tab α) (d : α) (i : Nat) (x : α) (h : t.wf d = true) : (t.setD d i x).wf d = true := by
  simp only [Tab.wf, Bool.and_eq_true, List.all_eq_true, decide_eq_true_eq] at h ⊢
  unfold Tab.setD
  split
  · exact ⟨Tab.rising_erase t i h.1, fun e he => h.2 e (Tab.mem_erase he)⟩
  · next hx =>
    refine ⟨Tab.rising_insert t i x h.1, fun e he => ?_⟩
    rcases Tab.mem_insert he with rfl | he
    · exact hx
    · exact h.2 e he

end Sys2Proof.Machine
end

