-- ==== Sys2Proof/Laws/State.lean ====
section
/-! SUPPORT. What each update of the state leaves of each field, true by definition, and what reads of the register store answer after a
write of it. -/

namespace Sys2Proof.Machine

@[simp] theorem State.put_inForce (s : State) (f : Fld) (v : Nat) : (s.put f v).inForce = s.inForce := rfl
@[simp] theorem State.put_core (s : State) (f : Fld) (v : Nat) : (s.put f v).core = s.core := rfl
@[simp] theorem State.put_time (s : State) (f : Fld) (v : Nat) : (s.put f v).time = s.time := rfl
@[simp] theorem State.put_clock (s : State) (f : Fld) (v : Nat) : (s.put f v).clock = s.clock := rfl
@[simp] theorem State.put_rsi (s : State) (f : Fld) (v : Nat) : (s.put f v).rsi = s.rsi := rfl
@[simp] theorem State.put_prsm (s : State) (f : Fld) (v : Nat) : (s.put f v).prsm = s.prsm := rfl
@[simp] theorem State.put_rx (s : State) (f : Fld) (v : Nat) : (s.put f v).rx = s.rx := rfl
@[simp] theorem State.put_mac (s : State) (f : Fld) (v : Nat) : (s.put f v).mac = s.mac := rfl
@[simp] theorem State.put_txc (s : State) (f : Fld) (v : Nat) : (s.put f v).txc = s.txc := rfl
@[simp] theorem State.put_hif (s : State) (f : Fld) (v : Nat) : (s.put f v).hif = s.hif := rfl
@[simp] theorem State.put_tm (s : State) (f : Fld) (v : Nat) : (s.put f v).tm = s.tm := rfl
@[simp] theorem State.put_fwd (s : State) (f : Fld) (v : Nat) : (s.put f v).fwd = s.fwd := rfl
@[simp] theorem State.put_fld (s : State) (f : Fld) (v : Nat) : (s.put f v).fld = s.fld := rfl
@[simp] theorem State.put_sec (s : State) (f : Fld) (v : Nat) : (s.put f v).sec = s.sec := rfl
@[simp] theorem State.put_kv (s : State) (f : Fld) (v : Nat) : (s.put f v).kv = s.kv := rfl
@[simp] theorem State.put_wdn (s : State) (f : Fld) (v : Nat) : (s.put f v).wdn = s.wdn := rfl
@[simp] theorem State.put_mir (s : State) (f : Fld) (v : Nat) : (s.put f v).mir = s.mir := rfl
@[simp] theorem State.put_fw (s : State) (f : Fld) (v : Nat) : (s.put f v).fw = s.fw := rfl
@[simp] theorem State.put_lc (s : State) (f : Fld) (v : Nat) : (s.put f v).lc = s.lc := rfl
@[simp] theorem State.put_otp (s : State) (f : Fld) (v : Nat) : (s.put f v).otp = s.otp := rfl
@[simp] theorem State.put_pwr (s : State) (f : Fld) (v : Nat) : (s.put f v).pwr = s.pwr := rfl
@[simp] theorem State.put_dbg (s : State) (f : Fld) (v : Nat) : (s.put f v).dbg = s.dbg := rfl
@[simp] theorem State.put_lpe (s : State) (f : Fld) (v : Nat) : (s.put f v).lpe = s.lpe := rfl
@[simp] theorem State.put_mem (s : State) (f : Fld) (v : Nat) : (s.put f v).mem = s.mem := rfl
@[simp] theorem State.put_out (s : State) (f : Fld) (v : Nat) : (s.put f v).out = s.out := rfl
@[simp] theorem State.put_pending (s : State) (f : Fld) (v : Nat) : (s.put f v).pending = s.pending := rfl

@[simp] theorem State.at_inForce (s : State) (n : Nat) : (s.at n).inForce = s.inForce := rfl
@[simp] theorem State.at_core (s : State) (n : Nat) : (s.at n).core = s.core := rfl
@[simp] theorem State.at_time (s : State) (n : Nat) : (s.at n).time = s.time := rfl
@[simp] theorem State.at_clock (s : State) (n : Nat) : (s.at n).clock = s.clock := rfl
@[simp] theorem State.at_rsi (s : State) (n : Nat) : (s.at n).rsi = s.rsi := rfl
@[simp] theorem State.at_prsm (s : State) (n : Nat) : (s.at n).prsm = s.prsm := rfl
@[simp] theorem State.at_rx (s : State) (n : Nat) : (s.at n).rx = s.rx := rfl
@[simp] theorem State.at_mac (s : State) (n : Nat) : (s.at n).mac = s.mac := rfl
@[simp] theorem State.at_txc (s : State) (n : Nat) : (s.at n).txc = s.txc := rfl
@[simp] theorem State.at_hif (s : State) (n : Nat) : (s.at n).hif = s.hif := rfl
@[simp] theorem State.at_tm (s : State) (n : Nat) : (s.at n).tm = s.tm := rfl
@[simp] theorem State.at_fwd (s : State) (n : Nat) : (s.at n).fwd = s.fwd := rfl
@[simp] theorem State.at_fld (s : State) (n : Nat) : (s.at n).fld = s.fld := rfl
@[simp] theorem State.at_sec (s : State) (n : Nat) : (s.at n).sec = s.sec := rfl
@[simp] theorem State.at_kv (s : State) (n : Nat) : (s.at n).kv = s.kv := rfl
@[simp] theorem State.at_wdn (s : State) (n : Nat) : (s.at n).wdn = s.wdn := rfl
@[simp] theorem State.at_mir (s : State) (n : Nat) : (s.at n).mir = s.mir := rfl
@[simp] theorem State.at_fw (s : State) (n : Nat) : (s.at n).fw = s.fw := rfl
@[simp] theorem State.at_lc (s : State) (n : Nat) : (s.at n).lc = s.lc := rfl
@[simp] theorem State.at_otp (s : State) (n : Nat) : (s.at n).otp = s.otp := rfl
@[simp] theorem State.at_pwr (s : State) (n : Nat) : (s.at n).pwr = s.pwr := rfl
@[simp] theorem State.at_dbg (s : State) (n : Nat) : (s.at n).dbg = s.dbg := rfl
@[simp] theorem State.at_lpe (s : State) (n : Nat) : (s.at n).lpe = s.lpe := rfl
@[simp] theorem State.at_mem (s : State) (n : Nat) : (s.at n).mem = s.mem := rfl
@[simp] theorem State.at_out (s : State) (n : Nat) : (s.at n).out = s.out := rfl
@[simp] theorem State.at_pending (s : State) (n : Nat) : (s.at n).pending = s.pending := rfl

@[simp] theorem State.inc_inForce (s : State) (f : Fld) : (s.inc f).inForce = s.inForce := rfl
@[simp] theorem State.inc_core (s : State) (f : Fld) : (s.inc f).core = s.core := rfl
@[simp] theorem State.inc_time (s : State) (f : Fld) : (s.inc f).time = s.time := rfl
@[simp] theorem State.inc_clock (s : State) (f : Fld) : (s.inc f).clock = s.clock := rfl
@[simp] theorem State.inc_rsi (s : State) (f : Fld) : (s.inc f).rsi = s.rsi := rfl
@[simp] theorem State.inc_prsm (s : State) (f : Fld) : (s.inc f).prsm = s.prsm := rfl
@[simp] theorem State.inc_rx (s : State) (f : Fld) : (s.inc f).rx = s.rx := rfl
@[simp] theorem State.inc_mac (s : State) (f : Fld) : (s.inc f).mac = s.mac := rfl
@[simp] theorem State.inc_txc (s : State) (f : Fld) : (s.inc f).txc = s.txc := rfl
@[simp] theorem State.inc_hif (s : State) (f : Fld) : (s.inc f).hif = s.hif := rfl
@[simp] theorem State.inc_tm (s : State) (f : Fld) : (s.inc f).tm = s.tm := rfl
@[simp] theorem State.inc_fwd (s : State) (f : Fld) : (s.inc f).fwd = s.fwd := rfl
@[simp] theorem State.inc_fld (s : State) (f : Fld) : (s.inc f).fld = s.fld := rfl
@[simp] theorem State.inc_sec (s : State) (f : Fld) : (s.inc f).sec = s.sec := rfl
@[simp] theorem State.inc_kv (s : State) (f : Fld) : (s.inc f).kv = s.kv := rfl
@[simp] theorem State.inc_wdn (s : State) (f : Fld) : (s.inc f).wdn = s.wdn := rfl
@[simp] theorem State.inc_mir (s : State) (f : Fld) : (s.inc f).mir = s.mir := rfl
@[simp] theorem State.inc_fw (s : State) (f : Fld) : (s.inc f).fw = s.fw := rfl
@[simp] theorem State.inc_lc (s : State) (f : Fld) : (s.inc f).lc = s.lc := rfl
@[simp] theorem State.inc_otp (s : State) (f : Fld) : (s.inc f).otp = s.otp := rfl
@[simp] theorem State.inc_pwr (s : State) (f : Fld) : (s.inc f).pwr = s.pwr := rfl
@[simp] theorem State.inc_dbg (s : State) (f : Fld) : (s.inc f).dbg = s.dbg := rfl
@[simp] theorem State.inc_lpe (s : State) (f : Fld) : (s.inc f).lpe = s.lpe := rfl
@[simp] theorem State.inc_mem (s : State) (f : Fld) : (s.inc f).mem = s.mem := rfl
@[simp] theorem State.inc_out (s : State) (f : Fld) : (s.inc f).out = s.out := rfl
@[simp] theorem State.inc_pending (s : State) (f : Fld) : (s.inc f).pending = s.pending := rfl

@[simp] theorem State.emit_regs (s : State) (o : Output) : (s.emit o).regs = s.regs := rfl
@[simp] theorem State.emit_inForce (s : State) (o : Output) : (s.emit o).inForce = s.inForce := rfl
@[simp] theorem State.emit_core (s : State) (o : Output) : (s.emit o).core = s.core := rfl
@[simp] theorem State.emit_time (s : State) (o : Output) : (s.emit o).time = s.time := rfl
@[simp] theorem State.emit_clock (s : State) (o : Output) : (s.emit o).clock = s.clock := rfl
@[simp] theorem State.emit_rsi (s : State) (o : Output) : (s.emit o).rsi = s.rsi := rfl
@[simp] theorem State.emit_prsm (s : State) (o : Output) : (s.emit o).prsm = s.prsm := rfl
@[simp] theorem State.emit_rx (s : State) (o : Output) : (s.emit o).rx = s.rx := rfl
@[simp] theorem State.emit_mac (s : State) (o : Output) : (s.emit o).mac = s.mac := rfl
@[simp] theorem State.emit_txc (s : State) (o : Output) : (s.emit o).txc = s.txc := rfl
@[simp] theorem State.emit_hif (s : State) (o : Output) : (s.emit o).hif = s.hif := rfl
@[simp] theorem State.emit_tm (s : State) (o : Output) : (s.emit o).tm = s.tm := rfl
@[simp] theorem State.emit_fwd (s : State) (o : Output) : (s.emit o).fwd = s.fwd := rfl
@[simp] theorem State.emit_fld (s : State) (o : Output) : (s.emit o).fld = s.fld := rfl
@[simp] theorem State.emit_sec (s : State) (o : Output) : (s.emit o).sec = s.sec := rfl
@[simp] theorem State.emit_kv (s : State) (o : Output) : (s.emit o).kv = s.kv := rfl
@[simp] theorem State.emit_wdn (s : State) (o : Output) : (s.emit o).wdn = s.wdn := rfl
@[simp] theorem State.emit_mir (s : State) (o : Output) : (s.emit o).mir = s.mir := rfl
@[simp] theorem State.emit_fw (s : State) (o : Output) : (s.emit o).fw = s.fw := rfl
@[simp] theorem State.emit_lc (s : State) (o : Output) : (s.emit o).lc = s.lc := rfl
@[simp] theorem State.emit_otp (s : State) (o : Output) : (s.emit o).otp = s.otp := rfl
@[simp] theorem State.emit_pwr (s : State) (o : Output) : (s.emit o).pwr = s.pwr := rfl
@[simp] theorem State.emit_dbg (s : State) (o : Output) : (s.emit o).dbg = s.dbg := rfl
@[simp] theorem State.emit_lpe (s : State) (o : Output) : (s.emit o).lpe = s.lpe := rfl
@[simp] theorem State.emit_mem (s : State) (o : Output) : (s.emit o).mem = s.mem := rfl
@[simp] theorem State.emit_pending (s : State) (o : Output) : (s.emit o).pending = s.pending := rfl
@[simp] theorem State.emit_get (s : State) (o : Output) (g : Fld) : (s.emit o).get g = s.get g := rfl

@[simp] theorem State.drawn_regs (s : State) : (s.drawn).regs = s.regs := rfl
@[simp] theorem State.drawn_inForce (s : State) : (s.drawn).inForce = s.inForce := rfl
@[simp] theorem State.drawn_time (s : State) : (s.drawn).time = s.time := rfl
@[simp] theorem State.drawn_clock (s : State) : (s.drawn).clock = s.clock := rfl
@[simp] theorem State.drawn_rsi (s : State) : (s.drawn).rsi = s.rsi := rfl
@[simp] theorem State.drawn_prsm (s : State) : (s.drawn).prsm = s.prsm := rfl
@[simp] theorem State.drawn_rx (s : State) : (s.drawn).rx = s.rx := rfl
@[simp] theorem State.drawn_mac (s : State) : (s.drawn).mac = s.mac := rfl
@[simp] theorem State.drawn_txc (s : State) : (s.drawn).txc = s.txc := rfl
@[simp] theorem State.drawn_hif (s : State) : (s.drawn).hif = s.hif := rfl
@[simp] theorem State.drawn_tm (s : State) : (s.drawn).tm = s.tm := rfl
@[simp] theorem State.drawn_fwd (s : State) : (s.drawn).fwd = s.fwd := rfl
@[simp] theorem State.drawn_fld (s : State) : (s.drawn).fld = s.fld := rfl
@[simp] theorem State.drawn_sec (s : State) : (s.drawn).sec = s.sec := rfl
@[simp] theorem State.drawn_kv (s : State) : (s.drawn).kv = s.kv := rfl
@[simp] theorem State.drawn_wdn (s : State) : (s.drawn).wdn = s.wdn := rfl
@[simp] theorem State.drawn_mir (s : State) : (s.drawn).mir = s.mir := rfl
@[simp] theorem State.drawn_fw (s : State) : (s.drawn).fw = s.fw := rfl
@[simp] theorem State.drawn_lc (s : State) : (s.drawn).lc = s.lc := rfl
@[simp] theorem State.drawn_otp (s : State) : (s.drawn).otp = s.otp := rfl
@[simp] theorem State.drawn_pwr (s : State) : (s.drawn).pwr = s.pwr := rfl
@[simp] theorem State.drawn_dbg (s : State) : (s.drawn).dbg = s.dbg := rfl
@[simp] theorem State.drawn_lpe (s : State) : (s.drawn).lpe = s.lpe := rfl
@[simp] theorem State.drawn_mem (s : State) : (s.drawn).mem = s.mem := rfl
@[simp] theorem State.drawn_out (s : State) : (s.drawn).out = s.out := rfl
@[simp] theorem State.drawn_pending (s : State) : (s.drawn).pending = s.pending := rfl
@[simp] theorem State.drawn_get (s : State) (g : Fld) : (s.drawn).get g = s.get g := rfl

@[simp] theorem State.cleared_regs (s : State) : (s.cleared).regs = s.regs := rfl
@[simp] theorem State.cleared_inForce (s : State) : (s.cleared).inForce = s.inForce := rfl
@[simp] theorem State.cleared_core (s : State) : (s.cleared).core = s.core := rfl
@[simp] theorem State.cleared_time (s : State) : (s.cleared).time = s.time := rfl
@[simp] theorem State.cleared_clock (s : State) : (s.cleared).clock = s.clock := rfl
@[simp] theorem State.cleared_rsi (s : State) : (s.cleared).rsi = s.rsi := rfl
@[simp] theorem State.cleared_prsm (s : State) : (s.cleared).prsm = s.prsm := rfl
@[simp] theorem State.cleared_rx (s : State) : (s.cleared).rx = s.rx := rfl
@[simp] theorem State.cleared_mac (s : State) : (s.cleared).mac = s.mac := rfl
@[simp] theorem State.cleared_txc (s : State) : (s.cleared).txc = s.txc := rfl
@[simp] theorem State.cleared_hif (s : State) : (s.cleared).hif = s.hif := rfl
@[simp] theorem State.cleared_tm (s : State) : (s.cleared).tm = s.tm := rfl
@[simp] theorem State.cleared_fwd (s : State) : (s.cleared).fwd = s.fwd := rfl
@[simp] theorem State.cleared_fld (s : State) : (s.cleared).fld = s.fld := rfl
@[simp] theorem State.cleared_sec (s : State) : (s.cleared).sec = s.sec := rfl
@[simp] theorem State.cleared_kv (s : State) : (s.cleared).kv = s.kv := rfl
@[simp] theorem State.cleared_wdn (s : State) : (s.cleared).wdn = s.wdn := rfl
@[simp] theorem State.cleared_mir (s : State) : (s.cleared).mir = s.mir := rfl
@[simp] theorem State.cleared_fw (s : State) : (s.cleared).fw = s.fw := rfl
@[simp] theorem State.cleared_lc (s : State) : (s.cleared).lc = s.lc := rfl
@[simp] theorem State.cleared_otp (s : State) : (s.cleared).otp = s.otp := rfl
@[simp] theorem State.cleared_pwr (s : State) : (s.cleared).pwr = s.pwr := rfl
@[simp] theorem State.cleared_dbg (s : State) : (s.cleared).dbg = s.dbg := rfl
@[simp] theorem State.cleared_lpe (s : State) : (s.cleared).lpe = s.lpe := rfl
@[simp] theorem State.cleared_mem (s : State) : (s.cleared).mem = s.mem := rfl
@[simp] theorem State.cleared_pending (s : State) : (s.cleared).pending = s.pending := rfl
@[simp] theorem State.cleared_get (s : State) (g : Fld) : (s.cleared).get g = s.get g := rfl

@[simp] theorem modClock_regs (f : ClkS → ClkS) (s : State) : (modClock f s).regs = s.regs := rfl
@[simp] theorem modClock_inForce (f : ClkS → ClkS) (s : State) : (modClock f s).inForce = s.inForce := rfl
@[simp] theorem modClock_core (f : ClkS → ClkS) (s : State) : (modClock f s).core = s.core := rfl
@[simp] theorem modClock_time (f : ClkS → ClkS) (s : State) : (modClock f s).time = s.time := rfl
@[simp] theorem modClock_clock (f : ClkS → ClkS) (s : State) : (modClock f s).clock = f s.clock := rfl
@[simp] theorem modClock_rsi (f : ClkS → ClkS) (s : State) : (modClock f s).rsi = s.rsi := rfl
@[simp] theorem modClock_prsm (f : ClkS → ClkS) (s : State) : (modClock f s).prsm = s.prsm := rfl
@[simp] theorem modClock_rx (f : ClkS → ClkS) (s : State) : (modClock f s).rx = s.rx := rfl
@[simp] theorem modClock_mac (f : ClkS → ClkS) (s : State) : (modClock f s).mac = s.mac := rfl
@[simp] theorem modClock_txc (f : ClkS → ClkS) (s : State) : (modClock f s).txc = s.txc := rfl
@[simp] theorem modClock_hif (f : ClkS → ClkS) (s : State) : (modClock f s).hif = s.hif := rfl
@[simp] theorem modClock_tm (f : ClkS → ClkS) (s : State) : (modClock f s).tm = s.tm := rfl
@[simp] theorem modClock_fwd (f : ClkS → ClkS) (s : State) : (modClock f s).fwd = s.fwd := rfl
@[simp] theorem modClock_fld (f : ClkS → ClkS) (s : State) : (modClock f s).fld = s.fld := rfl
@[simp] theorem modClock_sec (f : ClkS → ClkS) (s : State) : (modClock f s).sec = s.sec := rfl
@[simp] theorem modClock_kv (f : ClkS → ClkS) (s : State) : (modClock f s).kv = s.kv := rfl
@[simp] theorem modClock_wdn (f : ClkS → ClkS) (s : State) : (modClock f s).wdn = s.wdn := rfl
@[simp] theorem modClock_mir (f : ClkS → ClkS) (s : State) : (modClock f s).mir = s.mir := rfl
@[simp] theorem modClock_fw (f : ClkS → ClkS) (s : State) : (modClock f s).fw = s.fw := rfl
@[simp] theorem modClock_lc (f : ClkS → ClkS) (s : State) : (modClock f s).lc = s.lc := rfl
@[simp] theorem modClock_otp (f : ClkS → ClkS) (s : State) : (modClock f s).otp = s.otp := rfl
@[simp] theorem modClock_pwr (f : ClkS → ClkS) (s : State) : (modClock f s).pwr = s.pwr := rfl
@[simp] theorem modClock_dbg (f : ClkS → ClkS) (s : State) : (modClock f s).dbg = s.dbg := rfl
@[simp] theorem modClock_lpe (f : ClkS → ClkS) (s : State) : (modClock f s).lpe = s.lpe := rfl
@[simp] theorem modClock_mem (f : ClkS → ClkS) (s : State) : (modClock f s).mem = s.mem := rfl
@[simp] theorem modClock_out (f : ClkS → ClkS) (s : State) : (modClock f s).out = s.out := rfl
@[simp] theorem modClock_pending (f : ClkS → ClkS) (s : State) : (modClock f s).pending = s.pending := rfl
@[simp] theorem modClock_get (f : ClkS → ClkS) (s : State) (g : Fld) : (modClock f s).get g = s.get g := rfl

@[simp] theorem modFw_regs (f : FwS → FwS) (s : State) : (modFw f s).regs = s.regs := rfl
@[simp] theorem modFw_inForce (f : FwS → FwS) (s : State) : (modFw f s).inForce = s.inForce := rfl
@[simp] theorem modFw_core (f : FwS → FwS) (s : State) : (modFw f s).core = s.core := rfl
@[simp] theorem modFw_time (f : FwS → FwS) (s : State) : (modFw f s).time = s.time := rfl
@[simp] theorem modFw_clock (f : FwS → FwS) (s : State) : (modFw f s).clock = s.clock := rfl
@[simp] theorem modFw_rsi (f : FwS → FwS) (s : State) : (modFw f s).rsi = s.rsi := rfl
@[simp] theorem modFw_prsm (f : FwS → FwS) (s : State) : (modFw f s).prsm = s.prsm := rfl
@[simp] theorem modFw_rx (f : FwS → FwS) (s : State) : (modFw f s).rx = s.rx := rfl
@[simp] theorem modFw_mac (f : FwS → FwS) (s : State) : (modFw f s).mac = s.mac := rfl
@[simp] theorem modFw_txc (f : FwS → FwS) (s : State) : (modFw f s).txc = s.txc := rfl
@[simp] theorem modFw_hif (f : FwS → FwS) (s : State) : (modFw f s).hif = s.hif := rfl
@[simp] theorem modFw_tm (f : FwS → FwS) (s : State) : (modFw f s).tm = s.tm := rfl
@[simp] theorem modFw_fwd (f : FwS → FwS) (s : State) : (modFw f s).fwd = s.fwd := rfl
@[simp] theorem modFw_fld (f : FwS → FwS) (s : State) : (modFw f s).fld = s.fld := rfl
@[simp] theorem modFw_sec (f : FwS → FwS) (s : State) : (modFw f s).sec = s.sec := rfl
@[simp] theorem modFw_kv (f : FwS → FwS) (s : State) : (modFw f s).kv = s.kv := rfl
@[simp] theorem modFw_wdn (f : FwS → FwS) (s : State) : (modFw f s).wdn = s.wdn := rfl
@[simp] theorem modFw_mir (f : FwS → FwS) (s : State) : (modFw f s).mir = s.mir := rfl
@[simp] theorem modFw_fw (f : FwS → FwS) (s : State) : (modFw f s).fw = f s.fw := rfl
@[simp] theorem modFw_lc (f : FwS → FwS) (s : State) : (modFw f s).lc = s.lc := rfl
@[simp] theorem modFw_otp (f : FwS → FwS) (s : State) : (modFw f s).otp = s.otp := rfl
@[simp] theorem modFw_pwr (f : FwS → FwS) (s : State) : (modFw f s).pwr = s.pwr := rfl
@[simp] theorem modFw_dbg (f : FwS → FwS) (s : State) : (modFw f s).dbg = s.dbg := rfl
@[simp] theorem modFw_lpe (f : FwS → FwS) (s : State) : (modFw f s).lpe = s.lpe := rfl
@[simp] theorem modFw_mem (f : FwS → FwS) (s : State) : (modFw f s).mem = s.mem := rfl
@[simp] theorem modFw_out (f : FwS → FwS) (s : State) : (modFw f s).out = s.out := rfl
@[simp] theorem modFw_pending (f : FwS → FwS) (s : State) : (modFw f s).pending = s.pending := rfl
@[simp] theorem modFw_get (f : FwS → FwS) (s : State) (g : Fld) : (modFw f s).get g = s.get g := rfl

@[simp] theorem modDbg_regs (f : DbgS → DbgS) (s : State) : (modDbg f s).regs = s.regs := rfl
@[simp] theorem modDbg_inForce (f : DbgS → DbgS) (s : State) : (modDbg f s).inForce = s.inForce := rfl
@[simp] theorem modDbg_core (f : DbgS → DbgS) (s : State) : (modDbg f s).core = s.core := rfl
@[simp] theorem modDbg_time (f : DbgS → DbgS) (s : State) : (modDbg f s).time = s.time := rfl
@[simp] theorem modDbg_clock (f : DbgS → DbgS) (s : State) : (modDbg f s).clock = s.clock := rfl
@[simp] theorem modDbg_rsi (f : DbgS → DbgS) (s : State) : (modDbg f s).rsi = s.rsi := rfl
@[simp] theorem modDbg_prsm (f : DbgS → DbgS) (s : State) : (modDbg f s).prsm = s.prsm := rfl
@[simp] theorem modDbg_rx (f : DbgS → DbgS) (s : State) : (modDbg f s).rx = s.rx := rfl
@[simp] theorem modDbg_mac (f : DbgS → DbgS) (s : State) : (modDbg f s).mac = s.mac := rfl
@[simp] theorem modDbg_txc (f : DbgS → DbgS) (s : State) : (modDbg f s).txc = s.txc := rfl
@[simp] theorem modDbg_hif (f : DbgS → DbgS) (s : State) : (modDbg f s).hif = s.hif := rfl
@[simp] theorem modDbg_tm (f : DbgS → DbgS) (s : State) : (modDbg f s).tm = s.tm := rfl
@[simp] theorem modDbg_fwd (f : DbgS → DbgS) (s : State) : (modDbg f s).fwd = s.fwd := rfl
@[simp] theorem modDbg_fld (f : DbgS → DbgS) (s : State) : (modDbg f s).fld = s.fld := rfl
@[simp] theorem modDbg_sec (f : DbgS → DbgS) (s : State) : (modDbg f s).sec = s.sec := rfl
@[simp] theorem modDbg_kv (f : DbgS → DbgS) (s : State) : (modDbg f s).kv = s.kv := rfl
@[simp] theorem modDbg_wdn (f : DbgS → DbgS) (s : State) : (modDbg f s).wdn = s.wdn := rfl
@[simp] theorem modDbg_mir (f : DbgS → DbgS) (s : State) : (modDbg f s).mir = s.mir := rfl
@[simp] theorem modDbg_fw (f : DbgS → DbgS) (s : State) : (modDbg f s).fw = s.fw := rfl
@[simp] theorem modDbg_lc (f : DbgS → DbgS) (s : State) : (modDbg f s).lc = s.lc := rfl
@[simp] theorem modDbg_otp (f : DbgS → DbgS) (s : State) : (modDbg f s).otp = s.otp := rfl
@[simp] theorem modDbg_pwr (f : DbgS → DbgS) (s : State) : (modDbg f s).pwr = s.pwr := rfl
@[simp] theorem modDbg_dbg (f : DbgS → DbgS) (s : State) : (modDbg f s).dbg = f s.dbg := rfl
@[simp] theorem modDbg_lpe (f : DbgS → DbgS) (s : State) : (modDbg f s).lpe = s.lpe := rfl
@[simp] theorem modDbg_mem (f : DbgS → DbgS) (s : State) : (modDbg f s).mem = s.mem := rfl
@[simp] theorem modDbg_out (f : DbgS → DbgS) (s : State) : (modDbg f s).out = s.out := rfl
@[simp] theorem modDbg_pending (f : DbgS → DbgS) (s : State) : (modDbg f s).pending = s.pending := rfl
@[simp] theorem modDbg_get (f : DbgS → DbgS) (s : State) (g : Fld) : (modDbg f s).get g = s.get g := rfl

@[simp] theorem modFwd_regs (f : FwdS → FwdS) (s : State) : (modFwd f s).regs = s.regs := rfl
@[simp] theorem modFwd_inForce (f : FwdS → FwdS) (s : State) : (modFwd f s).inForce = s.inForce := rfl
@[simp] theorem modFwd_core (f : FwdS → FwdS) (s : State) : (modFwd f s).core = s.core := rfl
@[simp] theorem modFwd_time (f : FwdS → FwdS) (s : State) : (modFwd f s).time = s.time := rfl
@[simp] theorem modFwd_clock (f : FwdS → FwdS) (s : State) : (modFwd f s).clock = s.clock := rfl
@[simp] theorem modFwd_rsi (f : FwdS → FwdS) (s : State) : (modFwd f s).rsi = s.rsi := rfl
@[simp] theorem modFwd_prsm (f : FwdS → FwdS) (s : State) : (modFwd f s).prsm = s.prsm := rfl
@[simp] theorem modFwd_rx (f : FwdS → FwdS) (s : State) : (modFwd f s).rx = s.rx := rfl
@[simp] theorem modFwd_mac (f : FwdS → FwdS) (s : State) : (modFwd f s).mac = s.mac := rfl
@[simp] theorem modFwd_txc (f : FwdS → FwdS) (s : State) : (modFwd f s).txc = s.txc := rfl
@[simp] theorem modFwd_hif (f : FwdS → FwdS) (s : State) : (modFwd f s).hif = s.hif := rfl
@[simp] theorem modFwd_tm (f : FwdS → FwdS) (s : State) : (modFwd f s).tm = s.tm := rfl
@[simp] theorem modFwd_fwd (f : FwdS → FwdS) (s : State) : (modFwd f s).fwd = f s.fwd := rfl
@[simp] theorem modFwd_fld (f : FwdS → FwdS) (s : State) : (modFwd f s).fld = s.fld := rfl
@[simp] theorem modFwd_sec (f : FwdS → FwdS) (s : State) : (modFwd f s).sec = s.sec := rfl
@[simp] theorem modFwd_kv (f : FwdS → FwdS) (s : State) : (modFwd f s).kv = s.kv := rfl
@[simp] theorem modFwd_wdn (f : FwdS → FwdS) (s : State) : (modFwd f s).wdn = s.wdn := rfl
@[simp] theorem modFwd_mir (f : FwdS → FwdS) (s : State) : (modFwd f s).mir = s.mir := rfl
@[simp] theorem modFwd_fw (f : FwdS → FwdS) (s : State) : (modFwd f s).fw = s.fw := rfl
@[simp] theorem modFwd_lc (f : FwdS → FwdS) (s : State) : (modFwd f s).lc = s.lc := rfl
@[simp] theorem modFwd_otp (f : FwdS → FwdS) (s : State) : (modFwd f s).otp = s.otp := rfl
@[simp] theorem modFwd_pwr (f : FwdS → FwdS) (s : State) : (modFwd f s).pwr = s.pwr := rfl
@[simp] theorem modFwd_dbg (f : FwdS → FwdS) (s : State) : (modFwd f s).dbg = s.dbg := rfl
@[simp] theorem modFwd_lpe (f : FwdS → FwdS) (s : State) : (modFwd f s).lpe = s.lpe := rfl
@[simp] theorem modFwd_mem (f : FwdS → FwdS) (s : State) : (modFwd f s).mem = s.mem := rfl
@[simp] theorem modFwd_out (f : FwdS → FwdS) (s : State) : (modFwd f s).out = s.out := rfl
@[simp] theorem modFwd_pending (f : FwdS → FwdS) (s : State) : (modFwd f s).pending = s.pending := rfl
@[simp] theorem modFwd_get (f : FwdS → FwdS) (s : State) (g : Fld) : (modFwd f s).get g = s.get g := rfl

@[simp] theorem modFld_regs (f : FldS → FldS) (s : State) : (modFld f s).regs = s.regs := rfl
@[simp] theorem modFld_inForce (f : FldS → FldS) (s : State) : (modFld f s).inForce = s.inForce := rfl
@[simp] theorem modFld_core (f : FldS → FldS) (s : State) : (modFld f s).core = s.core := rfl
@[simp] theorem modFld_time (f : FldS → FldS) (s : State) : (modFld f s).time = s.time := rfl
@[simp] theorem modFld_clock (f : FldS → FldS) (s : State) : (modFld f s).clock = s.clock := rfl
@[simp] theorem modFld_rsi (f : FldS → FldS) (s : State) : (modFld f s).rsi = s.rsi := rfl
@[simp] theorem modFld_prsm (f : FldS → FldS) (s : State) : (modFld f s).prsm = s.prsm := rfl
@[simp] theorem modFld_rx (f : FldS → FldS) (s : State) : (modFld f s).rx = s.rx := rfl
@[simp] theorem modFld_mac (f : FldS → FldS) (s : State) : (modFld f s).mac = s.mac := rfl
@[simp] theorem modFld_txc (f : FldS → FldS) (s : State) : (modFld f s).txc = s.txc := rfl
@[simp] theorem modFld_hif (f : FldS → FldS) (s : State) : (modFld f s).hif = s.hif := rfl
@[simp] theorem modFld_tm (f : FldS → FldS) (s : State) : (modFld f s).tm = s.tm := rfl
@[simp] theorem modFld_fwd (f : FldS → FldS) (s : State) : (modFld f s).fwd = s.fwd := rfl
@[simp] theorem modFld_fld (f : FldS → FldS) (s : State) : (modFld f s).fld = f s.fld := rfl
@[simp] theorem modFld_sec (f : FldS → FldS) (s : State) : (modFld f s).sec = s.sec := rfl
@[simp] theorem modFld_kv (f : FldS → FldS) (s : State) : (modFld f s).kv = s.kv := rfl
@[simp] theorem modFld_wdn (f : FldS → FldS) (s : State) : (modFld f s).wdn = s.wdn := rfl
@[simp] theorem modFld_mir (f : FldS → FldS) (s : State) : (modFld f s).mir = s.mir := rfl
@[simp] theorem modFld_fw (f : FldS → FldS) (s : State) : (modFld f s).fw = s.fw := rfl
@[simp] theorem modFld_lc (f : FldS → FldS) (s : State) : (modFld f s).lc = s.lc := rfl
@[simp] theorem modFld_otp (f : FldS → FldS) (s : State) : (modFld f s).otp = s.otp := rfl
@[simp] theorem modFld_pwr (f : FldS → FldS) (s : State) : (modFld f s).pwr = s.pwr := rfl
@[simp] theorem modFld_dbg (f : FldS → FldS) (s : State) : (modFld f s).dbg = s.dbg := rfl
@[simp] theorem modFld_lpe (f : FldS → FldS) (s : State) : (modFld f s).lpe = s.lpe := rfl
@[simp] theorem modFld_mem (f : FldS → FldS) (s : State) : (modFld f s).mem = s.mem := rfl
@[simp] theorem modFld_out (f : FldS → FldS) (s : State) : (modFld f s).out = s.out := rfl
@[simp] theorem modFld_pending (f : FldS → FldS) (s : State) : (modFld f s).pending = s.pending := rfl
@[simp] theorem modFld_get (f : FldS → FldS) (s : State) (g : Fld) : (modFld f s).get g = s.get g := rfl

@[simp] theorem modHif_regs (f : HifS → HifS) (s : State) : (modHif f s).regs = s.regs := rfl
@[simp] theorem modHif_inForce (f : HifS → HifS) (s : State) : (modHif f s).inForce = s.inForce := rfl
@[simp] theorem modHif_core (f : HifS → HifS) (s : State) : (modHif f s).core = s.core := rfl
@[simp] theorem modHif_time (f : HifS → HifS) (s : State) : (modHif f s).time = s.time := rfl
@[simp] theorem modHif_clock (f : HifS → HifS) (s : State) : (modHif f s).clock = s.clock := rfl
@[simp] theorem modHif_rsi (f : HifS → HifS) (s : State) : (modHif f s).rsi = s.rsi := rfl
@[simp] theorem modHif_prsm (f : HifS → HifS) (s : State) : (modHif f s).prsm = s.prsm := rfl
@[simp] theorem modHif_rx (f : HifS → HifS) (s : State) : (modHif f s).rx = s.rx := rfl
@[simp] theorem modHif_mac (f : HifS → HifS) (s : State) : (modHif f s).mac = s.mac := rfl
@[simp] theorem modHif_txc (f : HifS → HifS) (s : State) : (modHif f s).txc = s.txc := rfl
@[simp] theorem modHif_hif (f : HifS → HifS) (s : State) : (modHif f s).hif = f s.hif := rfl
@[simp] theorem modHif_tm (f : HifS → HifS) (s : State) : (modHif f s).tm = s.tm := rfl
@[simp] theorem modHif_fwd (f : HifS → HifS) (s : State) : (modHif f s).fwd = s.fwd := rfl
@[simp] theorem modHif_fld (f : HifS → HifS) (s : State) : (modHif f s).fld = s.fld := rfl
@[simp] theorem modHif_sec (f : HifS → HifS) (s : State) : (modHif f s).sec = s.sec := rfl
@[simp] theorem modHif_kv (f : HifS → HifS) (s : State) : (modHif f s).kv = s.kv := rfl
@[simp] theorem modHif_wdn (f : HifS → HifS) (s : State) : (modHif f s).wdn = s.wdn := rfl
@[simp] theorem modHif_mir (f : HifS → HifS) (s : State) : (modHif f s).mir = s.mir := rfl
@[simp] theorem modHif_fw (f : HifS → HifS) (s : State) : (modHif f s).fw = s.fw := rfl
@[simp] theorem modHif_lc (f : HifS → HifS) (s : State) : (modHif f s).lc = s.lc := rfl
@[simp] theorem modHif_otp (f : HifS → HifS) (s : State) : (modHif f s).otp = s.otp := rfl
@[simp] theorem modHif_pwr (f : HifS → HifS) (s : State) : (modHif f s).pwr = s.pwr := rfl
@[simp] theorem modHif_dbg (f : HifS → HifS) (s : State) : (modHif f s).dbg = s.dbg := rfl
@[simp] theorem modHif_lpe (f : HifS → HifS) (s : State) : (modHif f s).lpe = s.lpe := rfl
@[simp] theorem modHif_mem (f : HifS → HifS) (s : State) : (modHif f s).mem = s.mem := rfl
@[simp] theorem modHif_out (f : HifS → HifS) (s : State) : (modHif f s).out = s.out := rfl
@[simp] theorem modHif_pending (f : HifS → HifS) (s : State) : (modHif f s).pending = s.pending := rfl
@[simp] theorem modHif_get (f : HifS → HifS) (s : State) (g : Fld) : (modHif f s).get g = s.get g := rfl

@[simp] theorem modMem_regs (f : MemS → MemS) (s : State) : (modMem f s).regs = s.regs := rfl
@[simp] theorem modMem_inForce (f : MemS → MemS) (s : State) : (modMem f s).inForce = s.inForce := rfl
@[simp] theorem modMem_core (f : MemS → MemS) (s : State) : (modMem f s).core = s.core := rfl
@[simp] theorem modMem_time (f : MemS → MemS) (s : State) : (modMem f s).time = s.time := rfl
@[simp] theorem modMem_clock (f : MemS → MemS) (s : State) : (modMem f s).clock = s.clock := rfl
@[simp] theorem modMem_rsi (f : MemS → MemS) (s : State) : (modMem f s).rsi = s.rsi := rfl
@[simp] theorem modMem_prsm (f : MemS → MemS) (s : State) : (modMem f s).prsm = s.prsm := rfl
@[simp] theorem modMem_rx (f : MemS → MemS) (s : State) : (modMem f s).rx = s.rx := rfl
@[simp] theorem modMem_mac (f : MemS → MemS) (s : State) : (modMem f s).mac = s.mac := rfl
@[simp] theorem modMem_txc (f : MemS → MemS) (s : State) : (modMem f s).txc = s.txc := rfl
@[simp] theorem modMem_hif (f : MemS → MemS) (s : State) : (modMem f s).hif = s.hif := rfl
@[simp] theorem modMem_tm (f : MemS → MemS) (s : State) : (modMem f s).tm = s.tm := rfl
@[simp] theorem modMem_fwd (f : MemS → MemS) (s : State) : (modMem f s).fwd = s.fwd := rfl
@[simp] theorem modMem_fld (f : MemS → MemS) (s : State) : (modMem f s).fld = s.fld := rfl
@[simp] theorem modMem_sec (f : MemS → MemS) (s : State) : (modMem f s).sec = s.sec := rfl
@[simp] theorem modMem_kv (f : MemS → MemS) (s : State) : (modMem f s).kv = s.kv := rfl
@[simp] theorem modMem_wdn (f : MemS → MemS) (s : State) : (modMem f s).wdn = s.wdn := rfl
@[simp] theorem modMem_mir (f : MemS → MemS) (s : State) : (modMem f s).mir = s.mir := rfl
@[simp] theorem modMem_fw (f : MemS → MemS) (s : State) : (modMem f s).fw = s.fw := rfl
@[simp] theorem modMem_lc (f : MemS → MemS) (s : State) : (modMem f s).lc = s.lc := rfl
@[simp] theorem modMem_otp (f : MemS → MemS) (s : State) : (modMem f s).otp = s.otp := rfl
@[simp] theorem modMem_pwr (f : MemS → MemS) (s : State) : (modMem f s).pwr = s.pwr := rfl
@[simp] theorem modMem_dbg (f : MemS → MemS) (s : State) : (modMem f s).dbg = s.dbg := rfl
@[simp] theorem modMem_lpe (f : MemS → MemS) (s : State) : (modMem f s).lpe = s.lpe := rfl
@[simp] theorem modMem_mem (f : MemS → MemS) (s : State) : (modMem f s).mem = f s.mem := rfl
@[simp] theorem modMem_out (f : MemS → MemS) (s : State) : (modMem f s).out = s.out := rfl
@[simp] theorem modMem_pending (f : MemS → MemS) (s : State) : (modMem f s).pending = s.pending := rfl
@[simp] theorem modMem_get (f : MemS → MemS) (s : State) (g : Fld) : (modMem f s).get g = s.get g := rfl

@[simp] theorem modPwr_regs (f : PwrS → PwrS) (s : State) : (modPwr f s).regs = s.regs := rfl
@[simp] theorem modPwr_inForce (f : PwrS → PwrS) (s : State) : (modPwr f s).inForce = s.inForce := rfl
@[simp] theorem modPwr_core (f : PwrS → PwrS) (s : State) : (modPwr f s).core = s.core := rfl
@[simp] theorem modPwr_time (f : PwrS → PwrS) (s : State) : (modPwr f s).time = s.time := rfl
@[simp] theorem modPwr_clock (f : PwrS → PwrS) (s : State) : (modPwr f s).clock = s.clock := rfl
@[simp] theorem modPwr_rsi (f : PwrS → PwrS) (s : State) : (modPwr f s).rsi = s.rsi := rfl
@[simp] theorem modPwr_prsm (f : PwrS → PwrS) (s : State) : (modPwr f s).prsm = s.prsm := rfl
@[simp] theorem modPwr_rx (f : PwrS → PwrS) (s : State) : (modPwr f s).rx = s.rx := rfl
@[simp] theorem modPwr_mac (f : PwrS → PwrS) (s : State) : (modPwr f s).mac = s.mac := rfl
@[simp] theorem modPwr_txc (f : PwrS → PwrS) (s : State) : (modPwr f s).txc = s.txc := rfl
@[simp] theorem modPwr_hif (f : PwrS → PwrS) (s : State) : (modPwr f s).hif = s.hif := rfl
@[simp] theorem modPwr_tm (f : PwrS → PwrS) (s : State) : (modPwr f s).tm = s.tm := rfl
@[simp] theorem modPwr_fwd (f : PwrS → PwrS) (s : State) : (modPwr f s).fwd = s.fwd := rfl
@[simp] theorem modPwr_fld (f : PwrS → PwrS) (s : State) : (modPwr f s).fld = s.fld := rfl
@[simp] theorem modPwr_sec (f : PwrS → PwrS) (s : State) : (modPwr f s).sec = s.sec := rfl
@[simp] theorem modPwr_kv (f : PwrS → PwrS) (s : State) : (modPwr f s).kv = s.kv := rfl
@[simp] theorem modPwr_wdn (f : PwrS → PwrS) (s : State) : (modPwr f s).wdn = s.wdn := rfl
@[simp] theorem modPwr_mir (f : PwrS → PwrS) (s : State) : (modPwr f s).mir = s.mir := rfl
@[simp] theorem modPwr_fw (f : PwrS → PwrS) (s : State) : (modPwr f s).fw = s.fw := rfl
@[simp] theorem modPwr_lc (f : PwrS → PwrS) (s : State) : (modPwr f s).lc = s.lc := rfl
@[simp] theorem modPwr_otp (f : PwrS → PwrS) (s : State) : (modPwr f s).otp = s.otp := rfl
@[simp] theorem modPwr_pwr (f : PwrS → PwrS) (s : State) : (modPwr f s).pwr = f s.pwr := rfl
@[simp] theorem modPwr_dbg (f : PwrS → PwrS) (s : State) : (modPwr f s).dbg = s.dbg := rfl
@[simp] theorem modPwr_lpe (f : PwrS → PwrS) (s : State) : (modPwr f s).lpe = s.lpe := rfl
@[simp] theorem modPwr_mem (f : PwrS → PwrS) (s : State) : (modPwr f s).mem = s.mem := rfl
@[simp] theorem modPwr_out (f : PwrS → PwrS) (s : State) : (modPwr f s).out = s.out := rfl
@[simp] theorem modPwr_pending (f : PwrS → PwrS) (s : State) : (modPwr f s).pending = s.pending := rfl
@[simp] theorem modPwr_get (f : PwrS → PwrS) (s : State) (g : Fld) : (modPwr f s).get g = s.get g := rfl

@[simp] theorem modRsi_regs (f : RsiS → RsiS) (s : State) : (modRsi f s).regs = s.regs := rfl
@[simp] theorem modRsi_inForce (f : RsiS → RsiS) (s : State) : (modRsi f s).inForce = s.inForce := rfl
@[simp] theorem modRsi_core (f : RsiS → RsiS) (s : State) : (modRsi f s).core = s.core := rfl
@[simp] theorem modRsi_time (f : RsiS → RsiS) (s : State) : (modRsi f s).time = s.time := rfl
@[simp] theorem modRsi_clock (f : RsiS → RsiS) (s : State) : (modRsi f s).clock = s.clock := rfl
@[simp] theorem modRsi_rsi (f : RsiS → RsiS) (s : State) : (modRsi f s).rsi = f s.rsi := rfl
@[simp] theorem modRsi_prsm (f : RsiS → RsiS) (s : State) : (modRsi f s).prsm = s.prsm := rfl
@[simp] theorem modRsi_rx (f : RsiS → RsiS) (s : State) : (modRsi f s).rx = s.rx := rfl
@[simp] theorem modRsi_mac (f : RsiS → RsiS) (s : State) : (modRsi f s).mac = s.mac := rfl
@[simp] theorem modRsi_txc (f : RsiS → RsiS) (s : State) : (modRsi f s).txc = s.txc := rfl
@[simp] theorem modRsi_hif (f : RsiS → RsiS) (s : State) : (modRsi f s).hif = s.hif := rfl
@[simp] theorem modRsi_tm (f : RsiS → RsiS) (s : State) : (modRsi f s).tm = s.tm := rfl
@[simp] theorem modRsi_fwd (f : RsiS → RsiS) (s : State) : (modRsi f s).fwd = s.fwd := rfl
@[simp] theorem modRsi_fld (f : RsiS → RsiS) (s : State) : (modRsi f s).fld = s.fld := rfl
@[simp] theorem modRsi_sec (f : RsiS → RsiS) (s : State) : (modRsi f s).sec = s.sec := rfl
@[simp] theorem modRsi_kv (f : RsiS → RsiS) (s : State) : (modRsi f s).kv = s.kv := rfl
@[simp] theorem modRsi_wdn (f : RsiS → RsiS) (s : State) : (modRsi f s).wdn = s.wdn := rfl
@[simp] theorem modRsi_mir (f : RsiS → RsiS) (s : State) : (modRsi f s).mir = s.mir := rfl
@[simp] theorem modRsi_fw (f : RsiS → RsiS) (s : State) : (modRsi f s).fw = s.fw := rfl
@[simp] theorem modRsi_lc (f : RsiS → RsiS) (s : State) : (modRsi f s).lc = s.lc := rfl
@[simp] theorem modRsi_otp (f : RsiS → RsiS) (s : State) : (modRsi f s).otp = s.otp := rfl
@[simp] theorem modRsi_pwr (f : RsiS → RsiS) (s : State) : (modRsi f s).pwr = s.pwr := rfl
@[simp] theorem modRsi_dbg (f : RsiS → RsiS) (s : State) : (modRsi f s).dbg = s.dbg := rfl
@[simp] theorem modRsi_lpe (f : RsiS → RsiS) (s : State) : (modRsi f s).lpe = s.lpe := rfl
@[simp] theorem modRsi_mem (f : RsiS → RsiS) (s : State) : (modRsi f s).mem = s.mem := rfl
@[simp] theorem modRsi_out (f : RsiS → RsiS) (s : State) : (modRsi f s).out = s.out := rfl
@[simp] theorem modRsi_pending (f : RsiS → RsiS) (s : State) : (modRsi f s).pending = s.pending := rfl
@[simp] theorem modRsi_get (f : RsiS → RsiS) (s : State) (g : Fld) : (modRsi f s).get g = s.get g := rfl

@[simp] theorem modPrsm_regs (f : PrsmS → PrsmS) (s : State) : (modPrsm f s).regs = s.regs := rfl
@[simp] theorem modPrsm_inForce (f : PrsmS → PrsmS) (s : State) : (modPrsm f s).inForce = s.inForce := rfl
@[simp] theorem modPrsm_core (f : PrsmS → PrsmS) (s : State) : (modPrsm f s).core = s.core := rfl
@[simp] theorem modPrsm_time (f : PrsmS → PrsmS) (s : State) : (modPrsm f s).time = s.time := rfl
@[simp] theorem modPrsm_clock (f : PrsmS → PrsmS) (s : State) : (modPrsm f s).clock = s.clock := rfl
@[simp] theorem modPrsm_rsi (f : PrsmS → PrsmS) (s : State) : (modPrsm f s).rsi = s.rsi := rfl
@[simp] theorem modPrsm_prsm (f : PrsmS → PrsmS) (s : State) : (modPrsm f s).prsm = f s.prsm := rfl
@[simp] theorem modPrsm_rx (f : PrsmS → PrsmS) (s : State) : (modPrsm f s).rx = s.rx := rfl
@[simp] theorem modPrsm_mac (f : PrsmS → PrsmS) (s : State) : (modPrsm f s).mac = s.mac := rfl
@[simp] theorem modPrsm_txc (f : PrsmS → PrsmS) (s : State) : (modPrsm f s).txc = s.txc := rfl
@[simp] theorem modPrsm_hif (f : PrsmS → PrsmS) (s : State) : (modPrsm f s).hif = s.hif := rfl
@[simp] theorem modPrsm_tm (f : PrsmS → PrsmS) (s : State) : (modPrsm f s).tm = s.tm := rfl
@[simp] theorem modPrsm_fwd (f : PrsmS → PrsmS) (s : State) : (modPrsm f s).fwd = s.fwd := rfl
@[simp] theorem modPrsm_fld (f : PrsmS → PrsmS) (s : State) : (modPrsm f s).fld = s.fld := rfl
@[simp] theorem modPrsm_sec (f : PrsmS → PrsmS) (s : State) : (modPrsm f s).sec = s.sec := rfl
@[simp] theorem modPrsm_kv (f : PrsmS → PrsmS) (s : State) : (modPrsm f s).kv = s.kv := rfl
@[simp] theorem modPrsm_wdn (f : PrsmS → PrsmS) (s : State) : (modPrsm f s).wdn = s.wdn := rfl
@[simp] theorem modPrsm_mir (f : PrsmS → PrsmS) (s : State) : (modPrsm f s).mir = s.mir := rfl
@[simp] theorem modPrsm_fw (f : PrsmS → PrsmS) (s : State) : (modPrsm f s).fw = s.fw := rfl
@[simp] theorem modPrsm_lc (f : PrsmS → PrsmS) (s : State) : (modPrsm f s).lc = s.lc := rfl
@[simp] theorem modPrsm_otp (f : PrsmS → PrsmS) (s : State) : (modPrsm f s).otp = s.otp := rfl
@[simp] theorem modPrsm_pwr (f : PrsmS → PrsmS) (s : State) : (modPrsm f s).pwr = s.pwr := rfl
@[simp] theorem modPrsm_dbg (f : PrsmS → PrsmS) (s : State) : (modPrsm f s).dbg = s.dbg := rfl
@[simp] theorem modPrsm_lpe (f : PrsmS → PrsmS) (s : State) : (modPrsm f s).lpe = s.lpe := rfl
@[simp] theorem modPrsm_mem (f : PrsmS → PrsmS) (s : State) : (modPrsm f s).mem = s.mem := rfl
@[simp] theorem modPrsm_out (f : PrsmS → PrsmS) (s : State) : (modPrsm f s).out = s.out := rfl
@[simp] theorem modPrsm_pending (f : PrsmS → PrsmS) (s : State) : (modPrsm f s).pending = s.pending := rfl
@[simp] theorem modPrsm_get (f : PrsmS → PrsmS) (s : State) (g : Fld) : (modPrsm f s).get g = s.get g := rfl

@[simp] theorem modTm_regs (f : TmS → TmS) (s : State) : (modTm f s).regs = s.regs := rfl
@[simp] theorem modTm_inForce (f : TmS → TmS) (s : State) : (modTm f s).inForce = s.inForce := rfl
@[simp] theorem modTm_core (f : TmS → TmS) (s : State) : (modTm f s).core = s.core := rfl
@[simp] theorem modTm_time (f : TmS → TmS) (s : State) : (modTm f s).time = s.time := rfl
@[simp] theorem modTm_clock (f : TmS → TmS) (s : State) : (modTm f s).clock = s.clock := rfl
@[simp] theorem modTm_rsi (f : TmS → TmS) (s : State) : (modTm f s).rsi = s.rsi := rfl
@[simp] theorem modTm_prsm (f : TmS → TmS) (s : State) : (modTm f s).prsm = s.prsm := rfl
@[simp] theorem modTm_rx (f : TmS → TmS) (s : State) : (modTm f s).rx = s.rx := rfl
@[simp] theorem modTm_mac (f : TmS → TmS) (s : State) : (modTm f s).mac = s.mac := rfl
@[simp] theorem modTm_txc (f : TmS → TmS) (s : State) : (modTm f s).txc = s.txc := rfl
@[simp] theorem modTm_hif (f : TmS → TmS) (s : State) : (modTm f s).hif = s.hif := rfl
@[simp] theorem modTm_tm (f : TmS → TmS) (s : State) : (modTm f s).tm = f s.tm := rfl
@[simp] theorem modTm_fwd (f : TmS → TmS) (s : State) : (modTm f s).fwd = s.fwd := rfl
@[simp] theorem modTm_fld (f : TmS → TmS) (s : State) : (modTm f s).fld = s.fld := rfl
@[simp] theorem modTm_sec (f : TmS → TmS) (s : State) : (modTm f s).sec = s.sec := rfl
@[simp] theorem modTm_kv (f : TmS → TmS) (s : State) : (modTm f s).kv = s.kv := rfl
@[simp] theorem modTm_wdn (f : TmS → TmS) (s : State) : (modTm f s).wdn = s.wdn := rfl
@[simp] theorem modTm_mir (f : TmS → TmS) (s : State) : (modTm f s).mir = s.mir := rfl
@[simp] theorem modTm_fw (f : TmS → TmS) (s : State) : (modTm f s).fw = s.fw := rfl
@[simp] theorem modTm_lc (f : TmS → TmS) (s : State) : (modTm f s).lc = s.lc := rfl
@[simp] theorem modTm_otp (f : TmS → TmS) (s : State) : (modTm f s).otp = s.otp := rfl
@[simp] theorem modTm_pwr (f : TmS → TmS) (s : State) : (modTm f s).pwr = s.pwr := rfl
@[simp] theorem modTm_dbg (f : TmS → TmS) (s : State) : (modTm f s).dbg = s.dbg := rfl
@[simp] theorem modTm_lpe (f : TmS → TmS) (s : State) : (modTm f s).lpe = s.lpe := rfl
@[simp] theorem modTm_mem (f : TmS → TmS) (s : State) : (modTm f s).mem = s.mem := rfl
@[simp] theorem modTm_out (f : TmS → TmS) (s : State) : (modTm f s).out = s.out := rfl
@[simp] theorem modTm_pending (f : TmS → TmS) (s : State) : (modTm f s).pending = s.pending := rfl
@[simp] theorem modTm_get (f : TmS → TmS) (s : State) (g : Fld) : (modTm f s).get g = s.get g := rfl

@[simp] theorem modWdn_regs (f : WdnS → WdnS) (s : State) : (modWdn f s).regs = s.regs := rfl
@[simp] theorem modWdn_inForce (f : WdnS → WdnS) (s : State) : (modWdn f s).inForce = s.inForce := rfl
@[simp] theorem modWdn_core (f : WdnS → WdnS) (s : State) : (modWdn f s).core = s.core := rfl
@[simp] theorem modWdn_time (f : WdnS → WdnS) (s : State) : (modWdn f s).time = s.time := rfl
@[simp] theorem modWdn_clock (f : WdnS → WdnS) (s : State) : (modWdn f s).clock = s.clock := rfl
@[simp] theorem modWdn_rsi (f : WdnS → WdnS) (s : State) : (modWdn f s).rsi = s.rsi := rfl
@[simp] theorem modWdn_prsm (f : WdnS → WdnS) (s : State) : (modWdn f s).prsm = s.prsm := rfl
@[simp] theorem modWdn_rx (f : WdnS → WdnS) (s : State) : (modWdn f s).rx = s.rx := rfl
@[simp] theorem modWdn_mac (f : WdnS → WdnS) (s : State) : (modWdn f s).mac = s.mac := rfl
@[simp] theorem modWdn_txc (f : WdnS → WdnS) (s : State) : (modWdn f s).txc = s.txc := rfl
@[simp] theorem modWdn_hif (f : WdnS → WdnS) (s : State) : (modWdn f s).hif = s.hif := rfl
@[simp] theorem modWdn_tm (f : WdnS → WdnS) (s : State) : (modWdn f s).tm = s.tm := rfl
@[simp] theorem modWdn_fwd (f : WdnS → WdnS) (s : State) : (modWdn f s).fwd = s.fwd := rfl
@[simp] theorem modWdn_fld (f : WdnS → WdnS) (s : State) : (modWdn f s).fld = s.fld := rfl
@[simp] theorem modWdn_sec (f : WdnS → WdnS) (s : State) : (modWdn f s).sec = s.sec := rfl
@[simp] theorem modWdn_kv (f : WdnS → WdnS) (s : State) : (modWdn f s).kv = s.kv := rfl
@[simp] theorem modWdn_wdn (f : WdnS → WdnS) (s : State) : (modWdn f s).wdn = f s.wdn := rfl
@[simp] theorem modWdn_mir (f : WdnS → WdnS) (s : State) : (modWdn f s).mir = s.mir := rfl
@[simp] theorem modWdn_fw (f : WdnS → WdnS) (s : State) : (modWdn f s).fw = s.fw := rfl
@[simp] theorem modWdn_lc (f : WdnS → WdnS) (s : State) : (modWdn f s).lc = s.lc := rfl
@[simp] theorem modWdn_otp (f : WdnS → WdnS) (s : State) : (modWdn f s).otp = s.otp := rfl
@[simp] theorem modWdn_pwr (f : WdnS → WdnS) (s : State) : (modWdn f s).pwr = s.pwr := rfl
@[simp] theorem modWdn_dbg (f : WdnS → WdnS) (s : State) : (modWdn f s).dbg = s.dbg := rfl
@[simp] theorem modWdn_lpe (f : WdnS → WdnS) (s : State) : (modWdn f s).lpe = s.lpe := rfl
@[simp] theorem modWdn_mem (f : WdnS → WdnS) (s : State) : (modWdn f s).mem = s.mem := rfl
@[simp] theorem modWdn_out (f : WdnS → WdnS) (s : State) : (modWdn f s).out = s.out := rfl
@[simp] theorem modWdn_pending (f : WdnS → WdnS) (s : State) : (modWdn f s).pending = s.pending := rfl
@[simp] theorem modWdn_get (f : WdnS → WdnS) (s : State) (g : Fld) : (modWdn f s).get g = s.get g := rfl

@[simp] theorem modMir_regs (f : MirS → MirS) (s : State) : (modMir f s).regs = s.regs := rfl
@[simp] theorem modMir_inForce (f : MirS → MirS) (s : State) : (modMir f s).inForce = s.inForce := rfl
@[simp] theorem modMir_core (f : MirS → MirS) (s : State) : (modMir f s).core = s.core := rfl
@[simp] theorem modMir_time (f : MirS → MirS) (s : State) : (modMir f s).time = s.time := rfl
@[simp] theorem modMir_clock (f : MirS → MirS) (s : State) : (modMir f s).clock = s.clock := rfl
@[simp] theorem modMir_rsi (f : MirS → MirS) (s : State) : (modMir f s).rsi = s.rsi := rfl
@[simp] theorem modMir_prsm (f : MirS → MirS) (s : State) : (modMir f s).prsm = s.prsm := rfl
@[simp] theorem modMir_rx (f : MirS → MirS) (s : State) : (modMir f s).rx = s.rx := rfl
@[simp] theorem modMir_mac (f : MirS → MirS) (s : State) : (modMir f s).mac = s.mac := rfl
@[simp] theorem modMir_txc (f : MirS → MirS) (s : State) : (modMir f s).txc = s.txc := rfl
@[simp] theorem modMir_hif (f : MirS → MirS) (s : State) : (modMir f s).hif = s.hif := rfl
@[simp] theorem modMir_tm (f : MirS → MirS) (s : State) : (modMir f s).tm = s.tm := rfl
@[simp] theorem modMir_fwd (f : MirS → MirS) (s : State) : (modMir f s).fwd = s.fwd := rfl
@[simp] theorem modMir_fld (f : MirS → MirS) (s : State) : (modMir f s).fld = s.fld := rfl
@[simp] theorem modMir_sec (f : MirS → MirS) (s : State) : (modMir f s).sec = s.sec := rfl
@[simp] theorem modMir_kv (f : MirS → MirS) (s : State) : (modMir f s).kv = s.kv := rfl
@[simp] theorem modMir_wdn (f : MirS → MirS) (s : State) : (modMir f s).wdn = s.wdn := rfl
@[simp] theorem modMir_mir (f : MirS → MirS) (s : State) : (modMir f s).mir = f s.mir := rfl
@[simp] theorem modMir_fw (f : MirS → MirS) (s : State) : (modMir f s).fw = s.fw := rfl
@[simp] theorem modMir_lc (f : MirS → MirS) (s : State) : (modMir f s).lc = s.lc := rfl
@[simp] theorem modMir_otp (f : MirS → MirS) (s : State) : (modMir f s).otp = s.otp := rfl
@[simp] theorem modMir_pwr (f : MirS → MirS) (s : State) : (modMir f s).pwr = s.pwr := rfl
@[simp] theorem modMir_dbg (f : MirS → MirS) (s : State) : (modMir f s).dbg = s.dbg := rfl
@[simp] theorem modMir_lpe (f : MirS → MirS) (s : State) : (modMir f s).lpe = s.lpe := rfl
@[simp] theorem modMir_mem (f : MirS → MirS) (s : State) : (modMir f s).mem = s.mem := rfl
@[simp] theorem modMir_out (f : MirS → MirS) (s : State) : (modMir f s).out = s.out := rfl
@[simp] theorem modMir_pending (f : MirS → MirS) (s : State) : (modMir f s).pending = s.pending := rfl
@[simp] theorem modMir_get (f : MirS → MirS) (s : State) (g : Fld) : (modMir f s).get g = s.get g := rfl

@[simp] theorem modRx_regs (f : RxS → RxS) (s : State) : (modRx f s).regs = s.regs := rfl
@[simp] theorem modRx_inForce (f : RxS → RxS) (s : State) : (modRx f s).inForce = s.inForce := rfl
@[simp] theorem modRx_core (f : RxS → RxS) (s : State) : (modRx f s).core = s.core := rfl
@[simp] theorem modRx_time (f : RxS → RxS) (s : State) : (modRx f s).time = s.time := rfl
@[simp] theorem modRx_clock (f : RxS → RxS) (s : State) : (modRx f s).clock = s.clock := rfl
@[simp] theorem modRx_rsi (f : RxS → RxS) (s : State) : (modRx f s).rsi = s.rsi := rfl
@[simp] theorem modRx_prsm (f : RxS → RxS) (s : State) : (modRx f s).prsm = s.prsm := rfl
@[simp] theorem modRx_rx (f : RxS → RxS) (s : State) : (modRx f s).rx = f s.rx := rfl
@[simp] theorem modRx_mac (f : RxS → RxS) (s : State) : (modRx f s).mac = s.mac := rfl
@[simp] theorem modRx_txc (f : RxS → RxS) (s : State) : (modRx f s).txc = s.txc := rfl
@[simp] theorem modRx_hif (f : RxS → RxS) (s : State) : (modRx f s).hif = s.hif := rfl
@[simp] theorem modRx_tm (f : RxS → RxS) (s : State) : (modRx f s).tm = s.tm := rfl
@[simp] theorem modRx_fwd (f : RxS → RxS) (s : State) : (modRx f s).fwd = s.fwd := rfl
@[simp] theorem modRx_fld (f : RxS → RxS) (s : State) : (modRx f s).fld = s.fld := rfl
@[simp] theorem modRx_sec (f : RxS → RxS) (s : State) : (modRx f s).sec = s.sec := rfl
@[simp] theorem modRx_kv (f : RxS → RxS) (s : State) : (modRx f s).kv = s.kv := rfl
@[simp] theorem modRx_wdn (f : RxS → RxS) (s : State) : (modRx f s).wdn = s.wdn := rfl
@[simp] theorem modRx_mir (f : RxS → RxS) (s : State) : (modRx f s).mir = s.mir := rfl
@[simp] theorem modRx_fw (f : RxS → RxS) (s : State) : (modRx f s).fw = s.fw := rfl
@[simp] theorem modRx_lc (f : RxS → RxS) (s : State) : (modRx f s).lc = s.lc := rfl
@[simp] theorem modRx_otp (f : RxS → RxS) (s : State) : (modRx f s).otp = s.otp := rfl
@[simp] theorem modRx_pwr (f : RxS → RxS) (s : State) : (modRx f s).pwr = s.pwr := rfl
@[simp] theorem modRx_dbg (f : RxS → RxS) (s : State) : (modRx f s).dbg = s.dbg := rfl
@[simp] theorem modRx_lpe (f : RxS → RxS) (s : State) : (modRx f s).lpe = s.lpe := rfl
@[simp] theorem modRx_mem (f : RxS → RxS) (s : State) : (modRx f s).mem = s.mem := rfl
@[simp] theorem modRx_out (f : RxS → RxS) (s : State) : (modRx f s).out = s.out := rfl
@[simp] theorem modRx_pending (f : RxS → RxS) (s : State) : (modRx f s).pending = s.pending := rfl
@[simp] theorem modRx_get (f : RxS → RxS) (s : State) (g : Fld) : (modRx f s).get g = s.get g := rfl

@[simp] theorem modSec_regs (f : SecS → SecS) (s : State) : (modSec f s).regs = s.regs := rfl
@[simp] theorem modSec_inForce (f : SecS → SecS) (s : State) : (modSec f s).inForce = s.inForce := rfl
@[simp] theorem modSec_core (f : SecS → SecS) (s : State) : (modSec f s).core = s.core := rfl
@[simp] theorem modSec_time (f : SecS → SecS) (s : State) : (modSec f s).time = s.time := rfl
@[simp] theorem modSec_clock (f : SecS → SecS) (s : State) : (modSec f s).clock = s.clock := rfl
@[simp] theorem modSec_rsi (f : SecS → SecS) (s : State) : (modSec f s).rsi = s.rsi := rfl
@[simp] theorem modSec_prsm (f : SecS → SecS) (s : State) : (modSec f s).prsm = s.prsm := rfl
@[simp] theorem modSec_rx (f : SecS → SecS) (s : State) : (modSec f s).rx = s.rx := rfl
@[simp] theorem modSec_mac (f : SecS → SecS) (s : State) : (modSec f s).mac = s.mac := rfl
@[simp] theorem modSec_txc (f : SecS → SecS) (s : State) : (modSec f s).txc = s.txc := rfl
@[simp] theorem modSec_hif (f : SecS → SecS) (s : State) : (modSec f s).hif = s.hif := rfl
@[simp] theorem modSec_tm (f : SecS → SecS) (s : State) : (modSec f s).tm = s.tm := rfl
@[simp] theorem modSec_fwd (f : SecS → SecS) (s : State) : (modSec f s).fwd = s.fwd := rfl
@[simp] theorem modSec_fld (f : SecS → SecS) (s : State) : (modSec f s).fld = s.fld := rfl
@[simp] theorem modSec_sec (f : SecS → SecS) (s : State) : (modSec f s).sec = f s.sec := rfl
@[simp] theorem modSec_kv (f : SecS → SecS) (s : State) : (modSec f s).kv = s.kv := rfl
@[simp] theorem modSec_wdn (f : SecS → SecS) (s : State) : (modSec f s).wdn = s.wdn := rfl
@[simp] theorem modSec_mir (f : SecS → SecS) (s : State) : (modSec f s).mir = s.mir := rfl
@[simp] theorem modSec_fw (f : SecS → SecS) (s : State) : (modSec f s).fw = s.fw := rfl
@[simp] theorem modSec_lc (f : SecS → SecS) (s : State) : (modSec f s).lc = s.lc := rfl
@[simp] theorem modSec_otp (f : SecS → SecS) (s : State) : (modSec f s).otp = s.otp := rfl
@[simp] theorem modSec_pwr (f : SecS → SecS) (s : State) : (modSec f s).pwr = s.pwr := rfl
@[simp] theorem modSec_dbg (f : SecS → SecS) (s : State) : (modSec f s).dbg = s.dbg := rfl
@[simp] theorem modSec_lpe (f : SecS → SecS) (s : State) : (modSec f s).lpe = s.lpe := rfl
@[simp] theorem modSec_mem (f : SecS → SecS) (s : State) : (modSec f s).mem = s.mem := rfl
@[simp] theorem modSec_out (f : SecS → SecS) (s : State) : (modSec f s).out = s.out := rfl
@[simp] theorem modSec_pending (f : SecS → SecS) (s : State) : (modSec f s).pending = s.pending := rfl
@[simp] theorem modSec_get (f : SecS → SecS) (s : State) (g : Fld) : (modSec f s).get g = s.get g := rfl

@[simp] theorem modKv_regs (f : KvS → KvS) (s : State) : (modKv f s).regs = s.regs := rfl
@[simp] theorem modKv_inForce (f : KvS → KvS) (s : State) : (modKv f s).inForce = s.inForce := rfl
@[simp] theorem modKv_core (f : KvS → KvS) (s : State) : (modKv f s).core = s.core := rfl
@[simp] theorem modKv_time (f : KvS → KvS) (s : State) : (modKv f s).time = s.time := rfl
@[simp] theorem modKv_clock (f : KvS → KvS) (s : State) : (modKv f s).clock = s.clock := rfl
@[simp] theorem modKv_rsi (f : KvS → KvS) (s : State) : (modKv f s).rsi = s.rsi := rfl
@[simp] theorem modKv_prsm (f : KvS → KvS) (s : State) : (modKv f s).prsm = s.prsm := rfl
@[simp] theorem modKv_rx (f : KvS → KvS) (s : State) : (modKv f s).rx = s.rx := rfl
@[simp] theorem modKv_mac (f : KvS → KvS) (s : State) : (modKv f s).mac = s.mac := rfl
@[simp] theorem modKv_txc (f : KvS → KvS) (s : State) : (modKv f s).txc = s.txc := rfl
@[simp] theorem modKv_hif (f : KvS → KvS) (s : State) : (modKv f s).hif = s.hif := rfl
@[simp] theorem modKv_tm (f : KvS → KvS) (s : State) : (modKv f s).tm = s.tm := rfl
@[simp] theorem modKv_fwd (f : KvS → KvS) (s : State) : (modKv f s).fwd = s.fwd := rfl
@[simp] theorem modKv_fld (f : KvS → KvS) (s : State) : (modKv f s).fld = s.fld := rfl
@[simp] theorem modKv_sec (f : KvS → KvS) (s : State) : (modKv f s).sec = s.sec := rfl
@[simp] theorem modKv_kv (f : KvS → KvS) (s : State) : (modKv f s).kv = f s.kv := rfl
@[simp] theorem modKv_wdn (f : KvS → KvS) (s : State) : (modKv f s).wdn = s.wdn := rfl
@[simp] theorem modKv_mir (f : KvS → KvS) (s : State) : (modKv f s).mir = s.mir := rfl
@[simp] theorem modKv_fw (f : KvS → KvS) (s : State) : (modKv f s).fw = s.fw := rfl
@[simp] theorem modKv_lc (f : KvS → KvS) (s : State) : (modKv f s).lc = s.lc := rfl
@[simp] theorem modKv_otp (f : KvS → KvS) (s : State) : (modKv f s).otp = s.otp := rfl
@[simp] theorem modKv_pwr (f : KvS → KvS) (s : State) : (modKv f s).pwr = s.pwr := rfl
@[simp] theorem modKv_dbg (f : KvS → KvS) (s : State) : (modKv f s).dbg = s.dbg := rfl
@[simp] theorem modKv_lpe (f : KvS → KvS) (s : State) : (modKv f s).lpe = s.lpe := rfl
@[simp] theorem modKv_mem (f : KvS → KvS) (s : State) : (modKv f s).mem = s.mem := rfl
@[simp] theorem modKv_out (f : KvS → KvS) (s : State) : (modKv f s).out = s.out := rfl
@[simp] theorem modKv_pending (f : KvS → KvS) (s : State) : (modKv f s).pending = s.pending := rfl
@[simp] theorem modKv_get (f : KvS → KvS) (s : State) (g : Fld) : (modKv f s).get g = s.get g := rfl

@[simp] theorem modTime_regs (f : TimeS → TimeS) (s : State) : (modTime f s).regs = s.regs := rfl
@[simp] theorem modTime_inForce (f : TimeS → TimeS) (s : State) : (modTime f s).inForce = s.inForce := rfl
@[simp] theorem modTime_core (f : TimeS → TimeS) (s : State) : (modTime f s).core = s.core := rfl
@[simp] theorem modTime_time (f : TimeS → TimeS) (s : State) : (modTime f s).time = f s.time := rfl
@[simp] theorem modTime_clock (f : TimeS → TimeS) (s : State) : (modTime f s).clock = s.clock := rfl
@[simp] theorem modTime_rsi (f : TimeS → TimeS) (s : State) : (modTime f s).rsi = s.rsi := rfl
@[simp] theorem modTime_prsm (f : TimeS → TimeS) (s : State) : (modTime f s).prsm = s.prsm := rfl
@[simp] theorem modTime_rx (f : TimeS → TimeS) (s : State) : (modTime f s).rx = s.rx := rfl
@[simp] theorem modTime_mac (f : TimeS → TimeS) (s : State) : (modTime f s).mac = s.mac := rfl
@[simp] theorem modTime_txc (f : TimeS → TimeS) (s : State) : (modTime f s).txc = s.txc := rfl
@[simp] theorem modTime_hif (f : TimeS → TimeS) (s : State) : (modTime f s).hif = s.hif := rfl
@[simp] theorem modTime_tm (f : TimeS → TimeS) (s : State) : (modTime f s).tm = s.tm := rfl
@[simp] theorem modTime_fwd (f : TimeS → TimeS) (s : State) : (modTime f s).fwd = s.fwd := rfl
@[simp] theorem modTime_fld (f : TimeS → TimeS) (s : State) : (modTime f s).fld = s.fld := rfl
@[simp] theorem modTime_sec (f : TimeS → TimeS) (s : State) : (modTime f s).sec = s.sec := rfl
@[simp] theorem modTime_kv (f : TimeS → TimeS) (s : State) : (modTime f s).kv = s.kv := rfl
@[simp] theorem modTime_wdn (f : TimeS → TimeS) (s : State) : (modTime f s).wdn = s.wdn := rfl
@[simp] theorem modTime_mir (f : TimeS → TimeS) (s : State) : (modTime f s).mir = s.mir := rfl
@[simp] theorem modTime_fw (f : TimeS → TimeS) (s : State) : (modTime f s).fw = s.fw := rfl
@[simp] theorem modTime_lc (f : TimeS → TimeS) (s : State) : (modTime f s).lc = s.lc := rfl
@[simp] theorem modTime_otp (f : TimeS → TimeS) (s : State) : (modTime f s).otp = s.otp := rfl
@[simp] theorem modTime_pwr (f : TimeS → TimeS) (s : State) : (modTime f s).pwr = s.pwr := rfl
@[simp] theorem modTime_dbg (f : TimeS → TimeS) (s : State) : (modTime f s).dbg = s.dbg := rfl
@[simp] theorem modTime_lpe (f : TimeS → TimeS) (s : State) : (modTime f s).lpe = s.lpe := rfl
@[simp] theorem modTime_mem (f : TimeS → TimeS) (s : State) : (modTime f s).mem = s.mem := rfl
@[simp] theorem modTime_out (f : TimeS → TimeS) (s : State) : (modTime f s).out = s.out := rfl
@[simp] theorem modTime_pending (f : TimeS → TimeS) (s : State) : (modTime f s).pending = s.pending := rfl
@[simp] theorem modTime_get (f : TimeS → TimeS) (s : State) (g : Fld) : (modTime f s).get g = s.get g := rfl

@[simp] theorem modTxc_regs (f : TxcS → TxcS) (s : State) : (modTxc f s).regs = s.regs := rfl
@[simp] theorem modTxc_inForce (f : TxcS → TxcS) (s : State) : (modTxc f s).inForce = s.inForce := rfl
@[simp] theorem modTxc_core (f : TxcS → TxcS) (s : State) : (modTxc f s).core = s.core := rfl
@[simp] theorem modTxc_time (f : TxcS → TxcS) (s : State) : (modTxc f s).time = s.time := rfl
@[simp] theorem modTxc_clock (f : TxcS → TxcS) (s : State) : (modTxc f s).clock = s.clock := rfl
@[simp] theorem modTxc_rsi (f : TxcS → TxcS) (s : State) : (modTxc f s).rsi = s.rsi := rfl
@[simp] theorem modTxc_prsm (f : TxcS → TxcS) (s : State) : (modTxc f s).prsm = s.prsm := rfl
@[simp] theorem modTxc_rx (f : TxcS → TxcS) (s : State) : (modTxc f s).rx = s.rx := rfl
@[simp] theorem modTxc_mac (f : TxcS → TxcS) (s : State) : (modTxc f s).mac = s.mac := rfl
@[simp] theorem modTxc_txc (f : TxcS → TxcS) (s : State) : (modTxc f s).txc = f s.txc := rfl
@[simp] theorem modTxc_hif (f : TxcS → TxcS) (s : State) : (modTxc f s).hif = s.hif := rfl
@[simp] theorem modTxc_tm (f : TxcS → TxcS) (s : State) : (modTxc f s).tm = s.tm := rfl
@[simp] theorem modTxc_fwd (f : TxcS → TxcS) (s : State) : (modTxc f s).fwd = s.fwd := rfl
@[simp] theorem modTxc_fld (f : TxcS → TxcS) (s : State) : (modTxc f s).fld = s.fld := rfl
@[simp] theorem modTxc_sec (f : TxcS → TxcS) (s : State) : (modTxc f s).sec = s.sec := rfl
@[simp] theorem modTxc_kv (f : TxcS → TxcS) (s : State) : (modTxc f s).kv = s.kv := rfl
@[simp] theorem modTxc_wdn (f : TxcS → TxcS) (s : State) : (modTxc f s).wdn = s.wdn := rfl
@[simp] theorem modTxc_mir (f : TxcS → TxcS) (s : State) : (modTxc f s).mir = s.mir := rfl
@[simp] theorem modTxc_fw (f : TxcS → TxcS) (s : State) : (modTxc f s).fw = s.fw := rfl
@[simp] theorem modTxc_lc (f : TxcS → TxcS) (s : State) : (modTxc f s).lc = s.lc := rfl
@[simp] theorem modTxc_otp (f : TxcS → TxcS) (s : State) : (modTxc f s).otp = s.otp := rfl
@[simp] theorem modTxc_pwr (f : TxcS → TxcS) (s : State) : (modTxc f s).pwr = s.pwr := rfl
@[simp] theorem modTxc_dbg (f : TxcS → TxcS) (s : State) : (modTxc f s).dbg = s.dbg := rfl
@[simp] theorem modTxc_lpe (f : TxcS → TxcS) (s : State) : (modTxc f s).lpe = s.lpe := rfl
@[simp] theorem modTxc_mem (f : TxcS → TxcS) (s : State) : (modTxc f s).mem = s.mem := rfl
@[simp] theorem modTxc_out (f : TxcS → TxcS) (s : State) : (modTxc f s).out = s.out := rfl
@[simp] theorem modTxc_pending (f : TxcS → TxcS) (s : State) : (modTxc f s).pending = s.pending := rfl
@[simp] theorem modTxc_get (f : TxcS → TxcS) (s : State) (g : Fld) : (modTxc f s).get g = s.get g := rfl

@[simp] theorem modMac_regs (f : MacS → MacS) (s : State) : (modMac f s).regs = s.regs := rfl
@[simp] theorem modMac_inForce (f : MacS → MacS) (s : State) : (modMac f s).inForce = s.inForce := rfl
@[simp] theorem modMac_core (f : MacS → MacS) (s : State) : (modMac f s).core = s.core := rfl
@[simp] theorem modMac_time (f : MacS → MacS) (s : State) : (modMac f s).time = s.time := rfl
@[simp] theorem modMac_clock (f : MacS → MacS) (s : State) : (modMac f s).clock = s.clock := rfl
@[simp] theorem modMac_rsi (f : MacS → MacS) (s : State) : (modMac f s).rsi = s.rsi := rfl
@[simp] theorem modMac_prsm (f : MacS → MacS) (s : State) : (modMac f s).prsm = s.prsm := rfl
@[simp] theorem modMac_rx (f : MacS → MacS) (s : State) : (modMac f s).rx = s.rx := rfl
@[simp] theorem modMac_mac (f : MacS → MacS) (s : State) : (modMac f s).mac = f s.mac := rfl
@[simp] theorem modMac_txc (f : MacS → MacS) (s : State) : (modMac f s).txc = s.txc := rfl
@[simp] theorem modMac_hif (f : MacS → MacS) (s : State) : (modMac f s).hif = s.hif := rfl
@[simp] theorem modMac_tm (f : MacS → MacS) (s : State) : (modMac f s).tm = s.tm := rfl
@[simp] theorem modMac_fwd (f : MacS → MacS) (s : State) : (modMac f s).fwd = s.fwd := rfl
@[simp] theorem modMac_fld (f : MacS → MacS) (s : State) : (modMac f s).fld = s.fld := rfl
@[simp] theorem modMac_sec (f : MacS → MacS) (s : State) : (modMac f s).sec = s.sec := rfl
@[simp] theorem modMac_kv (f : MacS → MacS) (s : State) : (modMac f s).kv = s.kv := rfl
@[simp] theorem modMac_wdn (f : MacS → MacS) (s : State) : (modMac f s).wdn = s.wdn := rfl
@[simp] theorem modMac_mir (f : MacS → MacS) (s : State) : (modMac f s).mir = s.mir := rfl
@[simp] theorem modMac_fw (f : MacS → MacS) (s : State) : (modMac f s).fw = s.fw := rfl
@[simp] theorem modMac_lc (f : MacS → MacS) (s : State) : (modMac f s).lc = s.lc := rfl
@[simp] theorem modMac_otp (f : MacS → MacS) (s : State) : (modMac f s).otp = s.otp := rfl
@[simp] theorem modMac_pwr (f : MacS → MacS) (s : State) : (modMac f s).pwr = s.pwr := rfl
@[simp] theorem modMac_dbg (f : MacS → MacS) (s : State) : (modMac f s).dbg = s.dbg := rfl
@[simp] theorem modMac_lpe (f : MacS → MacS) (s : State) : (modMac f s).lpe = s.lpe := rfl
@[simp] theorem modMac_mem (f : MacS → MacS) (s : State) : (modMac f s).mem = s.mem := rfl
@[simp] theorem modMac_out (f : MacS → MacS) (s : State) : (modMac f s).out = s.out := rfl
@[simp] theorem modMac_pending (f : MacS → MacS) (s : State) : (modMac f s).pending = s.pending := rfl
@[simp] theorem modMac_get (f : MacS → MacS) (s : State) (g : Fld) : (modMac f s).get g = s.get g := rfl

@[simp] theorem settle_regs (s t : State) : (settle s t).regs = t.regs := rfl
@[simp] theorem settle_inForce (s t : State) : (settle s t).inForce = t.inForce := rfl
@[simp] theorem settle_core (s t : State) : (settle s t).core = t.core := rfl
@[simp] theorem settle_time (s t : State) : (settle s t).time = t.time := rfl
@[simp] theorem settle_clock (s t : State) : (settle s t).clock = t.clock := rfl
@[simp] theorem settle_rsi (s t : State) : (settle s t).rsi = t.rsi := rfl
@[simp] theorem settle_prsm (s t : State) : (settle s t).prsm = t.prsm := rfl
@[simp] theorem settle_rx (s t : State) : (settle s t).rx = t.rx := rfl
@[simp] theorem settle_mac (s t : State) : (settle s t).mac = t.mac := rfl
@[simp] theorem settle_txc (s t : State) : (settle s t).txc = t.txc := rfl
@[simp] theorem settle_hif (s t : State) : (settle s t).hif = t.hif := rfl
@[simp] theorem settle_tm (s t : State) : (settle s t).tm = t.tm := rfl
@[simp] theorem settle_fwd (s t : State) : (settle s t).fwd = t.fwd := rfl
@[simp] theorem settle_fld (s t : State) : (settle s t).fld = t.fld := rfl
@[simp] theorem settle_sec (s t : State) : (settle s t).sec = t.sec := rfl
@[simp] theorem settle_kv (s t : State) : (settle s t).kv = t.kv := rfl
@[simp] theorem settle_wdn (s t : State) : (settle s t).wdn = t.wdn := rfl
@[simp] theorem settle_mir (s t : State) : (settle s t).mir = t.mir := rfl
@[simp] theorem settle_fw (s t : State) : (settle s t).fw = t.fw := rfl
@[simp] theorem settle_lc (s t : State) : (settle s t).lc = t.lc := rfl
@[simp] theorem settle_pwr (s t : State) : (settle s t).pwr = t.pwr := rfl
@[simp] theorem settle_dbg (s t : State) : (settle s t).dbg = t.dbg := rfl
@[simp] theorem settle_lpe (s t : State) : (settle s t).lpe = t.lpe := rfl
@[simp] theorem settle_mem (s t : State) : (settle s t).mem = t.mem := rfl
@[simp] theorem settle_out (s t : State) : (settle s t).out = t.out := rfl
@[simp] theorem settle_pending (s t : State) : (settle s t).pending = s.pending := rfl
@[simp] theorem settle_otp (s t : State) : (settle s t).otp = s.otp.keep t.otp := rfl
@[simp] theorem settle_get (s t : State) (g : Fld) : (settle s t).get g = t.get g := rfl
@[simp] theorem settle_eff (s t : State) (g : Fld) : (settle s t).eff g = t.eff g := rfl

/-! ## The register store -/

/-- A field reads as it was last stored (R9). -/
@[simp] theorem State.get_put_self (s : State) (f : Fld) (v : Nat) : (s.put f v).get f = v % 2 ^ f.w := by
  simp only [State.get, State.put, regsPut]
  split
  · next h => simp [Tab.find?_erase_self, h]
  · simp [Tab.find?_insert_self]

/-- A store of one field leaves every field of another key. -/
theorem State.get_put_ne (s : State) {f g : Fld} (v : Nat) (h : f.key ≠ g.key) : (s.put f v).get g = s.get g := by
  simp only [State.get, State.put, regsPut]
  split
  · rw [Tab.find?_erase_ne _ h]
  · rw [Tab.find?_insert_ne _ _ h]

theorem State.get_inc_self (s : State) (f : Fld) : (s.inc f).get f = min (s.get f + 1) (2 ^ f.w - 1) := by
  have h : min (s.get f + 1) (2 ^ f.w - 1) < 2 ^ f.w := by
    have : 0 < 2 ^ f.w := Nat.pow_pos (by decide)
    omega
  simp [State.inc, State.incBy, Nat.mod_eq_of_lt h]

theorem State.get_inc_ne (s : State) {f g : Fld} (h : f.key ≠ g.key) : (s.inc f).get g = s.get g :=
  State.get_put_ne s _ h

/-- The register store keeps its canonical form, but that the value listed is not the reset value, which `regsPut` sees to. -/
theorem regsPut_rising (r : Tab Nat) (f : Fld) (v : Nat) (h : r.rising = true) : (regsPut r f v).rising = true := by
  unfold regsPut
  split
  · exact Tab.rising_erase r _ h
  · exact Tab.rising_insert r _ _ h

end Sys2Proof.Machine
end

