-- ==== Sys2Proof/Laws/Ops.lean ====
section
/-! SUPPORT. What the shared forms of a command's effect can do: each answers a next state, and settles it. -/

namespace Sys2Proof.Machine

/-- What was programmed before stays, and keeping it again changes nothing. -/
@[simp] theorem OtpS.keep_self (o : OtpS) : o.keep o = o := by
  cases o; simp [OtpS.keep]

theorem OtpS.le_keep (a b : OtpS) : a.le (a.keep b) := by
  refine ⟨Nat.le_max_left _ _, Nat.le_max_left _ _, ?_⟩
  simp only [OtpS.keep]
  split <;> omega

theorem OtpS.le_refl (a : OtpS) : a.le a := ⟨Nat.le_refl _, Nat.le_refl _, Nat.le_refl _⟩

theorem OtpS.le_trans {a b c : OtpS} (h : a.le b) (g : b.le c) : a.le c :=
  ⟨Nat.le_trans h.1 g.1, Nat.le_trans h.2.1 g.2.1, Nat.le_trans h.2.2 g.2.2⟩

/-- A live block carries a command out. -/
theorem run_live {s : State} (h : s.live) (f : State → State) : run f s = .next (settle s (f s.cleared)) := by
  unfold run State.cleared
  rw [show s.pwr.porstLow = false from h]
  rfl

/-- While PORST_N is low, a command does nothing but take the outputs of the one before away. -/
theorem run_low {s : State} (h : s.pwr.porstLow = true) (f : State → State) : run f s = .next s.cleared := by
  unfold run State.cleared
  rw [h]
  simp [settle]

theorem run_answers (f : State → State) (s : State) : ∃ t, run f s = .next (settle s t) := ⟨_, rfl⟩
theorem runPin_answers (f : State → State) (s : State) : ∃ t, runPin f s = .next (settle s t) := ⟨_, rfl⟩

/-- A settled state leaves the queue alone, and loses nothing that was programmed. -/
theorem settle_safe (s t : State) : (settle s t).pending = s.pending ∧ s.otp.le (settle s t).otp := ⟨rfl, OtpS.le_keep _ _⟩

/-! ## Reception and pin commands, and the state a command starts from -/

/-- A live block carries a reception command out and ends the duplicate waits that are over. -/
theorem runRx_live {s : State} (h : s.live) (f : State → State) : runRx f s = .next (settle s (dupSettle (f s.cleared))) :=
  run_live h _

/-- A command at a pin acts whether PORST_N is low or not. -/
theorem runPin_eq (f : State → State) (s : State) : runPin f s = .next (settle s (f s.cleared)) := rfl

theorem asOf_eq (s : State) (n : Nat) : s.asOf n = s.cleared.at n := rfl
@[simp] theorem cleared_get (s : State) (f : Fld) : s.cleared.get f = s.get f := rfl
@[simp] theorem cleared_eff (s : State) (f : Fld) : s.cleared.eff f = s.eff f := rfl
@[simp] theorem cleared_on (s : State) (f : Fld) : s.cleared.on f = s.on f := rfl
@[simp] theorem cleared_effOn (s : State) (f : Fld) : s.cleared.effOn f = s.effOn f := rfl
@[simp] theorem cleared_tick (s : State) : s.cleared.tick = s.tick := rfl
@[simp] theorem cleared_ofs (s : State) : s.cleared.ofs = s.ofs := rfl
@[simp] theorem cleared_clk (s : State) : s.cleared.clk = s.clk := rfl

/-! ## Steps under a condition, in a list and for a window -/

@[simp] theorem when_true (f : State → State) (s : State) : when true f s = f s := rfl
@[simp] theorem when_false (f : State → State) (s : State) : when false f s = s := rfl
@[simp] theorem forEach_nil {α : Type} (f : α → State → State) (s : State) : forEach [] f s = s := rfl
@[simp] theorem forEach_cons {α : Type} (a : α) (l : List α) (f : α → State → State) (s : State) :
    forEach (a :: l) f s = forEach l f (f a s) := rfl

/-- Steps for a list that each keep something keep it together. -/
theorem forEach_keeps {α β : Type} (p : State → β) (f : α → State → State) (h : ∀ a t, p (f a t) = p t) (l : List α) (s : State) :
    p (forEach l f s) = p s := by
  induction l generalizing s with
  | nil => rfl
  | cons a l ih => rw [forEach_cons, ih, h]

/-- A write to a window that answers does what it does; to one that does not it is counted and nothing else (R39). -/
theorem regAccess_on {a : Nat} {s : State} (h : windowOn s a = true) (f : State → State) : regAccess a f s = f s := by
  simp [regAccess, h]
theorem regAccess_off {a : Nat} {s : State} (h : windowOn s a = false) (f : State → State) :
    regAccess a f s = s.inc Reg.HIF_PD_OFF_ACC.CNT := by
  simp [regAccess, h]

/-! ## Counters and Loupe -/

@[simp] theorem incIf_true (s : State) (f : Fld) : s.incIf true f = s.inc f := rfl
@[simp] theorem incIf_false (s : State) (f : Fld) : s.incIf false f = s := rfl

/-- A Loupe count changes Loupe's counters and nothing else, and nothing at all while PD30 is off (R490). -/
theorem lpeBy_eq (id n : Nat) (s : State) : lpeBy id n s = { s with lpe := (lpeBy id n s).lpe } := by
  unfold lpeBy
  split <;> rfl
@[simp] theorem lpe_get (id : Nat) (s : State) (f : Fld) : (lpe id s).get f = s.get f := by
  unfold lpe lpeBy
  split <;> rfl

end Sys2Proof.Machine
end

