-- ==== Sys2Proof/WellFormed.lean ====
section
/-! DEFINITION. Which commands are well formed: numbers that stand for bit fields fit them, and lists have the lengths that the layouts
give. A command's meaning does not depend on it; a sender can send no other. -/

namespace Sys2Proof

open Sys2Proof.Machine

/-- The number fits in `w` bits. -/
def fits (w n : Nat) : Bool := decide (n < 2 ^ w)

/-- Every number of a list is a 32-bit word. -/
def words32 (l : List Nat) : Bool := l.all (fits 32)

/-- A tenant (R256, R286), and a node index (R249). -/
def isTenant (t : Nat) : Bool := fits 8 t
def isNode (n : Nat) : Bool := fits 18 n

def Packet.wf (p : Packet) : Bool :=
  fits 8 p.tclass && fits 128 p.src && fits 128 p.dst && fits 8 p.hlim && p.icmpType.all (fits 8) && p.mpl.all (fun m => fits 128 m.1 && fits 8 m.2) && p.text.all (fits 8)

/-- R300. -/
def RawDesc.wf (d : RawDesc) : Bool := decide (d.words.length ≤ 8) && words32 d.words && d.pkt.all Packet.wf

/-- R295, R306, R310: a doorbell record of 16 words, RXB entries of 8 octets and CMD entries of 32 words. -/
def Bell.wf (b : Bell) : Bool :=
  b.words.all (fun l => decide (l.length ≤ 16) && words32 l) && b.rxb.all (fun x => x.all (fits 64)) &&
  b.cmds.all (fun x => x.all (fun l => decide (l.length ≤ 32) && words32 l))

/-- R181, R182. -/
def Window.wf (w : Window) : Bool :=
  fits 7 w.engine && isTenant w.tenant && isNode w.node && fits 4 w.prof && fits 3 w.kind
def Plan.wf (p : Plan) : Bool :=
  fits 64 p.cell && p.wins.all Window.wf && p.chofs.all (fun c => fits 7 c.1 && fits 6 c.2)
def Amend.wf (a : Amend) : Bool := fits 64 a.tick && a.engines.all (fits 7) && a.wins.all Window.wf

/-- R208. The fields of a command entry are 32-bit words or parts of them. -/
def Link.wf (l : Link) : Bool := words32 [l.sf, l.pos, l.chofs, l.kind, l.node, l.ofs, l.span, l.lead, l.prof]

/-- R256. -/
def EmtEntry.wf (e : EmtEntry) : Bool :=
  fits 2 e.origin && fits 4 e.ty && isTenant e.tenant && fits 64 e.key && fits 32 e.result && fits 16 e.lastUse

/-- What the commands of a written word need. -/
def DbgEnv.wf (e : DbgEnv) : Bool := Bell.wf e.bell

/-- R15, R387. -/
def FwCmd.wf : FwCmd → Bool
  | .setNth n x => isNode n && isTenant x.tenant && fits 2 x.state && fits 64 x.eui && fits 16 x.short
  | .setNtc e x => fits 23 e && isTenant x.tenant && fits 64 x.eui
  | .joinAdd n => isNode n
  | .joinDel n => isNode n
  | .setIphc t c v => isTenant t && fits 4 c && fits 128 v
  | .aptReset n => isNode n
  | .nodeKey n _ => isNode n
  | .nodeKeyCommit n _ => isNode n
  | .ackFrame t n p l q _ _ _ _ _ _ level => isTenant t && isNode n && fits 4 p && fits 11 l && fits 9 q && fits 3 level
  | .sendFrame t n p l _ _ _ => isTenant t && isNode n && fits 4 p && fits 11 l
  | .quota t n => isTenant t && fits 20 n
  | .setReg a v e => fits 26 a && a % 4 == 0 && fits 32 v && DbgEnv.wf e
  | .delta v l _ => fits 32 v && decide (l ≤ 1024)
  | .handUp t p _ => isTenant t && Packet.wf p
  | .lock l _ _ => fits 6 l

/-- R403. -/
def Burst.wf (b : Burst) : Bool := decide (b.kind ≤ 2) && fits 64 b.seq && fits 32 b.tick

/-- R231, R239. -/
def VArgs.wf (a : VArgs) : Bool :=
  decide (a.slot < 4096 + 8388608) && decide (a.tenant ≤ 256) && fits 8 a.usage && fits 32 a.useCount && fits 8 a.keyIndex &&
  fits 64 a.keySource && a.slots.all (fits 12)

/-- Every number of a list is an octet. -/
def octets (l : List Nat) : Bool := l.all (fits 8)

/-- R217. -/
def Psdu.wf (p : Psdu) : Bool :=
  fits 3 p.ftype && fits 2 p.version && decide (p.seq ≤ 256) && fits 3 p.level && fits 2 p.kim && fits 8 p.keyIndex && fits 64 p.keySource &&
  fits 40 p.fc && octets p.mhr && octets p.macNonce && octets p.macAad && octets p.low && decide (p.low.length ≤ 2047)

/-- A sample of an RX port: two 16-bit components (R42). -/
def sampleWf (z : Cpx) : Bool := decide (-32768 ≤ z.1) && decide (z.1 ≤ 32767) && decide (-32768 ≤ z.2) && decide (z.2 ≤ 32767)

/-- R91: a stream's noise estimate is a divisor. -/
def Chips.wf (c : Chips) : Bool := decide (0 < c.varA) && decide (0 < c.varB)

/-- R117: what the sync word reads as. -/
def Acq.wf (a : Acq) : Bool := fits 32 a.sync

/-- R83, R103: what ends a decoding. A PSDU has at most 2,047 octets. -/
def Confirm.wf (x : Confirm) : Bool := Psdu.wf x.psdu && octets x.octets && decide (x.octets.length ≤ 2047) && fits 5 x.mcs

def TickEnv.wf (e : TickEnv) : Bool :=
  e.arrive.all (fun p => decide (p < 12)) && e.bells.all (fun b => decide (b.1 < 257) && Bell.wf b.2) &&
  e.shadow.all (fun l => l.all (fun x => EmtEntry.wf x.2)) && decide (e.rx.length ≤ 8) && e.rx.all (fun l => l.all sampleWf)

/-- The command can be sent. -/
def Instr.wf : Instr → Bool
  | .tickBoundary e => TickEnv.wf e
  | .tickCommit _ tick _ cmds => fits 64 tick && cmds.all FwCmd.wf
  | .mirrorAckReceived _ seq _ => fits 64 seq
  | .mirrorNakReceived _ seq _ => fits 64 seq
  | .mirrorRetransmitTimer _ seq _ => fits 64 seq
  | .mirrorBurstReceived _ b _ => Burst.wf b
  | .sfSet _ sf len hopg => words32 [sf, len, hopg]
  | .sfDel _ sf => fits 32 sf
  | .linkAdd _ l => Link.wf l
  | .linkDel _ sf pos chofs node => words32 [sf, pos, chofs, node]
  | .nodeRate _ node up down air => words32 [node, up, down, air]
  | .aptReset _ node => fits 32 node
  | .ebSet _ period prof chofs => words32 [period, prof, chofs]
  | .cellPlanPost p => Plan.wf p
  | .planAmendment a => Amend.wf a
  | .kick _ _ _ _ b => Bell.wf b
  | .descriptorFetch _ d => d.all RawDesc.wf
  | .backhaulPacket _ _ p => Packet.wf p
  | .frameDetection _ _ _ q => q.all Acq.wf
  | .frameConfirmation _ _ x => Confirm.wf x
  | .sicReplayEnd _ _ _ x => Confirm.wf x
  | .decodeComplete _ _ p => Psdu.wf p
  | .earlyHeader _ c => Chips.wf c
  | .codewordStaging _ _ _ _ c _ => Chips.wf c
  | .shadowConfirm x => x.all EmtEntry.wf
  | .fwLoadDone p => p.all (fun x => x.1.length == 256)
  | .keyGenerate _ a => VArgs.wf a
  | .keyImport _ a => VArgs.wf a
  | .keyStage _ a => VArgs.wf a
  | .keyCommit _ a => VArgs.wf a
  | .keyCancel _ a => VArgs.wf a
  | .keyDestroy _ a => VArgs.wf a
  | .keyQuery _ a => VArgs.wf a
  | .kvAttest _ a => VArgs.wf a
  | .kvRandom _ a => VArgs.wf a
  | .nodeImport _ a => VArgs.wf a
  | .nodeRestore _ a => VArgs.wf a
  | .kvInvalidCode _ a => VArgs.wf a
  | .laneDiscoveryEnd found => decide (found.length ≤ 8)
  | .portLock _ lanes => lanes.all (fun l => fits 5 l.lid)
  | .ptpFrameReceived _ _ o _ => decide (o.length ≤ 2048)
  | .debugWrite _ _ e => DbgEnv.wf e
  | .registerWrite .. => true
  | .shortWriteDiscard => true
  | .read64LowWord .. => true
  | .read64HighWord .. => true
  | .write64LowWord .. => true
  | .write64HighWord .. => true
  | .sysLock => true
  | .intakeCutoff => true
  | .burstA => true
  | .burstB => true
  | .wardenCommitCheck => true
  | .commitGraceExpiry => true
  | .decodeDeadline => true
  | .releaseDeadline .. => true
  | .compositionDeadline => true
  | .tickReportDeadline => true
  | .rsiEnableWrite .. => true
  | .rsiPortEnable .. => true
  | .laneDiscoveryStart => true
  | .laneLockLoss .. => true
  | .portDown .. => true
  | .portRetry .. => true
  | .crc12Error .. => true
  | .sysrefArm => true
  | .sysrefEdge .. => true
  | .tunerFillComplete .. => true
  | .invalidSampleAbort .. => true
  | .sfdSearchTimeout .. => true
  | .heldFrameOverflow .. => true
  | .modeSwitchPhr .. => true
  | .modeSwitchTimeout .. => true
  | .sicReplayStart .. => true
  | .tickReport .. => true
  | .headerConfirmTimeout .. => true
  | .decoderDispatch .. => true
  | .fastAckWithdraw .. => true
  | .reassemblyTimeout => true
  | .fastAckLaunch .. => true
  | .cellBoundary => true
  | .schedQuery .. => true
  | .csmaBackoffExpiry .. => true
  | .ackWaitExpiry .. => true
  | .composeFrame .. => true
  | .txLaunch .. => true
  | .txEnd .. => true
  | .dcSubwindowRollover .. => true
  | .dcPresetLoad .. => true
  | .firCommit .. => true
  | .maskViolation .. => true
  | .maskUngate .. => true
  | .maskHoldExpiry .. => true
  | .feReadbackCheck .. => true
  | .trickleFire .. => true
  | .trickleExpiry => true
  | .seenEntryExpiry => true
  | .hifReset .. => true
  | .functionLevelReset .. => true
  | .ringEnable .. => true
  | .txRingDisable .. => true
  | .partRingDisable .. => true
  | .rxDelivery => true
  | .sbkSpaceReturn => true
  | .fqPollTagRead => true
  | .portSelect .. => true
  | .ethLinkDown .. => true
  | .ethLinkUp .. => true
  | .ethTxPolarityFlip .. => true
  | .tcmdRead .. => true
  | .tcmdSearch .. => true
  | .tcmdInsert .. => true
  | .tcmdDelete .. => true
  | .tcmdReplace .. => true
  | .tcmdInvalidOp .. => true
  | .ntcmdRead .. => true
  | .ntcmdWrite .. => true
  | .emtRebuild .. => true
  | .emtClearDone .. => true
  | .joinFill .. => true
  | .joinFillDone .. => true
  | .agingWalk => true
  | .fwdDivRead => true
  | .kvCommandComplete .. => true
  | .journalEntryWritten .. => true
  | .tamperEvent .. => true
  | .sensorTrip .. => true
  | .epochAdvance => true
  | .entropyHealthFail => true
  | .entropyRecovery => true
  | .timeSet => true
  | .timeStep => true
  | .offsetDelivery .. => true
  | .servoSrcWrite .. => true
  | .servoHoldoverTimeout .. => true
  | .ppsInEdge .. => true
  | .ppsInMiss .. => true
  | .ppsOutPulse .. => true
  | .timeNowRead .. => true
  | .timeTbRead => true
  | .ptpRxstatRead .. => true
  | .ptpTxGo .. => true
  | .ptpTxDone .. => true
  | .ptpTxtsRead => true
  | .relock => true
  | .pllLock .. => true
  | .pllLossOfLock => true
  | .refLoss .. => true
  | .refEdgesReturn .. => true
  | .monitorWindowEnd .. => true
  | .clkForce => true
  | .clkoutConfigWrite .. => true
  | .clkoutShort .. => true
  | .clkoutShortRetry .. => true
  | .clusterFaultReport .. => true
  | .clusterRestart => true
  | .clusterBootEnd .. => true
  | .handover => true
  | .clusterDisable .. => true
  | .wardenFault .. => true
  | .wardenRecovered .. => true
  | .mirrorBurstMissing .. => true
  | .receiverLost .. => true
  | .resyncBurst .. => true
  | .twinLinkTrained => true
  | .keyingReceived .. => true
  | .confirmReceived .. => true
  | .confirmRetry .. => true
  | .twinLinkDown => true
  | .leaseRenewalEdge .. => true
  | .leaseGrant .. => true
  | .transmitLeaseLapse .. => true
  | .requestHoldoffEnd .. => true
  | .witPresentChange .. => true
  | .leaseYield => true
  | .forceHoldArm .. => true
  | .forceHoldConfirm .. => true
  | .forceHoldDecision .. => true
  | .forceHoldEnd .. => true
  | .porstRelease .. => true
  | .porstAssert .. => true
  | .sramInitDone => true
  | .fwLoad => true
  | .fwFlashWriteDone => true
  | .bankReverify .. => true
  | .fwActivate => true
  | .activationTimeout => true
  | .fwAbort => true
  | .commitSvn => true
  | .fwCold => true
  | .facetLoad => true
  | .facetRequest .. => true
  | .fwDeflistRead => true
  | .lcArm .. => true
  | .lcConfirm .. => true
  | .powerRequest .. => true
  | .domainSwitchDone => true
  | .dormantDrainDone => true
  | .loupeSealDone => true
  | .wakeTimer => true
  | .wakeGpio .. => true
  | .padRelease => true
  | .thermalShutdown => true
  | .memEccLogRead => true
  | .dramTrain => true
  | .dramTrainDone .. => true
  | .windowOpen .. => true
  | .windowFillDone => true
  | .windowClose .. => true
  | .loupePeriodicSeal => true
  | .loupeSeal => true
  | .loupeExport => true
  | .loupeSelect .. => true
  | .debugAuthArm .. => true
  | .debugAuthConfirm .. => true
  | .debugAuthDecision .. => true
  | .debugAuthDrop .. => true
  | .debugAuthExpiry .. => true
  | .quietViewRead .. => true
  | .debugConsume .. => true
  | .dbgHalt .. => true
  | .dbgStep .. => true
  | .dbgResume .. => true
  | .jtagInstruction .. => true
  | .tapReset => true
  | .supplyRampUp => true
  | .supplyLoss .. => true
  | .bootImageVerified => true
  | .facetLoadDone .. => true
  | .lcTransitionDone => true

end Sys2Proof
end

