-- ==== Sys2Proof/Tests/Slice0.lean ====
section
/-! SUPPORT. Tests: ill-formed commands refused, the worked examples and case tables of the spec, and for each statement with hypotheses a
state and operands that meet them, one witness for each set of hypotheses in it. -/

open Sys2Proof Sys2Proof.Machine

set_option Elab.async false
set_option linter.unusedVariables false

/-- The state after reset with some register fields at other values. -/
def W (l : List (Fld × Nat)) : State := putAll l State.reset

/-- The samples of an engine that has just received the LD preamble, in steps of 1/1000 of their amplitude. -/
def seenLd : Detect :=
  { (default : Detect) with a := ldRef.map (fun x => (1000 * x.1.1 + 707 * x.2.1, 1000 * x.1.2 + 707 * x.2.2)) }

/-! ## Worked examples of the spec -/

/-- Example "Kestrel Quay placement": 868.30 MHz on a port at 866.5 MHz gives FREQ 0x03C0_0000. -/
theorem test_tuner_freq_up : freqOfs (W [(Reg.PRSM_PORTn_FC.FC 0, 866500000)]) 868300000 0 = 0x03C00000 := by decide +kernel

/-- The same example: 2,405 MHz on a port at 2,441.75 MHz gives −1,284,505,600, which is FREQ 0xB370_0000. -/
theorem test_tuner_freq_down : freqOfs (W [(Reg.PRSM_PORTn_FC.FC 4, 2441750000)]) 2405000000 4 = -1284505600 ∧
    ofSigned 32 (-1284505600) = 0xB3700000 := by decide +kernel

/-- Example of R61: set P1 with TXDLY 157 gives 256 + 628 = 884 processing clocks, 899.25 ns. -/
theorem test_jesd_tx_latency : tJesdTx (W [(Reg.RSI_TXn_CFG.SET 0, 1), (Reg.RSI_TXn_DLY.TXDLY 0, 157)]) 0 = 884 := by decide +kernel

/-- Example "a badge collision": an O-QPSK frame of 60 octets takes 2,112 µs, one of 40 octets 1,472 µs. -/
theorem test_oqpsk_airtime : tAir [2, 0, 0, 0, 0, 0, 0, 0, 0, 0] 60 = 3 * 2112000 ∧ tAir [2, 0, 0, 0, 0, 0, 0, 0, 0, 0] 40 = 3 * 1472000 := by
  decide +kernel

/-- The same example: 11.5 dB between the frames give CAP_MARGIN 0x2E. P_win / P_cur is (10^1.15 + 1). -/
theorem test_capture_margin : marginQ 14125376 1000000 = 0x2E := by decide +kernel

/-- Example "a Lindmark meter frame": 48 octets at PM 2 with N_pre 4 are one codeword, 928 payload symbols and 5,056 chips; with class 2
15,800 µs. -/
theorem test_ld_frame : ldCws 2 48 = 1 ∧ ldPay 2 48 = 928 ∧ ldChips 4 2 48 = 5056 ∧ 5056 * ldChip 2 = 3 * 15800000 := by decide +kernel

/-- The same example: a header of 4 iterations takes 896 clocks, a payload codeword of rate 2/3 of 5 iterations 6,840. -/
theorem test_ldpc_clocks : cwClocks 0 4 = 896 ∧ cwClocks (ldCode 2) 5 = 6840 := by decide +kernel

/-- Example "streetlight controllers": what the gap of 175 µs leaves for the length of a fast-acknowledged frame, by MAX_FA and PM. -/
theorem test_fast_ack_limit :
    let left (c : Nat) : Int := ((36864 - c : Int)) * 10000
    lMaxOf (left (cwClocks (ldCode 1) 12 + 256)) 2047 = 2047 ∧ lMaxOf (left (cwClocks (ldCode 1) 24 + 256)) 2047 = 88 ∧
    lMaxOf (left (cwClocks (ldCode 2) 26 + 256)) 2047 = 1208 ∧ lMaxOf (left (cwClocks (ldCode 1) 26 + 256)) 2047 = 0 ∧
    lMaxOf (left (cwClocks (ldCode 7) 26 + 256)) 2047 = 2047 := by decide +kernel

/-- Example "seat-sensor downlink": 2-FSK at 150 kb/s with h = 0.5 occupies 112.5 kHz each side; 80 octets are 4,906.67 µs on the air,
4,914.67 µs with the ramp of 8 µs, and charge 492 units; 120 octets are 7,040 µs. -/
theorem test_fsk_downlink :
    let p := [0, 2, 1, 0, 7, 0, 0, 8, 0x20, 0]
    halfBw p = 112500 * 128 ∧ tAir p 80 = 3 * 4906666 + 2 ∧ tOn p 80 = tAir p 80 + 24000 ∧ chargeUnits (tOn p 80) = 492 ∧
    tAir p 120 = 3 * 7040000 := by decide +kernel

/-- The same example: an entry of 1 % over an hour has a budget of 3,600,000 units and sub-windows of 480,000 ticks. -/
theorem test_duty_budget : sbBudget ⟨[], 0, 0, 1000, 3600, false, 0⟩ = 3600000 ∧ sbSw ⟨[], 0, 0, 1000, 3600, false, 0⟩ = 480000 := by decide +kernel

/-- Example "a Lindmark streetlight controller": o = 18,500 ns, d = 850 ppb, n = 9, p = 1 and 300 s since the last observation give the
window 264,250 ± 384,250 ns. -/
def controller : NtH := { (default : NtH) with valid := true, state := 2, aptP := true, aptN := 9, aptO := 18500, aptD := 850 }
def after300s : State := setNth 7 controller (W [(Reg.SYS_TICK_NOW.TICK, 2400000)])
theorem test_aperture_window : aptWindow after300s controller = (264250, 384250) := by decide +kernel

/-- The same example: the observation 257,500 ns gives d = 851, n = 10 and o = 257,500 ns, and the correction −258 µs. -/
theorem test_aperture_update : let h := nthOf (aptUpdate 7 257500 after300s) 7
    h.aptD = 851 ∧ h.aptN = 10 ∧ h.aptO = 257500 ∧ timeCorr 257500 = -258 := by decide +kernel

/-- Example "counters across a failover": counter 40,703 is taken, LIMIT − NEXT falls to LOW = 256 and a block up to 41,984 is leased; its
acknowledgement makes it usable. -/
def dimming : State :=
  { W [(Reg.WDN_STAT.CCB_STATE, 3)] with
    kv := { State.reset.kv with slots := [(0, default), (5, { (default : Slot) with active := true, key := 9 })] }
    sec := { State.reset.sec with ctr := [(5, ⟨40703, 40960, 40960, 0, none⟩)], journal := [(Config.fpr 9, 65536, true)] } }
theorem test_counter_taken : (takeCounter 5 1 dimming).2 = some 40703 ∧ (ctrOf (takeCounter 5 1 dimming).1 5).next = 40704 ∧
    (ctrOf (takeCounter 5 1 dimming).1 5).hw = 41984 := by decide +kernel

/-- Example "the arena grandmaster": setting SEC = 1,893,456,000 and NS = 500,000,000 makes the tick count 15,147,648,004,000. -/
theorem test_tick_of_time :
    let s := W [(Reg.TIME_CTRL.SET, 1), (Reg.TIME_CTRL.SET_TICK, 1), (Reg.TIME_SET_SEC_LO.SEC, 1893456000), (Reg.TIME_SET_NS.NS, 500000000)]
    (applySteps false s).tick = 15147648004000 ∧ (applySteps false s).now = 1893456000500000000 * unitNs := by decide +kernel

/-- The same example: the first offset of −37,400 ns asks for −9,350 ppb and the limit of 5,000 ppb clamps it. -/
theorem test_servo_clamp :
    let s := { W [(Reg.TIME_SERVO.SRC, 1), (Reg.TIME_LIM.LIM, 5000)] with time := { (default : TimeS) with first := true } }
    (servoOffset (-37400 * 65536) s).time.y = -5000 := by decide +kernel

/-- Example "match day": with LOCAL_OFS 3,600 the ONCE entry of 1,893,519,000 fires at Reticle second 1,893,515,400 and not a cell of
10 ms before. -/
theorem test_match_day :
    let e : TtEntry := ⟨2, 0, 2, 1893519000, 1⟩
    let t : Int := (1893515400 + 3600) * unitSec
    let cell : Int := 10000000 * unitNs
    ttFires e (t - cell) t = true ∧ ttFires e (t - 2 * cell) (t - cell) = false ∧ ttFires e t (t + cell) = false := by decide +kernel

/-- Example "memory bring-up": with 4 GiB a window at 512 MiB (BASE 8) beside one at 0 fits, and one at 448 MiB does not. -/
theorem test_windows_fit :
    let s (b : Nat) := W [(Reg.MEM_STAT.DRAM_SIZE, 2), (Reg.MEM_WINw_BASE.BASE 1, b)]
    winBadPlace (s 8) 1 = false ∧ winBadPlace (s 7) 1 = true ∧ winBadPlace (s 48) 1 = false ∧ winBadPlace (s 49) 1 = true := by
  decide +kernel

/-- CRC-32C of the octets of "123456789" is 0xE306_9283 (the check value of the reflected CRC that R258 gives). -/
theorem test_crc32c : crc32c 0xFFFFFFFF [0x31, 0x32, 0x33, 0x34, 0x35, 0x36, 0x37, 0x38, 0x39] = 0xE3069283 := by decide +kernel

/-- R18: the offsets of the tick in processing clocks of 983.04 MHz. -/
theorem test_offsets : Config.usClocks 20 = Config.ofsIntake ∧ Config.usClocks 40 = Config.ofsBurstA ∧ Config.usClocks 80 = Config.ofsCommit ∧
    Config.usClocks 85 = Config.ofsCheck ∧ Config.usClocks 100 = Config.ofsDecode ∧ Config.usClocks 105 = Config.ofsBurstB ∧
    Config.usClocks 125 = Config.tickClocks := by decide

/-- The chips built for the example's frame are those counted: 48 octets at PM 2 with N_pre 4 (R111, R126). -/
theorem test_ld_chips : (ldFrame 4 2 false 0 (List.replicate 48 0)).length = 5056 := by decide +kernel

/-- R117: SYNC_UP is 0x3B5C_A1E4, its most significant bit sent first. -/
theorem test_sync_word : (syncChips syncUp).take 8 = [false, false, true, true, true, false, true, true] ∧
    (syncChips syncUp).drop 28 = [false, true, false, false] := by decide +kernel

/-- R48, R49: a lane that carries the frames of logical lane 3 with its pair inverted, read from 5 bits before a frame on, is found so. -/
theorem test_lane_search :
    laneSearch ((((laneFrame 3).drop 2028 ++ laneFrame 3).map (!·)).take 1100) = some (3, true) := by decide +kernel

/-- R300: a descriptor of TYPE 1, AR, QUEUE 5, PROFILE 3 and LEN 64, word by word. -/
theorem test_descriptor_words : descUnpack ⟨[0x00ABC000, 2, 0x11053040, 0x20, 9, 1, 7, 0], none⟩ =
    { addr := 0x200ABC000, ty := 1, len := 64, profile := 3, queue := 5, ar := true, lifetime := 32, cookie := 0x100000009, tenant := 7, pkt := none } := by
  decide +kernel

/-- R291, R303: a completion of cookie 5, STATUS 0x2B, RING 2, RETRIES 1, FRAGS 3 and SLOT 6: its first words, then the word with PHASE 1 on the
first pass through a ring of 64 entries at 0x10000, and PHASE 0 on the second. -/
theorem test_ring_phase :
    let s (p : Nat) := W [(Reg.HIF_Rr_BASE.ADDR 0 ringTXCPL, 0x10000), (Reg.HIF_Rr_CFG.LOG2SZ 0 ringTXCPL, 6), (Reg.HIF_Rr_POS.POS 0 ringTXCPL, p)]
    (ringWrite 0 ringTXCPL (.txcpl 5 0x2B 2 1 3 6) (s 1)).out = [.hostWrite 0 0x10010 [5, 0, 0x3122B], .hostWrite 0 0x1001C [0x80000006]] ∧
    (ringWrite 0 ringTXCPL (.txcpl 5 0x2B 2 1 3 6) (s 65)).out = [.hostWrite 0 0x10010 [5, 0, 0x3122B], .hostWrite 0 0x1001C [6]] := by decide +kernel

/-- R316: a masked vector pends, and its message goes when it is no longer masked. -/
theorem test_masked_vector :
    let s := msixSend 0 3 { State.reset with hif := { State.reset.hif with pcie := { State.reset.hif.pcie with msixOn := [0] } } }
    s.out = [] ∧ (s.hif.pcie.msix.get 3).pend = true ∧ (bar2Write 0 0x3C 0 s).out = [.msix 0 3 0 0] := by decide +kernel

/-- R273: IPHC 0x7A33 elides Traffic Class, both addresses and a hop limit of 64, and carries next header 58; the message is RPL's, type 155. -/
theorem test_iphc :
    let c : SixCtx := ⟨fun _ => [], [2, 0, 0, 0, 0, 0, 0, 1], [2, 0, 0, 0, 0, 0, 0, 2]⟩
    ((sixExpand c none [0x7A, 0x33, 58, 155, 0, 1, 2]).bind packetOf).map (fun p => (p.hlim, p.len, p.icmpType, isLinkLocal p.dst, addrIid p.src)) =
      some (64, 44, some 155, true, 0x0200000000000001) := by decide +kernel

/-- R273, R275: a compressed hop-by-hop header with an MPL option of S = 0 and sequence 9, before a compressed UDP header without checksum. -/
theorem test_iphc_mpl :
    let c : SixCtx := ⟨fun _ => [0xFD, 0, 0, 0, 0, 0, 0, 1], [2, 0, 0, 0, 0, 0, 0, 1], []⟩
    ((sixExpand c none [0x7E, 0xF5, 0, 1, 2, 3, 4, 5, 6, 7, 8, 0xE1, 4, 0x6D, 2, 0, 9, 0xF7, 0x12, 0xAA]).bind packetOf).map (fun p => (p.mpl, p.len)) =
      some (some (ofOctets [0xFD, 0, 0, 0, 0, 0, 0, 1, 2, 0, 0, 0, 0, 0, 0, 1], 9), 57) := by decide +kernel


/-! ## One step of a command, with what the spec's tables say one sees -/

/-- What a check finds in the state after one command. -/
def after (c : Instr) (s : State) (p : State → Bool) : Bool := match exec c s with
  | .next t => p t
  | _ => false

def acq0 : Acq := { (default : Acq) with preOctets := 1000 }
def rxing (f : RxFrame) (l : List (Fld × Nat)) : State :=
  { W l with rx := { State.reset.rx with ce := [(0, { (default : CeS) with cur := some f, fseq := 7 })] } }

/-- R13: a write with partial byte enables counts HIF_SHORT_WR. -/
theorem test_short_write : after .shortWriteDiscard State.reset (fun t => t.get Reg.HIF_SHORT_WR.CNT == 1) = true := by decide +kernel

/-- R9: after SYS_LOCK an RWL field keeps its value, and an RW field still takes the one written. -/
theorem test_sys_lock : after .sysLock State.reset (fun t => (fieldStore Reg.WDN_CFG.MISS_LIMIT 5 t).get Reg.WDN_CFG.MISS_LIMIT == 5 &&
    t.get Reg.SYS_LOCK.LOCK == 1) = true := by decide +kernel

/-- R39: a write to a block whose domain is off is ignored and counts HIF_PD_OFF_ACC. -/
theorem test_off_access : after (.rsiEnableWrite true) { State.reset with pwr := { State.reset.pwr with off := [31] } }
    (fun t => t.get Reg.HIF_PD_OFF_ACC.CNT == 1 && t.get Reg.RSI_CTRL.EN == 0) = true := by decide +kernel

/-- R16: a host's write of a tick-aligned field is read at once, and the old value is in force until the boundary. -/
theorem test_tick_aligned : after (.registerWrite 0 ⟨Reg.MAC_CTRL.EN.addr / 4, by decide⟩ 1 100) State.reset
    (fun t => t.on Reg.MAC_CTRL.EN && !t.effOn Reg.MAC_CTRL.EN) = true := by decide +kernel

/-- R17: the next tick begins at offset 0. -/
theorem test_next_tick :
    let t := advanceTick (W [(Reg.SYS_TICK_NOW.TICK, 41), (Reg.SYS_TICK_OFFSET.CLOCKS, 99)])
    t.tick = 42 ∧ t.ofs = 0 ∧ t.core.ticks = 1 := by decide +kernel

/-- R19: a decode deadline met on clock 98,304 itself is in time, and one clock later is not. -/
theorem test_deadline_clock :
    let f := { (default : RxFrame) with lastClk := some 0 }
    let s (o : Nat) := { (W [(Reg.SYS_TICK_OFFSET.CLOCKS, o), (Reg.DEC_CTRL.BUDGET_TICKS, 1)]) with core := { State.reset.core with ticks := 1 } }
    decodeLate (s 98304) f = false ∧ decodeLate (s 98305) f = true := by decide +kernel

/-- R53: a port that goes DOWN shows STATE = 5 and counts DOWN_EVT. -/
theorem test_port_down : after (.portDown 2 0) (W [(Reg.RSI_RXn_STAT.STATE 2, 4)])
    (fun t => t.get (Reg.RSI_RXn_STAT.STATE 2) == 5 && t.get (Reg.RSI_RXn_CNT.DOWN_EVT 2) == 1) = true := by decide +kernel

/-- R50: a lane found with no pattern shows FOUND = 0, and the discovery is done. -/
theorem test_discovery : after (.laneDiscoveryEnd [[]]) (W [(Reg.RSI_RXLANEl.FOUND 0, 1)])
    (fun t => t.get (Reg.RSI_RXLANEl.FOUND 0) == 0 && t.get Reg.RSI_CTRL.DISC_DONE == 1) = true := by decide +kernel

/-- R105: an INVALID sample abandons the frame in progress and counts CE_ABORT_SYNC. -/
theorem test_invalid_sample : after (.invalidSampleAbort 0) (rxing default [(Reg.CE_STAT.STATE 0, 2)])
    (fun t => t.get (Reg.CE_ABORT_SYNC.CNT 0) == 1 && (ceOf t 0).cur.isNone && t.get (Reg.CE_STAT.STATE 0) == 1) = true := by decide +kernel

/-- R101: a detection below the margin keeps the current frame and counts CE_CAP_IGN. -/
theorem test_capture_ignored :
    let s := rxing default [(Reg.CE_STAT.STATE 0, 2), (Reg.PRSM_TUn_STAT.STATE 0, 2), (Reg.CE_CAPTURE.EN 0, 1), (Reg.CE_MODE.PHY 0, 3),
      (Reg.CE_DET.THRESH 0, 1), (Reg.CE_DET.RUN 0, 1), (Reg.CE_DET.MIN_PWR 0, 255)]
    let s := { s with prsm := { s.prsm with tu := [(0, { (default : TuS) with runs := some default })] } }
    after (.frameDetection 0 10 { seenLd with eCur := 10 ^ 12, nCur := 1 } none) s
      (fun t => t.get (Reg.CE_CAP_IGN.CNT 0) == 1 && t.get (Reg.CE_DET_CNT.CNT 0) == 1 && (ceOf t 0).cur.isSome) = true := by decide +kernel

/-- R103: a frame whose FCS fails has its record with status CRC_FAIL and counts CE_CRC_FAIL. -/
theorem test_crc_fail : after (.frameConfirmation 0 0 ⟨false, true, 0, [1, 0, 0], default, default⟩)
    (rxing { (default : RxFrame) with acq := some acq0, lastClk := some 0 } [(Reg.CE_STAT.STATE 0, 2)])
    (fun t => t.get (Reg.CE_CRC_FAIL.CNT 0) == 1 && (ceOf t 0).cur.isNone) = true := by decide +kernel

/-- R183: a cell plan posted more than three cells ahead counts MAC_PLAN_ERR. -/
theorem test_plan_far : after (.cellPlanPost { (default : Plan) with cell := 4 }) State.reset
    (fun t => t.get Reg.MAC_PLAN_ERR.CNT == 1 && t.mac.plans == []) = true := by decide +kernel

/-- R203: an ACK wait that ends empty retries the frame and counts MAC_RETRY. -/
theorem test_ack_wait :
    let f := { (default : AirFrame) with ar := true, expire := 1000 }
    after (.ackWaitExpiry 0 10) { W [(Reg.MAC_TX_RETRY.MAX, 3)] with
      mac := { State.reset.mac with waits := [⟨0, f, 0, 5⟩] } } (fun t => t.get Reg.MAC_RETRY.CNT == 1 && t.mac.waits == []) = true := by
  decide +kernel

/-- R204: an exhausted CSMA backoff counts MAC_CSMA_FAIL. -/
theorem test_csma_fail : after (.csmaBackoffExpiry 0 10 0) { W [(Reg.MAC_CSMA_CFG.MAX_BO, 4)] with
      mac := { State.reset.mac with csma := [{ (default : Csma) with nb := 4, be := 5 }] } }
    (fun t => t.get Reg.MAC_CSMA_FAIL.CNT == 1 && t.get Reg.MAC_CSMA_BUSY.CNT == 1) = true := by decide +kernel

/-- R172: of two segments that cover a bin the lower limit holds, which is the greater LIMIT; a bin outside both has none. -/
theorem test_mask_limit :
    let s := W [(Reg.TXC_MASKp_SEGs.EN 0 0, 1), (Reg.TXC_MASKp_SEGs.LO_BIN 0 0, 0), (Reg.TXC_MASKp_SEGs.HI_BIN 0 0, 9), (Reg.TXC_MASKp_SEGs.LIMIT 0 0, 60),
      (Reg.TXC_MASKp_SEGs.EN 0 5, 1), (Reg.TXC_MASKp_SEGs.LO_BIN 0 5, 4), (Reg.TXC_MASKp_SEGs.HI_BIN 0 5, 4), (Reg.TXC_MASKp_SEGs.LIMIT 0 5, 80)]
    maskLimit s 0 3 = some 60 ∧ maskLimit s 0 4 = some 80 ∧ maskLimit s 0 10 = none := by decide +kernel

/-- R172, R179: a gate shows GATED, counts, and abandons the port's transmission. -/
theorem test_mask_gate :
    let t := gatePort 0 false { State.reset with txc := { State.reset.txc with mods := [(0, { (default : TxS) with onAir := 900000 })] } }
    t.get (Reg.TXC_MASKp_STAT.GATED 0) = 1 ∧ t.get Reg.TXC_MASK_GATE.CNT = 1 ∧ t.txc.mods = [] := by decide +kernel

/-- R276: a packet that a rule of the tenants forbids is dropped by the policer and counts TM_POLICE_DROP. -/
theorem test_policer : after (.backhaulPacket 0 0 default) { W [((Bucket.policer 0).enFld, 1), (Reg.FWD_CTRL.EN, 1)] with
      tm := { State.reset.tm with linkUp := [0], tokens := [((Bucket.policer 0).key, -16)] } }
    (fun t => t.get Reg.TM_POLICE_DROP.CNT == 1) = true := by decide +kernel

/-- R251: a write of an NT-C entry with LOCAL = 1 answers status 2. -/
theorem test_ntc_local : after (.ntcmdWrite 1) { State.reset with
      fwd := { State.reset.fwd with ntc := [(0, { (default : NtC) with isLocal := true })] } }
    (fun t => t.get Reg.FWD_NTCMD.STATUS == 2) = true := by decide +kernel

/-- R268: a table command written while one runs is ignored and counts FWD_TCMD_IGN. -/
theorem test_table_busy : after (.tcmdRead 0 0) { W [(Reg.FWD_TCMD.BUSY, 1)] with fwd := { State.reset.fwd with tcmdEnd := 9 } }
    (fun t => t.get Reg.FWD_TCMD_IGN.CNT == 1) = true := by decide +kernel

/-- R299: a KICK beyond KICK_MAX is ignored. -/
theorem test_kick_max : after (.kick 0 1 0 false default) (W [(Reg.HIF_FN_CTRL.EN 0, 1), (Reg.HIF_CFG.KICK_MAX, 0)])
    (fun t => (t.hif.fns.get 0).kicks == 0 && t.hif.fetchQ == []) = true := by decide +kernel

/-- R232: a vault command on the registers while one runs is ignored with GO_IGN. -/
theorem test_vault_go : after (.keyQuery ⟨true, 0⟩ default) { State.reset with
      kv := { State.reset.kv with running := some { (default : VCmd) with reg := true } } }
    (fun t => t.get Reg.KV_STAT.GO_IGN == 1) = true := by decide +kernel

/-- R246: a sensor that is enabled zeroises the vault with its cause. -/
theorem test_sensor : after (.sensorTrip 0) (W [(Reg.KV_ZCTRL.SUPPLY_EN, 1)])
    (fun t => t.get Reg.KV_STATE.STATE == 1 && t.get Reg.KV_STATE.CAUSE == 2 && t.kv.slots == [] && !t.kv.kekD) = true := by decide +kernel

/-- R245: an epoch advance that is due burns one fuse. -/
theorem test_epoch : after .epochAdvance { State.reset with kv := { State.reset.kv with epochDue := true } }
    (fun t => t.otp.epoch == 1 && t.get Reg.KV_STATE.EPOCH == 1) = true := by decide +kernel

/-- R346: SET with NS of 1,000,000,000 is refused with SET_ERR. -/
theorem test_set_err : (applySteps false (W [(Reg.TIME_CTRL.SET, 1), (Reg.TIME_SET_NS.NS, 1000000000)])).get Reg.TIME_STAT.SET_ERR = 1 := by
  decide +kernel

/-- R349: an offset of the writer that is not selected counts TIME_OFS_IGN. -/
theorem test_offset_ignored : after (.offsetDelivery 0 true 5) (W [(Reg.TIME_SERVO.SRC, 1)])
    (fun t => t.get Reg.TIME_OFS_IGN.CNT == 1) = true := by decide +kernel

/-- R384: RELOCK with the MAC enabled is refused with CFG_ERR = 2. -/
theorem test_relock : after .relock (W [(Reg.MAC_CTRL.EN, 1)]) (fun t => t.get Reg.CLK_STAT.CFG_ERR == 2) = true := by decide +kernel

/-- R378: a shorted clock output stops and shows SHORT = 1. -/
theorem test_clkout_short : after (.clkoutShort 3) (W [(Reg.CLK_OUTn_STAT.RUN 3, 1)])
    (fun t => t.get (Reg.CLK_OUTn_STAT.SHORT 3) == 1 && t.get (Reg.CLK_OUTn_STAT.RUN 3) == 0 && t.get Reg.CLK_SHORT_CNT.CNT == 1) = true := by
  decide +kernel

/-- R389: a fault report of the active cluster moves the lease to the standby that is CAUGHT_UP; the old active is FAILED. -/
theorem test_failover : after (.clusterFaultReport 61932) (W [(Reg.WDN_STAT.CCA_STATE, 4), (Reg.WDN_STAT.CCB_STATE, 3)])
    (fun t => t.get Reg.WDN_STAT.HOLDER == 1 && t.get Reg.WDN_STAT.CCA_STATE == 5 && t.get Reg.WDN_STAT.CCB_STATE == 4 &&
      t.get Reg.WDN_FAILOVER.CNT == 1) = true := by decide +kernel

/-- R393: a handover without a standby that is CAUGHT_UP is refused. -/
theorem test_handover : after .handover (W [(Reg.WDN_STAT.CCA_STATE, 4), (Reg.WDN_STAT.CCB_STATE, 2)])
    (fun t => t.get Reg.WDN_STAT.HO_REFUSED == 1 && t.get Reg.WDN_CTRL.HANDOVER == 0) = true := by decide +kernel

/-- R397: the third failed recovery of the Warden is its last. -/
theorem test_warden_fail : after (.wardenFault 0) (W [(Reg.WDN_STAT.ATTEMPTS, 2), (Reg.WDN_STAT.FROZEN, 1)])
    (fun t => t.get Reg.WDN_STAT.FAIL == 1) = true := by decide +kernel

/-- R409: a missing burst is asked for again and counts MIR_NAK_TX. -/
theorem test_nak : after (.mirrorBurstMissing 1 true) (W [(Reg.MIR_CTRL.TWIN, 1), (Reg.MIR_STAT.LINK, 3)])
    (fun t => t.get Reg.MIR_NAK_TX.CNT == 1 && t.get Reg.MIR_MIC_FAIL.CNT == 1) = true := by decide +kernel

/-- R407: a CONFIRM under another session key leaves the link unkeyed. -/
theorem test_confirm : after (.confirmReceived 5 0) { W [(Reg.MIR_STAT.LINK, 2)] with mir := { State.reset.mir with session := some 6 } }
    (fun t => t.get Reg.MIR_MIC_FAIL.CNT == 1 && t.get Reg.MIR_STAT.LINK == 2) = true := by decide +kernel

/-- R428: LOAD during an activation is refused with LOAD_ERR = 8. -/
theorem test_load_refused : after .fwLoad (W [(Reg.FW_STAT.ACT_STATE, 1)]) (fun t => t.get Reg.FW_STAT.LOAD_ERR == 8) = true := by
  decide +kernel

/-- R445, example "match day": a request for cell 100 in cell 97 with LEAD 4 moves to cell 101 and shows LATE. -/
theorem test_facet_late : after (.facetRequest 10) { W [(Reg.FW_FACET_CELL.CELL, 100), (Reg.FW_FACET_CFG.LEAD, 4)] with
      mac := { State.reset.mac with running := true, cell := 97, len := 80 } }
    (fun t => t.fw.request == some (10, 101) && t.get Reg.FW_FACET_REQ.LATE == 1 && t.get Reg.FW_FACET_LATE.CNT == 1) = true := by
  decide +kernel

/-- R450: a life-cycle confirmation that was not armed is denied with ERR = 2. -/
theorem test_lc_unarmed : after (.lcConfirm 4 0) State.reset
    (fun t => t.get Reg.LC_STATE.DENIED == 1 && t.get Reg.LC_STATE.ERR == 2 && t.get Reg.LC_STATE.STATE == 0) = true := by decide +kernel

/-- R464: a request for the state the part is in is DONE, another one STARTED. -/
theorem test_power : after (.powerRequest 0) State.reset (fun t => t.get Reg.PWR_STAT.LAST_RESULT == 4) = true ∧
    after (.powerRequest 1) State.reset (fun t => t.get Reg.PWR_STAT.LAST_RESULT == 1 && t.pwr.seqn.isSome) = true := by decide +kernel

/-- R465: DORMANT during a firmware activation is refused and counts PWR_REFCNT4. -/
theorem test_power_refused : after (.powerRequest 3) (W [(Reg.FW_STAT.ACT_STATE, 1)])
    (fun t => t.get (Reg.PWR_REFCNTr.COUNT 4) == 1 && t.pwr.seqn.isNone) = true := by decide +kernel

/-- R485: a window opened over another is ignored and shows ERR = 1. -/
theorem test_window_overlap : after (.windowOpen 1) (W [(Reg.MEM_STAT.DRAM_OK, 1), (Reg.MEM_STAT.DRAM_SIZE, 2), (Reg.MEM_WINw_BASE.BASE 1, 4)])
    (fun t => t.get (Reg.MEM_WINw_STAT.ERR 1) == 1 && t.get (winState 1) == 0) = true := by decide +kernel

/-- R492: a sealed counter reads 0 without authorisation, and HIDDEN shows it. -/
theorem test_sealed : after (.loupeSelect 0x0A1 0) { State.reset with lpe := { State.reset.lpe with cnt := [(0x0A1, 9)] } }
    (fun t => t.get Reg.LPE_VAL_LO.VAL == 0 && t.get Reg.LPE_SEL.HIDDEN == 1) = true := by decide +kernel

/-- R501: a consuming read at level 1 is denied. -/
theorem test_consume : after (.debugConsume 0 0 0) (W [(Reg.DBG_AUTH_CTRL.CUR, 1)])
    (fun t => t.get Reg.DBG_QV_STAT.DENIED == 1) = true := by decide +kernel

/-- R502: the active cluster halted with HOLD_LEASE = 0 stays halted, is FAILED, and the lease moves. -/
theorem test_halt : after (.dbgHalt 0 0 0) (W [(Reg.DBG_AUTH_CTRL.CUR, 2), (Reg.WDN_STAT.CCA_STATE, 4), (Reg.WDN_STAT.CCB_STATE, 3)])
    (fun t => t.get (Reg.DBG_CCc_STAT.HALTED 0) == 1 && t.get Reg.WDN_STAT.CCA_STATE == 5 && t.get Reg.WDN_STAT.HOLDER == 1) = true := by
  decide +kernel

/-- R505: IDCODE is permitted in every state and puts the code out. -/
theorem test_idcode : after (.jtagInstruction 0) State.reset (fun t => t.out == [.pin "TDO IDCODE" 0xB71289CF]) = true := by decide +kernel

/-- R510: while PORST_N is low a command changes nothing. -/
theorem test_porst_low : exec .sysLock { State.reset with pwr := { State.reset.pwr with porstLow := true } } =
    .next { State.reset with pwr := { State.reset.pwr with porstLow := true } } := rfl

/-! ## The queue -/

/-- Two commands run in the order in which they came. -/
theorem test_queue : runSteps 2 { State.reset with pending := [.shortWriteDiscard, .sysLock] } =
    some ((State.reset.inc Reg.HIF_SHORT_WR.CNT).put Reg.SYS_LOCK.LOCK 1) := by decide +kernel

/-- The table gives no bits. -/
theorem test_no_words : decodeTableWord 32 0 = none ∧ State.reset.withFetchWord 32 0 = State.reset := ⟨rfl, rfl⟩

/-! ## Ill-formed commands are refused -/

def badPkt : Packet := { (default : Packet) with dst := 2 ^ 128 }
def badPsdu : Psdu := { (default : Psdu) with seq := 257 }
def badArgs : VArgs := { (default : VArgs) with slot := 2 ^ 24 }
def badEmt : EmtEntry := { (default : EmtEntry) with tenant := 256 }

theorem test_wf_refuses_packets : Instr.wf (.backhaulPacket 0 0 badPkt) = false ∧
    Instr.wf (.descriptorFetch 0 (some ⟨[2 ^ 32], none⟩)) = false ∧ Instr.wf (.descriptorFetch 0 (some ⟨List.replicate 9 0, none⟩)) = false ∧
    Instr.wf (.descriptorFetch 0 (some ⟨[], some badPkt⟩)) = false ∧
    Instr.wf (.kick 0 0 0 false ⟨some (List.replicate 17 0), [], []⟩) = false ∧ Instr.wf (.kick 0 0 0 false ⟨some [2 ^ 32], [], []⟩) = false ∧
    Instr.wf (.kick 0 0 0 false ⟨none, [some (2 ^ 64)], []⟩) = false ∧
    Instr.wf (.kick 0 0 0 false ⟨none, [], [some (List.replicate 33 0)]⟩) = false ∧
    Instr.wf (.ptpFrameReceived 0 0 (List.replicate 2049 0) 0) = false := by decide +kernel

theorem test_wf_refuses_plans : Instr.wf (.cellPlanPost { (default : Plan) with cell := 2 ^ 64 }) = false ∧
    Instr.wf (.cellPlanPost { (default : Plan) with wins := [{ (default : Window) with engine := 128 }] }) = false ∧
    Instr.wf (.cellPlanPost { (default : Plan) with chofs := [(0, 64)] }) = false ∧
    Instr.wf (.planAmendment { (default : Amend) with wins := [{ (default : Window) with kind := 8 }] }) = false ∧
    Instr.wf (.planAmendment { (default : Amend) with engines := [128] }) = false ∧
    Instr.wf (.planAmendment { (default : Amend) with tick := 2 ^ 64 }) = false := by decide +kernel

theorem test_wf_refuses_ring_words (c : CmdSrc) : Instr.wf (.sfSet c 0 (2 ^ 32) 0) = false ∧ Instr.wf (.sfDel c (2 ^ 32)) = false ∧
    Instr.wf (.linkAdd c { (default : Link) with node := 2 ^ 32 }) = false ∧ Instr.wf (.linkDel c 0 0 0 (2 ^ 32)) = false ∧
    Instr.wf (.nodeRate c (2 ^ 32) 0 0 0) = false ∧ Instr.wf (.aptReset c (2 ^ 32)) = false ∧ Instr.wf (.ebSet c (2 ^ 32) 0 0) = false := by
  refine ⟨?_, ?_, ?_, ?_, ?_, ?_, ?_⟩ <;> rfl

theorem test_wf_refuses_commits : Instr.wf (.tickCommit 0 (2 ^ 64) true []) = false ∧ Instr.wf (.tickCommit 0 0 true [.setReg 2 0 default]) = false ∧
    Instr.wf (.tickCommit 0 0 true [.setNth (2 ^ 18) default]) = false ∧ Instr.wf (.tickCommit 0 0 true [.setNtc (2 ^ 23) default]) = false ∧
    Instr.wf (.tickCommit 0 0 true [.joinAdd (2 ^ 18)]) = false ∧ Instr.wf (.tickCommit 0 0 true [.joinDel (2 ^ 18)]) = false ∧
    Instr.wf (.tickCommit 0 0 true [.setIphc 0 16 0]) = false ∧ Instr.wf (.tickCommit 0 0 true [.aptReset (2 ^ 18)]) = false ∧
    Instr.wf (.tickCommit 0 0 true [.ackFrame 0 0 16 0 0 true false none 0 0 0 0]) = false ∧ Instr.wf (.tickCommit 0 0 true [.sendFrame 256 0 0 0 true true true]) = false ∧
    Instr.wf (.tickCommit 0 0 true [.nodeKey (2 ^ 18) 0]) = false ∧ Instr.wf (.tickCommit 0 0 true [.nodeKeyCommit (2 ^ 18) 0]) = false ∧
    Instr.wf (.tickCommit 0 0 true [.handUp 256 default none]) = false ∧
    Instr.wf (.tickCommit 0 0 true [.quota 256 0]) = false ∧ Instr.wf (.tickCommit 0 0 true [.delta 0 1025 0]) = false ∧
    Instr.wf (.tickCommit 0 0 true [.lock 64 true true]) = false := by decide +kernel

theorem test_wf_refuses_reception : Instr.wf (.frameDetection 0 0 default (some { (default : Acq) with sync := 2 ^ 32 })) = false ∧
    Instr.wf (.frameConfirmation 0 0 ⟨true, true, 0, [], badPsdu, default⟩) = false ∧
    Instr.wf (.frameConfirmation 0 0 ⟨true, true, 0, List.replicate 2048 0, default, default⟩) = false ∧
    Instr.wf (.frameConfirmation 0 0 ⟨true, true, 32, [], default, default⟩) = false ∧
    Instr.wf (.sicReplayEnd 0 0 0 ⟨true, true, 0, [256], default, default⟩) = false ∧ Instr.wf (.decodeComplete 0 0 badPsdu) = false ∧
    Instr.wf (.earlyHeader 0 default) = false ∧ Instr.wf (.laneDiscoveryEnd (List.replicate 9 [])) = false ∧
    Instr.wf (.portLock 0 [⟨0, false, 32⟩]) = false := by decide +kernel

theorem test_wf_refuses_tables : Instr.wf (.shadowConfirm (some badEmt)) = false ∧
    Instr.wf (.tickBoundary { (default : TickEnv) with arrive := [12] }) = false ∧
    Instr.wf (.tickBoundary { (default : TickEnv) with shadow := some [(0, badEmt)] }) = false ∧
    Instr.wf (.tickBoundary { (default : TickEnv) with bells := [(257, default)] }) = false ∧
    Instr.wf (.tickBoundary { (default : TickEnv) with rx := List.replicate 9 [] }) = false ∧
    Instr.wf (.tickBoundary { (default : TickEnv) with rx := [[(32768, 0)]] }) = false := by decide +kernel

theorem test_wf_refuses_firmware : Instr.wf (.fwLoadDone (some (default, none))) = false ∧
    Instr.wf (.debugWrite 0 0 ⟨0, 0, ⟨some [2 ^ 32], [], []⟩⟩) = false ∧
    Instr.wf (.mirrorBurstReceived 0 { (default : Burst) with kind := 3 } 0) = false ∧ Instr.wf (.mirrorAckReceived 0 (2 ^ 64) 0) = false ∧
    Instr.wf (.mirrorNakReceived 0 (2 ^ 64) 0) = false ∧ Instr.wf (.mirrorRetransmitTimer 0 (2 ^ 64) 0) = false := by decide +kernel

theorem test_wf_refuses_vault (v : VSrc) : Instr.wf (.keyGenerate v badArgs) = false ∧ Instr.wf (.keyImport v badArgs) = false ∧
    Instr.wf (.keyStage v badArgs) = false ∧ Instr.wf (.keyCommit v badArgs) = false ∧ Instr.wf (.keyCancel v badArgs) = false ∧
    Instr.wf (.keyDestroy v badArgs) = false ∧ Instr.wf (.keyQuery v badArgs) = false ∧ Instr.wf (.kvAttest v badArgs) = false ∧
    Instr.wf (.kvRandom v badArgs) = false ∧ Instr.wf (.nodeImport v badArgs) = false ∧ Instr.wf (.nodeRestore v badArgs) = false ∧
    Instr.wf (.kvInvalidCode 0 badArgs) = false := by
  refine ⟨?_, ?_, ?_, ?_, ?_, ?_, ?_, ?_, ?_, ?_, ?_, ?_⟩ <;> rfl

/-- A command of each kind that is well formed. -/
theorem test_wf_accepts : Instr.wf .sysLock = true ∧ Instr.wf (.cellPlanPost default) = true ∧ Instr.wf (.tickCommit 0 1 true [.joinAdd 0]) = true ∧
    Instr.wf (.descriptorFetch 0 (some ⟨[0, 0, 64], some default⟩)) = true := by decide +kernel

/-! ## Witnesses for the hypotheses of the statements -/

/-- The registers at three words of the FWD window. -/
def hitCtrl : RegHit := ⟨0xD00100, 32, [Reg.FWD_EMTp_CTRL.REBUILD 0, Reg.FWD_EMTp_CTRL.MOVE 0, Reg.FWD_EMTp_CTRL.JOIN_FILL 0, Reg.FWD_EMTp_CTRL.MAX_KICKS 0]⟩
def hitBase : RegHit := ⟨0xD00300, 64, [Reg.FWD_SHADOW_BASE.ADDR]⟩
theorem regAt_100 : regAt 0xD00100 = some hitCtrl := rfl
theorem regAt_300 : regAt 0xD00300 = some hitBase := rfl
theorem regAt_304 : regAt 0xD00304 = some hitBase := rfl
theorem regAt_18 : regAt 0x1600018 = some ⟨0x1600018, 64, [Reg.DBG_AUTH_CHAL.CHAL]⟩ := rfl

/-- The TAP has DBG_ACCESS. -/
def State.tapped : State := { State.reset with dbg := { State.reset.dbg with tap := 2 } }
theorem tapWide_chal : tapWide State.tapped.cleared 24 = some (Reg.DBG_AUTH_CHAL.CHAL.addr + 2 ^ 32, 0) := rfl

/-- A package and a facet that every check passes where the signatures verify and the hash of nothing is 0. -/
def goodPkg : PkgHdr := ⟨[0x45, 0x56, 0x50, 0x4B, 1, 0, 0, 0, 0, 0, 0, 0, 0, 0, 0, 0, 0x28, 0x71, BitVec.ofNat 8 (State.reset.get Reg.SYS_ID.REV)] ++
  List.replicate 237 0⟩
def goodFacet : List Byte := [0x45, 0x56, 0x46, 0x43, 1, 0] ++ List.replicate 218 0
/-- The one-time-programmable memory of a part that has been provisioned, with a payload of zeros. -/
def provisioned : OtpS := { State.reset.otp with pairs := [⟨.complete, 0, 1, 0, 0, 0, .complete, .blank⟩], pay0 := .ok (List.replicate 54 0) }
def loadingPkg : State := W [(Reg.FW_STAT.LOAD_STATE, 1)]
def loadingFacet : State := { W [(Reg.FW_FCT_STAT.STATE, 1), (Reg.LC_STATE.STATE, 1), (Reg.FW_FCT_LEN.LEN, 224)] with otp := provisioned }
def stagedFacet : State :=
  let s := W [(Reg.FW_FCT_STAT.STATE, 1), (Reg.LC_STATE.STATE, 1), (Reg.FW_FCT_LEN.LEN, 224), (Reg.FW_STAT.LOAD_STATE, 4), (Reg.FW_RUN_SCHEMA.VER, 1)]
  { s with otp := provisioned, fw := { s.fw with fb1 := { s.fw.fb1 with img := some ⟨goodPkg, []⟩ } } }

theorem signed_by (hv : ∀ w g : List Nat, Config.sigVerify w g = true) {s : State} {m g : List Nat}
    (h : operatorKey s = some (List.replicate 12 0)) : operatorSigned s m g = true := by
  unfold operatorSigned signedBy
  rw [h]
  exact hv _ _

theorem goodPkg_builds (hv : ∀ w g : List Nat, Config.sigVerify w g = true) (hs : Config.sha384 [] = 0) :
    buildImage loadingPkg.cleared goodPkg [] = (0, some ⟨goodPkg, []⟩) := by
  have h : hdrErr loadingPkg.cleared goodPkg = 0 := by
    unfold hdrErr
    rw [hv]
    decide +kernel
  have hb : goodPkg.bodyLen = 0 ∧ goodPkg.targetLen = 0 ∧ goodPkg.targetHash = 0 ∧ goodPkg.kind = 0 := by decide +kernel
  simp [buildImage, h, hb, hashOk, octetNats, hs]

theorem goodFacet_passes (hv : ∀ w g : List Nat, Config.sigVerify w g = true) (hs : Config.sha384 [] = 0) :
    facetCheck loadingFacet.cleared goodFacet = (0, 0, { (default : Facet) with hash := 0 }) := by
  unfold facetCheck
  have hk : facetKey loadingFacet.cleared = some (List.replicate 12 0) := by decide +kernel
  have h : octetNats (goodFacet.drop 224) = [] := by decide
  simp only [signedBy, hk, hv, h, hs]
  decide +kernel

theorem goodFacet_staged (hv : ∀ w g : List Nat, Config.sigVerify w g = true) (hs : Config.sha384 [] = 0) :
    facetCheck stagedFacet.cleared goodFacet = (0, 0, { (default : Facet) with hash := 0 }) := by
  unfold facetCheck
  have hk : facetKey stagedFacet.cleared = some (List.replicate 12 0) := by decide +kernel
  have h : octetNats (goodFacet.drop 224) = [] := by decide
  simp only [signedBy, hk, hv, h, hs]
  decide +kernel

/-- Every set of hypotheses of StepRunsFrontCommand is met. -/
theorem witness_StepRunsFrontCommand :
    (∃ (s : State), ((s.pending = []))) :=
  ⟨State.reset, by decide +kernel⟩

/-- Every set of hypotheses of PorstLowHoldsStill is met. -/
theorem witness_PorstLowHoldsStill :
    (∃ (c : Instr) (s : State), ((s.pwr.porstLow = true) ∧ (pinCommand c = false))) :=
  ⟨.cellBoundary, { State.reset with pwr := { State.reset.pwr with porstLow := true } }, by decide +kernel⟩

/-- Every set of hypotheses of EveryStepKeepsInv is met. -/
theorem witness_EveryStepKeepsInv :
    (∃ (a : OtpS) (s : State) (t : State), ((step s = .next t) ∧ (s.Inv a))) :=
  ⟨State.reset.otp, State.reset, State.reset, rfl, ⟨Nat.le_refl _, Nat.le_refl _, Nat.le_refl _⟩⟩

/-- Every set of hypotheses of NamedUpdates is met. -/
theorem witness_NamedUpdates :
    (∃ (f : Fld) (g : Fld) (s : State), ((g.key ≠ f.key))) ∧
    (∃ (g : Fld) (s : State), ((g.key ≠ Reg.SYS_TICK_OFFSET.CLOCKS.key))) :=
  ⟨⟨Reg.SYS_LOCK.LOCK, Reg.MAC_CTRL.EN, State.reset, by decide +kernel⟩,
   ⟨Reg.MAC_CTRL.EN, State.reset, by decide +kernel⟩⟩

/-- Every set of hypotheses of RegisterFieldTypes is met. -/
theorem witness_RegisterFieldTypes :
    (∃ (f : Fld) (s : State), ((f.ty = .rw))) ∧
    (∃ (f : Fld) (s : State), ((f.ty = .rwl) ∧ (s.get Reg.SYS_LOCK.LOCK = 0))) ∧
    (∃ (f : Fld) (s : State), ((f.ty = .rwl) ∧ (s.get Reg.SYS_LOCK.LOCK ≠ 0))) ∧
    (∃ (f : Fld) (s : State), ((f.ty = .w1c) ∧ (s.get f < 2 ^ f.w))) ∧
    (∃ (f : Fld) (s : State), ((f.ty = .ro ∨ f.ty = .rc ∨ f.ty = .wo))) ∧
    (∃ (f : Fld) (s : State) (g : Fld), ((g.key ≠ f.key))) :=
  ⟨⟨Reg.PRSM_PORTn_FC.FC 0, State.reset, by decide +kernel⟩,
   ⟨{ Reg.PRSM_PORTn_FC.FC 0 with ty := .rwl }, W [(Reg.SYS_LOCK.LOCK, 0)], by decide +kernel⟩,
   ⟨{ Reg.PRSM_PORTn_FC.FC 0 with ty := .rwl }, W [(Reg.SYS_LOCK.LOCK, 0 + 1)], by decide +kernel⟩,
   ⟨{ Reg.PRSM_PORTn_FC.FC 0 with ty := .w1c }, W [(({ Reg.PRSM_PORTn_FC.FC 0 with ty := .w1c }), 0)], by decide +kernel⟩,
   ⟨{ Reg.PRSM_PORTn_FC.FC 0 with ty := .ro }, State.reset, by decide +kernel⟩,
   ⟨Reg.SYS_LOCK.LOCK, State.reset, Reg.MAC_CTRL.EN, by decide +kernel⟩⟩

/-- Every set of hypotheses of TickAligned is met. -/
theorem witness_TickAligned :
    (∃ (f : Fld) (s : State), ((f.ty = .rw))) ∧
    (∃ (f : Fld) (s : State), ((f.ty = .rw) ∧ (f.ta = true))) ∧
    (∃ (f : Fld) (s : State), ((f.ty = .rw) ∧ (f.ta = false) ∧ (s.inForce.find? f.key = none))) ∧
    (∃ (f : Fld) (s : State), ((f.ty = .rw) ∧ ((∀ n : Nat, f.key ≠ (Reg.PRSM_TUn_STAT.ON_ALT n).key)))) :=
  ⟨⟨{ Reg.PRSM_PORTn_FC.FC 0 with ta := true }, State.reset, by decide +kernel⟩,
   ⟨{ Reg.PRSM_PORTn_FC.FC 0 with ta := true }, State.reset, by decide +kernel⟩,
   ⟨{ Reg.PRSM_PORTn_FC.FC 0 with ta := false }, State.reset, by decide +kernel⟩,
   ⟨Reg.FWD_SHADOW_BASE.ADDR, State.reset, by decide, fun n => by simp [Fld.key, Reg.FWD_SHADOW_BASE.ADDR, Reg.PRSM_TUn_STAT.ON_ALT]; omega⟩⟩

/-- Every set of hypotheses of RegisterWrites is met. -/
theorem witness_RegisterWrites :
    (∃ (w : Fin 16777216) (s : State) (src : Fin 772) (b : Nat), s.live ∧ ((src.val < 257) ∧ (fnOn s src = true) ∧ (accessOff s src (4 * w) = false) ∧ (busAddr src (4 * w) = some b))) ∧
    (∃ (w : Fin 16777216) (s : State) (src : Fin 772), s.live ∧ ((src.val < 257) ∧ (fnOn s src = false ∨ (busAddr src (4 * w) = none ∧ accessOff s src (4 * w) = false)))) ∧
    (∃ (w : Fin 16777216) (s : State) (src : Fin 772), s.live ∧ ((src.val < 257) ∧ (fnOn s src = true) ∧ (accessOff s src (4 * w) = true))) ∧
    (∃ (s : State) (src : Fin 772), s.live ∧ ((258 ≤ src.val) ∧ (src.val < 515))) ∧
    (∃ (s : State) (src : Fin 772), s.live ∧ ((515 ≤ src.val))) :=
  ⟨⟨0, State.reset, 0, 0, rfl, by decide +kernel⟩,
   ⟨1024, State.reset, 1, rfl, by decide +kernel⟩,
   ⟨⟨Reg.RSI_CTRL.EN.addr / 4, by decide⟩, { State.reset with pwr := { State.reset.pwr with off := List.range 32 } }, 0, rfl, by decide +kernel⟩,
   ⟨State.reset, 258, rfl, by decide +kernel⟩,
   ⟨State.reset, 515, rfl, by decide +kernel⟩⟩

/-- Every set of hypotheses of HostWordWrites is met. -/
theorem witness_HostWordWrites :
    (∃ (a : Nat) (s : State), ((windowOn s a = false))) ∧
    (∃ (a : Nat) (s : State), ((windowOn s a = true) ∧ (regAt a = none))) ∧
    (∃ (a : Nat) (s : State) (h : RegHit), ((windowOn s a = true) ∧ (regAt a = some h) ∧ (h.bits = 32) ∧ (ignored h.addr s = none))) ∧
    (∃ (a : Nat) (s : State) (h : RegHit), ((windowOn s a = true) ∧ (regAt a = some h) ∧ (h.bits = 64) ∧ (a = h.addr))) ∧
    (∃ (a : Nat) (s : State) (h : RegHit) (low : Nat), ((windowOn s a = true) ∧ (regAt a = some h) ∧ (h.bits = 64) ∧ (a ≠ h.addr) ∧ (s.core.lowHeld.find? h.addr = some low) ∧ (ignored h.addr (setLow h.addr none s) = none))) :=
  ⟨⟨Reg.RSI_CTRL.EN.addr, { State.reset with pwr := { State.reset.pwr with off := List.range 32 } }, by decide +kernel⟩,
   ⟨0xFFFFFFFF, State.reset, by decide +kernel⟩,
   ⟨0xD00100, State.reset, _, by decide +kernel, regAt_100, rfl, by decide +kernel⟩,
   ⟨0xD00300, State.reset, _, by decide +kernel, regAt_300, rfl, rfl⟩,
   ⟨0xD00304, { State.reset with core := { State.reset.core with lowHeld := [(0xD00300, 5)] } }, _, 5, by decide +kernel, regAt_304, rfl, by decide, by decide +kernel, by decide +kernel⟩⟩

/-- Every set of hypotheses of WideRegisters is met. -/
theorem witness_WideRegisters :
    (∃ (w : Fin 16777216) (s : State) (src : Fin 258) (k : Nat) (x : Nat), s.live ∧ ((src.val ≠ 257) ∧ (fnOn s src = true) ∧ (accessOff s src (4 * w) = false) ∧ (4 * w.val ≠ Reg.FW_DEFLIST.ITEM.addr) ∧ (4 * w.val ≠ Reg.MEM_ECC_LOG.REGION.addr) ∧ (wide s.cleared src (4 * w) = some (k, x)))) ∧
    (∃ (w : Fin 16777216) (s : State) (src : Fin 258) (k : Nat) (x : Nat) (h : Nat), s.live ∧ ((src.val ≠ 257) ∧ (fnOn s src = true) ∧ (accessOff s src (4 * w) = false) ∧ (wide s.cleared src (4 * w - 4) = some (k, x)) ∧ (s.core.latch.find? k = some h))) ∧
    (∃ (w : Fin 16777216) (s : State) (src : Fin 258) (k : Nat) (x : Nat), s.live ∧ ((src.val ≠ 257) ∧ (fnOn s src = true) ∧ (accessOff s src (4 * w) = false) ∧ (wide s.cleared src (4 * w - 4) = some (k, x)) ∧ (s.core.latch.find? k = none))) ∧
    (∃ (w : Fin 16777216) (s : State) (k : Nat) (x : Nat), s.live ∧ ((tapWide s.cleared (4 * w) = some (k, x)))) ∧
    (∃ (w : Fin 16777216) (s : State) (k : Nat) (x : Nat) (h : Nat), s.live ∧ ((tapWide s.cleared (4 * w - 4) = some (k, x)) ∧ (s.core.latch.find? k = some h))) ∧
    (∃ (w : Fin 16777216) (s : State) (src : Fin 258) (b : Nat) (h : RegHit), s.live ∧ ((src.val ≠ 257) ∧ (fnOn s src = true) ∧ (accessOff s src (4 * w) = false) ∧ (busAddr src (4 * w) = some b) ∧ (regAt b = some h) ∧ (h.bits = 64) ∧ (h.addr = b))) :=
  ⟨⟨⟨Reg.SYS_TICK_NOW.TICK.addr / 4, by decide⟩, State.reset, 258, Reg.SYS_TICK_NOW.TICK.addr, 0, rfl, by decide +kernel⟩,
   ⟨⟨(Reg.SYS_TICK_NOW.TICK.addr + 4) / 4, by decide⟩, { State.reset with core := { State.reset.core with latch := [(Reg.SYS_TICK_NOW.TICK.addr, 7)] } }, 258, Reg.SYS_TICK_NOW.TICK.addr, 0, 7, rfl, by decide +kernel⟩,
   ⟨⟨(Reg.SYS_TICK_NOW.TICK.addr + 4) / 4, by decide⟩, State.reset, 258, Reg.SYS_TICK_NOW.TICK.addr, 0, rfl, by decide +kernel⟩,
   ⟨6, State.tapped, Reg.DBG_AUTH_CHAL.CHAL.addr + 2 ^ 32, 0, rfl, tapWide_chal⟩,
   ⟨7, { State.tapped with core := { State.reset.core with latch := [(Reg.DBG_AUTH_CHAL.CHAL.addr + 2 ^ 32, 9)] } }, Reg.DBG_AUTH_CHAL.CHAL.addr + 2 ^ 32, 0, 9, rfl, tapWide_chal, by decide +kernel⟩,
   ⟨3408064, State.reset, 0, _, _, rfl, by decide, by decide +kernel, by decide +kernel, rfl, regAt_300, rfl, rfl⟩⟩

/-- Every set of hypotheses of TickBoundaries is met. -/
theorem witness_TickBoundaries :
    (∃ (s : State), s.live ∧ (let u := s.cleared; (u.time.going = false))) ∧
    (∃ (s : State), s.live ∧ (let u := s.cleared; (u.time.going = true))) :=
  ⟨⟨{ State.reset with time := { State.reset.time with going := false } }, rfl, by decide +kernel⟩,
   ⟨{ State.reset with time := { State.reset.time with going := true } }, rfl, by decide +kernel⟩⟩

/-- Every set of hypotheses of CommitTakesEffect is met. -/
theorem witness_CommitTakesEffect :
    (∃ (c : Commit) (x : FwCmd) (l : List FwCmd) (s : State), ((c.cmds = x :: l) ∧ (clActive s = false))) ∧
    (∃ (c : Commit) (x : FwCmd) (l : List FwCmd) (s : State) (t : State), ((c.cmds = x :: l) ∧ (clActive s = false) ∧ (t.wdn.accepted = none))) :=
  ⟨⟨{ (default : Commit) with cmds := ((default : FwCmd)) :: ([]) }, (default : FwCmd), [], State.reset, by decide +kernel⟩,
   ⟨{ (default : Commit) with cmds := ((default : FwCmd)) :: ([]) }, (default : FwCmd), [], { State.reset with wdn := { State.reset.wdn with accepted := none } }, State.reset, by decide +kernel⟩⟩

/-- Every set of hypotheses of TickDeadlines is met. -/
theorem witness_TickDeadlines :
    (∃ (s : State), s.live ∧ (let u := s.cleared; (composeDue u = []))) ∧
    (∃ (d : FDesc) (s : State), s.live ∧ (let u := s.cleared; (composeDue u = [d]))) ∧
    (∃ (e : Nat) (c : CeS) (s : State), s.live ∧ (let u := s.cleared; (u.rx.ce.filter (fun x => x.2.report.isSome) = [(e, c)]))) ∧
    (∃ (e : Nat) (f : RxFrame) (s : State), s.live ∧ (let w := s.asOf Config.ofsDecode; (rxFrames w = [(e, f.fseq)]) ∧ (findRx w e f.fseq = some f) ∧ (rxDue w f = true))) ∧
    (∃ (e : Nat) (f : RxFrame) (s : State), s.live ∧ (let w := s.asOf Config.ofsDecode; (rxFrames w = [(e, f.fseq)]) ∧ (findRx w e f.fseq = some f) ∧ (rxDue w f = false))) ∧
    (∃ (r : Frame) (ofs : Fin 122880) (s : State), s.live ∧ (let v := s.asOf ofs; (v.sec.release = [r]) ∧ (releaseLate v r = true))) ∧
    (∃ (r : Frame) (ofs : Fin 122880) (s : State), s.live ∧ (let v := s.asOf ofs; (v.sec.release = [r]) ∧ (releaseLate v r = false))) :=
  ⟨⟨State.reset, rfl, by decide +kernel⟩,
   ⟨(default : FDesc), { State.reset with hif := { State.reset.hif with fetched := [default] } }, rfl, by decide +kernel⟩,
   ⟨0, { (default : CeS) with report := some (0, 0, []) }, { State.reset with rx := { State.reset.rx with ce := [(0, { (default : CeS) with report := some (0, 0, []) })] } }, rfl, by decide +kernel⟩,
   ⟨0, { (default : RxFrame) with lastClk := some 0, acq := some default }, { State.reset with core := { State.reset.core with ticks := 5 }, rx := { State.reset.rx with ce := [(0, { (default : CeS) with cur := some { (default : RxFrame) with lastClk := some 0, acq := some default } })] } }, rfl, by decide +kernel⟩,
   ⟨0, { (default : RxFrame) with lastClk := some 0 }, { State.reset with core := { State.reset.core with ticks := 0 }, rx := { State.reset.rx with ce := [(0, { (default : CeS) with cur := some { (default : RxFrame) with lastClk := some 0 } })] } }, rfl, by decide +kernel⟩,
   ⟨{ (default : Frame) with waits := [0] }, 0, { State.reset with sec := { State.reset.sec with release := [{ (default : Frame) with waits := [0] }] }, core := { State.reset.core with ticks := 2 } }, rfl, by decide +kernel⟩,
   ⟨(default : Frame), 0, { State.reset with sec := { State.reset.sec with release := [((default : Frame))] } }, rfl, by decide +kernel⟩⟩

/-- Every set of hypotheses of CommitRules is met. -/
theorem witness_CommitRules :
    (∃ (ofs : Fin 122880) (s : State), s.live ∧ (let u := s.asOf ofs; (clActive u = true) ∧ (u.on (Reg.DBG_CCc_STAT.HALTED (clHolder u)) = false) ∧ (u.ofs < Config.ofsCheck))) ∧
    (∃ (s : State) (c : Commit), s.live ∧ (let v := s.asOf Config.ofsCheck; (clActive v = true) ∧ (v.wdn.accepted = none) ∧ (v.wdn.posted = some c) ∧ (commitOk v c = true))) ∧
    (∃ (s : State) (c : Commit), s.live ∧ (let v := s.asOf Config.ofsCheck; (clActive v = true) ∧ (v.wdn.accepted = none) ∧ (v.wdn.posted = some c) ∧ (commitOk v c = false) ∧ (v.wdn.tookIn ≠ some v.core.ticks))) ∧
    (∃ (s : State), s.live ∧ (let v := s.asOf Config.ofsCheck; (clActive v = true) ∧ (v.wdn.accepted = none) ∧ (v.wdn.posted = none) ∧ (v.wdn.tookIn ≠ some v.core.ticks))) ∧
    (∃ (s : State), s.live ∧ (let w := s.asOf (usClk 120); (clActive w = true) ∧ (w.wdn.accepted = none) ∧ (w.wdn.tookIn = some w.core.ticks))) ∧
    (∃ (s : State), s.live ∧ (let w := s.asOf (usClk 120); (w.wdn.tookIn ≠ some w.core.ticks))) :=
  ⟨⟨0, W [(Reg.WDN_STAT.CCA_STATE, 4)], rfl, by decide +kernel⟩,
   ⟨{ W [(Reg.WDN_STAT.CCA_STATE, 4)] with wdn := { State.reset.wdn with accepted := none, posted := some ⟨1, true, false, [], [], []⟩ } }, (⟨1, true, false, [], [], []⟩ : Commit), rfl, by decide +kernel⟩,
   ⟨{ W [(Reg.WDN_STAT.CCA_STATE, 4)] with wdn := { State.reset.wdn with accepted := none, posted := some ⟨1, false, false, [], [], []⟩, tookIn := none } }, (⟨1, false, false, [], [], []⟩ : Commit), rfl, by decide +kernel⟩,
   ⟨{ W [(Reg.WDN_STAT.CCA_STATE, 4)] with wdn := { State.reset.wdn with accepted := none, posted := none, tookIn := none } }, rfl, by decide +kernel⟩,
   ⟨{ W [(Reg.WDN_STAT.CCA_STATE, 4)] with wdn := { State.reset.wdn with accepted := none, tookIn := some 0 } }, rfl, by decide +kernel⟩,
   ⟨{ State.reset with wdn := { State.reset.wdn with tookIn := none } }, rfl, by decide +kernel⟩⟩

/-- Every set of hypotheses of LateCommit is met. -/
theorem witness_LateCommit :
    (∃ (ofs : Fin 122880) (tick : Nat) (s : State), s.live ∧ ((clActive s = true) ∧ (s.get (Reg.DBG_CCc_STAT.HALTED (clHolder s)) = 0) ∧ (s.wdn.tookIn ≠ some s.core.ticks) ∧ (s.wdn.accepted = none) ∧ (tick = (s.tick + 1) % 2 ^ 64) ∧ (s.ofs ≤ ofs) ∧ (Config.ofsCommit < ofs.val) ∧ (ofs.val < Config.ofsCheck))) ∧
    (∃ (ofs : Fin 122880) (s : State), s.live ∧ ((clActive s = true) ∧ (s.get (Reg.DBG_CCc_STAT.HALTED (clHolder s)) = 0) ∧ (s.wdn.tookIn ≠ some s.core.ticks) ∧ (Config.ofsCheck ≤ (s.asOf ofs).ofs))) :=
  ⟨⟨80000, 1, { W [(Reg.WDN_STAT.CCA_STATE, 4)] with wdn := { State.reset.wdn with tookIn := none, accepted := none } }, rfl, by decide +kernel⟩,
   ⟨90000, { W [(Reg.WDN_STAT.CCA_STATE, 4)] with wdn := { State.reset.wdn with tookIn := none } }, rfl, by decide +kernel⟩⟩

/-- Every set of hypotheses of Cells is met. -/
theorem witness_Cells :
    (∃ (s : State), s.live ∧ (let u := s.cleared; (cellDue u = false))) ∧
    (∃ (s : State), s.live ∧ (let u := s.cleared; (cellDue u = true))) ∧
    (∃ (p : Plan) (s : State), s.live ∧ (let u := s.cleared; (cellNo u < p.cell) ∧ (p.cell ≤ cellNo u + 3))) ∧
    (∃ (p : Plan) (a : Amend) (s : State) (c : Commit), s.live ∧ ((c.plans = [p]) ∧ (c.amends = [a]))) ∧
    (∃ (p : Plan) (s : State), s.live ∧ (let u := s.cleared; (p.cell ≤ cellNo u ∨ cellNo u + 3 < p.cell))) ∧
    (∃ (a : Amend) (s : State), s.live ∧ (let u := s.cleared; (u.mac.running = true) ∧ (u.mac.planned = true) ∧ (u.tick < a.tick) ∧ (a.tick < (u.mac.cell + 1) * u.mac.len))) ∧
    (∃ (a : Amend) (s : State), s.live ∧ (let u := s.cleared; (u.mac.running = false ∨ u.mac.planned = false ∨ a.tick ≤ u.tick ∨ (u.mac.cell + 1) * u.mac.len ≤ a.tick))) :=
  ⟨⟨State.reset, rfl, by decide +kernel⟩,
   ⟨{ State.reset with time := { State.reset.time with going := true } }, rfl, by decide +kernel⟩,
   ⟨{ (default : Plan) with cell := 1 }, State.reset, rfl, by decide +kernel⟩,
   ⟨(default : Plan), (default : Amend), State.reset, { (default : Commit) with plans := [((default : Plan))], amends := [((default : Amend))] }, rfl, by decide +kernel⟩,
   ⟨(default : Plan), State.reset, rfl, by decide +kernel⟩,
   ⟨{ (default : Amend) with tick := 1 }, { State.reset with mac := { State.reset.mac with running := true, planned := true, len := 80 } }, rfl, by decide +kernel⟩,
   ⟨(default : Amend), { State.reset with mac := { State.reset.mac with running := false } }, rfl, by decide +kernel⟩⟩

/-- Every set of hypotheses of PortEnables is met. -/
theorem witness_PortEnables :
    (∃ (s : State), s.live ∧ (let u := s.cleared; (windowOn u Reg.RSI_CTRL.EN.addr = false))) ∧
    (∃ (s : State), s.live ∧ (let u := s.cleared; (windowOn u Reg.RSI_CTRL.EN.addr = true))) ∧
    (∃ (s : State), s.live ∧ (let u := s.cleared; (windowOn u Reg.RSI_CTRL.EN.addr = true) ∧ (u.on Reg.RSI_CTRL.EN = false))) ∧
    (∃ (s : State), s.live ∧ (let u := s.cleared; (windowOn u Reg.RSI_CTRL.EN.addr = true) ∧ (u.on Reg.RSI_CTRL.EN = true))) ∧
    (∃ (p : Fin 12) (s : State), s.live ∧ (let u := s.cleared; (windowOn u Reg.RSI_CTRL.EN.addr = true) ∧ (u.on (portEn p) = false ∨ p.val % 2 = 1))) ∧
    (∃ (p : Fin 12) (s : State), s.live ∧ (let u := s.cleared; (windowOn u Reg.RSI_CTRL.EN.addr = true) ∧ (u.on (portEn p) = true) ∧ (p.val % 2 = 0))) ∧
    (∃ (p : Fin 12) (s : State), s.live ∧ (let u := s.cleared; (windowOn u Reg.RSI_CTRL.EN.addr = true) ∧ (u.on (portEn p) = true))) ∧
    (∃ (p : Fin 12) (s : State), s.live ∧ (let u := s.cleared; (windowOn u Reg.RSI_CTRL.EN.addr = true) ∧ (u.on (portEn p) = false) ∧ (p.val % 2 = 1))) ∧
    (∃ (p : Fin 12) (s : State), s.live ∧ (let u := s.cleared; (windowOn u Reg.RSI_CTRL.EN.addr = true) ∧ (u.on (portEn p) = false) ∧ (p.val % 2 = 0))) :=
  ⟨⟨{ State.reset with pwr := { State.reset.pwr with off := List.range 32 } }, rfl, by decide +kernel⟩,
   ⟨State.reset, rfl, by decide +kernel⟩,
   ⟨W [(Reg.RSI_CTRL.EN, 0)], rfl, by decide +kernel⟩,
   ⟨W [(Reg.RSI_CTRL.EN, 1)], rfl, by decide +kernel⟩,
   ⟨0, W [((portEn (0)), 0)], rfl, by decide +kernel⟩,
   ⟨0, W [((portEn (0)), 1)], rfl, by decide +kernel⟩,
   ⟨0, W [((portEn (0)), 1)], rfl, by decide +kernel⟩,
   ⟨1, W [((portEn (1)), 0)], rfl, by decide +kernel⟩,
   ⟨0, W [((portEn (0)), 0)], rfl, by decide +kernel⟩⟩

/-- Every set of hypotheses of PortEvents is met. -/
theorem witness_PortEvents :
    (∃ (p : Fin 12) (s : State), s.live ∧ (let u := s.cleared; (u.get (portState p) = psTRAINING) ∧ (8 ≤ p.val ∨ coded8b (u.get (portSet p)) = false))) ∧
    (∃ (p : Fin 12) (x : LaneLock) (s : State), s.live ∧ (let u := s.cleared; (u.get (portState p) = psTRAINING) ∧ (p.val < 8) ∧ (u.get (portSet p) = 6) ∧ (x.lid < 2))) ∧
    (∃ (p : Fin 12) (s : State), s.live ∧ (let u := s.cleared; (u.get (portState p) ≠ psTRAINING))) ∧
    (∃ (p : Fin 12) (ofs : Fin 122880) (s : State), s.live ∧ (let v := s.asOf ofs; (v.get (portState p) = psALIGNING))) ∧
    (∃ (p : Fin 12) (ofs : Fin 122880) (s : State), s.live ∧ (let v := s.asOf ofs; (v.get (portState p) = psUP) ∧ (p.val < 8))) ∧
    (∃ (p : Fin 12) (ofs : Fin 122880) (s : State), s.live ∧ (let v := s.asOf ofs; (v.get (portState p) = psUP) ∧ (8 ≤ p.val))) ∧
    (∃ (p : Fin 12) (ofs : Fin 122880) (s : State), s.live ∧ (let v := s.asOf ofs; (v.get (portState p) ≠ psUP))) ∧
    (∃ (p : Fin 12) (s : State), s.live ∧ (let u := s.cleared; (u.get (portState p) = psDOWN) ∧ (pdOn u 31 = true) ∧ (8 ≤ p.val ∨ pdOn u (quadPd p) = true))) ∧
    (∃ (p : Fin 12) (s : State), s.live ∧ (let u := s.cleared; (portPowered u p = false))) ∧
    (∃ (p : Fin 12) (s : State), s.live ∧ (let u := s.cleared; (u.get (portState p) ≠ psDOWN))) :=
  ⟨⟨8, W [((portState (8)), psTRAINING)], rfl, by decide +kernel⟩,
   ⟨0, (⟨0, false, 0⟩ : LaneLock), W [((portState (0)), psTRAINING), ((portSet (0)), 6)], rfl, by decide +kernel⟩,
   ⟨0, W [((portState (0)), psTRAINING + 1)], rfl, by decide +kernel⟩,
   ⟨0, 0, W [((portState (0)), psALIGNING)], rfl, by decide +kernel⟩,
   ⟨0, 0, W [((portState (0)), psUP)], rfl, by decide +kernel⟩,
   ⟨8, 0, W [((portState (8)), psUP)], rfl, by decide +kernel⟩,
   ⟨0, 0, W [((portState (0)), psUP + 1)], rfl, by decide +kernel⟩,
   ⟨8, W [((portState (8)), psDOWN)], rfl, by decide +kernel⟩,
   ⟨0, { State.reset with pwr := { State.reset.pwr with off := [31] } }, rfl, by decide +kernel⟩,
   ⟨0, { W [((portState (0)), psDOWN + 1)] with pwr := { State.reset.pwr with off := [31] } }, rfl, by decide +kernel⟩⟩

/-- Every set of hypotheses of LanesAndTuners is met. -/
theorem witness_LanesAndTuners :
    (∃ (s : State), s.live ∧ (let u := s.cleared; (windowOn u Reg.RSI_CTRL.EN.addr = true))) ∧
    (∃ (s : State), s.live ∧ (let u := s.cleared; (windowOn u Reg.RSI_SYSREF.MODE.addr = true))) ∧
    (∃ (s : State), s.live ∧ (let u := s.cleared; (windowOn u Reg.RSI_SYSREF.MODE.addr = false))) ∧
    (∃ (s : State), s.live ∧ (let u := s.cleared; (sysrefMode u = 0))) ∧
    (∃ (s : State), s.live ∧ (let u := s.cleared; (u.on Reg.RSI_SYSREF.SRC = false))) ∧
    (∃ (s : State), s.live ∧ (let u := s.cleared; (u.on Reg.RSI_SYSREF.SRC = true) ∧ (sysrefMode u = 2))) ∧
    (∃ (s : State), s.live ∧ (let u := s.cleared; (u.on Reg.RSI_SYSREF.SRC = true) ∧ (sysrefMode u = 1) ∧ (u.rsi.armEdge = true))) ∧
    (∃ (s : State), s.live ∧ (let u := s.cleared; (u.on Reg.RSI_SYSREF.SRC = true) ∧ (sysrefMode u = 0))) ∧
    (∃ (n : Fin 128) (s : State), s.live ∧ (let u := s.cleared; (u.get (Reg.PRSM_TUn_STAT.STATE n) = 1))) ∧
    (∃ (n : Fin 128) (s : State), s.live ∧ (let u := s.cleared; (u.get (Reg.PRSM_TUn_STAT.STATE n) ≠ 1))) ∧
    (∃ (e : Fin 128) (f : RxFrame) (s : State), s.live ∧ (let u := s.cleared; ((ceOf u e).cur = some f) ∧ ((ceOf u e).held = []))) ∧
    (∃ (e : Fin 128) (s : State), s.live ∧ (let u := s.cleared; ((ceOf u e).cur = none) ∧ ((ceOf u e).held = []))) :=
  ⟨⟨State.reset, rfl, by decide +kernel⟩,
   ⟨State.reset, rfl, by decide +kernel⟩,
   ⟨{ State.reset with pwr := { State.reset.pwr with off := List.range 32 } }, rfl, by decide +kernel⟩,
   ⟨State.reset, rfl, by decide +kernel⟩,
   ⟨W [(Reg.RSI_SYSREF.SRC, 0)], rfl, by decide +kernel⟩,
   ⟨W [(Reg.RSI_SYSREF.SRC, 1), (Reg.RSI_SYSREF.MODE, 2)], rfl, by decide +kernel⟩,
   ⟨{ W [(Reg.RSI_SYSREF.SRC, 1), (Reg.RSI_SYSREF.MODE, 1)] with rsi := { State.reset.rsi with armEdge := true } }, rfl, by decide +kernel⟩,
   ⟨W [(Reg.RSI_SYSREF.SRC, 1)], rfl, by decide +kernel⟩,
   ⟨0, W [((Reg.PRSM_TUn_STAT.STATE (0)), 1)], rfl, by decide +kernel⟩,
   ⟨0, W [((Reg.PRSM_TUn_STAT.STATE (0)), 1 + 1)], rfl, by decide +kernel⟩,
   ⟨0, (default : RxFrame), { State.reset with rx := { State.reset.rx with ce := [(0, { (default : CeS) with cur := some default })] } }, rfl, by decide +kernel⟩,
   ⟨0, { State.reset with rx := { State.reset.rx with ce := [(0, { (default : CeS) with held := [] })] } }, rfl, by decide +kernel⟩⟩

/-- Every set of hypotheses of Detections is met. -/
theorem witness_Detections :
    (∃ (e : Fin 128) (ofs : Fin 122880) (d : Detect) (s : State), s.live ∧ (let u := s.asOf ofs; (ceListens u e = false ∨ detects u e d = false))) ∧
    (∃ (e : Fin 128) (ofs : Fin 122880) (d : Detect) (f : RxFrame) (s : State), s.live ∧ (let u := s.asOf ofs; (ceListens u e = true) ∧ (detects u e d = true) ∧ ((ceOf u e).cur = some f))) ∧
    (∃ (e : Fin 128) (ofs : Fin 122880) (d : Detect) (s : State), s.live ∧ (let u := s.asOf ofs; (ceListens u e = true) ∧ (detects u e d = true) ∧ ((ceOf u e).cur = none) ∧ (searchWin u e = none))) ∧
    (∃ (e : Fin 128) (ofs : Fin 122880) (d : Detect) (w : RxWin) (s : State), s.live ∧ (let u := s.asOf ofs; (ceListens u e = true) ∧ (detects u e d = true) ∧ ((ceOf u e).cur = none) ∧ (searchWin u e = some w))) ∧
    (∃ (e : Fin 128) (ofs : Fin 122880) (a : Acq) (s : State), s.live ∧ (let u := s.asOf ofs; let v := modCe e (fun c => { c with dets := c.dets + 1 }) (u.inc (Reg.CE_DET_CNT.CNT e)); (acqFound v e a = true) ∧ (acqOk v e a = true) ∧ ((streamsIn v e).contains false = false))) ∧
    (∃ (e : Fin 128) (ofs : Fin 122880) (a : Acq) (s : State), s.live ∧ (let u := s.asOf ofs; let v := modCe e (fun c => { c with dets := c.dets + 1 }) (u.inc (Reg.CE_DET_CNT.CNT e)); (acqFound v e a = true) ∧ (acqOk v e a = true) ∧ ((streamsIn v e).contains false = true))) ∧
    (∃ (e : Fin 128) (ofs : Fin 122880) (a : Acq) (s : State), s.live ∧ (let u := s.asOf ofs; let v := modCe e (fun c => { c with dets := c.dets + 1 }) (u.inc (Reg.CE_DET_CNT.CNT e)); (acqFound v e a = true) ∧ (acqOk v e a = false))) :=
  ⟨⟨0, 0, (default : Detect), State.reset, rfl, by decide +kernel⟩,
   ⟨0, 0, seenLd, (default : RxFrame), { W [(Reg.CE_STAT.STATE 0, 1), (Reg.PRSM_TUn_STAT.STATE 0, 2), (Reg.CE_MODE.PHY 0, 3), (Reg.CE_DET.THRESH 0, 1), (Reg.CE_DET.RUN 0, 1), (Reg.CE_DET.MIN_PWR 0, 255)] with rx := { State.reset.rx with ce := [(0, { (default : CeS) with cur := some default })] }, prsm := { State.reset.prsm with tu := [(0, { (default : TuS) with runs := some default })] } }, rfl, by decide +kernel⟩,
   ⟨0, 0, seenLd, { W [(Reg.CE_STAT.STATE 0, 1), (Reg.PRSM_TUn_STAT.STATE 0, 2), (Reg.CE_MODE.PHY 0, 3), (Reg.CE_DET.THRESH 0, 1), (Reg.CE_DET.RUN 0, 1), (Reg.CE_DET.MIN_PWR 0, 255), (Reg.MAC_CTRL.DEFAULT_OPEN, 0)] with rx := { State.reset.rx with ce := [(0, { (default : CeS) with cur := none })] }, prsm := { State.reset.prsm with tu := [(0, { (default : TuS) with runs := some default })] } }, rfl, by decide +kernel⟩,
   ⟨0, 0, seenLd, openWin, { W [(Reg.CE_STAT.STATE 0, 1), (Reg.PRSM_TUn_STAT.STATE 0, 2), (Reg.CE_MODE.PHY 0, 3), (Reg.CE_DET.THRESH 0, 1), (Reg.CE_DET.RUN 0, 1), (Reg.CE_DET.MIN_PWR 0, 255), (Reg.MAC_CTRL.DEFAULT_OPEN, 1)] with rx := { State.reset.rx with ce := [(0, { (default : CeS) with cur := none })] }, prsm := { State.reset.prsm with tu := [(0, { (default : TuS) with runs := some default })] } }, rfl, by decide +kernel⟩,
   ⟨0, 0, { (default : Acq) with preOctets := 1000 }, State.reset, rfl, by decide +kernel⟩,
   ⟨0, 0, { (default : Acq) with preOctets := 1000 }, { W [(Reg.PRSM_TUn_STAT.STATE 0, 1)] with prsm := { State.reset.prsm with tu := [(0, { (default : TuS) with runs := some default })] } }, rfl, by decide +kernel⟩,
   ⟨0, 0, (default : Acq), State.reset, rfl, by decide +kernel⟩⟩

/-- Every set of hypotheses of ReceptionEvents is met. -/
theorem witness_ReceptionEvents :
    (∃ (e : Fin 128) (f : RxFrame) (s : State), s.live ∧ (let u := s.cleared; ((ceOf u e).cur = some f) ∧ (f.acq = none) ∧ (f.captor = false))) ∧
    (∃ (e : Fin 128) (f : RxFrame) (s : State), s.live ∧ (let u := s.cleared; ((ceOf u e).cur = some f) ∧ (f.acq = none) ∧ (f.captor = true))) ∧
    (∃ (e : Fin 128) (s : State), s.live ∧ (let u := s.cleared; ((ceOf u e).cur = none))) ∧
    (∃ (e : Fin 128) (k : Fin 2) (ofs : Fin 122880) (f : RxFrame) (a : Acq) (s : State), s.live ∧ (let v := s.asOf ofs; ((ceOf v e).held.find? (fun h => h.slice == k.val) = some f) ∧ (f.acq = some a) ∧ (holdCap v e k f.phy ≤ samplesIn (engChain v e) (v.clk - a.startClk)) ∧ (v.clk < frameEnd f))) ∧
    (∃ (e : Fin 128) (k : Fin 2) (ofs : Fin 122880) (s : State), s.live ∧ (let v := s.asOf ofs; ((ceOf v e).held.find? (fun h => h.slice == k.val) = none))) ∧
    (∃ (e : Fin 128) (mode : Fin 16) (f : RxFrame) (a : Acq) (s : State), s.live ∧ (let u := s.cleared; let back (e : Nat) (f : RxFrame) (u : State) : State := modCe e (fun c => { c with fseq := f.fseq }) (ceFree e u); ((ceOf u e).cur = some f) ∧ (f.phy = 0) ∧ (f.acq = some a) ∧ ((ceFree e u).eff (Reg.CE_MODE.MODE e) / 16 % 2 = 1) ∧ (chainFor 0 mode = some (engChain (back e f u) e)))) ∧
    (∃ (e : Fin 128) (ok : Bool) (f : RxFrame) (a : Acq) (s : State), s.live ∧ (let u := s.cleared; ((ceOf u e).cur = some f) ∧ (f.phy = 0) ∧ (f.acq = some a) ∧ (ok = false ∨ (ceFree e u).eff (Reg.CE_MODE.MODE e) / 16 % 2 = 0))) ∧
    (∃ (e : Fin 128) (f : RxFrame) (s : State), s.live ∧ (let u := s.cleared; ((ceOf u e).cur = some f))) :=
  ⟨⟨0, { (default : RxFrame) with acq := none, captor := false }, { State.reset with rx := { State.reset.rx with ce := [(0, { (default : CeS) with cur := some ({ (default : RxFrame) with acq := none, captor := false }) })] } }, rfl, by decide +kernel⟩,
   ⟨0, { (default : RxFrame) with acq := none, captor := true }, { State.reset with rx := { State.reset.rx with ce := [(0, { (default : CeS) with cur := some ({ (default : RxFrame) with acq := none, captor := true }) })] } }, rfl, by decide +kernel⟩,
   ⟨0, { State.reset with rx := { State.reset.rx with ce := [(0, { (default : CeS) with cur := none })] } }, rfl, by decide +kernel⟩,
   ⟨0, 0, 0, { (default : RxFrame) with acq := some { (default : Acq) with spanClk := 1000000 } }, { (default : Acq) with spanClk := 1000000 }, { W [(Reg.CE_SLICE.PAGES 0, 0)] with rx := { State.reset.rx with ce := [(0, { (default : CeS) with held := [{ (default : RxFrame) with acq := some { (default : Acq) with spanClk := 1000000 } }] })] } }, rfl, by decide +kernel⟩,
   ⟨0, 0, 0, State.reset, rfl, by decide +kernel⟩,
   ⟨0, 0, { (default : RxFrame) with acq := some default }, (default : Acq), { W [(Reg.CE_MODE.MODE 0, 16)] with rx := { State.reset.rx with ce := [(0, { (default : CeS) with cur := some { (default : RxFrame) with acq := some default } })] } }, rfl, by decide +kernel⟩,
   ⟨0, false, { (default : RxFrame) with phy := 0, acq := some ((default : Acq)) }, (default : Acq), { State.reset with rx := { State.reset.rx with ce := [(0, { (default : CeS) with cur := some ({ (default : RxFrame) with phy := 0, acq := some ((default : Acq)) }) })] } }, rfl, by decide +kernel⟩,
   ⟨0, (default : RxFrame), { State.reset with rx := { State.reset.rx with ce := [(0, { (default : CeS) with cur := some ((default : RxFrame)) })] } }, rfl, by decide +kernel⟩⟩

/-- Every set of hypotheses of FrameEnds is met. -/
theorem witness_FrameEnds :
    (∃ (e : Fin 128) (ofs : Fin 122880) (f : RxFrame) (a : Acq) (s : State), s.live ∧ (let v := s.asOf ofs; ((ceOf v e).cur = some f) ∧ (f.phy ≠ 3) ∧ (f.acq = some a) ∧ (f.lastClk.getD 0 ≤ v.clk))) ∧
    (∃ (e : Fin 128) (ofs : Fin 122880) (s : State), s.live ∧ (let v := s.asOf ofs; ((ceOf v e).cur = none))) ∧
    (∃ (ofs : Fin 122880) (g : RxFrame) (s : State), s.live ∧ (let v := s.asOf ofs; (decodeLate v g = true))) ∧
    (∃ (ofs : Fin 122880) (x : Confirm) (g : RxFrame) (s : State), s.live ∧ (let v := s.asOf ofs; (decodeLate v g = false) ∧ (g.phy = 1) ∧ (x.hcsOk = false ∨ 6 < x.mcs))) ∧
    (∃ (ofs : Fin 122880) (x : Confirm) (g : RxFrame) (s : State), s.live ∧ (let v := s.asOf ofs; (decodeLate v g = false) ∧ (g.phy = 2) ∧ (127 < x.octets.length))) ∧
    (∃ (ofs : Fin 122880) (x : Confirm) (g : RxFrame) (s : State), s.live ∧ (let v := s.asOf ofs; (decodeLate v g = false) ∧ (phrBad g x = false) ∧ (fcsOk g x = false))) ∧
    (∃ (ofs : Fin 122880) (x : Confirm) (g : RxFrame) (s : State), s.live ∧ (let v := s.asOf ofs; (decodeLate v g = false) ∧ (phrBad g x = false) ∧ (fcsOk g x = true))) ∧
    (∃ (x : Confirm) (s : State), s.live ∧ ((2 ≤ x.octets.length) ∧ (x.fcs4 = false))) ∧
    (∃ (e : Fin 128) (k : Fin 2) (ofs : Fin 122880) (f : RxFrame) (rg : Regen) (s : State), s.live ∧ (let v := s.asOf ofs; ((ceOf v e).held.find? (fun h => h.slice == k.val && h.captorOk && !h.replay && decide (frameEnd h ≤ v.clk)) = some f) ∧ (f.regen = some rg))) ∧
    (∃ (e : Fin 128) (ofs : Fin 122880) (s : State), s.live ∧ (let v := s.asOf ofs; ((ceOf v e).held = []))) ∧
    (∃ (e : Fin 128) (k : Fin 2) (ofs : Fin 122880) (f : RxFrame) (s : State), s.live ∧ (let v := s.asOf ofs; ((ceOf v e).held.find? (fun h => h.slice == k.val && h.replay) = some f) ∧ (f.phy ≠ 3))) ∧
    (∃ (e : Fin 128) (k : Fin 2) (ofs : Fin 122880) (x : Confirm) (f : RxFrame) (s : State), s.live ∧ (let v := s.asOf ofs; ((ceOf v e).held.find? (fun h => h.slice == k.val && h.replay) = some f) ∧ (f.phy = 3) ∧ (x.hcsOk = false) ∧ (decodeLate v f = false))) ∧
    (∃ (e : Fin 128) (k : Fin 2) (ofs : Fin 122880) (x : Confirm) (f : RxFrame) (s : State), s.live ∧ (let v := s.asOf ofs; ((ceOf v e).held.find? (fun h => h.slice == k.val && h.replay) = some f) ∧ (f.phy = 3) ∧ (x.hcsOk = true))) ∧
    (∃ (e : Fin 128) (ofs : Fin 122880) (f : RxFrame) (c : Nat) (s : State), s.live ∧ (let v := s.asOf ofs; ((ceOf v e).cur = some f) ∧ (f.hdrStaged = some c) ∧ (f.hdr = none) ∧ (c + samplesClk (engChain v e) 64 ≤ v.clk))) ∧
    (∃ (e : Fin 128) (ofs : Fin 122880) (f : RxFrame) (c : Nat) (s : State), s.live ∧ (let v := s.asOf ofs; ((ceOf v e).cur = some f) ∧ (f.hdrStaged = some c) ∧ (f.hdr = none) ∧ (v.clk < c + samplesClk (engChain v e) 64))) ∧
    (∃ (e : Fin 128) (busy : Nat) (dets : Nat) (arr : List Int) (s : State), s.live ∧ (let u := s.cleared; ((ceOf u e).report = some (busy, dets, arr)))) ∧
    (∃ (e : Fin 128) (s : State), s.live ∧ (let u := s.cleared; ((ceOf u e).report = none))) :=
  ⟨⟨0, 0, { (default : RxFrame) with phy := 3 + 1, acq := some ((default : Acq)) }, (default : Acq), { State.reset with rx := { State.reset.rx with ce := [(0, { (default : CeS) with cur := some ({ (default : RxFrame) with phy := 3 + 1, acq := some ((default : Acq)) }) })] }, core := { State.reset.core with ticks := 1000000 } }, rfl, by decide +kernel⟩,
   ⟨0, 0, { State.reset with rx := { State.reset.rx with ce := [(0, { (default : CeS) with cur := none })] } }, rfl, by decide +kernel⟩,
   ⟨0, { (default : RxFrame) with lastClk := some 0 }, { State.reset with core := { State.reset.core with ticks := 6 } }, rfl, by decide +kernel⟩,
   ⟨0, (⟨false, false, 0, [], default, default⟩ : Confirm), { (default : RxFrame) with phy := 1 }, State.reset, rfl, by decide +kernel⟩,
   ⟨0, (⟨false, true, 0, List.replicate 128 0, default, default⟩ : Confirm), { (default : RxFrame) with phy := 2 }, State.reset, rfl, by decide +kernel⟩,
   ⟨0, (⟨false, true, 0, [1, 0, 0], default, default⟩ : Confirm), (default : RxFrame), State.reset, rfl, by decide +kernel⟩,
   ⟨0, (⟨false, true, 0, [0, 0], default, default⟩ : Confirm), (default : RxFrame), State.reset, rfl, by decide +kernel⟩,
   ⟨(⟨false, true, 0, [0, 0], default, default⟩ : Confirm), State.reset, rfl, by decide +kernel⟩,
   ⟨0, 0, 0, { (default : RxFrame) with captorOk := true, regen := some default }, (default : Regen), { State.reset with rx := { State.reset.rx with ce := [(0, { (default : CeS) with held := [{ (default : RxFrame) with captorOk := true, regen := some default }] })] } }, rfl, by decide +kernel⟩,
   ⟨0, 0, { State.reset with rx := { State.reset.rx with ce := [(0, { (default : CeS) with held := [] })] } }, rfl, by decide +kernel⟩,
   ⟨0, 0, 0, { (default : RxFrame) with replay := true }, { State.reset with rx := { State.reset.rx with ce := [(0, { (default : CeS) with held := [{ (default : RxFrame) with replay := true }] })] } }, rfl, by decide +kernel⟩,
   ⟨0, 0, 0, (⟨false, false, 0, [], default, default⟩ : Confirm), { (default : RxFrame) with replay := true, phy := 3 }, { State.reset with rx := { State.reset.rx with ce := [(0, { (default : CeS) with held := [{ (default : RxFrame) with replay := true, phy := 3 }] })] } }, rfl, by decide +kernel⟩,
   ⟨0, 0, 0, (⟨false, true, 0, [], default, default⟩ : Confirm), { (default : RxFrame) with replay := true, phy := 3 }, { State.reset with rx := { State.reset.rx with ce := [(0, { (default : CeS) with held := [{ (default : RxFrame) with replay := true, phy := 3 }] })] } }, rfl, by decide +kernel⟩,
   ⟨0, 0, { (default : RxFrame) with hdrStaged := some (0), hdr := none }, 0, { State.reset with rx := { State.reset.rx with ce := [(0, { (default : CeS) with cur := some ({ (default : RxFrame) with hdrStaged := some (0), hdr := none }) })] }, core := { State.reset.core with ticks := 1000000 } }, rfl, by decide +kernel⟩,
   ⟨0, 0, { (default : RxFrame) with hdrStaged := some (0), hdr := none }, 0, { State.reset with rx := { State.reset.rx with ce := [(0, { (default : CeS) with cur := some ({ (default : RxFrame) with hdrStaged := some (0), hdr := none }) })] } }, rfl, by decide +kernel⟩,
   ⟨0, 0, 0, [], { State.reset with rx := { State.reset.rx with ce := [(0, { (default : CeS) with report := some ((0), (0), ([])) })] } }, rfl, by decide +kernel⟩,
   ⟨0, { State.reset with rx := { State.reset.rx with ce := [(0, { (default : CeS) with report := none })] } }, rfl, by decide +kernel⟩⟩

/-- Every set of hypotheses of DecoderArray is met. -/
theorem witness_DecoderArray :
    (∃ (e : Fin 128) (f : RxFrame) (a : Acq) (s : State), s.live ∧ (let u := s.cleared; ((ceOf u e).cur = some f) ∧ (f.phy = 3) ∧ (f.acq = some a) ∧ (f.hdr = none) ∧ (f.early = none) ∧ (f.hdrStaged = none) ∧ (u.effOn Reg.DEC_CTRL.SPEC_EARLY = true))) ∧
    (∃ (e : Fin 128) (s : State), s.live ∧ (let u := s.cleared; ((ceOf u e).cur = none))) ∧
    (∃ (e : Fin 128) (ofs : Fin 122880) (f : RxFrame) (a : Acq) (s : State), s.live ∧ (let v := s.asOf ofs; ((ceOf v e).cur = some f) ∧ (f.phy = 3) ∧ (f.acq = some a) ∧ (f.hdr = none) ∧ (f.hdrStaged = none))) ∧
    (∃ (e : Fin 128) (ofs : Fin 122880) (f : RxFrame) (a : Acq) (h : LdHdr) (s : State), s.live ∧ (let v := s.asOf ofs; ((ceOf v e).cur = some f) ∧ (f.phy = 3) ∧ (f.acq = some a) ∧ (f.hdr = some h))) ∧
    (∃ (e : Fin 128) (ofs : Fin 122880) (s : State), s.live ∧ (let v := s.asOf ofs; ((ceOf v e).cur = none) ∧ ((ceOf v e).held = []))) ∧
    (∃ (d : Fin 24) (ofs : Fin 122880) (c : CwS) (s : State), s.live ∧ (let v := s.asOf ofs; (v.rx.jobs.find? d = none) ∧ (pdOn v (decPd d) = true) ∧ (cwFirst (v.rx.staged.filter (fun c => !decide (d.val < min 12 (v.eff Reg.DEC_CTRL.FA_RSV)) || decide (cwClass c ≤ 2))) = some c))) ∧
    (∃ (d : Fin 24) (ofs : Fin 122880) (j : DecJob) (s : State), s.live ∧ (let v := s.asOf ofs; (v.rx.jobs.find? d = some j))) ∧
    (∃ (d : Fin 24) (ofs : Fin 122880) (ok : Bool) (x : List Bool) (j : DecJob) (n : Nat) (s : State), s.live ∧ (let v := s.asOf ofs; (v.rx.jobs.find? d = some j) ∧ (decodeCw j = (n, ok, x)) ∧ (v.clk < j.start + cwClocks (jobCode j) n))) ∧
    (∃ (d : Fin 24) (ofs : Fin 122880) (ok : Bool) (x : List Bool) (f : RxFrame) (j : DecJob) (n : Nat) (s : State), s.live ∧ (let v := s.asOf ofs; let z := decSync (modRx (fun r => { r with jobs := r.jobs.erase d }) (v.incBy Reg.DEC_ITER_TOT.CNT n)); (v.rx.jobs.find? d = some j) ∧ (decodeCw j = (n, ok, x)) ∧ (j.start + cwClocks (jobCode j) n ≤ v.clk) ∧ (j.cw.hdr = true) ∧ (j.cw.faElig = false) ∧ (findRx z j.cw.engine j.cw.fseq = some f) ∧ (f.held = false))) ∧
    (∃ (d : Fin 24) (ofs : Fin 122880) (ok : Bool) (x : List Bool) (f : RxFrame) (j : DecJob) (n : Nat) (s : State), s.live ∧ (let v := s.asOf ofs; let z := decSync (modRx (fun r => { r with jobs := r.jobs.erase d }) (v.incBy Reg.DEC_ITER_TOT.CNT n)); (v.rx.jobs.find? d = some j) ∧ (decodeCw j = (n, ok, x)) ∧ (j.start + cwClocks (jobCode j) n ≤ v.clk) ∧ (j.cw.hdr = false) ∧ (j.cw.faElig = false) ∧ (findRx z j.cw.engine j.cw.fseq = some f) ∧ (decodeLate z f = false))) ∧
    (∃ (d : Fin 24) (ofs : Fin 122880) (s : State), s.live ∧ (let v := s.asOf ofs; (v.rx.jobs.find? d = none))) ∧
    (∃ (d : Fin 24) (ofs : Fin 122880) (ok : Bool) (x : List Bool) (j : DecJob) (n : Nat) (s : State), s.live ∧ (let v := s.asOf ofs; (v.rx.jobs.find? d = some j) ∧ (j.cw.hdr = false) ∧ (j.cw.faElig = true) ∧ (j.withdrawn = false) ∧ (j.start + cwClocks (jobCode j) j.faLimit ≤ v.clk) ∧ (decodeCw j = (n, ok, x)) ∧ (ok = false ∨ j.faLimit < n))) :=
  ⟨⟨0, { (default : RxFrame) with phy := 3, acq := some default }, (default : Acq), { W [(Reg.DEC_CTRL.SPEC_EARLY, 1)] with rx := { State.reset.rx with ce := [(0, { (default : CeS) with cur := some { (default : RxFrame) with phy := 3, acq := some default } })] } }, rfl, by decide +kernel⟩,
   ⟨0, { State.reset with rx := { State.reset.rx with ce := [(0, { (default : CeS) with cur := none })] } }, rfl, by decide +kernel⟩,
   ⟨0, 0, { (default : RxFrame) with phy := 3, acq := some ((default : Acq)), hdr := none, hdrStaged := none }, (default : Acq), { State.reset with rx := { State.reset.rx with ce := [(0, { (default : CeS) with cur := some ({ (default : RxFrame) with phy := 3, acq := some ((default : Acq)), hdr := none, hdrStaged := none }) })] } }, rfl, by decide +kernel⟩,
   ⟨0, 0, { (default : RxFrame) with phy := 3, acq := some ((default : Acq)), hdr := some ((default : LdHdr)) }, (default : Acq), (default : LdHdr), { State.reset with rx := { State.reset.rx with ce := [(0, { (default : CeS) with cur := some ({ (default : RxFrame) with phy := 3, acq := some ((default : Acq)), hdr := some ((default : LdHdr)) }) })] } }, rfl, by decide +kernel⟩,
   ⟨0, 0, { State.reset with rx := { State.reset.rx with ce := [(0, { (default : CeS) with held := [] })] } }, rfl, by decide +kernel⟩,
   ⟨0, 0, { (default : CwS) with hdr := true }, { State.reset with rx := { State.reset.rx with staged := [{ (default : CwS) with hdr := true }] } }, rfl, by decide +kernel⟩,
   ⟨0, 0, (default : DecJob), { State.reset with rx := { State.reset.rx with jobs := [(0, ((default : DecJob)))] } }, rfl, by decide +kernel⟩,
   ⟨0, 0, false, [], (⟨{ (default : CwS) with hdr := true, faElig := false }, 100, 0, 0, false⟩ : DecJob), 0, { State.reset with rx := { State.reset.rx with jobs := [(0, (⟨{ (default : CwS) with hdr := true, faElig := false }, 100, 0, 0, false⟩ : DecJob))] } }, rfl, by decide +kernel⟩,
   ⟨0, 0, false, [], (default : RxFrame), (⟨{ (default : CwS) with hdr := true, faElig := false }, 0, 0, 0, false⟩ : DecJob), 0, { State.reset with rx := { State.reset.rx with jobs := [(0, (⟨{ (default : CwS) with hdr := true, faElig := false }, 0, 0, 0, false⟩ : DecJob))], ce := [(0, { (default : CeS) with cur := some default })] }, core := { State.reset.core with ticks := 1 } }, rfl, by decide +kernel⟩,
   ⟨0, 0, false, (decodeCw (⟨{ (default : CwS) with hdr := false, faElig := false }, 0, 0, 0, false⟩ : DecJob)).2.2, (default : RxFrame), (⟨{ (default : CwS) with hdr := false, faElig := false }, 0, 0, 0, false⟩ : DecJob), 0, { State.reset with rx := { State.reset.rx with jobs := [(0, (⟨{ (default : CwS) with hdr := false, faElig := false }, 0, 0, 0, false⟩ : DecJob))], ce := [(0, { (default : CeS) with cur := some default })] }, core := { State.reset.core with ticks := 1 } }, rfl, by decide +kernel⟩,
   ⟨0, 0, State.reset, rfl, by decide +kernel⟩,
   ⟨0, 0, false, (decodeCw (⟨{ (default : CwS) with hdr := false, faElig := true }, 0, 0, 0, false⟩ : DecJob)).2.2, (⟨{ (default : CwS) with hdr := false, faElig := true }, 0, 0, 0, false⟩ : DecJob), 0, { State.reset with rx := { State.reset.rx with jobs := [(0, (⟨{ (default : CwS) with hdr := false, faElig := true }, 0, 0, 0, false⟩ : DecJob))] }, core := { State.reset.core with ticks := 1 } }, rfl, by decide +kernel⟩⟩

/-- Every set of hypotheses of SchedulerCommands is met. -/
theorem witness_SchedulerCommands :
    (∃ (c : CmdSrc) (e : CmdEntry) (s : State), s.live ∧ (let u := s.cleared; let t := e.ten c.fn; (cmdNext u c.fn 0x20 = some e) ∧ (lowerWaits u t = true))) ∧
    (∃ (c : CmdSrc) (e : CmdEntry) (sf : Nat) (len : Nat) (hopg : Nat) (l : Link) (s : State), s.live ∧ (let u := s.cleared; let t := e.ten c.fn; let m := { l with tenant := t, auto := false }; let g : Slotframe := ⟨t, sf, len, hopg⟩; let put := modMac (fun m => { m with sfs := m.sfs.filter (fun x => !(x.tenant == t && x.sf == sf)) ++ [g] }) u; (lowerWaits u t = false) ∧ (cmdNext u c.fn 0x20 = some e) ∧ (isFollower u = false) ∧ (sf ≤ 3) ∧ (1 ≤ len) ∧ (len ≤ 65535) ∧ (hopg ≤ 15) ∧ (hopg = u.eff (Reg.MAC_Tt_POL.HOPG t)) ∧ ((sfOf u t sf).isSome = true ∨ u.mac.sfs.length < 64) ∧ ((u.mac.links.filter (fun l => l.tenant == t && l.sf == sf)).any (fun l => u.mac.links.any (fun m => m != l && linkClash put g l m)) = false))) ∧
    (∃ (c : CmdSrc) (e : CmdEntry) (sf : Nat) (len : Nat) (hopg : Nat) (l : Link) (s : State), s.live ∧ (let u := s.cleared; let t := e.ten c.fn; let m := { l with tenant := t, auto := false }; let g : Slotframe := ⟨t, sf, len, hopg⟩; let put := modMac (fun m => { m with sfs := m.sfs.filter (fun x => !(x.tenant == t && x.sf == sf)) ++ [g] }) u; (lowerWaits u t = false) ∧ (cmdNext u c.fn 0x20 = some e) ∧ (isFollower u = false) ∧ (sf ≤ 3) ∧ (1 ≤ len) ∧ (len ≤ 65535) ∧ (hopg ≤ 15) ∧ (hopg = u.eff (Reg.MAC_Tt_POL.HOPG t)) ∧ ((u.mac.links.filter (fun l => l.tenant == t && l.sf == sf)).any (fun l => u.mac.links.any (fun m => m != l && linkClash put g l m)) = true))) ∧
    (∃ (c : CmdSrc) (e : CmdEntry) (sf : Nat) (len : Nat) (hopg : Nat) (s : State), s.live ∧ (let u := s.cleared; let t := e.ten c.fn; (lowerWaits u t = false) ∧ (cmdNext u c.fn 0x20 = some e) ∧ (isFollower u = false) ∧ (3 < sf ∨ len = 0 ∨ 65535 < len ∨ 15 < hopg))) ∧
    (∃ (c : CmdSrc) (e : CmdEntry) (s : State), s.live ∧ (let u := s.cleared; let t := e.ten c.fn; (lowerWaits u t = false) ∧ (cmdNext u c.fn 0x20 = some e) ∧ (isFollower u = true))) ∧
    (∃ (c : CmdSrc) (e : CmdEntry) (s : State), s.live ∧ (let u := s.cleared; let t := e.ten c.fn; (lowerWaits u t = false) ∧ (cmdNext u c.fn 0x20 = none))) ∧
    (∃ (c : CmdSrc) (e : CmdEntry) (sf : Nat) (s : State), s.live ∧ (let u := s.cleared; let t := e.ten c.fn; (lowerWaits u t = false) ∧ (cmdNext u c.fn 0x21 = some e) ∧ (isFollower u = false) ∧ ((sfOf u t sf).isSome = true))) ∧
    (∃ (c : CmdSrc) (e : CmdEntry) (sf : Nat) (s : State), s.live ∧ (let u := s.cleared; let t := e.ten c.fn; (lowerWaits u t = false) ∧ (cmdNext u c.fn 0x21 = some e) ∧ (isFollower u = false) ∧ (sfOf u t sf = none))) ∧
    (∃ (c : CmdSrc) (e : CmdEntry) (l : Link) (f : Slotframe) (s : State), s.live ∧ (let u := s.cleared; let t := e.ten c.fn; let m := { l with tenant := t, auto := false }; (lowerWaits u t = false) ∧ (cmdNext u c.fn 0x22 = some e) ∧ (isFollower u = false) ∧ (sfOf u t m.sf = some f) ∧ (m.pos < f.len) ∧ (m.chofs ≤ 63) ∧ (m.kind ≤ 6) ∧ (m.node ≤ 262143) ∧ (m.ofs ≤ 511999) ∧ (m.span ≤ 511999) ∧ (m.lead ≤ 65535) ∧ (m.prof ≤ 15) ∧ ((m.kind ≠ 0 ∧ m.kind ≠ 3) ∨ ownNode u t m.node = true) ∧ ((u.mac.links.filter (fun x => x.tenant == t)).length < linkQuota u t) ∧ (u.mac.links.length < 524288) ∧ (u.mac.links.any (linkClash u f m) = false))) ∧
    (∃ (c : CmdSrc) (e : CmdEntry) (sf : Nat) (pos : Nat) (chofs : Nat) (node : Nat) (s : State), s.live ∧ (let u := s.cleared; let t := e.ten c.fn; (lowerWaits u t = false) ∧ (cmdNext u c.fn 0x23 = some e) ∧ (isFollower u = false) ∧ ((sfOf u t sf).isSome = true) ∧ (node ≤ 262143) ∧ (chofs ≤ 63) ∧ (u.mac.links.any (fun x => x.tenant == t && x.sf == sf && x.pos == pos && x.chofs == chofs && x.node == node) = true))) ∧
    (∃ (c : CmdSrc) (e : CmdEntry) (sf : Nat) (pos : Nat) (chofs : Nat) (node : Nat) (s : State), s.live ∧ (let u := s.cleared; let t := e.ten c.fn; (lowerWaits u t = false) ∧ (cmdNext u c.fn 0x23 = some e) ∧ (isFollower u = false) ∧ ((sfOf u t sf).isSome = true) ∧ (node ≤ 262143) ∧ (chofs ≤ 63) ∧ (u.mac.links.any (fun x => x.tenant == t && x.sf == sf && x.pos == pos && x.chofs == chofs && x.node == node) = false) ∧ (ownNode u t node = false))) ∧
    (∃ (c : CmdSrc) (e : CmdEntry) (node : Nat) (up : Nat) (down : Nat) (s : State), s.live ∧ (let u := s.cleared; let t := e.ten c.fn; (lowerWaits u t = false) ∧ (cmdNext u c.fn 0x24 = some e) ∧ (isFollower u = false) ∧ (node ≤ 262143) ∧ (ownNode u t node = true) ∧ (0 < up ∨ 0 < down))) ∧
    (∃ (c : CmdSrc) (e : CmdEntry) (node : Nat) (s : State), s.live ∧ (let u := s.cleared; let t := e.ten c.fn; (lowerWaits u t = false) ∧ (cmdNext u c.fn 0x24 = some e) ∧ (isFollower u = false) ∧ (node ≤ 262143) ∧ (ownNode u t node = false))) ∧
    (∃ (c : CmdSrc) (e : CmdEntry) (node : Nat) (s : State), s.live ∧ (let u := s.cleared; let t := e.ten c.fn; (lowerWaits u t = false) ∧ (cmdNext u c.fn 0x25 = some e) ∧ (isFollower u = false) ∧ (node ≤ 262143) ∧ (ownNode u t node = true))) ∧
    (∃ (c : CmdSrc) (e : CmdEntry) (chofs : Nat) (period : Nat) (prof : Nat) (s : State), s.live ∧ (let u := s.cleared; let t := e.ten c.fn; (lowerWaits u t = false) ∧ (cmdNext u c.fn 0x26 = some e) ∧ (isFollower u = false) ∧ (prof ≤ 15) ∧ (chofs ≤ 63) ∧ (0 < period))) ∧
    (∃ (c : CmdSrc) (e : CmdEntry) (s : State), s.live ∧ (let u := s.cleared; let t := e.ten c.fn; (lowerWaits u t = false) ∧ (cmdNext u c.fn 0x27 = some e) ∧ (isFollower u = false))) :=
  ⟨⟨⟨0, 0⟩, { (default : CmdEntry) with code := 0x20, tenant := 1 }, { W [(Reg.HIF_Rr_CFG.EN 0 ringCMD, 1), (Reg.HIF_Rr_STAT.STATE 0 ringCMD, 1), (Reg.HIF_Rr_CFG.EN 0 ringCMDCPL, 1), (Reg.HIF_Rr_STAT.STATE 0 ringCMDCPL, 1), (Reg.HIF_Rr_CFG.EN 1 ringCMD, 1), (Reg.HIF_Rr_STAT.STATE 1 ringCMD, 1), (Reg.HIF_Rr_CFG.EN 1 ringCMDCPL, 1), (Reg.HIF_Rr_STAT.STATE 1 ringCMDCPL, 1)] with hif := { State.reset.hif with pcie := { State.reset.hif.pcie with vfEn := true, numVfs := 1 }, fns := [(0, { (default : FnS) with cmdQ := [some { (default : CmdEntry) with code := 0x20, tenant := 1 }] }), (1, { (default : FnS) with cmdQ := [some { (default : CmdEntry) with code := 0x20, tenant := 0 }] })] } }, rfl, by decide +kernel⟩,
   ⟨⟨0, 0⟩, { (default : CmdEntry) with code := 0x20 }, 0, 1, 0, (default : Link), { W [(Reg.HIF_Rr_CFG.EN 0 ringCMD, 1), (Reg.HIF_Rr_STAT.STATE 0 ringCMD, 1), (Reg.HIF_Rr_CFG.EN 0 ringCMDCPL, 1), (Reg.HIF_Rr_STAT.STATE 0 ringCMDCPL, 1)] with hif := { State.reset.hif with fns := [(0, { (default : FnS) with cmdQ := [some { (default : CmdEntry) with code := 0x20 }] })] } }, rfl, by decide +kernel⟩,
   ⟨⟨0, 0⟩, { (default : CmdEntry) with code := 0x20 }, 0, 1, 0, (default : Link), { W [(Reg.HIF_Rr_CFG.EN 0 ringCMD, 1), (Reg.HIF_Rr_STAT.STATE 0 ringCMD, 1), (Reg.HIF_Rr_CFG.EN 0 ringCMDCPL, 1), (Reg.HIF_Rr_STAT.STATE 0 ringCMDCPL, 1)] with hif := { State.reset.hif with fns := [(0, { (default : FnS) with cmdQ := [some { (default : CmdEntry) with code := 0x20 }] })] }, mac := { State.reset.mac with sfs := [(⟨0, 0, 1, 0⟩ : Slotframe), ⟨1, 0, 1, 0⟩], links := [{ (default : Link) with kind := 1 }, { (default : Link) with kind := 1, tenant := 1 }] } }, rfl, by decide +kernel⟩,
   ⟨⟨0, 0⟩, { (default : CmdEntry) with code := 0x20 }, 4, 0, 0, { W [(Reg.HIF_Rr_CFG.EN 0 ringCMD, 1), (Reg.HIF_Rr_STAT.STATE 0 ringCMD, 1), (Reg.HIF_Rr_CFG.EN 0 ringCMDCPL, 1), (Reg.HIF_Rr_STAT.STATE 0 ringCMDCPL, 1)] with hif := { State.reset.hif with fns := [(0, { (default : FnS) with cmdQ := [some { (default : CmdEntry) with code := 0x20 }] })] } }, rfl, by decide +kernel⟩,
   ⟨⟨0, 0⟩, { (default : CmdEntry) with code := 0x20 }, { W [(Reg.HIF_Rr_CFG.EN 0 ringCMD, 1), (Reg.HIF_Rr_STAT.STATE 0 ringCMD, 1), (Reg.HIF_Rr_CFG.EN 0 ringCMDCPL, 1), (Reg.HIF_Rr_STAT.STATE 0 ringCMDCPL, 1), (Reg.MIR_CTRL.TWIN, 1), (Reg.MIR_STAT.ROLE, 2)] with hif := { State.reset.hif with fns := [(0, { (default : FnS) with cmdQ := [some { (default : CmdEntry) with code := 0x20 }] })] } }, rfl, by decide +kernel⟩,
   ⟨⟨0, 0⟩, (default : CmdEntry), State.reset, rfl, by decide +kernel⟩,
   ⟨⟨0, 0⟩, { (default : CmdEntry) with code := 0x21 }, 0, { W [(Reg.HIF_Rr_CFG.EN 0 ringCMD, 1), (Reg.HIF_Rr_STAT.STATE 0 ringCMD, 1), (Reg.HIF_Rr_CFG.EN 0 ringCMDCPL, 1), (Reg.HIF_Rr_STAT.STATE 0 ringCMDCPL, 1)] with hif := { State.reset.hif with fns := [(0, { (default : FnS) with cmdQ := [some { (default : CmdEntry) with code := 0x21 }] })] }, mac := { State.reset.mac with sfs := [(⟨0, 0, 8, 0⟩ : Slotframe)] } }, rfl, by decide +kernel⟩,
   ⟨⟨0, 0⟩, { (default : CmdEntry) with code := 0x21 }, 0, { W [(Reg.HIF_Rr_CFG.EN 0 ringCMD, 1), (Reg.HIF_Rr_STAT.STATE 0 ringCMD, 1), (Reg.HIF_Rr_CFG.EN 0 ringCMDCPL, 1), (Reg.HIF_Rr_STAT.STATE 0 ringCMDCPL, 1)] with hif := { State.reset.hif with fns := [(0, { (default : FnS) with cmdQ := [some { (default : CmdEntry) with code := 0x21 }] })] } }, rfl, by decide +kernel⟩,
   ⟨⟨0, 0⟩, { (default : CmdEntry) with code := 0x22 }, { (default : Link) with kind := 1 }, (⟨0, 0, 8, 0⟩ : Slotframe), { W [(Reg.HIF_Rr_CFG.EN 0 ringCMD, 1), (Reg.HIF_Rr_STAT.STATE 0 ringCMD, 1), (Reg.HIF_Rr_CFG.EN 0 ringCMDCPL, 1), (Reg.HIF_Rr_STAT.STATE 0 ringCMDCPL, 1)] with hif := { State.reset.hif with fns := [(0, { (default : FnS) with cmdQ := [some { (default : CmdEntry) with code := 0x22 }] })] }, mac := { State.reset.mac with sfs := [(⟨0, 0, 8, 0⟩ : Slotframe)], quota := [(0, 4)] } }, rfl, by decide +kernel⟩,
   ⟨⟨0, 0⟩, { (default : CmdEntry) with code := 0x23 }, 0, 0, 0, 0, { W [(Reg.HIF_Rr_CFG.EN 0 ringCMD, 1), (Reg.HIF_Rr_STAT.STATE 0 ringCMD, 1), (Reg.HIF_Rr_CFG.EN 0 ringCMDCPL, 1), (Reg.HIF_Rr_STAT.STATE 0 ringCMDCPL, 1)] with hif := { State.reset.hif with fns := [(0, { (default : FnS) with cmdQ := [some { (default : CmdEntry) with code := 0x23 }] })] }, mac := { State.reset.mac with sfs := [(⟨0, 0, 8, 0⟩ : Slotframe)], links := [{ (default : Link) with kind := 1 }] } }, rfl, by decide +kernel⟩,
   ⟨⟨0, 0⟩, { (default : CmdEntry) with code := 0x23 }, 0, 0, 0, 0, { W [(Reg.HIF_Rr_CFG.EN 0 ringCMD, 1), (Reg.HIF_Rr_STAT.STATE 0 ringCMD, 1), (Reg.HIF_Rr_CFG.EN 0 ringCMDCPL, 1), (Reg.HIF_Rr_STAT.STATE 0 ringCMDCPL, 1)] with hif := { State.reset.hif with fns := [(0, { (default : FnS) with cmdQ := [some { (default : CmdEntry) with code := 0x23 }] })] }, mac := { State.reset.mac with sfs := [(⟨0, 0, 8, 0⟩ : Slotframe)] } }, rfl, by decide +kernel⟩,
   ⟨⟨0, 0⟩, { (default : CmdEntry) with code := 0x24 }, 0, 1, 0, { W [(Reg.HIF_Rr_CFG.EN 0 ringCMD, 1), (Reg.HIF_Rr_STAT.STATE 0 ringCMD, 1), (Reg.HIF_Rr_CFG.EN 0 ringCMDCPL, 1), (Reg.HIF_Rr_STAT.STATE 0 ringCMDCPL, 1)] with hif := { State.reset.hif with fns := [(0, { (default : FnS) with cmdQ := [some { (default : CmdEntry) with code := 0x24 }] })] }, fwd := { State.reset.fwd with nth := [(0, { (default : NtH) with valid := true })] } }, rfl, by decide +kernel⟩,
   ⟨⟨0, 0⟩, { (default : CmdEntry) with code := 0x24 }, 0, { W [(Reg.HIF_Rr_CFG.EN 0 ringCMD, 1), (Reg.HIF_Rr_STAT.STATE 0 ringCMD, 1), (Reg.HIF_Rr_CFG.EN 0 ringCMDCPL, 1), (Reg.HIF_Rr_STAT.STATE 0 ringCMDCPL, 1)] with hif := { State.reset.hif with fns := [(0, { (default : FnS) with cmdQ := [some { (default : CmdEntry) with code := 0x24 }] })] } }, rfl, by decide +kernel⟩,
   ⟨⟨0, 0⟩, { (default : CmdEntry) with code := 0x25 }, 0, { W [(Reg.HIF_Rr_CFG.EN 0 ringCMD, 1), (Reg.HIF_Rr_STAT.STATE 0 ringCMD, 1), (Reg.HIF_Rr_CFG.EN 0 ringCMDCPL, 1), (Reg.HIF_Rr_STAT.STATE 0 ringCMDCPL, 1)] with hif := { State.reset.hif with fns := [(0, { (default : FnS) with cmdQ := [some { (default : CmdEntry) with code := 0x25 }] })] }, fwd := { State.reset.fwd with nth := [(0, { (default : NtH) with valid := true })] } }, rfl, by decide +kernel⟩,
   ⟨⟨0, 0⟩, { (default : CmdEntry) with code := 0x26 }, 0, 1, 0, { W [(Reg.HIF_Rr_CFG.EN 0 ringCMD, 1), (Reg.HIF_Rr_STAT.STATE 0 ringCMD, 1), (Reg.HIF_Rr_CFG.EN 0 ringCMDCPL, 1), (Reg.HIF_Rr_STAT.STATE 0 ringCMDCPL, 1)] with hif := { State.reset.hif with fns := [(0, { (default : FnS) with cmdQ := [some { (default : CmdEntry) with code := 0x26 }] })] } }, rfl, by decide +kernel⟩,
   ⟨⟨0, 0⟩, { (default : CmdEntry) with code := 0x27 }, { W [(Reg.HIF_Rr_CFG.EN 0 ringCMD, 1), (Reg.HIF_Rr_STAT.STATE 0 ringCMD, 1), (Reg.HIF_Rr_CFG.EN 0 ringCMDCPL, 1), (Reg.HIF_Rr_STAT.STATE 0 ringCMDCPL, 1)] with hif := { State.reset.hif with fns := [(0, { (default : FnS) with cmdQ := [some { (default : CmdEntry) with code := 0x27 }] })] } }, rfl, by decide +kernel⟩⟩

/-- Every set of hypotheses of MacTimers is met. -/
theorem witness_MacTimers :
    (∃ (e : Fin 128) (ofs : Fin 122880) (c : Csma) (s : State), s.live ∧ (let v := s.asOf ofs; (v.mac.csma.find? (fun c => c.engine == e.val && decide (c.due ≤ v.clk)) = none))) ∧
    (∃ (e : Fin 128) (ofs : Fin 122880) (power : Int) (c : Csma) (s : State), s.live ∧ (let v := s.asOf ofs; let b := v.inc Reg.MAC_CSMA_BUSY.CNT; (v.mac.csma.find? (fun c => c.engine == e.val && decide (c.due ≤ v.clk)) = some c) ∧ (ccaBusy v e power = true) ∧ (b.get Reg.MAC_CSMA_CFG.MAX_BO < c.nb + 1))) ∧
    (∃ (e : Fin 128) (ofs : Fin 122880) (power : Int) (c : Csma) (s : State), s.live ∧ (let v := s.asOf ofs; let b := v.inc Reg.MAC_CSMA_BUSY.CNT; (v.mac.csma.find? (fun c => c.engine == e.val && decide (c.due ≤ v.clk)) = some c) ∧ (ccaBusy v e power = true) ∧ (c.nb + 1 ≤ b.get Reg.MAC_CSMA_CFG.MAX_BO))) ∧
    (∃ (e : Fin 128) (m : Nat) (ofs : Fin 122880) (power : Int) (c : Csma) (s : State), s.live ∧ (let v := s.asOf ofs; let z := beforeFw c.engine v; (v.mac.csma.find? (fun c => c.engine == e.val && decide (c.due ≤ v.clk)) = some c) ∧ (ccaBusy v e power = false) ∧ (verdict z false true c.engine c.win.w.prof c.frame.len (some (csmaRoom z c.win)) = .go m))) ∧
    (∃ (ofs : Fin 122880) (s : State), s.live ∧ (let v := s.asOf ofs; (acksDue v = []) ∧ (winsDue v = []))) ∧
    (∃ (e : Fin 128) (ofs : Fin 122880) (w : AckWait) (s : State), s.live ∧ (let v := s.asOf ofs; (v.mac.waits.filter (fun w => w.engine == e.val && decide (w.hi < v.clk) && !waitBusy v w) = [w]))) ∧
    (∃ (e : Fin 128) (ofs : Fin 122880) (w : AckWait) (s : State), s.live ∧ (let v := s.asOf ofs; (v.mac.waits.filter (fun w => w.engine == e.val && decide (w.hi < v.clk) && !waitBusy v w) = []))) ∧
    (∃ (e : Fin 128) (ofs : Fin 122880) (a : AckPend) (s : State), s.live ∧ (let v := s.asOf ofs; (acksDue v = [a]) ∧ (a.engine = e.val))) ∧
    (∃ (e : Fin 128) (ofs : Fin 122880) (a : AckPend) (d : AckPend) (s : State), s.live ∧ (let v := s.asOf ofs; (acksDue v = [a, d]) ∧ (a.engine < d.engine) ∧ (d.engine = e.val))) ∧
    (∃ (e : Fin 128) (ofs : Fin 122880) (a : AckPend) (s : State), s.live ∧ (let v := s.asOf ofs; ((acksDue v).any (fun a => a.engine == e.val) = false))) ∧
    (∃ (ofs : Fin 122880) (a : AckPend) (s : State), s.live ∧ (let v := s.asOf ofs; (v.clk < a.ready))) ∧
    (∃ (ofs : Fin 122880) (a : AckPend) (s : State), s.live ∧ (let v := s.asOf ofs; (a.ready ≤ v.clk) ∧ (holdsTx v = false))) ∧
    (∃ (m : Nat) (ofs : Fin 122880) (a : AckPend) (s : State), s.live ∧ (let v := s.asOf ofs; let prof := v.eff (Reg.MAC_ENGn_ACK.PROF a.engine); (a.ready ≤ v.clk) ∧ (holdsTx v = true) ∧ (a.secured = false) ∧ (verdict v true true a.engine prof a.psduLen none = .go m))) :=
  ⟨⟨0, 0, (default : Csma), State.reset, rfl, by decide +kernel⟩,
   ⟨0, 0, 0, { (default : Csma) with nb := 1000 }, { W [(Reg.MAC_CSMA_CFG.MAX_BO, 0)] with mac := { State.reset.mac with csma := [{ (default : Csma) with nb := 1000 }] } }, rfl, by decide +kernel⟩,
   ⟨0, 0, 0, { (default : Csma) with nb := 0 }, { W [(Reg.MAC_CSMA_CFG.MAX_BO, 4)] with mac := { State.reset.mac with csma := [{ (default : Csma) with nb := 0 }] } }, rfl, by decide +kernel⟩,
   ⟨0, 0, 0, -1000000, { (default : Csma) with win := { (default : WinS) with w := { (default : Window) with kind := 5 }, used := true, hi := 1000000000000 } }, { W [(Reg.PRSM_TUn_CFG.EN 0, 1), (Reg.PRSM_TUn_STAT.STATE 0, 2), (Reg.TXC_PROFp_A.PHY 0, 2), (Reg.TXC_PROFp_A.MODE 0, 0), (Reg.WDN_TWL_STAT.HELD, 1), (Reg.TXC_PORTp_CFG.EN 0, 1), (Reg.RSI_TXn_STAT.STATE 0, psUP), (Reg.TXC_CTRL.EN, 1), (Reg.TXC_CTRL.ACK_RSV, 0), (Reg.TXC_BANDb_DC.EN 0, 0), (Reg.MAC_ENGn_ACK.PROF 0, 0)] with prsm := { State.reset.prsm with tu := [(0, { (default : TuS) with runs := some default })] }, mac := { State.reset.mac with csma := [{ (default : Csma) with win := { (default : WinS) with w := { (default : Window) with kind := 5 }, used := true, hi := 1000000000000 } }] } }, rfl, by decide +kernel⟩,
   ⟨0, State.reset, rfl, by decide +kernel⟩,
   ⟨0, 0, (default : AckWait), { State.reset with core := { State.reset.core with ticks := 1 }, mac := { State.reset.mac with waits := [default] } }, rfl, by decide +kernel⟩,
   ⟨0, 0, (default : AckWait), State.reset, rfl, by decide +kernel⟩,
   ⟨0, 0, (default : AckPend), { State.reset with mac := { State.reset.mac with acks := [default] } }, rfl, by decide +kernel⟩,
   ⟨1, 0, (default : AckPend), { (default : AckPend) with engine := 1 }, { State.reset with mac := { State.reset.mac with acks := [{ (default : AckPend) with engine := 1 }, default] } }, rfl, by decide +kernel⟩,
   ⟨0, 0, (default : AckPend), State.reset, rfl, by decide +kernel⟩,
   ⟨0, { (default : AckPend) with ready := 1000000 }, State.reset, rfl, by decide +kernel⟩,
   ⟨0, (default : AckPend), { State.reset with core := { State.reset.core with ticks := 1000000 } }, rfl, by decide +kernel⟩,
   ⟨0, 0, (default : AckPend), { W [(Reg.TXC_PROFp_A.PHY 0, 2), (Reg.TXC_PROFp_A.MODE 0, 0), (Reg.WDN_TWL_STAT.HELD, 1), (Reg.TXC_PORTp_CFG.EN 0, 1), (Reg.RSI_TXn_STAT.STATE 0, psUP), (Reg.TXC_CTRL.EN, 1), (Reg.TXC_CTRL.ACK_RSV, 0), (Reg.TXC_BANDb_DC.EN 0, 0), (Reg.MAC_ENGn_ACK.PROF 0, 0)] with core := { State.reset.core with ticks := 1000000 } }, rfl, by decide +kernel⟩⟩

/-- Every set of hypotheses of TransmitPath is met. -/
theorem witness_TransmitPath :
    (∃ (fn : Fin 257) (ofs : Fin 122880) (s : State), s.live ∧ (let v := s.asOf ofs; (windowOn s.cleared Reg.HIF_PF_KICK.RINGS.addr = true) ∧ (fnOn v fn = false ∨ v.on (Reg.HIF_FN_CTRL.EN fn) = false))) ∧
    (∃ (fn : Fin 257) (ofs : Fin 122880) (s : State), s.live ∧ (let v := s.asOf ofs; (windowOn s.cleared Reg.HIF_PF_KICK.RINGS.addr = true) ∧ (fnOn v fn = true) ∧ (v.on (Reg.HIF_FN_CTRL.EN fn) = true) ∧ (v.on (Reg.HIF_FN_STAT.FLR fn) = false) ∧ (v.pwr.quiet = false) ∧ (v.get Reg.HIF_CFG.KICK_MAX ≤ (v.hif.fns.get fn).kicks))) ∧
    (∃ (fn : Fin 257) (rings : Fin 65536) (ofs : Fin 122880) (b : Bell) (j : FetchJob) (q : List FetchJob) (s : State), s.live ∧ (let v := s.asOf ofs; let k := sampleFn fn (if rings.val = 0 then 0xFFFF else rings) true b (modFn fn (fun q => { q with kicks := q.kicks + 1 }) v); (windowOn s.cleared Reg.HIF_PF_KICK.RINGS.addr = true) ∧ (fnOn v fn = true) ∧ (v.on (Reg.HIF_FN_CTRL.EN fn) = true) ∧ (v.on (Reg.HIF_FN_STAT.FLR fn) = false) ∧ (v.pwr.quiet = false) ∧ ((v.hif.fns.get fn).kicks < v.get Reg.HIF_CFG.KICK_MAX) ∧ (k.hif.fetchQ.any (fun j => j.fn == fn.val && j.kick) = false))) ∧
    (∃ (ofs : Fin 122880) (s : State), s.live ∧ (let v := s.asOf ofs; (windowOn s.cleared Reg.HIF_PF_KICK.RINGS.addr = true) ∧ (v.hif.fetchQ = []))) ∧
    (∃ (ofs : Fin 122880) (j : FetchJob) (q : List FetchJob) (s : State), s.live ∧ (let v := s.asOf ofs; (windowOn s.cleared Reg.HIF_PF_KICK.RINGS.addr = true) ∧ (v.hif.fetchQ = j :: q) ∧ (ringRunning v j.fn j.ring = false))) ∧
    (∃ (ofs : Fin 122880) (j : FetchJob) (q : List FetchJob) (s : State), s.live ∧ (let v := s.asOf ofs; (windowOn s.cleared Reg.HIF_PF_KICK.RINGS.addr = true) ∧ (v.hif.fetchQ = j :: q) ∧ (ringRunning v j.fn j.ring = true) ∧ (ringRunning v j.fn ringTXCPL = true) ∧ ((v.hif.fns.get j.fn).outstanding < ringFree v j.fn ringTXCPL))) ∧
    (∃ (ofs : Fin 122880) (p : Packet) (raw : RawDesc) (j : FetchJob) (q : List FetchJob) (s : State), s.live ∧ (let v := s.asOf ofs; let d := descUnpack raw; (windowOn s.cleared Reg.HIF_PF_KICK.RINGS.addr = true) ∧ (v.hif.fetchQ = j :: q) ∧ (ringRunning v j.fn j.ring = true) ∧ (ringRunning v j.fn ringTXCPL = true) ∧ ((v.hif.fns.get j.fn).outstanding < ringFree v j.fn ringTXCPL) ∧ (descBad v (descTenant j d) d = none) ∧ (d.pkt = some p) ∧ ((tqOf v (descTenant j d) (d.queue % 32)).depth + (wordsOf d.len + 1) ≤ v.get (Reg.TM_Tt_Qq_CFG.LIMIT (descTenant j d) (d.queue % 32))) ∧ (wordsOf d.len + 1 ≤ v.get Reg.TM_POOL.FREE))) ∧
    (∃ (ofs : Fin 122880) (raw : RawDesc) (j : FetchJob) (q : List FetchJob) (st : Nat) (s : State), s.live ∧ (let v := s.asOf ofs; let d := descUnpack raw; (windowOn s.cleared Reg.HIF_PF_KICK.RINGS.addr = true) ∧ (v.hif.fetchQ = j :: q) ∧ (ringRunning v j.fn j.ring = true) ∧ (ringRunning v j.fn ringTXCPL = true) ∧ ((v.hif.fns.get j.fn).outstanding < ringFree v j.fn ringTXCPL) ∧ (descBad v (descTenant j d) d = some st))) ∧
    (∃ (ofs : Fin 122880) (fd : FDesc) (fl : List FDesc) (s : State), s.live ∧ (let v := s.asOf ofs; (windowOn s.cleared Reg.HIF_PF_KICK.RINGS.addr = true) ∧ (composeDue v = fd :: fl))) ∧
    (∃ (ofs : Fin 122880) (s : State), s.live ∧ (let v := s.asOf ofs; (windowOn s.cleared Reg.HIF_PF_KICK.RINGS.addr = true) ∧ (composeDue v = []))) ∧
    (∃ (ofs : Fin 122880) (e : Fin 128) (s : State), s.live ∧ (let v := s.asOf ofs; (windowOn s.cleared Reg.HIF_PF_KICK.RINGS.addr = true) ∧ (txWindow v e = none))) ∧
    (∃ (ofs : Fin 122880) (e : Fin 128) (x : WinS) (s : State), s.live ∧ (let v := s.asOf ofs; (windowOn s.cleared Reg.HIF_PF_KICK.RINGS.addr = true) ∧ (winsDue v = [x]) ∧ (x.w.engine = e.val) ∧ (acksDue v = []) ∧ (x.w.kind = 3))) ∧
    (∃ (ofs : Fin 122880) (e : Fin 128) (x : WinS) (s : State), s.live ∧ (let v := s.asOf ofs; (windowOn s.cleared Reg.HIF_PF_KICK.RINGS.addr = true) ∧ (winsDue v = [x]) ∧ (x.w.engine = e.val) ∧ (acksDue v = []) ∧ (x.w.kind = 4))) ∧
    (∃ (ofs : Fin 122880) (e : Fin 128) (x : WinS) (s : State), s.live ∧ (let v := s.asOf ofs; (windowOn s.cleared Reg.HIF_PF_KICK.RINGS.addr = true) ∧ (winsDue v = [x]) ∧ (x.w.engine = e.val) ∧ (acksDue v = []) ∧ (x.w.kind = 5))) ∧
    (∃ (ofs : Fin 122880) (e : Fin 128) (x : WinS) (s : State), s.live ∧ (let v := s.asOf ofs; (windowOn s.cleared Reg.HIF_PF_KICK.RINGS.addr = true) ∧ (winsDue v = [x]) ∧ (x.w.engine = e.val) ∧ (acksDue v = []) ∧ (x.w.kind = 6))) ∧
    (∃ (ofs : Fin 122880) (e : Fin 128) (x : WinS) (s : State), s.live ∧ (let v := s.asOf ofs; (windowOn s.cleared Reg.HIF_PF_KICK.RINGS.addr = true) ∧ (winsDue v = [x]) ∧ (x.w.engine = e.val))) ∧
    (∃ (ofs : Fin 122880) (m : Fin 32) (s : State), s.live ∧ (let v := s.asOf ofs; (windowOn s.cleared Reg.HIF_PF_KICK.RINGS.addr = true) ∧ (v.txc.mods.find? m = none))) ∧
    (∃ (ofs : Fin 122880) (m : Fin 32) (tx : TxS) (s : State), s.live ∧ (let v := s.asOf ofs; (windowOn s.cleared Reg.HIF_PF_KICK.RINGS.addr = true) ∧ (v.txc.mods.find? m = some tx) ∧ (v.clk < tx.start + t3Clocks tx.onAir))) ∧
    (∃ (ofs : Fin 122880) (m : Fin 32) (tx : TxS) (f : AirFrame) (s : State), s.live ∧ (let v := s.asOf ofs; (windowOn s.cleared Reg.HIF_PF_KICK.RINGS.addr = true) ∧ (v.txc.mods.find? m = some tx) ∧ (tx.start + t3Clocks tx.onAir ≤ v.clk) ∧ (tx.kind = .data f))) ∧
    (∃ (ofs : Fin 122880) (m : Fin 32) (tx : TxS) (g : FwFrame) (s : State), s.live ∧ (let v := s.asOf ofs; (windowOn s.cleared Reg.HIF_PF_KICK.RINGS.addr = true) ∧ (v.txc.mods.find? m = some tx) ∧ (tx.start + t3Clocks tx.onAir ≤ v.clk) ∧ (tx.kind = .fw g) ∧ (g.isAck = false))) ∧
    (∃ (ofs : Fin 122880) (m : Fin 32) (tx : TxS) (g : FwFrame) (s : State), s.live ∧ (let v := s.asOf ofs; (windowOn s.cleared Reg.HIF_PF_KICK.RINGS.addr = true) ∧ (v.txc.mods.find? m = some tx) ∧ (tx.start + t3Clocks tx.onAir ≤ v.clk) ∧ (tx.kind = .fw g) ∧ (g.isAck = true))) ∧
    (∃ (ofs : Fin 122880) (m : Fin 32) (tx : TxS) (ak : AckPend) (s : State), s.live ∧ (let v := s.asOf ofs; (windowOn s.cleared Reg.HIF_PF_KICK.RINGS.addr = true) ∧ (v.txc.mods.find? m = some tx) ∧ (tx.start + t3Clocks tx.onAir ≤ v.clk) ∧ (tx.kind = .ack ak))) :=
  ⟨⟨0, 0, State.reset, rfl, by decide +kernel⟩,
   ⟨0, 0, { W [((Reg.HIF_FN_CTRL.EN (0)), 1), ((Reg.HIF_FN_STAT.FLR (0)), 0), (Reg.HIF_CFG.KICK_MAX, 0)] with pwr := { State.reset.pwr with quiet := false } }, rfl, by decide +kernel⟩,
   ⟨0, 0, 0, (default : Bell), (default : FetchJob), [], { W [((Reg.HIF_FN_CTRL.EN (0)), 1), ((Reg.HIF_FN_STAT.FLR (0)), 0), (Reg.HIF_CFG.KICK_MAX, 1)] with pwr := { State.reset.pwr with quiet := false } }, rfl, by decide +kernel⟩,
   ⟨0, { State.reset with hif := { State.reset.hif with fetchQ := [] } }, rfl, by decide +kernel⟩,
   ⟨0, (default : FetchJob), [], { State.reset with hif := { State.reset.hif with fetchQ := ((default : FetchJob)) :: ([]) } }, rfl, by decide +kernel⟩,
   ⟨0, (⟨0, 0, 1, false⟩ : FetchJob), [], { W [(Reg.HIF_Rr_CFG.EN 0 0, 1), (Reg.HIF_Rr_STAT.STATE 0 0, 1), (Reg.HIF_Rr_CFG.EN 0 ringTXCPL, 1), (Reg.HIF_Rr_STAT.STATE 0 ringTXCPL, 1)] with hif := { State.reset.hif with fetchQ := [(⟨0, 0, 1, false⟩ : FetchJob)] } }, rfl, by decide +kernel⟩,
   ⟨0, { (default : Packet) with len := 64 }, (⟨[0, 0, 64, 0, 0, 0, 0, 0], some default⟩ : RawDesc), (⟨0, 0, 1, false⟩ : FetchJob), [], { W [(Reg.TM_POOL.FREE, 100), (Reg.HIF_Rr_CFG.EN 0 0, 1), (Reg.HIF_Rr_STAT.STATE 0 0, 1), (Reg.HIF_Rr_CFG.EN 0 ringTXCPL, 1), (Reg.HIF_Rr_STAT.STATE 0 ringTXCPL, 1), (Reg.TM_Tt_Qq_CFG.PORT 0 0, 2), (Reg.HIF_Tt_CFG.EN 0, 1), (Reg.TM_Tt_Qq_CFG.LIMIT 0 0, 100)] with hif := { State.reset.hif with fetchQ := [(⟨0, 0, 1, false⟩ : FetchJob)] } }, rfl, by decide +kernel⟩,
   ⟨0, (default : RawDesc), (⟨0, 0, 1, false⟩ : FetchJob), [], 0x26, { W [(Reg.HIF_Rr_CFG.EN 0 0, 1), (Reg.HIF_Rr_STAT.STATE 0 0, 1), (Reg.HIF_Rr_CFG.EN 0 ringTXCPL, 1), (Reg.HIF_Rr_STAT.STATE 0 ringTXCPL, 1)] with hif := { State.reset.hif with fetchQ := [(⟨0, 0, 1, false⟩ : FetchJob)] } }, rfl, by decide +kernel⟩,
   ⟨0, (default : FDesc), [], { State.reset with hif := { State.reset.hif with fetched := [default] } }, rfl, by decide +kernel⟩,
   ⟨0, State.reset, rfl, by decide +kernel⟩,
   ⟨0, 0, State.reset, rfl, by decide +kernel⟩,
   ⟨0, 0, { (default : WinS) with w := { (default : Window) with kind := 3 }, used := false, hi := 1000000000000 }, { State.reset with mac := { State.reset.mac with running := true, planned := true, wins := [{ (default : WinS) with w := { (default : Window) with kind := 3 }, used := false, hi := 1000000000000 }] } }, rfl, by decide +kernel⟩,
   ⟨0, 0, { (default : WinS) with w := { (default : Window) with kind := 4 }, used := false, hi := 1000000000000 }, { State.reset with mac := { State.reset.mac with running := true, planned := true, wins := [{ (default : WinS) with w := { (default : Window) with kind := 4 }, used := false, hi := 1000000000000 }] } }, rfl, by decide +kernel⟩,
   ⟨0, 0, { (default : WinS) with w := { (default : Window) with kind := 5 }, used := false, hi := 1000000000000 }, { State.reset with mac := { State.reset.mac with running := true, planned := true, wins := [{ (default : WinS) with w := { (default : Window) with kind := 5 }, used := false, hi := 1000000000000 }] } }, rfl, by decide +kernel⟩,
   ⟨0, 0, { (default : WinS) with w := { (default : Window) with kind := 6 }, used := false, hi := 1000000000000 }, { State.reset with mac := { State.reset.mac with running := true, planned := true, wins := [{ (default : WinS) with w := { (default : Window) with kind := 6 }, used := false, hi := 1000000000000 }] } }, rfl, by decide +kernel⟩,
   ⟨0, 0, { (default : WinS) with w := { (default : Window) with kind := 3 }, used := false, hi := 1000000000000 }, { State.reset with mac := { State.reset.mac with running := true, planned := true, wins := [{ (default : WinS) with w := { (default : Window) with kind := 3 }, used := false, hi := 1000000000000 }] } }, rfl, by decide +kernel⟩,
   ⟨0, 0, State.reset, rfl, by decide +kernel⟩,
   ⟨0, 0, { (default : TxS) with start := 10 }, { State.reset with txc := { State.reset.txc with mods := [(0, { (default : TxS) with start := 10 })] } }, rfl, by decide +kernel⟩,
   ⟨0, 0, { (default : TxS) with kind := .data default }, (default : AirFrame), { State.reset with core := { State.reset.core with ticks := 1000000 }, txc := { State.reset.txc with mods := [(0, { (default : TxS) with kind := .data default })] } }, rfl, by decide +kernel⟩,
   ⟨0, 0, { (default : TxS) with kind := .fw default }, (default : FwFrame), { State.reset with core := { State.reset.core with ticks := 1000000 }, txc := { State.reset.txc with mods := [(0, { (default : TxS) with kind := .fw default })] } }, rfl, by decide +kernel⟩,
   ⟨0, 0, { (default : TxS) with kind := .fw { (default : FwFrame) with isAck := true } }, { (default : FwFrame) with isAck := true }, { State.reset with core := { State.reset.core with ticks := 1000000 }, txc := { State.reset.txc with mods := [(0, { (default : TxS) with kind := .fw { (default : FwFrame) with isAck := true } })] } }, rfl, by decide +kernel⟩,
   ⟨0, 0, { (default : TxS) with kind := .ack default }, (default : AckPend), { State.reset with core := { State.reset.core with ticks := 1000000 }, txc := { State.reset.txc with mods := [(0, { (default : TxS) with kind := .ack default })] } }, rfl, by decide +kernel⟩⟩

/-- Every set of hypotheses of Budgets is met. -/
theorem witness_Budgets :
    (∃ (b : Fin 4) (e : Fin 16) (s : State), s.live ∧ (let u := s.cleared; let k := 16 * b.val + e.val; (u.on (sbEnFld k) = true) ∧ (u.tick % sbSw (sbOf u k) = 0) ∧ ((sbOf u k).rolled ≠ u.core.ticks + 1))) ∧
    (∃ (b : Fin 4) (e : Fin 16) (s : State), s.live ∧ (let u := s.cleared; let k := 16 * b.val + e.val; (u.on (sbEnFld k) = false ∨ u.tick % sbSw (sbOf u k) ≠ 0 ∨ (sbOf u k).rolled = u.core.ticks + 1))) ∧
    (∃ (b : Fin 4) (s : State), s.live ∧ (let u := s.cleared; (windowOn u (Reg.TXC_BANDb_DC.PRESET b).addr = true))) ∧
    (∃ (s : State), s.live ∧ (let u := s.cleared; (windowOn u Reg.TXC_FIR_COMMIT.BANKS.addr = true))) ∧
    (∃ (b : Fin 4) (s : State), s.live ∧ (let u := s.cleared; (windowOn u (Reg.TXC_BANDb_DC.PRESET b).addr = false))) ∧
    (∃ (s : State), s.live ∧ (let u := s.cleared; (windowOn u Reg.TXC_FIR_COMMIT.BANKS.addr = false))) :=
  ⟨⟨0, 0, W [((sbEnFld 0), 1)], rfl, by decide +kernel⟩,
   ⟨0, 0, W [((sbEnFld 0), 0)], rfl, by decide +kernel⟩,
   ⟨0, State.reset, rfl, by decide +kernel⟩,
   ⟨State.reset, rfl, by decide +kernel⟩,
   ⟨0, { State.reset with pwr := { State.reset.pwr with off := List.range 32 } }, rfl, by decide +kernel⟩,
   ⟨{ State.reset with pwr := { State.reset.pwr with off := List.range 32 } }, rfl, by decide +kernel⟩⟩

/-- Every set of hypotheses of MaskAndFrontEnd is met. -/
theorem witness_MaskAndFrontEnd :
    (∃ (p : Fin 4) (ofs : Fin 122880) (s : State), s.live ∧ (let v := s.asOf ofs; (v.on (Reg.TXC_MASKp_CTRL.EN p) = true) ∧ (v.on (Reg.TXC_MASKp_CTRL.ACT p) = false))) ∧
    (∃ (p : Fin 4) (ofs : Fin 122880) (s : State), s.live ∧ (let v := s.asOf ofs; (v.on (Reg.TXC_MASKp_CTRL.EN p) = true) ∧ (v.on (Reg.TXC_MASKp_CTRL.ACT p) = true) ∧ (v.on (Reg.TXC_MASKp_STAT.GATED p) = false))) ∧
    (∃ (p : Fin 4) (ofs : Fin 122880) (s : State), s.live ∧ (let v := s.asOf ofs; (v.on (Reg.TXC_MASKp_CTRL.EN p) = true) ∧ (v.on (Reg.TXC_MASKp_CTRL.ACT p) = true) ∧ (v.on (Reg.TXC_MASKp_STAT.GATED p) = true))) ∧
    (∃ (p : Fin 4) (ofs : Fin 122880) (s : State), s.live ∧ (let v := s.asOf ofs; (v.on (Reg.TXC_MASKp_CTRL.EN p) = false))) ∧
    (∃ (p : Fin 4) (s : State), s.live ∧ (let u := s.cleared; (windowOn u (Reg.TXC_MASKp_CTRL.UNGATE p).addr = true))) ∧
    (∃ (p : Fin 4) (g : Nat) (s : State), s.live ∧ (let u := s.cleared; (u.on (Reg.TXC_MASKp_STAT.GATED p) = true) ∧ (u.get (Reg.TXC_MASKp_CTRL.HOLD p) ≠ 0) ∧ (u.txc.gateClk.find? p = some g) ∧ (g + u.get (Reg.TXC_MASKp_CTRL.HOLD p) * 122880 ≤ u.clk))) ∧
    (∃ (p : Fin 4) (s : State), s.live ∧ (let u := s.cleared; (u.on (Reg.TXC_MASKp_STAT.GATED p) = false ∨ u.get (Reg.TXC_MASKp_CTRL.HOLD p) = 0))) ∧
    (∃ (n : Fin 16) (ofs : Fin 122880) (level : Bool) (s : State), s.live ∧ (let f := feSync (s.asOf ofs); (f.on (Reg.TXC_FEn_CFG.RB_EN n) = false ∨ bitAt (f.get Reg.TXC_FE_STAT.LEVEL) n = level))) ∧
    (∃ (n : Fin 16) (ofs : Fin 122880) (level : Bool) (s : State), s.live ∧ (let f := feSync (s.asOf ofs); let r := (f.put Reg.TXC_FE_STAT.RB_ERR (f.get Reg.TXC_FE_STAT.RB_ERR ||| 2 ^ n.val)).inc Reg.TXC_FE_RB.CNT; let port := r.get (Reg.TXC_FEn_CFG.PORT n); (f.on (Reg.TXC_FEn_CFG.RB_EN n) = true) ∧ (bitAt (f.get Reg.TXC_FE_STAT.LEVEL) n ≠ level) ∧ (r.on (Reg.TXC_FEn_CFG.RB_GATE n) = false ∨ r.on (Reg.TXC_MASKp_STAT.GATED port) = true))) ∧
    (∃ (n : Fin 16) (ofs : Fin 122880) (level : Bool) (s : State), s.live ∧ (let f := feSync (s.asOf ofs); let r := (f.put Reg.TXC_FE_STAT.RB_ERR (f.get Reg.TXC_FE_STAT.RB_ERR ||| 2 ^ n.val)).inc Reg.TXC_FE_RB.CNT; (f.on (Reg.TXC_FEn_CFG.RB_EN n) = true) ∧ (bitAt (f.get Reg.TXC_FE_STAT.LEVEL) n ≠ level) ∧ (r.get (Reg.TXC_FEn_CFG.SRC n) ≠ 1) ∧ (r.get (Reg.TXC_FEn_CFG.SRC n) ≠ 2))) ∧
    (∃ (n : Fin 16) (ofs : Fin 122880) (level : Bool) (s : State), s.live ∧ (let f := feSync (s.asOf ofs); let r := (f.put Reg.TXC_FE_STAT.RB_ERR (f.get Reg.TXC_FE_STAT.RB_ERR ||| 2 ^ n.val)).inc Reg.TXC_FE_RB.CNT; let port := r.get (Reg.TXC_FEn_CFG.PORT n); (f.on (Reg.TXC_FEn_CFG.RB_EN n) = true) ∧ (bitAt (f.get Reg.TXC_FE_STAT.LEVEL) n ≠ level) ∧ (r.on (Reg.TXC_FEn_CFG.RB_GATE n) = true) ∧ (r.get (Reg.TXC_FEn_CFG.SRC n) = 1 ∨ r.get (Reg.TXC_FEn_CFG.SRC n) = 2) ∧ (r.on (Reg.TXC_MASKp_STAT.GATED port) = false))) :=
  ⟨⟨0, 0, W [((Reg.TXC_MASKp_CTRL.EN (0)), 1), ((Reg.TXC_MASKp_CTRL.ACT (0)), 0)], rfl, by decide +kernel⟩,
   ⟨0, 0, W [((Reg.TXC_MASKp_CTRL.EN (0)), 1), ((Reg.TXC_MASKp_CTRL.ACT (0)), 1), ((Reg.TXC_MASKp_STAT.GATED (0)), 0)], rfl, by decide +kernel⟩,
   ⟨0, 0, W [((Reg.TXC_MASKp_CTRL.EN (0)), 1), ((Reg.TXC_MASKp_CTRL.ACT (0)), 1), ((Reg.TXC_MASKp_STAT.GATED (0)), 1)], rfl, by decide +kernel⟩,
   ⟨0, 0, W [((Reg.TXC_MASKp_CTRL.EN (0)), 0)], rfl, by decide +kernel⟩,
   ⟨0, State.reset, rfl, by decide +kernel⟩,
   ⟨0, 0, { W [((Reg.TXC_MASKp_STAT.GATED (0)), 1), ((Reg.TXC_MASKp_CTRL.HOLD (0)), 0 + 1), (Reg.TXC_MASKp_STAT.GATED 0, 1), (Reg.TXC_MASKp_CTRL.HOLD 0, 1)] with core := { State.reset.core with ticks := 5 }, txc := { State.reset.txc with gateClk := [(0, 0)] } }, rfl, by decide +kernel⟩,
   ⟨0, W [((Reg.TXC_MASKp_STAT.GATED (0)), 0)], rfl, by decide +kernel⟩,
   ⟨0, 0, false, W [((Reg.TXC_FEn_CFG.RB_EN (0)), 0)], rfl, by decide +kernel⟩,
   ⟨0, 0, true, W [((Reg.TXC_FEn_CFG.RB_EN (0)), 1), ((Reg.TXC_FEn_CFG.RB_GATE (0)), 0), (Reg.TXC_FEn_CFG.RB_EN 0, 1)], rfl, by decide +kernel⟩,
   ⟨0, 0, true, W [((Reg.TXC_FEn_CFG.RB_EN (0)), 1), ((Reg.TXC_FEn_CFG.SRC (0)), 0), (Reg.TXC_FEn_CFG.RB_EN 0, 1)], rfl, by decide +kernel⟩,
   ⟨0, 0, true, W [((Reg.TXC_FEn_CFG.RB_EN (0)), 1), ((Reg.TXC_FEn_CFG.RB_GATE (0)), 1), ((Reg.TXC_FEn_CFG.SRC (0)), 1), (Reg.TXC_FEn_CFG.RB_EN 0, 1), (Reg.TXC_FEn_CFG.RB_GATE 0, 1), (Reg.TXC_FEn_CFG.SRC 0, 1)], rfl, by decide +kernel⟩⟩

/-- Every set of hypotheses of FloodTimers is met. -/
theorem witness_FloodTimers :
    (∃ (i : Fin 256) (m : FloodMsg) (s : State), s.live ∧ (let u := s.cleared; (u.fld.buf[i.val]? = some m) ∧ (u.fld.buf.all (fun y => decide (u.ms < y.start + y.interval)) = true) ∧ (m.shot = false) ∧ (u.effOn Reg.FLD_CTRL.EN = true) ∧ (m.start + m.interval / 2 ≤ u.ms) ∧ (m.count < maxIntervals u m.tenant))) ∧
    (∃ (i : Fin 256) (m : FloodMsg) (s : State), s.live ∧ (let u := s.cleared; (u.fld.buf[i.val]? = some m) ∧ (u.fld.buf.all (fun y => decide (u.ms < y.start + y.interval)) = true) ∧ (m.shot = true ∨ u.effOn Reg.FLD_CTRL.EN = false ∨ u.ms < m.start + m.interval / 2))) ∧
    (∃ (s : State), s.live ∧ (let u := s.cleared; (u.fld.buf.all (fun y => decide (u.ms < y.start + y.interval)) = true))) ∧
    (∃ (m : FloodMsg) (s : State), s.live ∧ (let u := s.cleared; (u.fld.buf = [m]) ∧ (m.start + m.interval ≤ u.ms) ∧ (m.count + 1 = maxIntervals u m.tenant))) ∧
    (∃ (m : FloodMsg) (s : State), s.live ∧ (let u := s.cleared; (u.fld.buf = [m]) ∧ (m.start + m.interval ≤ u.ms) ∧ (m.count + 1 < maxIntervals u m.tenant))) ∧
    (∃ (s : State), s.live ∧ (let u := s.cleared; (u.fld.seen.all (fun y => decide (u.clk < y.expire)) = true))) ∧
    (∃ (x : Seen) (d : Seed) (s : State), s.live ∧ (let u := s.cleared; (u.fld.seen = [x]) ∧ (x.expire ≤ u.clk) ∧ (u.fld.seeds = [d]) ∧ (d.tenant = x.tenant) ∧ (d.seed = x.seed) ∧ (serialOlder x.seq d.minSeq = false))) ∧
    (∃ (s : State), s.live ∧ (let u := s.cleared; (u.fwd.reasm.all (fun y => decide (u.clk < y.deadline)) = true))) ∧
    (∃ (c : Reasm) (s : State), s.live ∧ (let u := s.cleared; (u.fwd.reasm = [c]) ∧ (c.deadline ≤ u.clk))) :=
  ⟨⟨0, { (default : FloodMsg) with start := 0, interval := 100 }, { W [(Reg.FLD_CTRL.EN, 1)] with core := { State.reset.core with ticks := 500 }, fld := { State.reset.fld with buf := [{ (default : FloodMsg) with start := 0, interval := 100 }] } }, rfl, by decide +kernel⟩,
   ⟨0, { (default : FloodMsg) with shot := true, interval := 100 }, { State.reset with fld := { State.reset.fld with buf := [{ (default : FloodMsg) with shot := true, interval := 100 }] } }, rfl, by decide +kernel⟩,
   ⟨State.reset, rfl, by decide +kernel⟩,
   ⟨{ (default : FloodMsg) with count := maxIntervals State.reset 0 - 1 }, { State.reset with fld := { State.reset.fld with buf := [{ (default : FloodMsg) with count := maxIntervals State.reset 0 - 1 }] } }, rfl, by decide +kernel⟩,
   ⟨(default : FloodMsg), { State.reset with fld := { State.reset.fld with buf := [((default : FloodMsg))] } }, rfl, by decide +kernel⟩,
   ⟨State.reset, rfl, by decide +kernel⟩,
   ⟨(default : Seen), { (default : Seed) with tenant := ((default : Seen)).tenant, seed := ((default : Seen)).seed }, { State.reset with fld := { State.reset.fld with seen := [((default : Seen))], seeds := [({ (default : Seed) with tenant := ((default : Seen)).tenant, seed := ((default : Seen)).seed })] }, core := { State.reset.core with ticks := 1000000 } }, rfl, by decide +kernel⟩,
   ⟨State.reset, rfl, by decide +kernel⟩,
   ⟨(default : Reasm), { State.reset with fwd := { State.reset.fwd with reasm := [((default : Reasm))] }, core := { State.reset.core with ticks := 1000000 } }, rfl, by decide +kernel⟩⟩

/-- Every set of hypotheses of RingsAndResets is met. -/
theorem witness_RingsAndResets :
    (∃ (fn : Fin 257) (s : State), s.live ∧ (let u := s.cleared; (fn.val ≠ 0) ∧ (u.hif.fetched.filter (ofRing fn none) = []))) ∧
    (∃ (fn : Fin 257) (r : Fin 16) (s : State), s.live ∧ (let u := s.cleared; (windowOn u (Reg.HIF_Rr_CFG.EN fn r).addr = false))) ∧
    (∃ (fn : Fin 257) (r : Fin 16) (s : State), s.live ∧ (let u := s.cleared; (windowOn u (Reg.HIF_Rr_CFG.EN fn r).addr = true) ∧ (ringExists fn r = true) ∧ (u.on (Reg.HIF_Rr_CFG.EN fn r) = false) ∧ (fn.val ≠ 0))) ∧
    (∃ (fn : Fin 257) (r : Fin 16) (s : State), s.live ∧ (let u := s.cleared; (windowOn u (Reg.HIF_Rr_CFG.EN fn r).addr = true) ∧ (ringExists fn r = false ∨ u.on (Reg.HIF_Rr_CFG.EN fn r) = true))) ∧
    (∃ (fn : Fin 257) (tr : Fin 4) (s : State), s.live ∧ (let u := s.cleared; (windowOn u (Reg.HIF_Rr_CFG.EN fn tr).addr = true) ∧ (u.on (Reg.HIF_Rr_CFG.EN fn tr) = true))) ∧
    (∃ (fn : Fin 257) (tr : Fin 4) (s : State), s.live ∧ (let u := s.cleared; (windowOn u (Reg.HIF_Rr_CFG.EN fn tr).addr = true) ∧ (u.on (Reg.HIF_Rr_CFG.EN fn tr) = false))) ∧
    (∃ (fn : Fin 257) (pr : Fin 8) (s : State), s.live ∧ (let u := s.cleared; (windowOn u (Reg.HIF_Rr_CFG.EN fn (6 + pr)).addr = true) ∧ (ringExists fn (6 + pr) = true) ∧ (u.on (Reg.HIF_Rr_CFG.EN fn (6 + pr)) = true))) ∧
    (∃ (fn : Fin 257) (pr : Fin 8) (s : State), s.live ∧ (let u := s.cleared; (windowOn u (Reg.HIF_Rr_CFG.EN fn (6 + pr)).addr = true) ∧ (ringExists fn (6 + pr) = false ∨ u.on (Reg.HIF_Rr_CFG.EN fn (6 + pr)) = false))) :=
  ⟨⟨1, State.reset, rfl, by decide +kernel⟩,
   ⟨0, 0, { State.reset with pwr := { State.reset.pwr with off := List.range 32 } }, rfl, by decide +kernel⟩,
   ⟨1, 0, W [((Reg.HIF_Rr_CFG.EN (1) (0)), 0)], rfl, by decide +kernel⟩,
   ⟨1, 11, State.reset, rfl, by decide +kernel⟩,
   ⟨0, 0, W [((Reg.HIF_Rr_CFG.EN (0) (0)), 1)], rfl, by decide +kernel⟩,
   ⟨0, 0, W [((Reg.HIF_Rr_CFG.EN (0) (0)), 0)], rfl, by decide +kernel⟩,
   ⟨0, 0, W [((Reg.HIF_Rr_CFG.EN (0) (6 + (0))), 1)], rfl, by decide +kernel⟩,
   ⟨0, 0, State.reset, rfl, by decide +kernel⟩⟩

/-- Every set of hypotheses of HostDeliveries is met. -/
theorem witness_HostDeliveries :
    (∃ (p : FqPkt) (s : State), s.live ∧ (let u := s.cleared; (canDeliver u 256 = true) ∧ (eligible u (.port portHost) = true) ∧ (fqHead u 256 = some p))) ∧
    (∃ (s : State), s.live ∧ (let u := s.cleared; let sets := (u.tm.fq.map (·.1)).filter (fun t => decide (t < 256) && (fqHead u t).isSome && canDeliver u t && eligible u (.port portHost) && eligible u (.tenant t portHost)); (fqHead u 256 = none) ∧ (leastTag u (sets.map leafHost) = none))) ∧
    (∃ (p : FqPkt) (k : Nat) (s : State), s.live ∧ (let u := s.cleared; let sets := (u.tm.fq.map (·.1)).filter (fun t => decide (t < 256) && (fqHead u t).isSome && canDeliver u t && eligible u (.port portHost) && eligible u (.tenant t portHost)); (fqHead u 256 = none) ∧ (leastTag u (sets.map leafHost) = some k) ∧ (fqHead u (k - 8192) = some p))) ∧
    (∃ (s : State), s.live ∧ (let u := s.cleared; (u.on Reg.HIF_STAT.SBK_OVF = false))) ∧
    (∃ (s : State), s.live ∧ (let u := s.cleared; (u.on Reg.HIF_STAT.SBK_OVF = true) ∧ (ringTakes u 0 ringSBK = true) ∧ (u.hif.sbkAll = false))) ∧
    (∃ (s : State), s.live ∧ (let u := s.cleared; (u.on Reg.HIF_STAT.SBK_OVF = true) ∧ (ringTakes u 0 ringSBK = true) ∧ (u.hif.sbkAll = true))) ∧
    (∃ (s : State), s.live ∧ (let u := s.cleared; (windowOn u Reg.FQ_POLL_TAG.TAG.addr = true))) ∧
    (∃ (s : State), s.live ∧ (let u := s.cleared; (windowOn u Reg.FQ_POLL_TAG.TAG.addr = false))) ∧
    (∃ (s : State), s.live ∧ (let u := s.cleared; (u.on Reg.FQ_POLL_SEL.EN = false))) :=
  ⟨⟨(default : FqPkt), { W [(Reg.HIF_FN_CTRL.EN 0, 1), (Reg.HIF_Rr_CFG.EN 0 ringEXC, 1), (Reg.HIF_Rr_STAT.STATE 0 ringEXC, 1), (Reg.TM_Pp_CFG.SH_EN portHost, 0), (Reg.FQ_POLL_SEL.EN, 0)] with hif := { State.reset.hif with fns := [(0, { (default : FnS) with buffers := [(0, 0)] })] }, tm := { State.reset.tm with fq := [(256, { (default : FqSet) with pkts := [default] })] } }, rfl, by decide +kernel⟩,
   ⟨State.reset, rfl, by decide +kernel⟩,
   ⟨(default : FqPkt), 8192, { W [(Reg.HIF_Tt_CFG.EN 0, 1), (Reg.HIF_FN_CTRL.EN 1, 1), (Reg.HIF_Rr_CFG.EN 1 ringRXCPL, 1), (Reg.HIF_Rr_STAT.STATE 1 ringRXCPL, 1), (Reg.TM_Pp_CFG.SH_EN portHost, 0), (Reg.FQ_POLL_SEL.EN, 0), (Reg.TM_Tt_SHRp.EN 0 portHost, 0)] with hif := { State.reset.hif with pcie := { State.reset.hif.pcie with vfEn := true, numVfs := 1 }, fns := [(1, { (default : FnS) with buffers := [(0, 0)] })] }, tm := { State.reset.tm with fq := [(0, { (default : FqSet) with pkts := [default] })] } }, rfl, by decide +kernel⟩,
   ⟨W [(Reg.HIF_STAT.SBK_OVF, 0)], rfl, by decide +kernel⟩,
   ⟨{ W [(Reg.HIF_STAT.SBK_OVF, 1), (Reg.HIF_Rr_CFG.EN 0 ringSBK, 1), (Reg.HIF_Rr_STAT.STATE 0 ringSBK, 1)] with hif := { State.reset.hif with sbkAll := false } }, rfl, by decide +kernel⟩,
   ⟨{ W [(Reg.HIF_STAT.SBK_OVF, 1), (Reg.HIF_Rr_CFG.EN 0 ringSBK, 1), (Reg.HIF_Rr_STAT.STATE 0 ringSBK, 1)] with hif := { State.reset.hif with sbkAll := true } }, rfl, by decide +kernel⟩,
   ⟨State.reset, rfl, by decide +kernel⟩,
   ⟨{ State.reset with pwr := { State.reset.pwr with off := List.range 32 } }, rfl, by decide +kernel⟩,
   ⟨W [(Reg.FQ_POLL_SEL.EN, 0)], rfl, by decide +kernel⟩⟩

/-- Every set of hypotheses of EthernetPorts is met. -/
theorem witness_EthernetPorts :
    (∃ (p : Fin 2) (s : State), s.live ∧ (let u := s.cleared; (u.tm.linkUp.contains p.val = false))) ∧
    (∃ (p : Fin 2) (k : Nat) (x : EthPkt) (y : EthPkt) (l : List EthPkt) (s : State), s.live ∧ (let u := s.cleared; let q := k % 32; let t := k / 32; (u.effOn Reg.TM_CTRL.EN = true) ∧ (u.tm.linkUp.contains p.val = true) ∧ (leastTag u (ethEligible u p) = some k) ∧ ((tqOf u t q).eth = x :: y :: l))) ∧
    (∃ (p : Fin 2) (tn : Fin 256) (pkt : Packet) (s : State), s.live ∧ (let u := s.cleared; (u.tm.linkUp.contains p.val = true) ∧ (pdOn u 24 = true) ∧ (u.on (Bucket.policer tn.val).enFld = false) ∧ (u.effOn Reg.FWD_CTRL.EN = true) ∧ (isMulticast pkt.dst = true))) ∧
    (∃ (p : Fin 2) (tn : Fin 256) (pkt : Packet) (s : State), s.live ∧ (let u := s.cleared; (u.tm.linkUp.contains p.val = true) ∧ (pdOn u 24 = true) ∧ (u.on (Bucket.policer tn.val).enFld = false) ∧ (u.effOn Reg.FWD_CTRL.EN = true) ∧ (isMulticast pkt.dst = false))) ∧
    (∃ (p : Fin 2) (s : State), s.live ∧ (let u := s.cleared; (u.tm.linkUp.contains p.val = true))) ∧
    (∃ (s : State), s.live ∧ (let u := s.cleared; (pdOn u 24 = true))) ∧
    (∃ (s : State), s.live ∧ (let u := s.cleared; (pdOn u 24 = false))) ∧
    (∃ (p : Fin 2) (s : State), s.live ∧ (let u := s.cleared; (u.tm.linkUp.contains p.val = false) ∧ (u.tm.ethSince.getD 0 p + 4000 ≤ u.core.ticks) ∧ (pdOn u 24 = true))) ∧
    (∃ (p : Fin 2) (s : State), s.live ∧ (let u := s.cleared; (u.tm.linkUp.contains p.val = true ∨ u.core.ticks < u.tm.ethSince.getD 0 p + 4000))) :=
  ⟨⟨0, State.reset, rfl, by decide +kernel⟩,
   ⟨0, 0, (default : EthPkt), (default : EthPkt), [], { W [(Reg.TM_Pp_CFG.SH_EN 0, 0), (Reg.TM_Tt_SHRp.EN 0 0, 0), (Reg.TM_Tt_Qq_SHR.EN 0 0, 0), (Reg.TM_Tt_Qq_CFG.PORT 0 0, 0), (Reg.TM_CTRL.EN, 1)] with tm := { State.reset.tm with linkUp := [0], tq := [(0, { (default : TqS) with eth := [default, default] })] } }, rfl, by decide +kernel⟩,
   ⟨0, 0, { (default : Packet) with dst := 255 }, { W [((Bucket.policer 0).enFld, 0), (Reg.FWD_CTRL.EN, 1)] with tm := { State.reset.tm with linkUp := [0] } }, rfl, by decide +kernel⟩,
   ⟨0, 0, (default : Packet), { W [((Bucket.policer 0).enFld, 0), (Reg.FWD_CTRL.EN, 1)] with tm := { State.reset.tm with linkUp := [0] } }, rfl, by decide +kernel⟩,
   ⟨0, { State.reset with tm := { State.reset.tm with linkUp := [0] } }, rfl, by decide +kernel⟩,
   ⟨State.reset, rfl, by decide +kernel⟩,
   ⟨{ State.reset with pwr := { State.reset.pwr with off := [24] } }, rfl, by decide +kernel⟩,
   ⟨0, { State.reset with core := { State.reset.core with ticks := 1000000 } }, rfl, by decide +kernel⟩,
   ⟨0, { State.reset with tm := { State.reset.tm with linkUp := [0] } }, rfl, by decide +kernel⟩⟩

/-- Every set of hypotheses of TableCommands is met. -/
theorem witness_TableCommands :
    (∃ (ofs : Fin 122880) (s : State), s.live ∧ (let v := s.asOf ofs; let w := tcmdSettle v; (windowOn s Reg.FWD_TCMD.GO.addr = true) ∧ (w.on Reg.FWD_TCMD.BUSY = true))) ∧
    (∃ (ofs : Fin 122880) (s : State), s.live ∧ (let v := s.asOf ofs; let w := tcmdSettle v; (windowOn s Reg.FWD_TCMD.GO.addr = true) ∧ (w.on Reg.FWD_TCMD.BUSY = false))) ∧
    (∃ (ofs : Fin 122880) (tb : Fin 4) (s : State), s.live ∧ (let v := s.asOf ofs; let w := tcmdSettle v; (windowOn s Reg.FWD_TCMD.GO.addr = true) ∧ (tb.val < 2) ∧ (tableOff w tb = false) ∧ (w.get Reg.FWD_TLOC.BUCKET < 98304))) ∧
    (∃ (ofs : Fin 122880) (tb : Fin 4) (s : State), s.live ∧ (let v := s.asOf ofs; let w := tcmdSettle v; (windowOn s Reg.FWD_TCMD.GO.addr = true) ∧ (tb.val < 2) ∧ (tableOff w tb = false) ∧ ((tbuf w).okType = false))) ∧
    (∃ (ofs : Fin 122880) (tb : Fin 4) (s : State), s.live ∧ (let v := s.asOf ofs; let w := tcmdSettle v; (windowOn s Reg.FWD_TCMD.GO.addr = true) ∧ (tb.val < 2) ∧ (tableOff w tb = false) ∧ (emtFind w tb (tbuf w).ty (tbuf w).tenant (tbuf w).key = none) ∧ ((tbuf w).okType = true))) ∧
    (∃ (ofs : Fin 122880) (tb : Fin 4) (s : State), s.live ∧ (let v := s.asOf ofs; let w := tcmdSettle v; (windowOn s Reg.FWD_TCMD.GO.addr = true) ∧ (tb.val < 2) ∧ (tableOff w tb = false) ∧ (emtFind w tb (tbuf w).ty (tbuf w).tenant (tbuf w).key = none))) ∧
    (∃ (ofs : Fin 122880) (tb : Fin 4) (k : Nat) (s : State), s.live ∧ (let v := s.asOf ofs; let w := tcmdSettle v; (windowOn s Reg.FWD_TCMD.GO.addr = true) ∧ (tb.val < 2) ∧ (tableOff w tb = false) ∧ (emtFind w tb (tbuf w).ty (tbuf w).tenant (tbuf w).key = some k))) ∧
    (∃ (ofs : Fin 122880) (tb : Fin 4) (k : Nat) (s : State), s.live ∧ (let v := s.asOf ofs; let w := tcmdSettle v; (windowOn s Reg.FWD_TCMD.GO.addr = true) ∧ (tb.val < 2) ∧ (tableOff w tb = false) ∧ (emtFind w tb (tbuf w).ty (tbuf w).tenant (tbuf w).key = some k) ∧ ((emtAt w tb k).origin = 2))) ∧
    (∃ (ofs : Fin 122880) (tb : Fin 4) (k : Nat) (s : State), s.live ∧ (let v := s.asOf ofs; let w := tcmdSettle v; (windowOn s Reg.FWD_TCMD.GO.addr = true) ∧ (tb.val < 2) ∧ (tableOff w tb = false) ∧ (emtFind w tb (tbuf w).ty (tbuf w).tenant (tbuf w).key = some k) ∧ ((emtAt w tb k).origin ≠ 2))) ∧
    (∃ (ofs : Fin 122880) (s : State), s.live ∧ (let v := s.asOf ofs; (windowOn s Reg.FWD_TCMD.GO.addr = true) ∧ (v.on Reg.FWD_TCMD.BUSY = true) ∧ (v.fwd.tcmdEnd ≤ v.clk))) ∧
    (∃ (tb : Fin 4) (s : State), s.live ∧ ((windowOn s Reg.FWD_TCMD.GO.addr = true) ∧ (2 ≤ tb.val))) :=
  ⟨⟨0, { W [(Reg.FWD_TCMD.BUSY, 1)] with fwd := { State.reset.fwd with tcmdEnd := 1000000 } }, rfl, by decide +kernel⟩,
   ⟨0, W [(Reg.FWD_TCMD.BUSY, 0)], rfl, by decide +kernel⟩,
   ⟨0, 0, W [(Reg.FWD_TLOC.BUCKET, 0)], rfl, by decide +kernel⟩,
   ⟨0, 0, State.reset, rfl, by decide +kernel⟩,
   ⟨0, 0, W [(Reg.FWD_TBUFi.WORD 0, 16)], rfl, by decide +kernel⟩,
   ⟨0, 0, State.reset, rfl, by decide +kernel⟩,
   ⟨0, 0, (4 * (emtHash State.reset 0 0 0 0).2.1), { State.reset with fwd := { State.reset.fwd with p0 := { State.reset.fwd.p0 with emt := [((4 * (emtHash State.reset 0 0 0 0).2.1), { (default : EmtEntry) with valid := true, origin := 1 })] } } }, rfl, by decide +kernel⟩,
   ⟨0, 0, (4 * (emtHash State.reset 0 0 0 0).2.1), { State.reset with fwd := { State.reset.fwd with p0 := { State.reset.fwd.p0 with emt := [((4 * (emtHash State.reset 0 0 0 0).2.1), { (default : EmtEntry) with valid := true, origin := 2 })] } } }, rfl, by decide +kernel⟩,
   ⟨0, 0, (4 * (emtHash State.reset 0 0 0 0).2.1), { State.reset with fwd := { State.reset.fwd with p0 := { State.reset.fwd.p0 with emt := [((4 * (emtHash State.reset 0 0 0 0).2.1), { (default : EmtEntry) with valid := true, origin := 1 })] } } }, rfl, by decide +kernel⟩,
   ⟨0, { W [(Reg.FWD_TCMD.BUSY, 1)] with core := { State.reset.core with ticks := 1000000 } }, rfl, by decide +kernel⟩,
   ⟨2, State.reset, rfl, by decide +kernel⟩⟩

/-- Every set of hypotheses of NodeTableCommands is met. -/
theorem witness_NodeTableCommands :
    (∃ (s : State), s.live ∧ (let u := s.cleared; (windowOn u Reg.FWD_NTCMD.GO.addr = false))) ∧
    (∃ (region : Fin 2) (s : State), s.live ∧ (let u := s.cleared; let r0 := (u.put Reg.FWD_NTCMD.OP 0).put Reg.FWD_NTCMD.REGION region; let i0 := r0.get Reg.FWD_NTIDX.INDEX; (windowOn u Reg.FWD_NTCMD.GO.addr = true) ∧ (region = 0) ∧ (i0 < 262144))) ∧
    (∃ (region : Fin 2) (s : State), s.live ∧ (let u := s.cleared; let r0 := (u.put Reg.FWD_NTCMD.OP 0).put Reg.FWD_NTCMD.REGION region; let i0 := r0.get Reg.FWD_NTIDX.INDEX; (windowOn u Reg.FWD_NTCMD.GO.addr = true) ∧ (region = 0) ∧ (262144 ≤ i0))) ∧
    (∃ (region : Fin 2) (s : State), s.live ∧ (let u := s.cleared; let r0 := (u.put Reg.FWD_NTCMD.OP 0).put Reg.FWD_NTCMD.REGION region; (windowOn u Reg.FWD_NTCMD.GO.addr = true) ∧ (region = 1) ∧ (ntcOpen r0 = true))) ∧
    (∃ (region : Fin 2) (s : State), s.live ∧ (let u := s.cleared; let r1 := (u.put Reg.FWD_NTCMD.OP 1).put Reg.FWD_NTCMD.REGION region; let i1 := r1.get Reg.FWD_NTIDX.INDEX; (windowOn u Reg.FWD_NTCMD.GO.addr = true) ∧ (region = 0) ∧ (i1 < 262144))) ∧
    (∃ (region : Fin 2) (s : State), s.live ∧ (let u := s.cleared; let r1 := (u.put Reg.FWD_NTCMD.OP 1).put Reg.FWD_NTCMD.REGION region; let i1 := r1.get Reg.FWD_NTIDX.INDEX; let x := ntcUnpack (fun j => r1.get (Reg.FWD_NTBUFi.WORD j)); (windowOn u Reg.FWD_NTCMD.GO.addr = true) ∧ (region = 1) ∧ ((ntcOf r1 i1).isLocal = false) ∧ (x.isLocal = false))) ∧
    (∃ (region : Fin 2) (s : State), s.live ∧ (let u := s.cleared; let r1 := (u.put Reg.FWD_NTCMD.OP 1).put Reg.FWD_NTCMD.REGION region; let i1 := r1.get Reg.FWD_NTIDX.INDEX; let x := ntcUnpack (fun j => r1.get (Reg.FWD_NTBUFi.WORD j)); (windowOn u Reg.FWD_NTCMD.GO.addr = true) ∧ (region = 1) ∧ ((ntcOf r1 i1).isLocal = true ∨ x.isLocal = true))) :=
  ⟨⟨{ State.reset with pwr := { State.reset.pwr with off := List.range 32 } }, rfl, by decide +kernel⟩,
   ⟨0, State.reset, rfl, by decide +kernel⟩,
   ⟨0, W [(Reg.FWD_NTIDX.INDEX, 262144)], rfl, by decide +kernel⟩,
   ⟨1, W [(Reg.FWD_STAT.NTC_OPEN, 1)], rfl, by decide +kernel⟩,
   ⟨0, State.reset, rfl, by decide +kernel⟩,
   ⟨1, State.reset, rfl, by decide +kernel⟩,
   ⟨1, { State.reset with fwd := { State.reset.fwd with ntc := [(0, { (default : NtC) with isLocal := true })] } }, rfl, by decide +kernel⟩⟩

/-- Every set of hypotheses of TableUpkeep is met. -/
theorem witness_TableUpkeep :
    (∃ (p : Fin 2) (s : State), s.live ∧ (let u := s.cleared; (windowOn u (Reg.FWD_EMTp_CTRL.REBUILD p).addr = true) ∧ (u.on (Reg.FWD_EMTp_CTRL.REBUILD p) = false))) ∧
    (∃ (p : Fin 2) (s : State), s.live ∧ (let u := s.cleared; (windowOn u (Reg.FWD_EMTp_CTRL.REBUILD p).addr = true) ∧ (u.on (Reg.FWD_EMTp_CTRL.REBUILD p) = true))) ∧
    (∃ (p : Fin 2) (s : State), s.live ∧ (let u := s.cleared; (windowOn u (Reg.FWD_EMTp_CTRL.JOIN_FILL p).addr = true))) ∧
    (∃ (p : Fin 2) (s : State), s.live ∧ (let u := s.cleared; (u.on (Reg.FWD_EMTp_CTRL.JOIN_FILL p) = true))) ∧
    (∃ (p : Fin 2) (s : State), s.live ∧ (let u := s.cleared; (u.on (Reg.FWD_EMTp_CTRL.JOIN_FILL p) = false))) ∧
    (∃ (s : State), s.live ∧ (let u := s.cleared; (u.get Reg.FWD_LEARN.AGE = 0))) ∧
    (∃ (s : State), s.live ∧ (let u := s.cleared; (u.get Reg.FWD_LEARN.AGE ≠ 0) ∧ (pdOn u 20 = true) ∧ (pdOn u 21 = false))) ∧
    (∃ (s : State), s.live ∧ (let u := s.cleared; (comparerOn u = false))) ∧
    (∃ (s : State), s.live ∧ (let u := s.cleared; (comparerOn u = true) ∧ (u.on Reg.FWD_SHADOW_CFG.PAUSE = true ∨ u.fwd.diffs = []))) ∧
    (∃ (d : Diff) (l : List Diff) (s : State), s.live ∧ (let u := s.cleared; (comparerOn u = true) ∧ (u.on Reg.FWD_SHADOW_CFG.PAUSE = false) ∧ (u.fwd.diffs = d :: l) ∧ (d.due ≤ u.core.ticks))) ∧
    (∃ (e : EmtEntry) (d : Diff) (l : List Diff) (s : State), s.live ∧ (let u := s.cleared; let r := modFwd (fun w => { w with diffs := l }) u; (comparerOn u = true) ∧ (u.on Reg.FWD_SHADOW_CFG.PAUSE = false) ∧ (u.fwd.diffs = d :: l) ∧ (d.due ≤ u.core.ticks) ∧ (d.touched = true ∨ stillDiffers r d e = false))) ∧
    (∃ (e : EmtEntry) (d : Diff) (l : List Diff) (s : State), s.live ∧ (let u := s.cleared; let r := modFwd (fun w => { w with diffs := l }) u; (comparerOn u = true) ∧ (u.on Reg.FWD_SHADOW_CFG.PAUSE = false) ∧ (u.fwd.diffs = d :: l) ∧ (d.due ≤ u.core.ticks) ∧ (d.touched = false) ∧ (stillDiffers r d e = true))) ∧
    (∃ (s : State), s.live ∧ (let u := s.cleared; (windowOn u Reg.FWD_DIV.VALID.addr = true) ∧ (u.fwd.divLog = []))) ∧
    (∃ (s : State) (t : Nat) (k : Nat) (sid : Nat) (q : List (Nat × Nat × Nat)), s.live ∧ (let u := s.cleared; (windowOn u Reg.FWD_DIV.VALID.addr = true) ∧ (u.fwd.divLog = (t, k, sid) :: q))) :=
  ⟨⟨0, W [((Reg.FWD_EMTp_CTRL.REBUILD (0)), 0)], rfl, by decide +kernel⟩,
   ⟨0, W [((Reg.FWD_EMTp_CTRL.REBUILD (0)), 1)], rfl, by decide +kernel⟩,
   ⟨0, State.reset, rfl, by decide +kernel⟩,
   ⟨0, W [((Reg.FWD_EMTp_CTRL.JOIN_FILL (0)), 1)], rfl, by decide +kernel⟩,
   ⟨0, W [((Reg.FWD_EMTp_CTRL.JOIN_FILL (0)), 0)], rfl, by decide +kernel⟩,
   ⟨W [(Reg.FWD_LEARN.AGE, 0)], rfl, by decide +kernel⟩,
   ⟨{ W [(Reg.FWD_LEARN.AGE, 0 + 1)] with pwr := { State.reset.pwr with off := [21] } }, rfl, by decide +kernel⟩,
   ⟨State.reset, rfl, by decide +kernel⟩,
   ⟨W [(Reg.FWD_SHADOW_CFG.PAUSE, 1), (Reg.FWD_SHADOW_CFG.EN, 1)], rfl, by decide +kernel⟩,
   ⟨(default : Diff), [], { W [(Reg.FWD_SHADOW_CFG.PAUSE, 0), (Reg.FWD_SHADOW_CFG.EN, 1)] with fwd := { State.reset.fwd with diffs := [default] }, core := { State.reset.core with ticks := 1000000 } }, rfl, by decide +kernel⟩,
   ⟨(default : EmtEntry), { (default : Diff) with touched := true }, [], { W [(Reg.FWD_SHADOW_CFG.PAUSE, 0), (Reg.FWD_SHADOW_CFG.EN, 1)] with fwd := { State.reset.fwd with diffs := [{ (default : Diff) with touched := true }] }, core := { State.reset.core with ticks := 1000000 } }, rfl, by decide +kernel⟩,
   ⟨{ (default : EmtEntry) with valid := true, tables := 3 }, (default : Diff), [], { W [(Reg.FWD_SHADOW_CFG.PAUSE, 0), (Reg.FWD_SHADOW_CFG.EN, 1)] with fwd := { State.reset.fwd with diffs := [default] }, core := { State.reset.core with ticks := 1000000 } }, rfl, by decide +kernel⟩,
   ⟨{ State.reset with fwd := { State.reset.fwd with divLog := [] } }, rfl, by decide +kernel⟩,
   ⟨{ State.reset with fwd := { State.reset.fwd with divLog := ((0), (0), (0)) :: ([]) } }, 0, 0, 0, [], rfl, by decide +kernel⟩⟩

/-- Every set of hypotheses of VaultSubmission is met. -/
theorem witness_VaultSubmission :
    (∃ (s : State), s.live ∧ (let u := s.cleared; (vaultRoom u 0 = true))) ∧
    (∃ (s : State), s.live ∧ (let u := s.cleared; (vaultRoom u 0 = false))) ∧
    (∃ (s : State), s.live ∧ (let u := s.cleared; (regBusy u = true))) ∧
    (∃ (s : State), s.live ∧ (let u := s.cleared; (regBusy u = false))) ∧
    (∃ (code : Fin 256) (s : State), s.live ∧ (let u := s.cleared; (regBusy u = false) ∧ (code.val = 0 ∨ 11 < code.val))) ∧
    (∃ (fn : Fin 257) (e : CmdEntry) (s : State), s.live ∧ (let u := s.cleared; (cmdNext u fn 0x41 = some e) ∧ (vaultRoom u fn = true))) ∧
    (∃ (fn : Fin 257) (e : CmdEntry) (s : State), s.live ∧ (let u := s.cleared; (cmdNext u fn 0x49 = some e) ∧ (vaultRoom u fn = true))) ∧
    (∃ (fn : Fin 257) (e : CmdEntry) (s : State), s.live ∧ (let u := s.cleared; (cmdNext u fn 0x41 = some e) ∧ (vaultRoom u fn = false))) ∧
    (∃ (fn : Fin 257) (s : State), s.live ∧ (let u := s.cleared; (cmdNext u fn 0x41 = none))) :=
  ⟨⟨State.reset, rfl, by decide +kernel⟩,
   ⟨{ State.reset with kv := { State.reset.kv with queue := List.replicate 64 default } }, rfl, by decide +kernel⟩,
   ⟨{ State.reset with kv := { State.reset.kv with queue := [{ (default : VCmd) with reg := true }] } }, rfl, by decide +kernel⟩,
   ⟨State.reset, rfl, by decide +kernel⟩,
   ⟨0, State.reset, rfl, by decide +kernel⟩,
   ⟨0, { (default : CmdEntry) with code := 0x41 }, { W [(Reg.HIF_Rr_CFG.EN 0 ringCMD, 1), (Reg.HIF_Rr_STAT.STATE 0 ringCMD, 1), (Reg.HIF_Rr_CFG.EN 0 ringCMDCPL, 1), (Reg.HIF_Rr_STAT.STATE 0 ringCMDCPL, 1)] with hif := { State.reset.hif with fns := [(0, { (default : FnS) with cmdQ := [some { (default : CmdEntry) with code := 0x41 }] })] } }, rfl, by decide +kernel⟩,
   ⟨0, { (default : CmdEntry) with code := 0x49 }, { W [(Reg.HIF_Rr_CFG.EN 0 ringCMD, 1), (Reg.HIF_Rr_STAT.STATE 0 ringCMD, 1), (Reg.HIF_Rr_CFG.EN 0 ringCMDCPL, 1), (Reg.HIF_Rr_STAT.STATE 0 ringCMDCPL, 1)] with hif := { State.reset.hif with fns := [(0, { (default : FnS) with cmdQ := [some { (default : CmdEntry) with code := 0x49 }] })] } }, rfl, by decide +kernel⟩,
   ⟨0, { (default : CmdEntry) with code := 0x41 }, { W [(Reg.HIF_Rr_CFG.EN 0 ringCMD, 1), (Reg.HIF_Rr_STAT.STATE 0 ringCMD, 1), (Reg.HIF_Rr_CFG.EN 0 ringCMDCPL, 1), (Reg.HIF_Rr_STAT.STATE 0 ringCMDCPL, 1)] with hif := { State.reset.hif with fns := [(0, { (default : FnS) with cmdQ := [some { (default : CmdEntry) with code := 0x41 }] })] }, kv := { State.reset.kv with queue := List.replicate 64 default } }, rfl, by decide +kernel⟩,
   ⟨0, State.reset, rfl, by decide +kernel⟩⟩

/-- Every set of hypotheses of VaultCompletion is met. -/
theorem witness_VaultCompletion :
    (∃ (ofs : Fin 122880) (s : State), s.live ∧ (let v := s.asOf ofs; (v.kv.running = none))) ∧
    (∃ (ofs : Fin 122880) (c : VCmd) (s : State), s.live ∧ (let v := s.asOf ofs; let d := c.start + Config.usClocks (vaultUs c.code); (v.kv.running = some c) ∧ (v.clk < d))) ∧
    (∃ (ofs : Fin 122880) (c : VCmd) (s : State), s.live ∧ (let v := s.asOf ofs; let w := (modKv (fun v => { v with running := none }) v).put Reg.KV_STAT.BUSY 0; let d := c.start + Config.usClocks (vaultUs c.code); (v.kv.running = some c) ∧ (d ≤ v.clk) ∧ (refusal w c = none))) ∧
    (∃ (ofs : Fin 122880) (c : VCmd) (r : Nat) (s : State), s.live ∧ (let v := s.asOf ofs; let w := (modKv (fun v => { v with running := none }) v).put Reg.KV_STAT.BUSY 0; let d := c.start + Config.usClocks (vaultUs c.code); (v.kv.running = some c) ∧ (d ≤ v.clk) ∧ (refusal w c = some r) ∧ (secretsOpen w = true))) :=
  ⟨⟨0, { State.reset with kv := { State.reset.kv with running := none } }, rfl, by decide +kernel⟩,
   ⟨0, (default : VCmd), { State.reset with kv := { State.reset.kv with running := some ((default : VCmd)) } }, rfl, by decide +kernel⟩,
   ⟨0, { (default : VCmd) with code := 7, asTenant := 256 }, { State.reset with kv := { State.reset.kv with running := some { (default : VCmd) with code := 7, asTenant := 256 } }, core := { State.reset.core with ticks := 1000 } }, rfl, by decide +kernel⟩,
   ⟨0, { (default : VCmd) with code := 1, asTenant := 256 }, 9, { W [(Reg.MEM_WINw_STAT.STATE 1, 3)] with kv := { State.reset.kv with running := some { (default : VCmd) with code := 1, asTenant := 256 } }, core := { State.reset.core with ticks := 1000 } }, rfl, by decide +kernel⟩⟩

/-- Every set of hypotheses of VaultEffects is met. -/
theorem witness_VaultEffects :
    (∃ (c : VCmd) (s : State), ((c.code = 1))) ∧
    (∃ (c : VCmd) (s : State), ((c.code = 2))) ∧
    (∃ (c : VCmd) (s : State), (let a := c.args; let k := slotOf s a.slot; (c.code = 3) ∧ (a.gen = false))) ∧
    (∃ (c : VCmd) (s : State), (let a := c.args; let k := slotOf s a.slot; (c.code = 4) ∧ (a.slot < 4096))) ∧
    (∃ (c : VCmd) (s : State), ((c.code = 5))) ∧
    (∃ (c : VCmd) (s : State), ((c.code = 6))) ∧
    (∃ (c : VCmd) (s : State), ((c.code = 7))) ∧
    (∃ (c : VCmd) (s : State), ((c.code = 8))) ∧
    (∃ (c : VCmd) (s : State), ((c.code = 9))) ∧
    (∃ (c : VCmd) (s : State), (let a := c.args; let k := slotOf s a.slot; (c.code = 10) ∧ (a.gen = false))) ∧
    (∃ (c : VCmd) (s : State) (j : Nat), (let a := c.args; let k := slotOf s a.slot; (j ≠ a.slot) ∧ (1 ≤ c.code) ∧ (c.code ≤ 9))) :=
  ⟨⟨{ (default : VCmd) with code := 1 }, State.reset, by decide +kernel⟩,
   ⟨{ (default : VCmd) with code := 2 }, State.reset, by decide +kernel⟩,
   ⟨{ (default : VCmd) with code := 3 }, State.reset, by decide +kernel⟩,
   ⟨{ (default : VCmd) with code := 4 }, State.reset, by decide +kernel⟩,
   ⟨{ (default : VCmd) with code := 5 }, State.reset, by decide +kernel⟩,
   ⟨{ (default : VCmd) with code := 6 }, State.reset, by decide +kernel⟩,
   ⟨{ (default : VCmd) with code := 7 }, State.reset, by decide +kernel⟩,
   ⟨{ (default : VCmd) with code := 8 }, State.reset, by decide +kernel⟩,
   ⟨{ (default : VCmd) with code := 9 }, State.reset, by decide +kernel⟩,
   ⟨{ (default : VCmd) with code := 10 }, State.reset, by decide +kernel⟩,
   ⟨{ (default : VCmd) with code := 1 }, State.reset, 1, by decide +kernel⟩⟩

/-- Every set of hypotheses of Zeroise is met. -/
theorem witness_Zeroise :
    (∃ (ns : Nat) (s : State), ((200 ≤ ns) ∧ (s.pwr.noSupply = false))) ∧
    (∃ (ns : Nat) (s : State), ((ns < 100))) ∧
    (∃ (k : Fin 3) (s : State), s.live ∧ (let u := s.cleared; let en (j : Fin 3) : Fld := if j = 0 then Reg.KV_ZCTRL.SUPPLY_EN else if j = 1 then Reg.KV_ZCTRL.CLOCK_EN else Reg.KV_ZCTRL.TEMP_EN; (u.on (en k) = true) ∧ (s.pwr.noSupply = false))) ∧
    (∃ (k : Fin 3) (s : State), (let u := s.cleared; let en (j : Fin 3) : Fld := if j = 0 then Reg.KV_ZCTRL.SUPPLY_EN else if j = 1 then Reg.KV_ZCTRL.CLOCK_EN else Reg.KV_ZCTRL.TEMP_EN; (u.on (en k) = false))) ∧
    (∃ (s : State), s.live ∧ (let u := s.cleared; (u.kv.epochDue = true))) ∧
    (∃ (s : State), s.live ∧ (let u := s.cleared; (u.kv.epochDue = false))) :=
  ⟨⟨200, { State.reset with pwr := { State.reset.pwr with noSupply := false } }, by decide +kernel⟩,
   ⟨0, State.reset, by decide +kernel⟩,
   ⟨0, { W [(Reg.KV_ZCTRL.SUPPLY_EN, 1)] with pwr := { State.reset.pwr with noSupply := false } }, rfl, by decide +kernel⟩,
   ⟨0, W [(Reg.KV_ZCTRL.SUPPLY_EN, 0)], by decide +kernel⟩,
   ⟨{ State.reset with kv := { State.reset.kv with epochDue := true } }, rfl, by decide +kernel⟩,
   ⟨{ State.reset with kv := { State.reset.kv with epochDue := false } }, rfl, by decide +kernel⟩⟩

/-- Every set of hypotheses of CounterJournal is met. -/
theorem witness_CounterJournal :
    (∃ (ref : Fin 8392704) (s : State), s.live ∧ (let u := s.cleared; ((ctrOf u ref).lease = none))) ∧
    (∃ (ref : Fin 8392704) (l : Lease) (s : State), s.live ∧ (let u := s.cleared; ((ctrOf u ref).lease = some l) ∧ (l.journal = false))) ∧
    (∃ (ref : Fin 8392704) (good : Bool) (l : Lease) (s : State), s.live ∧ (let u := s.cleared; let key := if ref.val < 4096 then (slotOf u ref).key else (u.kv.secrets.get (ref.val - 4096)).wkey.key; let res := journalRes u (Config.fpr key) + 65536; ((ctrOf u ref).lease = some l) ∧ (l.journal = true) ∧ (good = true) ∧ (l.hw ≤ res))) ∧
    (∃ (ref : Fin 8392704) (good : Bool) (l : Lease) (s : State), s.live ∧ (let u := s.cleared; ((ctrOf u ref).lease = some l) ∧ (l.journal = true) ∧ (good = false))) :=
  ⟨⟨0, State.reset, rfl, by decide +kernel⟩,
   ⟨0, { (default : Lease) with journal := false }, { State.reset with sec := { State.reset.sec with ctr := [(0, { (default : CounterS) with lease := some ({ (default : Lease) with journal := false }) })] } }, rfl, by decide +kernel⟩,
   ⟨0, true, { (default : Lease) with journal := true }, { State.reset with sec := { State.reset.sec with ctr := [(0, { (default : CounterS) with lease := some ({ (default : Lease) with journal := true }) })] } }, rfl, by decide +kernel⟩,
   ⟨0, false, { (default : Lease) with journal := true }, { State.reset with sec := { State.reset.sec with ctr := [(0, { (default : CounterS) with lease := some ({ (default : Lease) with journal := true }) })] } }, rfl, by decide +kernel⟩⟩

/-- Every set of hypotheses of TimeControl is met. -/
theorem witness_TimeControl :
    (∃ (ofs : Fin 122880) (fwm : Bool) (ns : BitVec 32) (s : State), s.live ∧ (let v := s.asOf ofs; let w := v.put Reg.TIME_OFS_NS.NS ns.toNat; (w.get Reg.TIME_SERVO.SRC = (if fwm then 2 else 1)))) ∧
    (∃ (ofs : Fin 122880) (fwm : Bool) (ns : BitVec 32) (s : State), s.live ∧ (let v := s.asOf ofs; let w := v.put Reg.TIME_OFS_NS.NS ns.toNat; (w.get Reg.TIME_SERVO.SRC ≠ (if fwm then 2 else 1)))) ∧
    (∃ (ofs : Fin 122880) (s : State), s.live ∧ (let v := s.asOf ofs; (servoState v = svACQUIRE ∨ servoState v = svLOCKED) ∧ (v.time.lastAcc + max 1 (v.get Reg.TIME_HOLD.HOLD_TO) * 983040000 ≤ v.clk))) ∧
    (∃ (ofs : Fin 122880) (s : State), s.live ∧ (let v := s.asOf ofs; (servoState v ≠ svACQUIRE) ∧ (servoState v ≠ svLOCKED))) ∧
    (∃ (ofs : Fin 122880) (ns : BitVec 32) (th : Int) (s : State), s.live ∧ (let v := s.asOf ofs; let w := v.put Reg.TIME_OFS_NS.NS ns.toNat; let n := w.time.spikes + 1; (w.time.first = false) ∧ (w.time.holdFirst = false) ∧ (w.get Reg.TIME_FILT.SPIKE * 65536 < th.natAbs) ∧ (n < max 1 (w.get Reg.TIME_FILT.SPIKE_N)))) ∧
    (∃ (ofs : Fin 122880) (ns : BitVec 32) (th : Int) (s : State), s.live ∧ (let v := s.asOf ofs; let w := v.put Reg.TIME_OFS_NS.NS ns.toNat; (th.natAbs ≤ w.get Reg.TIME_FILT.SPIKE * 65536) ∧ (0 < w.time.discard))) ∧
    (∃ (ofs : Fin 122880) (ns : BitVec 32) (th : Int) (s : State), s.live ∧ (let v := s.asOf ofs; let w := v.put Reg.TIME_OFS_NS.NS ns.toNat; (th.natAbs ≤ w.get Reg.TIME_FILT.SPIKE * 65536) ∧ (w.time.discard = 0))) :=
  ⟨⟨0, false, 0, W [(Reg.TIME_SERVO.SRC, (if (false) then 2 else 1))], rfl, by decide +kernel⟩,
   ⟨0, false, 0, W [(Reg.TIME_SERVO.SRC, (if (false) then 2 else 1) + 1)], rfl, by decide +kernel⟩,
   ⟨0, { W [(Reg.TIME_STAT.STATE, 1)] with core := { State.reset.core with ticks := 1000000 } }, rfl, by decide +kernel⟩,
   ⟨0, State.reset, rfl, by decide +kernel⟩,
   ⟨0, 0, 1000000000000000, { W [(Reg.TIME_FILT.SPIKE_N, 3)] with time := { State.reset.time with first := false, holdFirst := false } }, rfl, by decide +kernel⟩,
   ⟨0, 0, 0, { State.reset with time := { State.reset.time with discard := 1 } }, rfl, by decide +kernel⟩,
   ⟨0, 0, 0, { State.reset with time := { State.reset.time with discard := 0 } }, rfl, by decide +kernel⟩⟩

/-- Every set of hypotheses of PpsPins is met. -/
theorem witness_PpsPins :
    (∃ (ofs : Fin 122880) (rising : Bool) (s : State), s.live ∧ (let v := s.asOf ofs; (v.on Reg.TIME_PPS_IN.EN = true) ∧ (rising ≠ v.on Reg.TIME_PPS_IN.POL) ∧ (isDormant v = false))) ∧
    (∃ (ofs : Fin 122880) (rising : Bool) (s : State), s.live ∧ (let v := s.asOf ofs; (v.on Reg.TIME_PPS_IN.EN = false ∨ rising = v.on Reg.TIME_PPS_IN.POL))) ∧
    (∃ (ofs : Fin 122880) (s : State), s.live ∧ (let v := s.asOf ofs; (v.on Reg.TIME_PPS_IN.EN = true) ∧ (v.time.ppsMark + 983040000 + 98304 < v.clk))) ∧
    (∃ (ofs : Fin 122880) (s : State), s.live ∧ (let v := s.asOf ofs; (v.clk ≤ v.time.ppsMark + 983040000 + 98304))) ∧
    (∃ (ofs : Fin 122880) (s : State), s.live ∧ (let v := s.asOf ofs; (v.on Reg.TIME_PPS_OUT.EN = true) ∧ (ppsQual v = true) ∧ (ppsDue v = true) ∧ (v.time.ppsRise = none))) ∧
    (∃ (ofs : Fin 122880) (s : State) (c : Nat), s.live ∧ (let v := s.asOf ofs; (v.time.ppsRise = some c) ∧ (v.clk < c + 491520000))) ∧
    (∃ (ofs : Fin 122880) (s : State), s.live ∧ (let v := s.asOf ofs; (v.on Reg.TIME_PPS_OUT.EN = false ∨ ppsQual v = false ∨ ppsDue v = false))) :=
  ⟨⟨0, true, W [(Reg.TIME_PPS_IN.EN, 1), (Reg.TIME_PPS_IN.POL, 0)], rfl, by decide +kernel⟩,
   ⟨0, false, W [(Reg.TIME_PPS_IN.EN, 0)], rfl, by decide +kernel⟩,
   ⟨0, { W [(Reg.TIME_PPS_IN.EN, 1)] with core := { State.reset.core with ticks := 10000 } }, rfl, by decide +kernel⟩,
   ⟨0, State.reset, rfl, by decide +kernel⟩,
   ⟨0, { W [(Reg.TIME_PPS_OUT.EN, 1), (Reg.TIME_PPS_OUT.QUAL, 0)] with time := { State.reset.time with ppsRise := none, going := true } }, rfl, by decide +kernel⟩,
   ⟨0, { State.reset with time := { State.reset.time with ppsRise := some (0) } }, 0, rfl, by decide +kernel⟩,
   ⟨0, W [(Reg.TIME_PPS_OUT.EN, 0)], rfl, by decide +kernel⟩⟩

/-- Every set of hypotheses of PtpPath is met. -/
theorem witness_PtpPath :
    (∃ (o : List Byte) (s : State), s.live ∧ ((ptpForm o = none))) ∧
    (∃ (ofs : Fin 122880) (p : Fin 2) (o : List Byte) (f : PtpForm) (s : State), s.live ∧ (let v := s.asOf ofs; let r := v.inc (Reg.TIME_PTPp_CNT.RX p); (ptpForm o = some f) ∧ (v.tm.linkUp.contains p.val = true) ∧ (pdOn v 24 = true) ∧ (ptpDiverts v p f = true) ∧ (r.time.rxq.length < 64))) ∧
    (∃ (ofs : Fin 122880) (p : Fin 2) (o : List Byte) (f : PtpForm) (s : State), s.live ∧ (let v := s.asOf ofs; let r := v.inc (Reg.TIME_PTPp_CNT.RX p); (ptpForm o = some f) ∧ (v.tm.linkUp.contains p.val = true) ∧ (pdOn v 24 = true) ∧ (ptpDiverts v p f = true) ∧ (64 ≤ r.time.rxq.length))) ∧
    (∃ (s : State), s.live ∧ (let u := s.cleared; (u.time.rxq = []))) ∧
    (∃ (s : State), s.live ∧ (let u := s.cleared; (u.on Reg.TIME_PTP_CTRL.OWNER = false))) ∧
    (∃ (e : PtpRx) (l : List PtpRx) (s : State), s.live ∧ (let u := s.cleared; (u.time.rxq = e :: l))) ∧
    (∃ (s : State), s.live ∧ (let u := s.cleared; (u.on Reg.TIME_PTP_CTRL.OWNER = true))) ∧
    (∃ (len : Fin 512) (s : State), s.live ∧ (let u := s.cleared; (u.on Reg.TIME_PTP_CTRL.OWNER = true) ∧ (u.on Reg.TIME_PTP_TXCTL.BUSY = false) ∧ (14 ≤ len.val) ∧ (len.val ≤ 256))) ∧
    (∃ (len : Fin 512) (s : State), s.live ∧ (let u := s.cleared; (u.on Reg.TIME_PTP_CTRL.OWNER = true) ∧ (len.val < 14 ∨ 256 < len.val))) ∧
    (∃ (ofs : Fin 122880) (s : State), s.live ∧ (let v := s.asOf ofs; (v.time.tx = none))) ∧
    (∃ (ofs : Fin 122880) (x : PtpTx) (s : State), s.live ∧ (let v := s.asOf ofs; let d := ((modTime (fun t => { t with tx := none }) v).put Reg.TIME_PTP_TXCTL.BUSY 0).inc (Reg.TIME_PTPp_CNT.TX x.port); (v.time.tx = some x) ∧ (v.tm.linkUp.contains x.port = true) ∧ (pdOn v 24 = true) ∧ (x.oneStep = false) ∧ (d.time.tsq.length < 16))) ∧
    (∃ (s : State), s.live ∧ (let u := s.cleared; (u.time.tsq = []))) ∧
    (∃ (k : Nat) (ts : Nat) (q : List (Nat × Nat)) (s : State), s.live ∧ (let u := s.cleared; (u.time.tsq = (k, ts) :: q))) :=
  ⟨⟨[], State.reset, rfl, by decide +kernel⟩,
   ⟨0, 0, (List.replicate 12 0 ++ [0x88, 0xF7] : List Byte), (⟨none, 0, 14, 14, 14⟩ : PtpForm), { W [(Reg.TIME_PTPp_CFG.EN 0, 1), (Reg.TIME_PTPp_CFG.L2 0, 1), (Reg.TIME_PTPp_CFG.VLAN_EN 0, 0)] with tm := { State.reset.tm with linkUp := [0] } }, rfl, by decide +kernel⟩,
   ⟨0, 0, (List.replicate 12 0 ++ [0x88, 0xF7] : List Byte), (⟨none, 0, 14, 14, 14⟩ : PtpForm), { W [(Reg.TIME_PTPp_CFG.EN 0, 1), (Reg.TIME_PTPp_CFG.L2 0, 1), (Reg.TIME_PTPp_CFG.VLAN_EN 0, 0)] with tm := { State.reset.tm with linkUp := [0] }, time := { State.reset.time with rxq := List.replicate 64 default } }, rfl, by decide +kernel⟩,
   ⟨{ State.reset with time := { State.reset.time with rxq := [] } }, rfl, by decide +kernel⟩,
   ⟨W [(Reg.TIME_PTP_CTRL.OWNER, 0)], rfl, by decide +kernel⟩,
   ⟨(default : PtpRx), [], { State.reset with time := { State.reset.time with rxq := ((default : PtpRx)) :: ([]) } }, rfl, by decide +kernel⟩,
   ⟨W [(Reg.TIME_PTP_CTRL.OWNER, 1)], rfl, by decide +kernel⟩,
   ⟨14, W [(Reg.TIME_PTP_CTRL.OWNER, 1), (Reg.TIME_PTP_TXCTL.BUSY, 0)], rfl, by decide +kernel⟩,
   ⟨0, W [(Reg.TIME_PTP_CTRL.OWNER, 1)], rfl, by decide +kernel⟩,
   ⟨0, { State.reset with time := { State.reset.time with tx := none } }, rfl, by decide +kernel⟩,
   ⟨0, { (default : PtpTx) with oneStep := false }, { State.reset with time := { State.reset.time with tx := some ({ (default : PtpTx) with oneStep := false }) }, tm := { State.reset.tm with linkUp := [0] } }, rfl, by decide +kernel⟩,
   ⟨{ State.reset with time := { State.reset.time with tsq := [] } }, rfl, by decide +kernel⟩,
   ⟨0, 0, [], { State.reset with time := { State.reset.time with tsq := ((0), (0)) :: ([]) } }, rfl, by decide +kernel⟩⟩

/-- Every set of hypotheses of Synthesizer is met. -/
theorem witness_Synthesizer :
    (∃ (s : State), s.live ∧ (let u := s.cleared; (windowOn u Reg.CLK_CTRL.RELOCK.addr = true) ∧ (u.effOn Reg.MAC_CTRL.EN = true))) ∧
    (∃ (s : State), s.live ∧ (let u := s.cleared; let pref := u.get Reg.CLK_REFSEL.PREF; let x := if refState u pref = refVALID then pref else clkSel u; (windowOn u Reg.CLK_CTRL.RELOCK.addr = true) ∧ (u.on Reg.RSI_CTRL.EN = false) ∧ (u.on Reg.TXC_CTRL.EN = false) ∧ (u.effOn Reg.MAC_CTRL.EN = false) ∧ (planValid u x = false))) ∧
    (∃ (s : State), s.live ∧ (let u := s.cleared; let pref := u.get Reg.CLK_REFSEL.PREF; let x := if refState u pref = refVALID then pref else clkSel u; let y := ((((((stopFrom 0 u).put Reg.CLK_CTRL.RELOCK 1).put Reg.CLK_STAT.RELOCKING 1).put Reg.CLK_STAT.LOCK 0).put Reg.CLK_STAT.SEL x).put Reg.MEM_STAT.SELF_REFRESH 1); (windowOn u Reg.CLK_CTRL.RELOCK.addr = true) ∧ (u.on Reg.RSI_CTRL.EN = false) ∧ (u.on Reg.TXC_CTRL.EN = false) ∧ (u.effOn Reg.MAC_CTRL.EN = false) ∧ (planValid u x = true) ∧ (refState y x ≠ refVALID))) ∧
    (∃ (s : State), s.live ∧ (let u := s.cleared; let pref := u.get Reg.CLK_REFSEL.PREF; let x := if refState u pref = refVALID then pref else clkSel u; let y := ((((((stopFrom 0 u).put Reg.CLK_CTRL.RELOCK 1).put Reg.CLK_STAT.RELOCKING 1).put Reg.CLK_STAT.LOCK 0).put Reg.CLK_STAT.SEL x).put Reg.MEM_STAT.SELF_REFRESH 1); (windowOn u Reg.CLK_CTRL.RELOCK.addr = true) ∧ (u.on Reg.RSI_CTRL.EN = false) ∧ (u.on Reg.TXC_CTRL.EN = false) ∧ (u.effOn Reg.MAC_CTRL.EN = false) ∧ (planValid u x = true) ∧ (refState y x = refVALID))) ∧
    (∃ (s : State), s.live ∧ (let u := s.cleared; (u.on Reg.CLK_STAT.LOCK = true))) ∧
    (∃ (s : State), s.live ∧ (let u := s.cleared; (u.on Reg.CLK_STAT.LOCK = false) ∧ (pdOn u 29 = true) ∧ (u.time.going = true) ∧ (refState u (clkSel u) = refVALID))) ∧
    (∃ (s : State), s.live ∧ (let u := s.cleared; (u.on Reg.CLK_STAT.LOCK = false) ∧ (pdOn u 29 = true) ∧ (u.time.going = false) ∧ (refState u (clkSel u) ≠ refABSENT))) ∧
    (∃ (s : State), s.live ∧ (let u := s.cleared; (u.on Reg.CLK_STAT.LOCK = true) ∧ (inService u = true))) ∧
    (∃ (s : State), s.live ∧ (let u := s.cleared; (u.on Reg.CLK_STAT.LOCK = false))) ∧
    (∃ (r : Fin 2) (s : State), s.live ∧ (let u := s.cleared; (refState u r = refABSENT))) ∧
    (∃ (r : Fin 2) (s : State), s.live ∧ (let u := s.cleared; let a := refAbsent r u; (refState u r ≠ refABSENT) ∧ (r.val ≠ clkSel a))) ∧
    (∃ (r : Fin 2) (s : State), s.live ∧ (let u := s.cleared; let a := refAbsent r u; (refState u r ≠ refABSENT) ∧ (r.val = clkSel a))) ∧
    (∃ (r : Fin 2) (s : State), s.live ∧ (let u := s.cleared; let a := refAbsent r u; (inService a = true) ∧ (a.on Reg.CLK_STAT.HOLD = false) ∧ (refState a (1 - clkSel a) ≠ refVALID))) ∧
    (∃ (r : Fin 2) (s : State), s.live ∧ (let u := s.cleared; let a := refAbsent r u; (inService a = true) ∧ (a.on Reg.CLK_STAT.HOLD = false) ∧ (refState a (1 - clkSel a) = refVALID) ∧ (isAlternate a (1 - clkSel a) = true))) ∧
    (∃ (r : Fin 2) (s : State), s.live ∧ (let u := s.cleared; (refState u r ≠ refABSENT))) ∧
    (∃ (ofs : Fin 122880) (s : State), s.live ∧ (let v := s.asOf ofs; (pdOn v 29 = true))) ∧
    (∃ (ofs : Fin 122880) (s : State), s.live ∧ (let v := s.asOf ofs; (pdOn v 29 = false))) ∧
    (∃ (s : State), s.live ∧ (let u := s.cleared; let pref := u.get Reg.CLK_REFSEL.PREF; (windowOn u Reg.CLK_CTRL.RELOCK.addr = true) ∧ (refState u pref = refVALID) ∧ (isAlternate u pref = true) ∧ (inService u = true) ∧ (clkSel u ≠ pref))) ∧
    (∃ (s : State), s.live ∧ (let u := s.cleared; let pref := u.get Reg.CLK_REFSEL.PREF; (windowOn u Reg.CLK_CTRL.RELOCK.addr = true) ∧ (refState u pref ≠ refVALID))) :=
  ⟨⟨W [(Reg.MAC_CTRL.EN, 1)], rfl, by decide +kernel⟩,
   ⟨W [(Reg.RSI_CTRL.EN, 0), (Reg.TXC_CTRL.EN, 0), (Reg.CLK_PLL.N, 1), (Reg.CLK_REFr_CFG.FREQ 0, 0)], rfl, by decide +kernel⟩,
   ⟨W [(Reg.RSI_CTRL.EN, 0), (Reg.TXC_CTRL.EN, 0)], rfl, by decide +kernel⟩,
   ⟨W [(Reg.RSI_CTRL.EN, 0), (Reg.TXC_CTRL.EN, 0), (Reg.CLK_REFr_STAT.STATE 0, 2)], rfl, by decide +kernel⟩,
   ⟨W [(Reg.CLK_STAT.LOCK, 1)], rfl, by decide +kernel⟩,
   ⟨{ W [(Reg.CLK_STAT.LOCK, 0), (Reg.CLK_REFr_STAT.STATE 0, 2)] with time := { State.reset.time with going := true } }, rfl, by decide +kernel⟩,
   ⟨{ W [(Reg.CLK_STAT.LOCK, 0), (Reg.CLK_REFr_STAT.STATE 0, 2)] with time := { State.reset.time with going := false } }, rfl, by decide +kernel⟩,
   ⟨W [(Reg.CLK_STAT.LOCK, 1), (Reg.CLK_STAT.RELOCKING, 0)], rfl, by decide +kernel⟩,
   ⟨W [(Reg.CLK_STAT.LOCK, 0)], rfl, by decide +kernel⟩,
   ⟨0, State.reset, rfl, by decide +kernel⟩,
   ⟨1, W [(Reg.CLK_REFr_STAT.STATE (1), 2), (Reg.CLK_REFr_STAT.STATE 1, 2)], rfl, by decide +kernel⟩,
   ⟨0, W [(Reg.CLK_REFr_STAT.STATE (0), 2)], rfl, by decide +kernel⟩,
   ⟨0, W [(Reg.CLK_STAT.HOLD, 0), (Reg.CLK_STAT.RELOCKING, 0)], rfl, by decide +kernel⟩,
   ⟨0, W [(Reg.CLK_STAT.HOLD, 0), (Reg.CLK_REFr_STAT.STATE 0, 2), (Reg.CLK_REFr_CFG.FREQ 0, 10000), (Reg.CLK_REFr_CFG.FREQ 1, 10000), (Reg.CLK_REFr_CFG.PRE 1, 1), (Reg.CLK_REFr_CFG.REF_DIV 1, 1), (Reg.CLK_REFr_STAT.STATE 1, 2), (Reg.CLK_STAT.SEL, 0), (Reg.CLK_STAT.RELOCKING, 0)], rfl, by decide +kernel⟩,
   ⟨0, W [(Reg.CLK_REFr_STAT.STATE (0), 2)], rfl, by decide +kernel⟩,
   ⟨0, State.reset, rfl, by decide +kernel⟩,
   ⟨0, { State.reset with pwr := { State.reset.pwr with off := [29] } }, rfl, by decide +kernel⟩,
   ⟨W [(Reg.CLK_REFr_STAT.STATE 0, 2), (Reg.CLK_REFr_CFG.FREQ 0, 10000), (Reg.CLK_REFr_CFG.FREQ 1, 10000), (Reg.CLK_REFr_CFG.PRE 1, 1), (Reg.CLK_REFr_CFG.REF_DIV 1, 1), (Reg.CLK_REFr_STAT.STATE 1, 2), (Reg.CLK_STAT.SEL, 0), (Reg.CLK_STAT.RELOCKING, 0), (Reg.CLK_REFSEL.PREF, 1)], rfl, by decide +kernel⟩,
   ⟨State.reset, rfl, by decide +kernel⟩⟩

/-- Every set of hypotheses of ClockOutputs is met. -/
theorem witness_ClockOutputs :
    (∃ (n : Fin 8) (src : Fin 4) (s : State), s.live ∧ (let u := s.cleared; (windowOn u Reg.CLK_CTRL.RELOCK.addr = true) ∧ (u.get (Reg.CLK_OUTn_CFG.SRC n) ≠ src))) ∧
    (∃ (n : Fin 8) (src : Fin 4) (fmt : Fin 8) (dv : Fin 4096) (s : State), s.live ∧ (let u := s.cleared; (windowOn u Reg.CLK_CTRL.RELOCK.addr = true) ∧ (u.get (Reg.CLK_OUTn_CFG.SRC n) = src) ∧ (u.get (Reg.CLK_OUTn_CFG.FMT n) = fmt) ∧ (u.get (Reg.CLK_OUTn_CFG.DIV n) = dv))) ∧
    (∃ (n : Fin 8) (s : State), s.live ∧ (let u := s.cleared; (u.on (Reg.CLK_OUTn_STAT.RUN n) = true))) ∧
    (∃ (n : Fin 8) (s : State), s.live ∧ (let u := s.cleared; (u.on (Reg.CLK_OUTn_STAT.RUN n) = false))) ∧
    (∃ (n : Fin 8) (s : State), s.live ∧ (let u := s.cleared; (u.on (Reg.CLK_OUTn_CFG.EN n) = true) ∧ (u.on (Reg.CLK_OUTn_STAT.SHORT n) = true) ∧ (u.clock.retry.get n + 80 ≤ u.core.ticks) ∧ (pdOn u 29 = true))) ∧
    (∃ (n : Fin 8) (s : State), s.live ∧ (let u := s.cleared; (u.core.ticks < u.clock.retry.get n + 80))) :=
  ⟨⟨0, 0, W [((Reg.CLK_OUTn_CFG.SRC (0)), (0) + 1)], rfl, by decide +kernel⟩,
   ⟨0, 0, 0, 0, W [((Reg.CLK_OUTn_CFG.SRC (0)), (0)), ((Reg.CLK_OUTn_CFG.FMT (0)), (0)), ((Reg.CLK_OUTn_CFG.DIV (0)), (0))], rfl, by decide +kernel⟩,
   ⟨0, W [((Reg.CLK_OUTn_STAT.RUN (0)), 1)], rfl, by decide +kernel⟩,
   ⟨0, W [((Reg.CLK_OUTn_STAT.RUN (0)), 0)], rfl, by decide +kernel⟩,
   ⟨0, { W [((Reg.CLK_OUTn_CFG.EN (0)), 1), ((Reg.CLK_OUTn_STAT.SHORT (0)), 1)] with core := { State.reset.core with ticks := 1000000 } }, rfl, by decide +kernel⟩,
   ⟨0, State.reset, rfl, by decide +kernel⟩⟩

/-- Every set of hypotheses of ClustersAndWarden is met. -/
theorem witness_ClustersAndWarden :
    (∃ (ofs : Fin 122880) (s : State), s.live ∧ (let v := s.asOf ofs; (clActive v = false))) ∧
    (∃ (ofs : Fin 122880) (s : State), s.live ∧ (let v := s.asOf ofs; (clActive v = true) ∧ (actBefore v = false) ∧ (wardenWorks v = true) ∧ (stbyOk v = true))) ∧
    (∃ (ofs : Fin 122880) (s : State), s.live ∧ (let v := s.asOf ofs; (clActive v = true) ∧ (actBefore v = false) ∧ (wardenWorks v = false ∨ stbyOk v = false))) ∧
    (∃ (s : State), s.live ∧ (let u := s.cleared; (u.on Reg.WDN_STAT.FAIL = false) ∧ (clState u 0 ≠ clFAILED) ∧ (clState u 1 = clFAILED) ∧ (u.on (Reg.DBG_CCc_STAT.HALTED 1) = false))) ∧
    (∃ (s : State), s.live ∧ (let u := s.cleared; let b := bootCluster 0 u; (u.on Reg.WDN_STAT.FAIL = false) ∧ (clState u 0 = clFAILED) ∧ (u.on (Reg.DBG_CCc_STAT.HALTED 0) = false) ∧ (clState b 1 ≠ clFAILED))) ∧
    (∃ (s : State), s.live ∧ (let u := s.cleared; (u.on Reg.WDN_STAT.FAIL = true))) ∧
    (∃ (c : Fin 2) (s : State), s.live ∧ (let u := s.cleared; (u.wdn.firstTake = true) ∧ (clState u c = clBOOT) ∧ ((clBank u c).verified = true) ∧ (clState u (1 - c) = clACTIVE) ∧ (u.get Reg.FW_STAT.ACT_STATE ≠ 1))) ∧
    (∃ (c : Fin 2) (s : State), s.live ∧ (let u := s.cleared; let z := takeLease c causeAlone (forgetFirmware u); (u.wdn.firstTake = true) ∧ (clState u c = clBOOT) ∧ ((clBank u c).verified = true) ∧ (clState u (1 - c) ≠ clACTIVE) ∧ (clState z (1 - c) ≠ clRESYNC))) ∧
    (∃ (c : Fin 2) (s : State), s.live ∧ (let u := s.cleared; (clState u c ≠ clBOOT ∨ (clBank u c).verified = false))) ∧
    (∃ (s : State), s.live ∧ (let u := s.cleared; (stbyOk u = true) ∧ (clActive u = true) ∧ (u.on Reg.WDN_STAT.FAIL = false))) ∧
    (∃ (s : State), s.live ∧ (let u := s.cleared; (stbyOk u = false ∨ clActive u = false ∨ u.on Reg.WDN_STAT.FAIL = true))) ∧
    (∃ (c : Fin 2) (s : State), s.live ∧ (let u := s.cleared; let y := setCluster c clOFF (u.put (clEnFld c) 0); (clState u c ≠ clACTIVE) ∧ (c.val ≠ clStandby y))) ∧
    (∃ (c : Fin 2) (s : State), s.live ∧ (let u := s.cleared; let y := setCluster c clOFF (u.put (clEnFld c) 0); (clState u c ≠ clACTIVE) ∧ (c.val = clStandby y))) ∧
    (∃ (c : Fin 2) (s : State), s.live ∧ (let u := s.cleared; let t := handover true u; (clState u c = clACTIVE) ∧ (t.wdn.handover = some true))) ∧
    (∃ (c : Fin 2) (s : State), s.live ∧ (let u := s.cleared; let t := handover true u; (clState u c = clACTIVE) ∧ (t.wdn.handover ≠ some true))) ∧
    (∃ (ofs : Fin 122880) (s : State), s.live ∧ (let v := s.asOf ofs; (v.on Reg.WDN_STAT.FAIL = true))) ∧
    (∃ (ofs : Fin 122880) (s : State), s.live ∧ (let v := s.asOf ofs; let n := v.get Reg.WDN_STAT.ATTEMPTS + b2n (v.on Reg.WDN_STAT.FROZEN || v.wdn.tested.isSome); (v.on Reg.WDN_STAT.FAIL = false) ∧ (n < 3))) ∧
    (∃ (ofs : Fin 122880) (s : State), s.live ∧ (let v := s.asOf ofs; let n := v.get Reg.WDN_STAT.ATTEMPTS + b2n (v.on Reg.WDN_STAT.FROZEN || v.wdn.tested.isSome); (v.on Reg.WDN_STAT.FAIL = false) ∧ (3 ≤ n))) ∧
    (∃ (ofs : Fin 122880) (k : Nat) (s : State), s.live ∧ (let v := s.asOf ofs; (v.wdn.tested = some k) ∧ (k + usClk 100000 ≤ v.clk))) ∧
    (∃ (ofs : Fin 122880) (s : State), s.live ∧ (let v := s.asOf ofs; (v.wdn.tested = none))) :=
  ⟨⟨0, State.reset, rfl, by decide +kernel⟩,
   ⟨0, W [(Reg.WDN_STAT.CCA_STATE, 4), (Reg.WDN_STAT.CCB_STATE, 3)], rfl, by decide +kernel⟩,
   ⟨0, W [(Reg.WDN_STAT.CCA_STATE, 4)], rfl, by decide +kernel⟩,
   ⟨W [(Reg.WDN_STAT.FAIL, 0), (if (1 : Nat) = 0 then Reg.WDN_STAT.CCA_STATE else Reg.WDN_STAT.CCB_STATE, clFAILED), ((Reg.DBG_CCc_STAT.HALTED 1), 0)], rfl, by decide +kernel⟩,
   ⟨W [(Reg.WDN_STAT.FAIL, 0), (if (0 : Nat) = 0 then Reg.WDN_STAT.CCA_STATE else Reg.WDN_STAT.CCB_STATE, clFAILED), ((Reg.DBG_CCc_STAT.HALTED 0), 0)], rfl, by decide +kernel⟩,
   ⟨W [(Reg.WDN_STAT.FAIL, 1)], rfl, by decide +kernel⟩,
   ⟨0, { W [(if ((0) : Nat) = 0 then Reg.WDN_STAT.CCA_STATE else Reg.WDN_STAT.CCB_STATE, clBOOT), (if ((1 - (0)) : Nat) = 0 then Reg.WDN_STAT.CCA_STATE else Reg.WDN_STAT.CCB_STATE, clACTIVE), (Reg.FW_STAT.ACT_STATE, 1 + 1)] with wdn := { State.reset.wdn with firstTake := true }, fw := { State.reset.fw with fb0 := { State.reset.fw.fb0 with verified := true } } }, rfl, by decide +kernel⟩,
   ⟨0, { W [(if ((0) : Nat) = 0 then Reg.WDN_STAT.CCA_STATE else Reg.WDN_STAT.CCB_STATE, clBOOT)] with wdn := { State.reset.wdn with firstTake := true }, fw := { State.reset.fw with fb0 := { State.reset.fw.fb0 with verified := true } } }, rfl, by decide +kernel⟩,
   ⟨0, State.reset, rfl, by decide +kernel⟩,
   ⟨W [(Reg.WDN_STAT.CCB_STATE, 3), (Reg.WDN_STAT.CCA_STATE, 4), (Reg.WDN_STAT.FAIL, 0)], rfl, by decide +kernel⟩,
   ⟨State.reset, rfl, by decide +kernel⟩,
   ⟨0, State.reset, rfl, by decide +kernel⟩,
   ⟨1, State.reset, rfl, by decide +kernel⟩,
   ⟨0, { W [(if ((0) : Nat) = 0 then Reg.WDN_STAT.CCA_STATE else Reg.WDN_STAT.CCB_STATE, clACTIVE)] with wdn := { State.reset.wdn with handover := some true } }, rfl, by decide +kernel⟩,
   ⟨0, W [(if ((0) : Nat) = 0 then Reg.WDN_STAT.CCA_STATE else Reg.WDN_STAT.CCB_STATE, clACTIVE), (Reg.WDN_STAT.CCA_STATE, 4)], rfl, by decide +kernel⟩,
   ⟨0, W [(Reg.WDN_STAT.FAIL, 1)], rfl, by decide +kernel⟩,
   ⟨0, W [(Reg.WDN_STAT.FAIL, 0)], rfl, by decide +kernel⟩,
   ⟨0, W [(Reg.WDN_STAT.FAIL, 0), (Reg.WDN_STAT.ATTEMPTS, 3)], rfl, by decide +kernel⟩,
   ⟨0, 0, { State.reset with wdn := { State.reset.wdn with tested := some (0) }, core := { State.reset.core with ticks := 1000000 } }, rfl, by decide +kernel⟩,
   ⟨0, { State.reset with wdn := { State.reset.wdn with tested := none } }, rfl, by decide +kernel⟩⟩

/-- Every set of hypotheses of MirrorBursts is met. -/
theorem witness_MirrorBursts :
    (∃ (l : List MirRec) (q : List MirRec) (s : State), s.live ∧ (let u := s.cleared; (pathHasReceiver u 0 = true) ∧ (takeRecs 32704 u.mir.int.queue = (l, q)))) ∧
    (∃ (s : State), s.live ∧ (let u := s.cleared; (pathHasReceiver u 0 = false))) ∧
    (∃ (s : State), s.live ∧ (let u := s.cleared; (twinUp u = false))) ∧
    (∃ (ofs : Fin 122880) (b : Burst) (s : State), s.live ∧ (let v := s.asOf ofs; (pathHasReceiver v 0 = true) ∧ (b.seq = v.mir.int.rxNext))) ∧
    (∃ (ofs : Fin 122880) (b : Burst) (s : State), s.live ∧ (let v := s.asOf ofs; (b.seq ≠ v.mir.int.rxNext))) ∧
    (∃ (ofs : Fin 122880) (b : Burst) (s : State), s.live ∧ (let v := s.asOf ofs; (twinUp v = true) ∧ (v.on Reg.MIR_STAT.TWIN_LOST = false) ∧ (b.seq < v.mir.twin.rxNext))) ∧
    (∃ (ofs : Fin 122880) (b : Burst) (s : State), s.live ∧ (let v := s.asOf ofs; (twinUp v = true) ∧ (v.on Reg.MIR_STAT.TWIN_LOST = false) ∧ (v.mir.twin.rxNext < b.seq) ∧ (v.mir.twin.ahead = []))) ∧
    (∃ (ofs : Fin 122880) (b : Burst) (s : State), s.live ∧ (let v := s.asOf ofs; (twinUp v = true) ∧ (v.on Reg.MIR_STAT.TWIN_LOST = false) ∧ (b.seq = v.mir.twin.rxNext))) ∧
    (∃ (p : Fin 2) (s : State), s.live ∧ (let u := s.cleared; (mirPathUp u p = false))) ∧
    (∃ (p : Fin 2) (s : State), s.live ∧ (let u := s.cleared; (mirPathUp u p = true))) ∧
    (∃ (ofs : Fin 122880) (p : Fin 2) (seq : Nat) (s : State), s.live ∧ (let v := s.asOf ofs; let h := pathOf v p; (h.unacked.filter (fun y => decide (y.burst.seq ≤ seq)) = []))) ∧
    (∃ (ofs : Fin 122880) (p : Fin 2) (seq : Nat) (x : Sent) (s : State), s.live ∧ (let v := s.asOf ofs; let h := pathOf v p; (h.unacked.filter (fun y => decide (y.burst.seq ≤ seq)) = [x]) ∧ (v.clk ≤ x.norm) ∧ (p = 0))) ∧
    (∃ (ofs : Fin 122880) (p : Fin 2) (seq : Nat) (x : Sent) (s : State), s.live ∧ (let v := s.asOf ofs; let h := pathOf v p; (h.unacked.filter (fun y => decide (y.burst.seq ≤ seq)) = [x]) ∧ (v.clk ≤ x.norm) ∧ (p = 1))) ∧
    (∃ (ofs : Fin 122880) (p : Fin 2) (seq : Nat) (s : State), s.live ∧ (let v := s.asOf ofs; let a := v.inc Reg.MIR_NAK_RX.CNT; ((pathOf a p).unacked.find? (fun y => y.burst.seq == seq) = none))) ∧
    (∃ (ofs : Fin 122880) (p : Fin 2) (seq : Nat) (x : Sent) (s : State), s.live ∧ (let v := s.asOf ofs; let a := v.inc Reg.MIR_NAK_RX.CNT; let r := lpe 0x072 (a.inc Reg.MIR_RETX.CNT); ((pathOf a p).unacked.find? (fun y => y.burst.seq == seq) = some x) ∧ (r.clk ≤ x.norm))) ∧
    (∃ (ofs : Fin 122880) (p : Fin 2) (seq : Nat) (x : Sent) (s : State), s.live ∧ (let v := s.asOf ofs; let h := pathOf v p; (h.unacked.any (fun x => x.burst.seq == seq && decide (x.due ≤ v.clk)) = true))) ∧
    (∃ (ofs : Fin 122880) (p : Fin 2) (seq : Nat) (x : Sent) (s : State), s.live ∧ (let v := s.asOf ofs; let h := pathOf v p; (h.unacked.any (fun x => x.burst.seq == seq && decide (x.due ≤ v.clk)) = false))) ∧
    (∃ (p : Fin 2) (x : Sent) (s : State), s.live ∧ (let u := s.cleared; let lim := min 8 (max 1 (u.get Reg.MIR_CFG.LOST_TICKS)); ((pathOf u p).unacked.any (fun x => decide (x.tick + lim ≤ u.core.ticks)) = false))) ∧
    (∃ (x : Sent) (s : State), s.live ∧ (let u := s.cleared; let lim := min 8 (max 1 (u.get Reg.MIR_CFG.LOST_TICKS)); (u.mir.int.unacked.any (fun x => decide (x.tick + lim ≤ u.core.ticks)) = true))) ∧
    (∃ (x : Sent) (s : State), s.live ∧ (let u := s.cleared; let lim := min 8 (max 1 (u.get Reg.MIR_CFG.LOST_TICKS)); (u.mir.twin.unacked.any (fun x => decide (x.tick + lim ≤ u.core.ticks)) = true))) ∧
    (∃ (ofs : Fin 122880) (p : Fin 2) (s : State), s.live ∧ (let v := s.asOf ofs; let h := pathOf v p; let sent := if h.pagesTick = v.core.ticks then h.pagesSent else 0; let n := min 7 (min h.pagesLeft (pagesPerTick v p - sent)); (n = 0 ∨ v.ofs < usClk 45 ∨ Config.ofsDecode < v.ofs + burstClks p (resyncLen n)))) ∧
    (∃ (ofs : Fin 122880) (p : Fin 2) (x : Sent) (s : State), s.live ∧ (let v := s.asOf ofs; let h := pathOf v p; let sent := if h.pagesTick = v.core.ticks then h.pagesSent else 0; let n := min 7 (min h.pagesLeft (pagesPerTick v p - sent)); let w := modPath p (fun x => { x with pagesLeft := x.pagesLeft - n, pagesTick := v.core.ticks, pagesSent := sent + n }) v; (n ≠ 0) ∧ (usClk 45 ≤ v.ofs) ∧ (v.ofs + burstClks p (resyncLen n) ≤ Config.ofsDecode) ∧ (mirPathUp v p = true) ∧ ((pathOf w p).pagesLeft ≠ 0))) :=
  ⟨⟨[], [], W [(Reg.WDN_STAT.CCB_STATE, 3)], rfl, by decide +kernel⟩,
   ⟨State.reset, rfl, by decide +kernel⟩,
   ⟨State.reset, rfl, by decide +kernel⟩,
   ⟨0, { (default : Burst) with seq := 0 }, { W [(Reg.WDN_STAT.CCB_STATE, 3)] with mir := { State.reset.mir with int := { (default : PathS) with rxNext := 0 } } }, rfl, by decide +kernel⟩,
   ⟨0, { (default : Burst) with seq := 7 }, { State.reset with mir := { State.reset.mir with int := { (default : PathS) with rxNext := 0 } } }, rfl, by decide +kernel⟩,
   ⟨0, (default : Burst), { W [(Reg.MIR_STAT.TWIN_LOST, 0), (Reg.MIR_CTRL.TWIN, 1), (Reg.MIR_STAT.LINK, 3)] with mir := { State.reset.mir with twin := { State.reset.mir.twin with rxNext := 1 } } }, rfl, by decide +kernel⟩,
   ⟨0, { (default : Burst) with seq := 1 }, { W [(Reg.MIR_STAT.TWIN_LOST, 0), (Reg.MIR_CTRL.TWIN, 1), (Reg.MIR_STAT.LINK, 3)] with mir := { State.reset.mir with twin := { State.reset.mir.twin with ahead := [] } } }, rfl, by decide +kernel⟩,
   ⟨0, { (default : Burst) with seq := 0 }, { W [(Reg.MIR_STAT.TWIN_LOST, 0), (Reg.MIR_CTRL.TWIN, 1), (Reg.MIR_STAT.LINK, 3)] with mir := { State.reset.mir with twin := { (default : PathS) with rxNext := 0 } } }, rfl, by decide +kernel⟩,
   ⟨0, State.reset, rfl, by decide +kernel⟩,
   ⟨0, W [(Reg.WDN_STAT.CCB_STATE, 3)], rfl, by decide +kernel⟩,
   ⟨0, 0, 0, State.reset, rfl, by decide +kernel⟩,
   ⟨0, 0, 0, { (default : Sent) with norm := 1000000000 }, { State.reset with mir := { State.reset.mir with int := { State.reset.mir.int with unacked := [{ (default : Sent) with norm := 1000000000 }] } } }, rfl, by decide +kernel⟩,
   ⟨0, 1, 0, { (default : Sent) with norm := 1000000000 }, { State.reset with mir := { State.reset.mir with twin := { State.reset.mir.twin with unacked := [{ (default : Sent) with norm := 1000000000 }] } } }, rfl, by decide +kernel⟩,
   ⟨0, 0, 0, State.reset, rfl, by decide +kernel⟩,
   ⟨0, 0, 0, { (default : Sent) with norm := 1000000000 }, { State.reset with mir := { State.reset.mir with int := { State.reset.mir.int with unacked := [{ (default : Sent) with norm := 1000000000 }] } } }, rfl, by decide +kernel⟩,
   ⟨0, 0, 0, (default : Sent), { State.reset with mir := { State.reset.mir with int := { State.reset.mir.int with unacked := [default] } } }, rfl, by decide +kernel⟩,
   ⟨0, 0, 0, (default : Sent), State.reset, rfl, by decide +kernel⟩,
   ⟨0, (default : Sent), State.reset, rfl, by decide +kernel⟩,
   ⟨(default : Sent), { State.reset with core := { State.reset.core with ticks := 100 }, mir := { State.reset.mir with int := { State.reset.mir.int with unacked := [default] } } }, rfl, by decide +kernel⟩,
   ⟨(default : Sent), { State.reset with core := { State.reset.core with ticks := 100 }, mir := { State.reset.mir with twin := { State.reset.mir.twin with unacked := [default] } } }, rfl, by decide +kernel⟩,
   ⟨0, 0, State.reset, rfl, by decide +kernel⟩,
   ⟨60000, 0, (default : Sent), { W [(Reg.WDN_STAT.CCB_STATE, 2)] with mir := { State.reset.mir with int := { State.reset.mir.int with pagesLeft := 100 } } }, rfl, by decide +kernel⟩⟩

/-- Every set of hypotheses of TwinLink is met. -/
theorem witness_TwinLink :
    (∃ (s : State), s.live ∧ (let u := s.cleared; (u.on Reg.MIR_CTRL.TWIN = true) ∧ (pdOn u 25 = true) ∧ (u.get Reg.MIR_STAT.LINK ≤ 1))) ∧
    (∃ (s : State), s.live ∧ (let u := s.cleared; (u.on Reg.MIR_CTRL.TWIN = false))) ∧
    (∃ (s : State), s.live ∧ (let u := s.cleared; (u.get Reg.MIR_STAT.LINK ≠ 2))) ∧
    (∃ (nonce : BitVec 128) (ver : BitVec 32) (s : State), s.live ∧ (let u := s.cleared; let w := modMir (fun m => { m with peerNonce := some nonce.toNat, peerFw := ver.toNat }) u; (u.get Reg.MIR_STAT.LINK = 2) ∧ (pairKey w = none))) ∧
    (∃ (nonce : BitVec 128) (ver : BitVec 32) (k : Nat) (s : State), s.live ∧ (let u := s.cleared; let w := modMir (fun m => { m with peerNonce := some nonce.toNat, peerFw := ver.toNat }) u; (u.get Reg.MIR_STAT.LINK = 2) ∧ (pairKey w = some k))) ∧
    (∃ (ofs : Fin 122880) (s : State), s.live ∧ (let v := s.asOf ofs; (v.get Reg.MIR_STAT.LINK ≠ 2))) ∧
    (∃ (ofs : Fin 122880) (k : Nat) (s : State), s.live ∧ (let v := s.asOf ofs; (v.get Reg.MIR_STAT.LINK = 2) ∧ (v.mir.session = some k))) ∧
    (∃ (ofs : Fin 122880) (k : Nat) (s : State), s.live ∧ (let v := s.asOf ofs; (v.get Reg.MIR_STAT.LINK = 2) ∧ (v.mir.session ≠ some k))) ∧
    (∃ (ofs : Fin 122880) (c : Nat) (s : State), s.live ∧ (let v := s.asOf ofs; (v.mir.confirmFail = some c) ∧ (c + usClk 1000 ≤ v.clk) ∧ (v.get Reg.MIR_STAT.LINK = 2))) ∧
    (∃ (ofs : Fin 122880) (s : State), s.live ∧ (let v := s.asOf ofs; (v.mir.confirmFail = none))) ∧
    (∃ (s : State), s.live ∧ (let u := s.cleared; (u.get Reg.MIR_STAT.LINK = 3))) ∧
    (∃ (s : State), s.live ∧ (let u := s.cleared; (u.get Reg.MIR_STAT.LINK ≠ 3))) :=
  ⟨⟨W [(Reg.MIR_CTRL.TWIN, 1), (Reg.MIR_STAT.LINK, 1)], rfl, by decide +kernel⟩,
   ⟨W [(Reg.MIR_CTRL.TWIN, 0)], rfl, by decide +kernel⟩,
   ⟨W [(Reg.MIR_STAT.LINK, 2 + 1)], rfl, by decide +kernel⟩,
   ⟨0, 0, W [(Reg.MIR_STAT.LINK, 2)], rfl, by decide +kernel⟩,
   ⟨0, 0, 7, { W [(Reg.MIR_STAT.LINK, 2), (Reg.MIR_CTRL.PAIR_SLOT, 5)] with kv := { State.reset.kv with slots := [(5, { (default : Slot) with active := true, usage := .frame, tenant := 256, key := 7 })] } }, rfl, by decide +kernel⟩,
   ⟨0, W [(Reg.MIR_STAT.LINK, 2 + 1)], rfl, by decide +kernel⟩,
   ⟨0, 0, { W [(Reg.MIR_STAT.LINK, 2)] with mir := { State.reset.mir with session := some (0) } }, rfl, by decide +kernel⟩,
   ⟨0, 0, W [(Reg.MIR_STAT.LINK, 2)], rfl, by decide +kernel⟩,
   ⟨0, 0, { W [(Reg.MIR_STAT.LINK, 2)] with mir := { State.reset.mir with confirmFail := some (0) }, core := { State.reset.core with ticks := 1000000 } }, rfl, by decide +kernel⟩,
   ⟨0, { State.reset with mir := { State.reset.mir with confirmFail := none } }, rfl, by decide +kernel⟩,
   ⟨W [(Reg.MIR_STAT.LINK, 3)], rfl, by decide +kernel⟩,
   ⟨W [(Reg.MIR_STAT.LINK, 3 + 1)], rfl, by decide +kernel⟩⟩

/-- Every set of hypotheses of TransmitLease is met where every signature verifies (log entry 6). -/
theorem witness_TransmitLease (hv : ∀ w g : List Nat, Config.sigVerify w g = true) :
    (∃ (ofs : Fin 122880) (s : State), s.live ∧ (let v := s.asOf ofs; (v.on Reg.MIR_CTRL.TWIN = true) ∧ (v.on Reg.WDN_TWL_STAT.HELD = true) ∧ (v.on Reg.WDN_STAT.FAIL = false) ∧ (v.wdn.yieldStop = false) ∧ (v.on Reg.WDN_FORCE_CTRL.ACTIVE = false) ∧ (v.wdn.yieldDue = false) ∧ (renewalDue v = true))) ∧
    (∃ (ofs : Fin 122880) (c : Nat) (s : State), s.live ∧ (let v := s.asOf ofs; (v.on Reg.MIR_CTRL.TWIN = true) ∧ (v.on Reg.WDN_TWL_STAT.HELD = true) ∧ (v.on Reg.WDN_STAT.FAIL = false) ∧ (v.wdn.yieldStop = false) ∧ (v.on Reg.WDN_FORCE_CTRL.ACTIVE = false) ∧ (v.wdn.yieldDue = false) ∧ (v.wdn.lastReq = some c) ∧ (v.clk < c + usClk 10))) ∧
    (∃ (ofs : Fin 122880) (s : State), s.live ∧ (let v := s.asOf ofs; (v.on Reg.MIR_CTRL.TWIN = true) ∧ (v.on Reg.WDN_TWL_STAT.HELD = true) ∧ (v.on Reg.WDN_STAT.FAIL = false) ∧ (v.wdn.yieldStop = false) ∧ (v.on Reg.WDN_FORCE_CTRL.ACTIVE = false) ∧ (v.wdn.yieldDue = true) ∧ (v.txc.mods = []))) ∧
    (∃ (ofs : Fin 122880) (s : State), s.live ∧ (let v := s.asOf ofs; (v.on Reg.MIR_CTRL.TWIN = false ∨ v.on Reg.WDN_TWL_STAT.HELD = false))) ∧
    (∃ (ofs : Fin 122880) (s : State), s.live ∧ (let v := s.asOf ofs; (v.on Reg.MIR_CTRL.TWIN = true) ∧ (witOk v = true) ∧ (v.on Reg.WDN_FORCE_CTRL.ACTIVE = false) ∧ (v.on Reg.WDN_TWL_STAT.PENDING = true))) ∧
    (∃ (ofs : Fin 122880) (c : Nat) (s : State), s.live ∧ (let v := s.asOf ofs; (v.on Reg.MIR_CTRL.TWIN = true) ∧ (witOk v = true) ∧ (v.on Reg.WDN_FORCE_CTRL.ACTIVE = false) ∧ (v.on Reg.WDN_TWL_STAT.PENDING = false) ∧ (v.wdn.lastReq = some c) ∧ (v.on Reg.WDN_TWL_STAT.HELD = true) ∧ (v.wdn.granted = false) ∧ (v.clk ≤ c + usClk 2))) ∧
    (∃ (ofs : Fin 122880) (s : State), s.live ∧ (let v := s.asOf ofs; (witOk v = false))) ∧
    (∃ (ofs : Fin 122880) (c : Nat) (s : State), s.live ∧ (let v := s.asOf ofs; (v.on Reg.MIR_CTRL.TWIN = true) ∧ (v.on Reg.WDN_TWL_STAT.HELD = true) ∧ (v.on Reg.WDN_FORCE_CTRL.ACTIVE = false) ∧ (v.wdn.leaseEnd = some c) ∧ (c ≤ v.clk))) ∧
    (∃ (ofs : Fin 122880) (c : Nat) (s : State), s.live ∧ (let v := s.asOf ofs; (v.on Reg.MIR_CTRL.TWIN = true) ∧ (v.on Reg.WDN_TWL_STAT.HELD = true) ∧ (v.on Reg.WDN_FORCE_CTRL.ACTIVE = false) ∧ (v.wdn.leaseEnd = some c) ∧ (v.clk < c))) ∧
    (∃ (ofs : Fin 122880) (c : Nat) (s : State), s.live ∧ (let v := s.asOf ofs; (v.wdn.holdoff = some c) ∧ (c ≤ v.clk))) ∧
    (∃ (ofs : Fin 122880) (s : State), s.live ∧ (let v := s.asOf ofs; (v.wdn.holdoff = none))) ∧
    (∃ (s : State), s.live ∧ (let u := s.cleared; (windowOn u Reg.MIR_CTRL.YIELD.addr = false))) ∧
    (∃ (s : State), s.live ∧ (let u := s.cleared; (windowOn u Reg.MIR_CTRL.YIELD.addr = true) ∧ (u.on Reg.MIR_CTRL.TWIN = true) ∧ (u.on Reg.WDN_TWL_STAT.HELD = true) ∧ (twinLinked u = true) ∧ (u.mir.peerCaughtUp = true) ∧ (u.on Reg.WDN_TWL_STAT.WIT = true))) ∧
    (∃ (s : State), s.live ∧ (let u := s.cleared; (windowOn u Reg.MIR_CTRL.YIELD.addr = true) ∧ (twinLinked u = false ∨ u.mir.peerCaughtUp = false ∨ u.on Reg.WDN_TWL_STAT.WIT = false) ∧ (u.wdn.yieldSet = false))) ∧
    (∃ (ofs : Fin 122880) (s : State), s.live ∧ (let v := s.asOf ofs; (v.on Reg.WDN_FORCE_CTRL.BUSY = true))) ∧
    (∃ (ofs : Fin 122880) (s : State), s.live ∧ (let v := s.asOf ofs; (v.on Reg.WDN_FORCE_CTRL.BUSY = false))) ∧
    (∃ (ofs : Fin 122880) (s : State), s.live ∧ (let v := s.asOf ofs; (v.wdn.forceSince = none))) ∧
    (∃ (ofs : Fin 122880) (c : Nat) (s : State), s.live ∧ (let v := s.asOf ofs; let z := modWdn (fun w => { w with forceSince := none }) (v.put Reg.WDN_FORCE_CTRL.ARMED 0); (v.wdn.forceSince = some c) ∧ (z.clk ≤ c + usClk 1000))) ∧
    (∃ (ofs : Fin 122880) (c : Nat) (s : State), s.live ∧ (let v := s.asOf ofs; let z := modWdn (fun w => { w with forceSince := none }) (v.put Reg.WDN_FORCE_CTRL.ARMED 0); (v.wdn.forceSince = some c) ∧ (c + usClk 1000 < z.clk))) ∧
    (∃ (ofs : Fin 122880) (s : State), s.live ∧ (let v := s.asOf ofs; (v.wdn.forceDecide = none))) ∧
    (∃ (ofs : Fin 122880) (c : Nat) (s : State), s.live ∧ (let v := s.asOf ofs; let y := modWdn (fun w => { w with forceDecide := none }) (v.put Reg.WDN_FORCE_CTRL.BUSY 0); let e := y.clk + forceDur y * 983040000; let w := modWdn (fun w => { w with forceEnd := some e, leaseEnd := some e }) ((y.put Reg.WDN_FORCE_CTRL.ACTIVE 1).put Reg.WDN_FORCE_LEFT.SEC (forceDur y)); (v.wdn.forceDecide = some c) ∧ (c ≤ v.clk) ∧ (forceSigned y = true) ∧ (y.on Reg.WDN_TWL_STAT.WIT = false) ∧ (twinLinked y = false) ∧ (w.on Reg.WDN_TWL_STAT.HELD = false))) ∧
    (∃ (ofs : Fin 122880) (c : Nat) (s : State), s.live ∧ (let v := s.asOf ofs; let y := modWdn (fun w => { w with forceDecide := none }) (v.put Reg.WDN_FORCE_CTRL.BUSY 0); let e := y.clk + forceDur y * 983040000; let w := modWdn (fun w => { w with forceEnd := some e, leaseEnd := some e }) ((y.put Reg.WDN_FORCE_CTRL.ACTIVE 1).put Reg.WDN_FORCE_LEFT.SEC (forceDur y)); (v.wdn.forceDecide = some c) ∧ (c ≤ v.clk) ∧ (forceSigned y = true) ∧ (y.on Reg.WDN_TWL_STAT.WIT = false) ∧ (twinLinked y = false) ∧ (w.on Reg.WDN_TWL_STAT.HELD = true))) ∧
    (∃ (ofs : Fin 122880) (c : Nat) (s : State), s.live ∧ (let v := s.asOf ofs; let y := modWdn (fun w => { w with forceDecide := none }) (v.put Reg.WDN_FORCE_CTRL.BUSY 0); (v.wdn.forceDecide = some c) ∧ (c ≤ v.clk) ∧ (forceSigned y = false ∨ y.on Reg.WDN_TWL_STAT.WIT = true))) ∧
    (∃ (ofs : Fin 122880) (c : Nat) (s : State), s.live ∧ (let v := s.asOf ofs; let y := modWdn (fun w => { w with forceDecide := none }) (v.put Reg.WDN_FORCE_CTRL.BUSY 0); let e := y.clk + forceDur y * 983040000; let w := modWdn (fun w => { w with forceEnd := some e, leaseEnd := some e }) ((y.put Reg.WDN_FORCE_CTRL.ACTIVE 1).put Reg.WDN_FORCE_LEFT.SEC (forceDur y)); let t := modWdn (fun w => { w with forceEnd := none }) ((v.put Reg.WDN_FORCE_CTRL.ACTIVE 0).put Reg.WDN_FORCE_LEFT.SEC 0); (v.on Reg.WDN_FORCE_CTRL.ACTIVE = true) ∧ (v.wdn.forceEnd = some c) ∧ (c ≤ v.clk) ∧ (t.on Reg.MIR_CTRL.TWIN = true))) ∧
    (∃ (ofs : Fin 122880) (c : Nat) (s : State), s.live ∧ (let v := s.asOf ofs; let y := modWdn (fun w => { w with forceDecide := none }) (v.put Reg.WDN_FORCE_CTRL.BUSY 0); let e := y.clk + forceDur y * 983040000; let w := modWdn (fun w => { w with forceEnd := some e, leaseEnd := some e }) ((y.put Reg.WDN_FORCE_CTRL.ACTIVE 1).put Reg.WDN_FORCE_LEFT.SEC (forceDur y)); let t := modWdn (fun w => { w with forceEnd := none }) ((v.put Reg.WDN_FORCE_CTRL.ACTIVE 0).put Reg.WDN_FORCE_LEFT.SEC 0); (v.on Reg.WDN_FORCE_CTRL.ACTIVE = true) ∧ (v.wdn.forceEnd = some c) ∧ (c ≤ v.clk) ∧ (t.on Reg.MIR_CTRL.TWIN = false))) ∧
    (∃ (ofs : Fin 122880) (s : State), s.live ∧ (let v := s.asOf ofs; (v.on Reg.WDN_FORCE_CTRL.ACTIVE = false))) :=
  ⟨⟨0, { W [(Reg.MIR_CTRL.TWIN, 1), (Reg.WDN_TWL_STAT.HELD, 1), (Reg.WDN_STAT.FAIL, 0), (Reg.WDN_FORCE_CTRL.ACTIVE, 0)] with wdn := { State.reset.wdn with yieldStop := false, yieldDue := false } }, rfl, by decide +kernel⟩,
   ⟨0, 0, { W [(Reg.MIR_CTRL.TWIN, 1), (Reg.WDN_TWL_STAT.HELD, 1), (Reg.WDN_STAT.FAIL, 0), (Reg.WDN_FORCE_CTRL.ACTIVE, 0)] with wdn := { State.reset.wdn with yieldStop := false, yieldDue := false, lastReq := some (0) } }, rfl, by decide +kernel⟩,
   ⟨0, { W [(Reg.MIR_CTRL.TWIN, 1), (Reg.WDN_TWL_STAT.HELD, 1), (Reg.WDN_STAT.FAIL, 0), (Reg.WDN_FORCE_CTRL.ACTIVE, 0)] with wdn := { State.reset.wdn with yieldStop := false, yieldDue := true }, txc := { State.reset.txc with mods := [] } }, rfl, by decide +kernel⟩,
   ⟨0, W [(Reg.MIR_CTRL.TWIN, 0)], rfl, by decide +kernel⟩,
   ⟨0, W [(Reg.MIR_CTRL.TWIN, 1), (Reg.WDN_TWL_STAT.WIT, 1), (Reg.WDN_FORCE_CTRL.ACTIVE, 0), (Reg.WDN_TWL_STAT.PENDING, 1)], rfl, by decide +kernel⟩,
   ⟨0, 0, { W [(Reg.MIR_CTRL.TWIN, 1), (Reg.WDN_TWL_STAT.WIT, 1), (Reg.WDN_FORCE_CTRL.ACTIVE, 0), (Reg.WDN_TWL_STAT.PENDING, 0), (Reg.WDN_TWL_STAT.HELD, 1)] with wdn := { State.reset.wdn with lastReq := some (0), granted := false } }, rfl, by decide +kernel⟩,
   ⟨0, State.reset, rfl, by decide +kernel⟩,
   ⟨0, 0, { W [(Reg.MIR_CTRL.TWIN, 1), (Reg.WDN_TWL_STAT.HELD, 1), (Reg.WDN_FORCE_CTRL.ACTIVE, 0)] with wdn := { State.reset.wdn with leaseEnd := some (0) }, core := { State.reset.core with ticks := 1000000 } }, rfl, by decide +kernel⟩,
   ⟨0, 1000000, { W [(Reg.MIR_CTRL.TWIN, 1), (Reg.WDN_TWL_STAT.HELD, 1), (Reg.WDN_FORCE_CTRL.ACTIVE, 0)] with wdn := { State.reset.wdn with leaseEnd := some 1000000 } }, rfl, by decide +kernel⟩,
   ⟨0, 0, { State.reset with wdn := { State.reset.wdn with holdoff := some (0) }, core := { State.reset.core with ticks := 1000000 } }, rfl, by decide +kernel⟩,
   ⟨0, { State.reset with wdn := { State.reset.wdn with holdoff := none } }, rfl, by decide +kernel⟩,
   ⟨{ State.reset with pwr := { State.reset.pwr with off := List.range 32 } }, rfl, by decide +kernel⟩,
   ⟨{ W [(Reg.MIR_CTRL.TWIN, 1), (Reg.WDN_TWL_STAT.HELD, 1), (Reg.MIR_STAT.LINK, 3), (Reg.WDN_TWL_STAT.WIT, 1)] with mir := { State.reset.mir with peerCaughtUp := true } }, rfl, by decide +kernel⟩,
   ⟨{ State.reset with wdn := { State.reset.wdn with yieldSet := false } }, rfl, by decide +kernel⟩,
   ⟨0, W [(Reg.WDN_FORCE_CTRL.BUSY, 1)], rfl, by decide +kernel⟩,
   ⟨0, W [(Reg.WDN_FORCE_CTRL.BUSY, 0)], rfl, by decide +kernel⟩,
   ⟨0, { State.reset with wdn := { State.reset.wdn with forceSince := none } }, rfl, by decide +kernel⟩,
   ⟨0, 0, { State.reset with wdn := { State.reset.wdn with forceSince := some (0) } }, rfl, by decide +kernel⟩,
   ⟨100000, 0, { State.reset with wdn := { State.reset.wdn with forceSince := some 0 }, core := { State.reset.core with ticks := 1000 } }, rfl, by decide +kernel⟩,
   ⟨0, { State.reset with wdn := { State.reset.wdn with forceDecide := none } }, rfl, by decide +kernel⟩,
   ⟨0, 0, { W [(Reg.WDN_TWL_STAT.WIT, 0), (Reg.WDN_TWL_STAT.HELD, 0)] with wdn := { State.reset.wdn with forceDecide := some (0) }, core := { State.reset.core with ticks := 1000000 }, otp := provisioned }, rfl, by decide +kernel, by decide +kernel, signed_by hv (by decide +kernel), by decide +kernel, by decide +kernel, by decide +kernel⟩,
   ⟨0, 0, { W [(Reg.WDN_TWL_STAT.WIT, 0), (Reg.WDN_TWL_STAT.HELD, 1)] with wdn := { State.reset.wdn with forceDecide := some (0) }, core := { State.reset.core with ticks := 1000000 }, otp := provisioned }, rfl, by decide +kernel, by decide +kernel, signed_by hv (by decide +kernel), by decide +kernel, by decide +kernel, by decide +kernel⟩,
   ⟨0, 0, { W [(Reg.WDN_TWL_STAT.WIT, 1)] with wdn := { State.reset.wdn with forceDecide := some (0) }, core := { State.reset.core with ticks := 1000000 } }, rfl, by decide +kernel, by decide +kernel, Or.inr (by decide +kernel)⟩,
   ⟨0, 0, { W [(Reg.WDN_FORCE_CTRL.ACTIVE, 1), (Reg.MIR_CTRL.TWIN, 1)] with wdn := { State.reset.wdn with forceEnd := some (0) }, core := { State.reset.core with ticks := 1000000 } }, rfl, by decide +kernel⟩,
   ⟨0, 0, { W [(Reg.WDN_FORCE_CTRL.ACTIVE, 1), (Reg.MIR_CTRL.TWIN, 0)] with wdn := { State.reset.wdn with forceEnd := some (0) }, core := { State.reset.core with ticks := 1000000 } }, rfl, by decide +kernel⟩,
   ⟨0, W [(Reg.WDN_FORCE_CTRL.ACTIVE, 0)], rfl, by decide +kernel⟩⟩

/-- Every set of hypotheses of ResetsAndBoot is met. -/
theorem witness_ResetsAndBoot :
    (∃ (s : State), (let u := s.cleared; (u.pwr.noSupply = true))) ∧
    (∃ (s : State), (let u := s.cleared; (u.pwr.noSupply = false))) ∧
    (∃ (s : State), (let u := s.cleared; (u.pwr.noSupply = true ∨ u.pwr.porstLow = false))) ∧
    (∃ (flash : Bool) (s : State), (let u := s.cleared; let b := lcRoll (loupeLoad (modFw (fun f => { f with flash := flash }) (modPwr (fun p => { p with porstLow := false }) u))); let d := ((b.put Reg.KV_STATE.EPOCH b.otp.epoch).put Reg.FW_SVN.SVN b.otp.svn).emit (.pin "XSPI_RESET_N" 1); (u.pwr.noSupply = false) ∧ (u.pwr.porstLow = true) ∧ (d.get Reg.LC_STATE.STATE = 4))) ∧
    (∃ (flash : Bool) (s : State), (let u := s.cleared; let b := lcRoll (loupeLoad (modFw (fun f => { f with flash := flash }) (modPwr (fun p => { p with porstLow := false }) u))); let d := ((b.put Reg.KV_STATE.EPOCH b.otp.epoch).put Reg.FW_SVN.SVN b.otp.svn).emit (.pin "XSPI_RESET_N" 1); (u.pwr.noSupply = false) ∧ (u.pwr.porstLow = true) ∧ (d.get Reg.LC_STATE.STATE ≠ 4))) ∧
    (∃ (s : State), s.live ∧ (let u := s.cleared; (u.on Reg.MEM_STAT.INIT_DONE = false))) ∧
    (∃ (s : State), s.live ∧ (let u := s.cleared; (u.on Reg.MEM_STAT.INIT_DONE = true))) ∧
    (∃ (k : Nat) (s : State), s.live ∧ (let u := s.cleared; (u.fw.bootSlot = some k) ∧ (u.on Reg.MEM_STAT.INIT_DONE = true) ∧ (u.get Reg.LC_STATE.STATE ≠ 4))) ∧
    (∃ (s : State), s.live ∧ (let u := s.cleared; (u.fw.bootSlot = none))) :=
  ⟨⟨{ State.reset with pwr := { State.reset.pwr with noSupply := true } }, by decide +kernel⟩,
   ⟨{ State.reset with pwr := { State.reset.pwr with noSupply := false } }, by decide +kernel⟩,
   ⟨{ State.reset with pwr := { State.reset.pwr with noSupply := true } }, by decide +kernel⟩,
   ⟨false, { W [(Reg.LC_STATE.STATE, 4)] with pwr := { State.reset.pwr with noSupply := false, porstLow := true }, otp := { State.reset.otp with pairs := [⟨.complete, 3, 4, 0, 0, 0, .complete, .blank⟩] } }, by decide +kernel⟩,
   ⟨false, { W [(Reg.LC_STATE.STATE, 4 + 1)] with pwr := { State.reset.pwr with noSupply := false, porstLow := true } }, by decide +kernel⟩,
   ⟨W [(Reg.MEM_STAT.INIT_DONE, 0)], rfl, by decide +kernel⟩,
   ⟨W [(Reg.MEM_STAT.INIT_DONE, 1)], rfl, by decide +kernel⟩,
   ⟨0, { W [(Reg.MEM_STAT.INIT_DONE, 1), (Reg.LC_STATE.STATE, 4 + 1)] with fw := { State.reset.fw with bootSlot := some (0) } }, rfl, by decide +kernel⟩,
   ⟨{ State.reset with fw := { State.reset.fw with bootSlot := none } }, rfl, by decide +kernel⟩⟩

/-- Every set of hypotheses of FirmwareCommands is met where every signature verifies (log entry 6) and the hash of nothing is 0. -/
theorem witness_FirmwareCommands (hv : ∀ w g : List Nat, Config.sigVerify w g = true) (hs : Config.sha384 [] = 0) :
    (∃ (s : State), s.live ∧ (let u := s.cleared; (windowOn u Reg.FW_CTRL.LOAD.addr = true) ∧ (activating u = true))) ∧
    (∃ (s : State), s.live ∧ (let u := s.cleared; (windowOn u Reg.FW_CTRL.LOAD.addr = true) ∧ (activating u = false) ∧ (loading u = true))) ∧
    (∃ (s : State), s.live ∧ (let u := s.cleared; (windowOn u Reg.FW_CTRL.LOAD.addr = true) ∧ (activating u = false) ∧ (loading u = false))) ∧
    (∃ (s : State), s.live ∧ (let u := s.cleared; (windowOn u Reg.FW_CTRL.LOAD.addr = true) ∧ (loading u = false))) ∧
    (∃ (s : State), s.live ∧ (let u := s.cleared; (windowOn u Reg.FW_CTRL.LOAD.addr = true) ∧ (loading u = true))) ∧
    (∃ (h : PkgHdr) (o : List Byte) (e : Nat) (s : State), s.live ∧ (let u := s.cleared; (windowOn u Reg.FW_CTRL.LOAD.addr = true) ∧ (loading u = true) ∧ (buildImage u h o = (e, none)))) ∧
    (∃ (h : PkgHdr) (o : List Byte) (x : Image) (e : Nat) (s : State), s.live ∧ (let u := s.cleared; (windowOn u Reg.FW_CTRL.LOAD.addr = true) ∧ (loading u = true) ∧ (buildImage u h o = (e, some x)))) ∧
    (∃ (s : State), s.live ∧ (let u := s.cleared; (windowOn u Reg.FW_CTRL.LOAD.addr = true) ∧ (u.get Reg.FW_STAT.LOAD_STATE = 4) ∧ (u.on Reg.FW_STAT.FLASH_DONE = false) ∧ (u.fw.flash = true) ∧ (u.get Reg.FW_STAT.BOOT_SLOT ≠ 2))) ∧
    (∃ (s : State), s.live ∧ (let u := s.cleared; (windowOn u Reg.FW_CTRL.LOAD.addr = true) ∧ (u.get Reg.FW_STAT.LOAD_STATE ≠ 4 ∨ u.on Reg.FW_STAT.FLASH_DONE = true ∨ u.fw.flash = false))) ∧
    (∃ (b : Fin 2) (s : State), s.live ∧ (let u := s.cleared; (windowOn u Reg.FW_CTRL.LOAD.addr = true) ∧ ((bankAt u b).verified = true ∨ (bankAt u b).img = none))) ∧
    (∃ (b : Fin 2) (x : Image) (s : State), s.live ∧ (let u := s.cleared; (windowOn u Reg.FW_CTRL.LOAD.addr = true) ∧ ((bankAt u b).verified = false) ∧ ((bankAt u b).img = some x))) ∧
    (∃ (b : Fin 2) (x : Image) (s : State), s.live ∧ (let u := s.cleared; let k := stgBank u; (windowOn u Reg.FW_CTRL.LOAD.addr = true) ∧ ((bankAt u b).verified = false) ∧ ((bankAt u b).img = some x) ∧ (b.val = k))) ∧
    (∃ (b : Fin 2) (x : Image) (s : State), s.live ∧ (let u := s.cleared; let k := stgBank u; (windowOn u Reg.FW_CTRL.LOAD.addr = true) ∧ ((bankAt u b).verified = false) ∧ ((bankAt u b).img = some x) ∧ (b.val ≠ k) ∧ (dirNow u = none))) ∧
    (∃ (s : State), s.live ∧ (let u := s.cleared; let k := stgBank u; (windowOn u Reg.FW_CTRL.LOAD.addr = true) ∧ (u.on Reg.FW_STAT.RECOVERY = true) ∧ ((bankAt u k).verified = false))) ∧
    (∃ (s : State), s.live ∧ (let u := s.cleared; let k := stgBank u; let r := ((u.put Reg.FW_STAT.RUN_BANK k).put Reg.FW_STAT.RECOVERY 0).put Reg.FW_STAT.BOOT_SLOT 2; (windowOn u Reg.FW_CTRL.LOAD.addr = true) ∧ (u.on Reg.FW_STAT.RECOVERY = true) ∧ ((bankAt u k).verified = true) ∧ (r.on Reg.FW_STAT.FLASH_DONE = false))) ∧
    (∃ (s : State), s.live ∧ (let u := s.cleared; (windowOn u Reg.FW_CTRL.LOAD.addr = true) ∧ (u.on Reg.FW_STAT.RECOVERY = false) ∧ (activating u = true))) ∧
    (∃ (s : State), s.live ∧ (let u := s.cleared; (windowOn u Reg.FW_CTRL.LOAD.addr = true) ∧ (u.on Reg.FW_STAT.RECOVERY = false) ∧ (activating u = false) ∧ (actRefusal u ≠ 0))) ∧
    (∃ (s : State), s.live ∧ (let u := s.cleared; (windowOn u Reg.FW_CTRL.LOAD.addr = true) ∧ (u.on Reg.FW_STAT.RECOVERY = false) ∧ (activating u = false) ∧ (actRefusal u = 0))) ∧
    (∃ (e : Nat) (s : State), s.live ∧ (let u := s.cleared; let a := ((u.put Reg.FW_STAT.ACT_STATE 0).put Reg.FW_STAT.ACT_ERR e).inc Reg.FW_ACT_ABORT.CNT; (windowOn u Reg.FW_CTRL.LOAD.addr = true) ∧ (actBefore u = true) ∧ (clState a (clStandby a) ≠ clACTIVE) ∧ (e = 7))) ∧
    (∃ (e : Nat) (s : State), s.live ∧ (let u := s.cleared; let a := ((u.put Reg.FW_STAT.ACT_STATE 0).put Reg.FW_STAT.ACT_ERR e).inc Reg.FW_ACT_ABORT.CNT; (windowOn u Reg.FW_CTRL.LOAD.addr = true) ∧ (actBefore u = true) ∧ (clState a (clStandby a) ≠ clACTIVE) ∧ (e = 5) ∧ (u.fw.actSince + max 1 (u.get Reg.FW_ACT_CFG.MAX_TICKS) ≤ u.core.ticks))) ∧
    (∃ (s : State), s.live ∧ (let u := s.cleared; (windowOn u Reg.FW_CTRL.LOAD.addr = true) ∧ (actBefore u = false))) ∧
    (∃ (s : State), s.live ∧ (let u := s.cleared; (windowOn u Reg.FW_CTRL.LOAD.addr = true) ∧ (u.get Reg.FW_STAT.ACT_STATE = 5) ∧ (u.get Reg.LC_STATE.STATE ≠ 0))) ∧
    (∃ (s : State), s.live ∧ (let u := s.cleared; (windowOn u Reg.FW_CTRL.LOAD.addr = true) ∧ (u.get Reg.FW_STAT.ACT_STATE ≠ 5 ∨ u.get Reg.LC_STATE.STATE = 0))) ∧
    (∃ (s : State), s.live ∧ (let u := s.cleared; (windowOn u Reg.FW_CTRL.LOAD.addr = true) ∧ (u.get Reg.FW_STAT.LOAD_STATE = 4) ∧ (u.on Reg.FW_STAT.FLASH_DONE = true) ∧ (u.fw.flash = true))) ∧
    (∃ (s : State), s.live ∧ (let u := s.cleared; (windowOn u Reg.FW_CTRL.LOAD.addr = true) ∧ (u.get Reg.FW_STAT.LOAD_STATE ≠ 4))) :=
  ⟨⟨W [(Reg.FW_STAT.ACT_STATE, 1)], rfl, by decide +kernel⟩,
   ⟨W [(Reg.FW_STAT.LOAD_STATE, 1)], rfl, by decide +kernel⟩,
   ⟨State.reset, rfl, by decide +kernel⟩,
   ⟨State.reset, rfl, by decide +kernel⟩,
   ⟨W [(Reg.FW_STAT.LOAD_STATE, 1)], rfl, by decide +kernel⟩,
   ⟨(default : PkgHdr), [], 1, W [(Reg.FW_STAT.LOAD_STATE, 1)], rfl, by decide +kernel⟩,
   ⟨goodPkg, [], ⟨goodPkg, []⟩, 0, loadingPkg, rfl, by decide +kernel, by decide +kernel, goodPkg_builds hv hs⟩,
   ⟨{ W [(Reg.FW_STAT.LOAD_STATE, 4), (Reg.FW_STAT.FLASH_DONE, 0), (Reg.FW_STAT.BOOT_SLOT, 2 + 1)] with fw := { State.reset.fw with flash := true } }, rfl, by decide +kernel⟩,
   ⟨W [(Reg.FW_STAT.LOAD_STATE, 4 + 1)], rfl, by decide +kernel⟩,
   ⟨0, { State.reset with fw := { State.reset.fw with fb1 := { State.reset.fw.fb1 with verified := true } } }, rfl, by decide +kernel⟩,
   ⟨0, (default : Image), { State.reset with fw := { State.reset.fw with fb1 := { State.reset.fw.fb1 with verified := false }, fb0 := { State.reset.fw.fb0 with img := some ((default : Image)) } } }, rfl, by decide +kernel⟩,
   ⟨1, (default : Image), { State.reset with fw := { State.reset.fw with fb1 := ⟨some default, false⟩, fb0 := { State.reset.fw.fb0 with img := some ((default : Image)) } } }, rfl, by decide +kernel⟩,
   ⟨0, (default : Image), { State.reset with fw := { State.reset.fw with fb1 := { State.reset.fw.fb1 with verified := false }, fb0 := { State.reset.fw.fb0 with img := some ((default : Image)) } } }, rfl, by decide +kernel⟩,
   ⟨{ W [(Reg.FW_STAT.RECOVERY, 1)] with fw := { State.reset.fw with fb1 := { State.reset.fw.fb1 with verified := false } } }, rfl, by decide +kernel⟩,
   ⟨{ W [(Reg.FW_STAT.RECOVERY, 1), (Reg.FW_STAT.FLASH_DONE, 0)] with fw := { State.reset.fw with fb1 := { State.reset.fw.fb1 with verified := true } } }, rfl, by decide +kernel⟩,
   ⟨W [(Reg.FW_STAT.RECOVERY, 0), (Reg.FW_STAT.ACT_STATE, 1)], rfl, by decide +kernel⟩,
   ⟨W [(Reg.FW_STAT.RECOVERY, 0)], rfl, by decide +kernel⟩,
   ⟨{ W [(Reg.FW_STAT.RECOVERY, 0), (Reg.FW_STAT.LOAD_STATE, 4), (Reg.FW_STAT.FLASH_DONE, 1), (Reg.WDN_STAT.CCA_STATE, 4), (Reg.WDN_STAT.CCB_STATE, 3)] with fw := { State.reset.fw with fb1 := ⟨some { (default : Image) with hdr := ⟨[0, 0, 0, 0, 0, 0, 0, 1]⟩ }, true⟩ } }, rfl, by decide +kernel⟩,
   ⟨7, W [(Reg.FW_STAT.ACT_STATE, 1)], rfl, by decide +kernel⟩,
   ⟨5, { W [(Reg.FW_STAT.ACT_STATE, 1)] with core := { State.reset.core with ticks := 1000000000 } }, rfl, by decide +kernel⟩,
   ⟨State.reset, rfl, by decide +kernel⟩,
   ⟨W [(Reg.FW_STAT.ACT_STATE, 5), (Reg.LC_STATE.STATE, 0 + 1)], rfl, by decide +kernel⟩,
   ⟨W [(Reg.FW_STAT.ACT_STATE, 5 + 1)], rfl, by decide +kernel⟩,
   ⟨{ W [(Reg.FW_STAT.LOAD_STATE, 4), (Reg.FW_STAT.FLASH_DONE, 1)] with fw := { State.reset.fw with flash := true } }, rfl, by decide +kernel⟩,
   ⟨W [(Reg.FW_STAT.LOAD_STATE, 4 + 1)], rfl, by decide +kernel⟩⟩

/-- Every set of hypotheses of FacetCommands is met where every signature verifies (log entry 6) and the hash of nothing is 0. -/
theorem witness_FacetCommands (hv : ∀ w g : List Nat, Config.sigVerify w g = true) (hs : Config.sha384 [] = 0) :
    (∃ (s : State), s.live ∧ (let u := s.cleared; (windowOn u Reg.FW_CTRL.LOAD.addr = true))) ∧
    (∃ (mask : Fin 65536) (s : State), s.live ∧ (let u := s.cleared; let r := u.put Reg.FW_FACET_REQ.MASK (mask / 2); let want := r.get Reg.FW_FACET_CELL.CELL; let lead := cellNo u + max 1 (r.get Reg.FW_FACET_CFG.LEAD); (windowOn u Reg.FW_CTRL.LOAD.addr = true) ∧ (want = 0 ∨ lead ≤ want))) ∧
    (∃ (mask : Fin 65536) (s : State), s.live ∧ (let u := s.cleared; let r := u.put Reg.FW_FACET_REQ.MASK (mask / 2); let want := r.get Reg.FW_FACET_CELL.CELL; let lead := cellNo u + max 1 (r.get Reg.FW_FACET_CFG.LEAD); (windowOn u Reg.FW_CTRL.LOAD.addr = true) ∧ (want ≠ 0) ∧ (want < lead))) ∧
    (∃ (s : State), s.live ∧ (let u := s.cleared; (windowOn u Reg.FW_CTRL.LOAD.addr = true) ∧ (u.get Reg.FW_FCT_STAT.STATE ≠ 1))) ∧
    (∃ (o : Option (List Byte)) (e : Nat) (n : Nat) (f : Facet) (s : State), s.live ∧ (let u := s.cleared; (windowOn u Reg.FW_CTRL.LOAD.addr = true) ∧ (u.get Reg.FW_FCT_STAT.STATE = 1) ∧ (facetCheck u (o.getD []) = (e, n, f)) ∧ (e ≠ 0))) ∧
    (∃ (o : Option (List Byte)) (e : Nat) (n : Nat) (f : Facet) (s : State), s.live ∧ (let u := s.cleared; let a := u.put Reg.FW_FCT_STAT.FACET n; let y := modFw (fun w => { w with store := w.store.set n (f :: (w.store.get n).take 1) }) ((a.put Reg.FW_FCT_STAT.STATE 2).put Reg.FW_FCT_STAT.ERR 0); let w := deflWord u; (windowOn u Reg.FW_CTRL.LOAD.addr = true) ∧ (u.get Reg.FW_FCT_STAT.STATE = 1) ∧ (facetCheck u (o.getD []) = (e, n, f)) ∧ (e = 0) ∧ (forStaged y f.schemaVer = true))) ∧
    (∃ (o : Option (List Byte)) (e : Nat) (n : Nat) (f : Facet) (s : State), s.live ∧ (let u := s.cleared; let a := u.put Reg.FW_FCT_STAT.FACET n; let y := modFw (fun w => { w with store := w.store.set n (f :: (w.store.get n).take 1) }) ((a.put Reg.FW_FCT_STAT.STATE 2).put Reg.FW_FCT_STAT.ERR 0); let w := deflWord u; (windowOn u Reg.FW_CTRL.LOAD.addr = true) ∧ (u.get Reg.FW_FCT_STAT.STATE = 1) ∧ (facetCheck u (o.getD []) = (e, n, f)) ∧ (e = 0) ∧ (forStaged y f.schemaVer = false))) ∧
    (∃ (s : State), s.live ∧ (let u := s.cleared; let d := Reg.FW_DEFLIST.ITEM.addr; (windowOn u Reg.FW_CTRL.LOAD.addr = true) ∧ (windowOn u d = true))) :=
  ⟨⟨State.reset, rfl, by decide +kernel⟩,
   ⟨0, State.reset, rfl, by decide +kernel⟩,
   ⟨0, { W [(Reg.FW_FACET_CELL.CELL, 1)] with mac := { State.reset.mac with running := true, cell := 100 } }, rfl, by decide +kernel⟩,
   ⟨W [(Reg.FW_FCT_STAT.STATE, 1 + 1)], rfl, by decide +kernel⟩,
   ⟨none, 6, 0, (default : Facet), W [(Reg.FW_FCT_STAT.STATE, 1)], rfl, by decide +kernel⟩,
   ⟨some goodFacet, 0, 0, { (default : Facet) with hash := 0 }, stagedFacet, rfl, by decide +kernel, by decide +kernel, goodFacet_staged hv hs, rfl, by decide +kernel⟩,
   ⟨some goodFacet, 0, 0, { (default : Facet) with hash := 0 }, loadingFacet, rfl, by decide +kernel, by decide +kernel, goodFacet_passes hv hs, rfl, by decide +kernel⟩,
   ⟨State.reset, rfl, by decide +kernel⟩⟩

/-- Every set of hypotheses of LifeCycle is met. -/
theorem witness_LifeCycle :
    (∃ (target : Fin 8) (ofs : Fin 122880) (s : State), s.live ∧ (let v := s.asOf ofs; let r := v.put Reg.LC_REQ.TARGET target; (r.on Reg.LC_STATE.BUSY = true))) ∧
    (∃ (target : Fin 8) (ofs : Fin 122880) (s : State), s.live ∧ (let v := s.asOf ofs; let r := v.put Reg.LC_REQ.TARGET target; (r.on Reg.LC_STATE.BUSY = false))) ∧
    (∃ (target : Fin 8) (ofs : Fin 122880) (s : State), s.live ∧ (let v := s.asOf ofs; let r := v.put Reg.LC_REQ.TARGET target; (r.on Reg.LC_STATE.BUSY = false) ∧ (lcErr r target ≠ 0))) ∧
    (∃ (target : Fin 8) (ofs : Fin 122880) (s : State), s.live ∧ (let v := s.asOf ofs; let r := v.put Reg.LC_REQ.TARGET target; (r.on Reg.LC_STATE.BUSY = false) ∧ (lcErr r target = 0))) ∧
    (∃ (target : Fin 8) (ofs : Fin 122880) (s : State), s.live ∧ (let v := s.asOf ofs; let r := v.put Reg.LC_REQ.TARGET target; (r.on Reg.LC_STATE.BUSY = false) ∧ (r.lc.armed = none))) ∧
    (∃ (s : State), s.live ∧ (let u := s.cleared; (u.lc.target = none))) ∧
    (∃ (b : Nat) (s : State), s.live ∧ (let u := s.cleared; (u.lc.target = some b))) :=
  ⟨⟨0, 0, W [(Reg.LC_STATE.BUSY, 1)], rfl, by decide +kernel⟩,
   ⟨0, 0, W [(Reg.LC_STATE.BUSY, 0)], rfl, by decide +kernel⟩,
   ⟨0, 0, W [(Reg.LC_STATE.BUSY, 0)], rfl, by decide +kernel⟩,
   ⟨4, 0, { W [(Reg.LC_STATE.BUSY, 0)] with lc := { State.reset.lc with armed := some 0 } }, rfl, by decide +kernel⟩,
   ⟨0, 0, { W [(Reg.LC_STATE.BUSY, 0)] with lc := { State.reset.lc with armed := none } }, rfl, by decide +kernel⟩,
   ⟨{ State.reset with lc := { State.reset.lc with target := none } }, rfl, by decide +kernel⟩,
   ⟨0, { State.reset with lc := { State.reset.lc with target := some (0) } }, rfl, by decide +kernel⟩⟩

/-- Every set of hypotheses of PowerSequences is met. -/
theorem witness_PowerSequences :
    (∃ (target : Fin 8) (s : State), s.live ∧ (let u := s.cleared; let p := u.put Reg.PWR_REQ.TARGET target; (p.pwr.seqn = none) ∧ (pwrState p = 4))) ∧
    (∃ (target : Fin 8) (s : State), s.live ∧ (let u := s.cleared; let p := u.put Reg.PWR_REQ.TARGET target; (p.pwr.seqn ≠ none ∨ pwrState p ≠ 4) ∧ (p.on Reg.WDN_STAT.FROZEN = true))) ∧
    (∃ (target : Fin 8) (r : Nat) (s : State), s.live ∧ (let u := s.cleared; let p := u.put Reg.PWR_REQ.TARGET target; (p.pwr.seqn ≠ none ∨ pwrState p ≠ 4) ∧ (p.on Reg.WDN_STAT.FROZEN = false) ∧ (refuser p target 0 = some r))) ∧
    (∃ (target : Fin 8) (s : State), s.live ∧ (let u := s.cleared; let p := u.put Reg.PWR_REQ.TARGET target; (p.pwr.seqn ≠ none ∨ pwrState p ≠ 4) ∧ (p.on Reg.WDN_STAT.FROZEN = false) ∧ (refuser p target 0 = none) ∧ (p.pwr.seqn = none) ∧ (target = 0) ∧ (pwrState p = 0))) ∧
    (∃ (target : Fin 8) (s : State), s.live ∧ (let u := s.cleared; let p := u.put Reg.PWR_REQ.TARGET target; (p.pwr.seqn ≠ none ∨ pwrState p ≠ 4) ∧ (p.on Reg.WDN_STAT.FROZEN = false) ∧ (refuser p target 0 = none) ∧ (p.pwr.seqn = none) ∧ (target.val ≠ 0 ∨ pwrState p ≠ 0) ∧ (pwrState p ≠ 3 ∨ 3 ≤ target.val))) ∧
    (∃ (target : Fin 8) (s : State), s.live ∧ (let u := s.cleared; let p := u.put Reg.PWR_REQ.TARGET target; (p.pwr.seqn ≠ none ∨ pwrState p ≠ 4) ∧ (p.on Reg.WDN_STAT.FROZEN = false) ∧ (refuser p target 0 = none) ∧ (p.pwr.seqn = none) ∧ (pwrState p = 3) ∧ (target.val < 3))) ∧
    (∃ (target : Fin 8) (q : PwrSeq) (s : State), s.live ∧ (let u := s.cleared; let p := u.put Reg.PWR_REQ.TARGET target; (p.pwr.seqn ≠ none ∨ pwrState p ≠ 4) ∧ (p.on Reg.WDN_STAT.FROZEN = false) ∧ (refuser p target 0 = none) ∧ (p.pwr.seqn = some q) ∧ (q.target ≠ target.val))) ∧
    (∃ (target : Fin 8) (q : PwrSeq) (s : State), s.live ∧ (let u := s.cleared; let p := u.put Reg.PWR_REQ.TARGET target; (p.pwr.seqn ≠ none ∨ pwrState p ≠ 4) ∧ (p.on Reg.WDN_STAT.FROZEN = false) ∧ (refuser p target 0 = none) ∧ (p.pwr.seqn = some q) ∧ (q.target = target.val))) ∧
    (∃ (s : State), s.live ∧ (let u := s.cleared; (u.pwr.sw = none))) ∧
    (∃ (on : Bool) (d : Nat) (k : Nat) (s : State), s.live ∧ (let u := s.cleared; (u.pwr.sw = some (d, on, k)) ∧ (switching u = some (d, on)) ∧ ((u.core.ticks + 1) * Config.tickClocks ≤ k))) ∧
    (∃ (on : Bool) (d : Nat) (k : Nat) (s : State), s.live ∧ (let u := s.cleared; (u.pwr.sw = some (d, on, k)) ∧ (switching u = some (d, on)) ∧ (k < (u.core.ticks + 1) * Config.tickClocks) ∧ (u.pwr.seqn = none))) ∧
    (∃ (on : Bool) (d : Nat) (k : Nat) (q : PwrSeq) (s : State), s.live ∧ (let u := s.cleared; (u.pwr.sw = some (d, on, k)) ∧ (switching u = some (d, on)) ∧ (k < (u.core.ticks + 1) * Config.tickClocks) ∧ (u.pwr.seqn = some q) ∧ (q.ups ≠ []))) ∧
    (∃ (on : Bool) (d : Nat) (k : Nat) (q : PwrSeq) (s : State), s.live ∧ (let u := s.cleared; (u.pwr.sw = some (d, on, k)) ∧ (switching u = some (d, on)) ∧ (k < (u.core.ticks + 1) * Config.tickClocks) ∧ (u.pwr.seqn = some q) ∧ (q.ups = []) ∧ (q.downs ≠ []))) ∧
    (∃ (s : State), s.live ∧ (let u := s.cleared; (u.pwr.seqn = none))) ∧
    (∃ (q : PwrSeq) (s : State), s.live ∧ (let u := s.cleared; let wait := min 4 (max 1 (u.eff Reg.DEC_CTRL.BUDGET_TICKS)) + b2n (u.effOn Reg.MIR_CTRL.CNT_MIRROR && u.on Reg.MIR_CTRL.TWIN) + 2; (u.pwr.seqn = some q) ∧ (q.phase = 3) ∧ (q.mark + wait ≤ u.core.ticks) ∧ (u.mir.int.unacked = []) ∧ (u.mir.twin.unacked = []))) ∧
    (∃ (q : PwrSeq) (s : State), s.live ∧ (let u := s.cleared; let wait := min 4 (max 1 (u.eff Reg.DEC_CTRL.BUDGET_TICKS)) + b2n (u.effOn Reg.MIR_CTRL.CNT_MIRROR && u.on Reg.MIR_CTRL.TWIN) + 2; (u.pwr.seqn = some q) ∧ (q.phase ≠ 3 ∨ u.core.ticks < q.mark + wait))) ∧
    (∃ (s : State), s.live ∧ (let u := s.cleared; (u.lpe.sealing = none))) ∧
    (∃ (tick : Nat) (c : Tab Nat) (s : State), s.live ∧ (let u := s.cleared; (u.lpe.sealing = some (c, tick)))) ∧
    (∃ (s : State), s.live ∧ (let u := s.cleared; (timerDue u = true))) ∧
    (∃ (s : State), s.live ∧ (let u := s.cleared; (timerDue u = false))) ∧
    (∃ (n : Fin 16) (rising : Bool) (s : State), s.live ∧ (let u := s.cleared; (bitAt (u.get Reg.PWR_WAKE_GPIO.EN) n = true) ∧ (bitAt (u.get Reg.PWR_WAKE_GPIO.EDGE) n = rising))) ∧
    (∃ (n : Fin 16) (s : State), s.live ∧ (let u := s.cleared; (bitAt (u.get Reg.PWR_WAKE_GPIO.EN) n = false))) ∧
    (∃ (s : State), s.live ∧ (let u := s.cleared; (u.on Reg.PWR_STAT.RELEASE_READY = true))) ∧
    (∃ (s : State), s.live ∧ (let u := s.cleared; (u.on Reg.PWR_STAT.RELEASE_READY = false))) ∧
    (∃ (q : PwrSeq) (s : State), s.live ∧ (let u := s.cleared; let l := lpeHeld 0x091 (leaseAbort ((modWdn (fun w => { w with leaseEnd := none, lastReq := none }) (u.put Reg.WDN_TWL_STAT.HELD 0)).emit (.pin "LEASE_REQ" 0))); let m := setQueued none (l.incIf l.pwr.queued.isSome Reg.PWR_REPLACED.CNT); (m.pwr.seqn = some q) ∧ (q.target = 4) ∧ (q.phase ≠ 0))) ∧
    (∃ (q : PwrSeq) (s : State), s.live ∧ (let u := s.cleared; let l := lpeHeld 0x091 (leaseAbort ((modWdn (fun w => { w with leaseEnd := none, lastReq := none }) (u.put Reg.WDN_TWL_STAT.HELD 0)).emit (.pin "LEASE_REQ" 0))); let m := setQueued none (l.incIf l.pwr.queued.isSome Reg.PWR_REPLACED.CNT); (m.pwr.seqn = some q) ∧ (q.target ≠ 4 ∨ q.phase = 0))) ∧
    (∃ (s : State), s.live ∧ (let u := s.cleared; let l := lpeHeld 0x091 (leaseAbort ((modWdn (fun w => { w with leaseEnd := none, lastReq := none }) (u.put Reg.WDN_TWL_STAT.HELD 0)).emit (.pin "LEASE_REQ" 0))); let m := setQueued none (l.incIf l.pwr.queued.isSome Reg.PWR_REPLACED.CNT); (m.pwr.seqn = none) ∧ (pwrState m ≠ 4) ∧ (pwrState m ≠ 3))) ∧
    (∃ (s : State), s.live ∧ (let u := s.cleared; let l := lpeHeld 0x091 (leaseAbort ((modWdn (fun w => { w with leaseEnd := none, lastReq := none }) (u.put Reg.WDN_TWL_STAT.HELD 0)).emit (.pin "LEASE_REQ" 0))); let m := setQueued none (l.incIf l.pwr.queued.isSome Reg.PWR_REPLACED.CNT); (m.pwr.seqn = none) ∧ (pwrState m = 3))) ∧
    (∃ (s : State), s.live ∧ (let u := s.cleared; let l := lpeHeld 0x091 (leaseAbort ((modWdn (fun w => { w with leaseEnd := none, lastReq := none }) (u.put Reg.WDN_TWL_STAT.HELD 0)).emit (.pin "LEASE_REQ" 0))); let m := setQueued none (l.incIf l.pwr.queued.isSome Reg.PWR_REPLACED.CNT); (m.pwr.seqn = none) ∧ (pwrState m = 4))) :=
  ⟨⟨0, { W [(Reg.PWR_STAT.STATE, 4)] with pwr := { State.reset.pwr with seqn := none } }, rfl, by decide +kernel⟩,
   ⟨0, { W [(Reg.WDN_STAT.FROZEN, 1)] with pwr := { State.reset.pwr with seqn := some default } }, rfl, by decide +kernel⟩,
   ⟨5, 1, { W [(Reg.WDN_STAT.FROZEN, 0)] with pwr := { State.reset.pwr with seqn := some default } }, rfl, by decide +kernel⟩,
   ⟨0, { W [(Reg.WDN_STAT.FROZEN, 0), (Reg.PWR_STAT.STATE, 0)] with pwr := { State.reset.pwr with seqn := none } }, rfl, by decide +kernel⟩,
   ⟨1, { W [(Reg.WDN_STAT.FROZEN, 0)] with pwr := { State.reset.pwr with seqn := none } }, rfl, by decide +kernel⟩,
   ⟨0, { W [(Reg.WDN_STAT.FROZEN, 0), (Reg.PWR_STAT.STATE, 3)] with pwr := { State.reset.pwr with seqn := none } }, rfl, by decide +kernel⟩,
   ⟨0, { (default : PwrSeq) with target := 1 }, { W [(Reg.WDN_STAT.FROZEN, 0)] with pwr := { State.reset.pwr with seqn := some { (default : PwrSeq) with target := 1 } } }, rfl, by decide +kernel⟩,
   ⟨0, { (default : PwrSeq) with target := 0 }, { W [(Reg.WDN_STAT.FROZEN, 0)] with pwr := { State.reset.pwr with seqn := some { (default : PwrSeq) with target := 0 } } }, rfl, by decide +kernel⟩,
   ⟨{ State.reset with pwr := { State.reset.pwr with sw := none } }, rfl, by decide +kernel⟩,
   ⟨true, 5, 1000000000, { State.reset with pwr := { State.reset.pwr with sw := some ((5), (true), (1000000000)), cyc := [(5, true)] } }, rfl, by decide +kernel⟩,
   ⟨true, 5, 0, { State.reset with pwr := { State.reset.pwr with sw := some ((5), (true), (0)), seqn := none, cyc := [(5, true)] } }, rfl, by decide +kernel⟩,
   ⟨true, 5, 0, (⟨1, 1, [5], [], false, 0, 0⟩ : PwrSeq), { State.reset with pwr := { State.reset.pwr with sw := some ((5), (true), (0)), seqn := some (⟨1, 1, [5], [], false, 0, 0⟩ : PwrSeq) } }, rfl, by decide +kernel⟩,
   ⟨false, 0, 0, { (default : PwrSeq) with ups := [], downs := [default] }, { State.reset with pwr := { State.reset.pwr with sw := some ((0), (false), (0)), seqn := some ({ (default : PwrSeq) with ups := [], downs := [default] }) } }, rfl, by decide +kernel⟩,
   ⟨{ State.reset with pwr := { State.reset.pwr with seqn := none } }, rfl, by decide +kernel⟩,
   ⟨{ (default : PwrSeq) with phase := 3 }, { State.reset with pwr := { State.reset.pwr with seqn := some ({ (default : PwrSeq) with phase := 3 }) }, core := { State.reset.core with ticks := 1000000 }, mir := { State.reset.mir with int := { State.reset.mir.int with unacked := [] }, twin := { State.reset.mir.twin with unacked := [] } } }, rfl, by decide +kernel⟩,
   ⟨{ (default : PwrSeq) with phase := 3 + 1 }, { State.reset with pwr := { State.reset.pwr with seqn := some ({ (default : PwrSeq) with phase := 3 + 1 }) } }, rfl, by decide +kernel⟩,
   ⟨{ State.reset with lpe := { State.reset.lpe with sealing := none } }, rfl, by decide +kernel⟩,
   ⟨0, [], { State.reset with lpe := { State.reset.lpe with sealing := some (([]), (0)) } }, rfl, by decide +kernel⟩,
   ⟨W [(Reg.PWR_WAKE_CFG.TIMER_EN, 1), (Reg.PWR_WAKE_TICK.TICK, 0)], rfl, by decide +kernel⟩,
   ⟨State.reset, rfl, by decide +kernel⟩,
   ⟨0, true, W [(Reg.PWR_WAKE_GPIO.EN, 1), (Reg.PWR_WAKE_GPIO.EDGE, 1)], rfl, by decide +kernel⟩,
   ⟨0, State.reset, rfl, by decide +kernel⟩,
   ⟨W [(Reg.PWR_STAT.RELEASE_READY, 1)], rfl, by decide +kernel⟩,
   ⟨W [(Reg.PWR_STAT.RELEASE_READY, 0)], rfl, by decide +kernel⟩,
   ⟨{ (default : PwrSeq) with target := 4, phase := 0 + 1 }, { State.reset with pwr := { State.reset.pwr with seqn := some ({ (default : PwrSeq) with target := 4, phase := 0 + 1 }) } }, rfl, by decide +kernel⟩,
   ⟨{ (default : PwrSeq) with target := 4 + 1 }, { State.reset with pwr := { State.reset.pwr with seqn := some ({ (default : PwrSeq) with target := 4 + 1 }) } }, rfl, by decide +kernel⟩,
   ⟨{ State.reset with pwr := { State.reset.pwr with seqn := none } }, rfl, by decide +kernel⟩,
   ⟨{ W [(Reg.PWR_STAT.STATE, 3)] with pwr := { State.reset.pwr with seqn := none } }, rfl, by decide +kernel⟩,
   ⟨{ W [(Reg.PWR_STAT.STATE, 4)] with pwr := { State.reset.pwr with seqn := none } }, rfl, by decide +kernel⟩⟩

/-- Every set of hypotheses of MemoryAndLoupe is met. -/
theorem witness_MemoryAndLoupe :
    (∃ (a : Nat) (b : Nat) (e : Nat) (l : List (Nat × Nat × Nat)) (s : State), s.live ∧ (let u := s.cleared; let g := Reg.MEM_ECC_LOG.REGION.addr; (windowOn u g = true) ∧ (windowOn u Reg.MEM_DRAM_CFG.TRAIN.addr = true) ∧ (windowOn u Reg.LPE_SEL.ID.addr = true) ∧ (u.mem.log = (a, b, e) :: l))) ∧
    (∃ (s : State), s.live ∧ (let u := s.cleared; let g := Reg.MEM_ECC_LOG.REGION.addr; (windowOn u g = true) ∧ (windowOn u Reg.MEM_DRAM_CFG.TRAIN.addr = true) ∧ (windowOn u Reg.LPE_SEL.ID.addr = true) ∧ (u.mem.log = []))) ∧
    (∃ (s : State), s.live ∧ (let u := s.cleared; let g := Reg.MEM_ECC_LOG.REGION.addr; (windowOn u g = true) ∧ (windowOn u Reg.MEM_DRAM_CFG.TRAIN.addr = true) ∧ (windowOn u Reg.LPE_SEL.ID.addr = true))) ∧
    (∃ (s : State), s.live ∧ (let u := s.cleared; let g := Reg.MEM_ECC_LOG.REGION.addr; (windowOn u g = true) ∧ (windowOn u Reg.MEM_DRAM_CFG.TRAIN.addr = true) ∧ (windowOn u Reg.LPE_SEL.ID.addr = true) ∧ (u.on Reg.MEM_DRAM_CFG.TRAIN = true))) ∧
    (∃ (s : State), s.live ∧ (let u := s.cleared; let g := Reg.MEM_ECC_LOG.REGION.addr; (windowOn u g = true) ∧ (windowOn u Reg.MEM_DRAM_CFG.TRAIN.addr = true) ∧ (windowOn u Reg.LPE_SEL.ID.addr = true) ∧ (u.on Reg.MEM_DRAM_CFG.TRAIN = false))) ∧
    (∃ (w : Fin 2) (s : State), s.live ∧ (let u := s.cleared; let g := Reg.MEM_ECC_LOG.REGION.addr; (windowOn u g = true) ∧ (windowOn u Reg.MEM_DRAM_CFG.TRAIN.addr = true) ∧ (windowOn u Reg.LPE_SEL.ID.addr = true) ∧ (u.get (winState w) ≠ 0))) ∧
    (∃ (w : Fin 2) (s : State), s.live ∧ (let u := s.cleared; let g := Reg.MEM_ECC_LOG.REGION.addr; (windowOn u g = true) ∧ (windowOn u Reg.MEM_DRAM_CFG.TRAIN.addr = true) ∧ (windowOn u Reg.LPE_SEL.ID.addr = true) ∧ (u.get (winState w) = 0) ∧ (u.on Reg.MEM_STAT.DRAM_OK = true) ∧ (winBadPlace u w = false))) ∧
    (∃ (w : Fin 2) (s : State), s.live ∧ (let u := s.cleared; let g := Reg.MEM_ECC_LOG.REGION.addr; (windowOn u g = true) ∧ (windowOn u Reg.MEM_DRAM_CFG.TRAIN.addr = true) ∧ (windowOn u Reg.LPE_SEL.ID.addr = true) ∧ (u.get (winState w) = 0) ∧ (u.on Reg.MEM_STAT.DRAM_OK = false ∨ winBadPlace u w = true))) ∧
    (∃ (s : State), s.live ∧ (let u := s.cleared; let g := Reg.MEM_ECC_LOG.REGION.addr; (windowOn u g = true) ∧ (windowOn u Reg.MEM_DRAM_CFG.TRAIN.addr = true) ∧ (windowOn u Reg.LPE_SEL.ID.addr = true) ∧ (u.mem.fillQ = []))) ∧
    (∃ (k : Nat) (q : List Nat) (s : State), s.live ∧ (let u := s.cleared; let g := Reg.MEM_ECC_LOG.REGION.addr; (windowOn u g = true) ∧ (windowOn u Reg.MEM_DRAM_CFG.TRAIN.addr = true) ∧ (windowOn u Reg.LPE_SEL.ID.addr = true) ∧ (u.mem.fillQ = 0 :: q) ∧ (k = 0))) ∧
    (∃ (k : Nat) (q : List Nat) (s : State), s.live ∧ (let u := s.cleared; let g := Reg.MEM_ECC_LOG.REGION.addr; (windowOn u g = true) ∧ (windowOn u Reg.MEM_DRAM_CFG.TRAIN.addr = true) ∧ (windowOn u Reg.LPE_SEL.ID.addr = true) ∧ (u.mem.fillQ = k :: q) ∧ (k ≠ 0))) ∧
    (∃ (w : Fin 2) (s : State), s.live ∧ (let u := s.cleared; let g := Reg.MEM_ECC_LOG.REGION.addr; (windowOn u g = true) ∧ (windowOn u Reg.MEM_DRAM_CFG.TRAIN.addr = true) ∧ (windowOn u Reg.LPE_SEL.ID.addr = true) ∧ (u.get (winState w) = 0))) ∧
    (∃ (w : Fin 2) (s : State), s.live ∧ (let u := s.cleared; let g := Reg.MEM_ECC_LOG.REGION.addr; (windowOn u g = true) ∧ (windowOn u Reg.MEM_DRAM_CFG.TRAIN.addr = true) ∧ (windowOn u Reg.LPE_SEL.ID.addr = true) ∧ (u.get (winState w) ≠ 0) ∧ (w = 0))) ∧
    (∃ (w : Fin 2) (s : State), s.live ∧ (let u := s.cleared; let g := Reg.MEM_ECC_LOG.REGION.addr; (windowOn u g = true) ∧ (windowOn u Reg.MEM_DRAM_CFG.TRAIN.addr = true) ∧ (windowOn u Reg.LPE_SEL.ID.addr = true) ∧ (u.get (winState w) ≠ 0) ∧ (w = 1))) ∧
    (∃ (s : State), s.live ∧ (let u := s.cleared; let g := Reg.MEM_ECC_LOG.REGION.addr; (windowOn u g = true) ∧ (windowOn u Reg.MEM_DRAM_CFG.TRAIN.addr = true) ∧ (windowOn u Reg.LPE_SEL.ID.addr = true) ∧ (u.on Reg.LPE_CTRL.SEAL = false))) ∧
    (∃ (s : State), s.live ∧ (let u := s.cleared; let g := Reg.MEM_ECC_LOG.REGION.addr; (windowOn u g = true) ∧ (windowOn u Reg.MEM_DRAM_CFG.TRAIN.addr = true) ∧ (windowOn u Reg.LPE_SEL.ID.addr = true) ∧ (u.on Reg.LPE_CTRL.SEAL = true) ∧ (u.lpe.sealing = none))) ∧
    (∃ (s : State), s.live ∧ (let u := s.cleared; let g := Reg.MEM_ECC_LOG.REGION.addr; (windowOn u g = true) ∧ (windowOn u Reg.MEM_DRAM_CFG.TRAIN.addr = true) ∧ (windowOn u Reg.LPE_SEL.ID.addr = true) ∧ (u.on Reg.LPE_CTRL.SEAL = true))) ∧
    (∃ (s : State), s.live ∧ (let u := s.cleared; let g := Reg.MEM_ECC_LOG.REGION.addr; (windowOn u g = true) ∧ (windowOn u Reg.MEM_DRAM_CFG.TRAIN.addr = true) ∧ (windowOn u Reg.LPE_SEL.ID.addr = true) ∧ (u.on Reg.LPE_CTRL.SEAL = false) ∧ (max 60 (u.get Reg.LPE_CFG.PERIOD) ≤ u.lpe.sinceSeal))) ∧
    (∃ (s : State), s.live ∧ (let u := s.cleared; let g := Reg.MEM_ECC_LOG.REGION.addr; (windowOn u g = true) ∧ (windowOn u Reg.MEM_DRAM_CFG.TRAIN.addr = true) ∧ (windowOn u Reg.LPE_SEL.ID.addr = true) ∧ (u.lpe.sinceSeal < max 60 (u.get Reg.LPE_CFG.PERIOD)))) :=
  ⟨⟨0, 0, 0, [], { State.reset with mem := { State.reset.mem with log := ((0), (0), (0)) :: ([]) } }, rfl, by decide +kernel⟩,
   ⟨{ State.reset with mem := { State.reset.mem with log := [] } }, rfl, by decide +kernel⟩,
   ⟨State.reset, rfl, by decide +kernel⟩,
   ⟨W [(Reg.MEM_DRAM_CFG.TRAIN, 1)], rfl, by decide +kernel⟩,
   ⟨W [(Reg.MEM_DRAM_CFG.TRAIN, 0)], rfl, by decide +kernel⟩,
   ⟨0, W [((winState (0)), 0 + 1)], rfl, by decide +kernel⟩,
   ⟨0, W [((winState (0)), 0), (Reg.MEM_STAT.DRAM_OK, 1), (Reg.MEM_STAT.DRAM_SIZE, 1), (Reg.MEM_WINw_BASE.BASE 1, 8)], rfl, by decide +kernel⟩,
   ⟨0, W [((winState (0)), 0), (Reg.MEM_STAT.DRAM_OK, 0)], rfl, by decide +kernel⟩,
   ⟨{ State.reset with mem := { State.reset.mem with fillQ := [] } }, rfl, by decide +kernel⟩,
   ⟨0, [], { State.reset with mem := { State.reset.mem with fillQ := 0 :: ([]) } }, rfl, by decide +kernel⟩,
   ⟨1, [], { State.reset with mem := { State.reset.mem with fillQ := (1) :: ([]) } }, rfl, by decide +kernel⟩,
   ⟨0, W [((winState (0)), 0)], rfl, by decide +kernel⟩,
   ⟨0, W [((winState (0)), 0 + 1)], rfl, by decide +kernel⟩,
   ⟨1, W [((winState (1)), 0 + 1)], rfl, by decide +kernel⟩,
   ⟨W [(Reg.LPE_CTRL.SEAL, 0)], rfl, by decide +kernel⟩,
   ⟨{ W [(Reg.LPE_CTRL.SEAL, 1)] with lpe := { State.reset.lpe with sealing := none } }, rfl, by decide +kernel⟩,
   ⟨W [(Reg.LPE_CTRL.SEAL, 1)], rfl, by decide +kernel⟩,
   ⟨{ W [(Reg.LPE_CTRL.SEAL, 0)] with lpe := { State.reset.lpe with sinceSeal := 1000000000 } }, rfl, by decide +kernel⟩,
   ⟨State.reset, rfl, by decide +kernel⟩⟩

/-- Every set of hypotheses of DebugPaths is met. -/
theorem witness_DebugPaths :
    (∃ (p : Fin 2) (level : Fin 4) (e : DbgEnv) (s : State), s.live ∧ (let v := s.asOf e.ofs; let reach (x : State) : Bool := if p = 0 then windowOn x Reg.DBG_AUTH_CTRL.CODE.addr else decide (x.dbg.tap = 2); let r := v.put (pathFld p Reg.DBG_AUTH_CTRL.LEVEL) level; (reach v = true) ∧ (r.on (pathFld p Reg.DBG_AUTH_CTRL.BUSY) = true))) ∧
    (∃ (p : Fin 2) (level : Fin 4) (e : DbgEnv) (s : State), s.live ∧ (let v := s.asOf e.ofs; let reach (x : State) : Bool := if p = 0 then windowOn x Reg.DBG_AUTH_CTRL.CODE.addr else decide (x.dbg.tap = 2); let r := v.put (pathFld p Reg.DBG_AUTH_CTRL.LEVEL) level; (reach v = true) ∧ (r.on (pathFld p Reg.DBG_AUTH_CTRL.BUSY) = false))) ∧
    (∃ (p : Fin 2) (e : DbgEnv) (s : State), s.live ∧ (let v := s.asOf e.ofs; let reach (x : State) : Bool := if p = 0 then windowOn x Reg.DBG_AUTH_CTRL.CODE.addr else decide (x.dbg.tap = 2); (reach v = true) ∧ ((dbgPath v p).armed = none))) ∧
    (∃ (p : Fin 2) (e : DbgEnv) (k : Nat) (s : State), s.live ∧ (let v := s.asOf e.ofs; let reach (x : State) : Bool := if p = 0 then windowOn x Reg.DBG_AUTH_CTRL.CODE.addr else decide (x.dbg.tap = 2); (reach v = true) ∧ ((dbgPath v p).armed = some k))) ∧
    (∃ (p : Fin 2) (e : DbgEnv) (s : State), s.live ∧ (let v := s.asOf e.ofs; ((dbgPath v p).decide = none))) ∧
    (∃ (p : Fin 2) (e : DbgEnv) (k : Nat) (s : State), s.live ∧ (let v := s.asOf e.ofs; let y := modPathDbg p (fun x => { x with decide := none, late := false }) (v.put (pathFld p Reg.DBG_AUTH_CTRL.BUSY) 0); let l := min 2 (y.get (pathFld p Reg.DBG_AUTH_CTRL.LEVEL)); ((dbgPath v p).decide = some k) ∧ (k ≤ v.clk) ∧ ((dbgPath v p).late = true ∨ l = 0 ∨ dbgSigned y p = false))) ∧
    (∃ (p : Fin 2) (e : DbgEnv) (k : Nat) (s : State), s.live ∧ (let v := s.asOf e.ofs; let y := modPathDbg p (fun x => { x with decide := none, late := false }) (v.put (pathFld p Reg.DBG_AUTH_CTRL.BUSY) 0); let l := min 2 (y.get (pathFld p Reg.DBG_AUTH_CTRL.LEVEL)); ((dbgPath v p).decide = some k) ∧ (k ≤ v.clk) ∧ ((dbgPath v p).late = false) ∧ (l ≠ 0) ∧ (dbgSigned y p = true))) ∧
    (∃ (p : Fin 2) (s : State), s.live ∧ (let u := s.cleared; let reach (x : State) : Bool := if p = 0 then windowOn x Reg.DBG_AUTH_CTRL.CODE.addr else decide (x.dbg.tap = 2); (reach u = true))) ∧
    (∃ (p : Fin 2) (s : State), s.live ∧ (let u := s.cleared; (u.get (pathFld p Reg.DBG_AUTH_CTRL.CUR) ≠ 2))) ∧
    (∃ (p : Fin 2) (e : DbgEnv) (k : Nat) (s : State), s.live ∧ (let v := s.asOf e.ofs; ((dbgPath v p).ends = some k) ∧ (k ≤ v.clk))) ∧
    (∃ (p : Fin 2) (e : DbgEnv) (s : State), s.live ∧ (let v := s.asOf e.ofs; ((dbgPath v p).ends = none))) ∧
    (∃ (p : Fin 2) (words : Fin 16) (e : DbgEnv) (s : State), s.live ∧ (let v := s.asOf e.ofs; let reach (x : State) : Bool := if p = 0 then windowOn x Reg.DBG_AUTH_CTRL.CODE.addr else decide (x.dbg.tap = 2); let g (consume write : Nat) : State := qvGo p consume write words v; (reach v = true) ∧ (dbgLevel (g 0 0) p = 0))) ∧
    (∃ (p : Fin 2) (words : Fin 16) (e : DbgEnv) (s : State), s.live ∧ (let v := s.asOf e.ofs; let reach (x : State) : Bool := if p = 0 then windowOn x Reg.DBG_AUTH_CTRL.CODE.addr else decide (x.dbg.tap = 2); let g (consume write : Nat) : State := qvGo p consume write words v; (reach v = true) ∧ (dbgLevel (g 0 0) p ≠ 0) ∧ (qvSpace (g 0 0) p = 0))) ∧
    (∃ (p : Fin 2) (words : Fin 16) (e : DbgEnv) (s : State), s.live ∧ (let v := s.asOf e.ofs; let reach (x : State) : Bool := if p = 0 then windowOn x Reg.DBG_AUTH_CTRL.CODE.addr else decide (x.dbg.tap = 2); let g (consume write : Nat) : State := qvGo p consume write words v; (reach v = true) ∧ (dbgLevel (g 1 0) p ≠ 2))) ∧
    (∃ (p : Fin 2) (words : Fin 16) (e : DbgEnv) (s : State), s.live ∧ (let v := s.asOf e.ofs; let reach (x : State) : Bool := if p = 0 then windowOn x Reg.DBG_AUTH_CTRL.CODE.addr else decide (x.dbg.tap = 2); let g (consume write : Nat) : State := qvGo p consume write words v; (reach v = true) ∧ (dbgLevel (g 1 0) p = 2) ∧ (qvSpace (g 1 0) p = 0))) ∧
    (∃ (p : Fin 2) (words : Fin 16) (e : DbgEnv) (s : State), s.live ∧ (let v := s.asOf e.ofs; let reach (x : State) : Bool := if p = 0 then windowOn x Reg.DBG_AUTH_CTRL.CODE.addr else decide (x.dbg.tap = 2); let g (consume write : Nat) : State := qvGo p consume write words v; (reach v = true) ∧ (dbgLevel (g 0 1) p ≠ 2))) ∧
    (∃ (p : Fin 2) (words : Fin 16) (e : DbgEnv) (s : State), s.live ∧ (let v := s.asOf e.ofs; let reach (x : State) : Bool := if p = 0 then windowOn x Reg.DBG_AUTH_CTRL.CODE.addr else decide (x.dbg.tap = 2); let g (consume write : Nat) : State := qvGo p consume write words v; (reach v = true) ∧ (dbgLevel (g 0 1) p = 2) ∧ (qvSpace (g 0 1) p = 0))) ∧
    (∃ (p : Fin 2) (e : DbgEnv) (s : State), s.live ∧ (let v := s.asOf e.ofs; let reach (x : State) : Bool := if p = 0 then windowOn x Reg.DBG_AUTH_CTRL.CODE.addr else decide (x.dbg.tap = 2); (reach v = true) ∧ (dbgLevel v p ≠ 2))) ∧
    (∃ (p : Fin 2) (c : Fin 2) (e : DbgEnv) (s : State), s.live ∧ (let v := s.asOf e.ofs; let reach (x : State) : Bool := if p = 0 then windowOn x Reg.DBG_AUTH_CTRL.CODE.addr else decide (x.dbg.tap = 2); let st := clState v c; (reach v = true) ∧ (dbgLevel v p = 2) ∧ (v.on (Reg.DBG_CCc_STAT.HALTED c) = false) ∧ (st = clOFF ∨ st = clFAILED))) ∧
    (∃ (p : Fin 2) (c : Fin 2) (e : DbgEnv) (s : State), s.live ∧ (let v := s.asOf e.ofs; let reach (x : State) : Bool := if p = 0 then windowOn x Reg.DBG_AUTH_CTRL.CODE.addr else decide (x.dbg.tap = 2); let st := clState v c; (reach v = true) ∧ (dbgLevel v p = 2) ∧ (v.on (Reg.DBG_CCc_STAT.HALTED c) = false) ∧ (st ≠ clOFF) ∧ (st ≠ clFAILED) ∧ (st ≠ clACTIVE))) ∧
    (∃ (p : Fin 2) (c : Fin 2) (e : DbgEnv) (s : State), s.live ∧ (let v := s.asOf e.ofs; let reach (x : State) : Bool := if p = 0 then windowOn x Reg.DBG_AUTH_CTRL.CODE.addr else decide (x.dbg.tap = 2); let st := clState v c; let h := modDbg (fun d => { d with was := d.was.insert c st }) ((v.put (Reg.DBG_CCc_STAT.HALTED c) 1).put (Reg.DBG_CCc_STAT.PATH c) p); (reach v = true) ∧ (dbgLevel v p = 2) ∧ (v.on (Reg.DBG_CCc_STAT.HALTED c) = false) ∧ (st = clACTIVE) ∧ (h.on Reg.DBG_CTRL.HOLD_LEASE = true))) ∧
    (∃ (p : Fin 2) (c : Fin 2) (e : DbgEnv) (s : State), s.live ∧ (let v := s.asOf e.ofs; let reach (x : State) : Bool := if p = 0 then windowOn x Reg.DBG_AUTH_CTRL.CODE.addr else decide (x.dbg.tap = 2); let st := clState v c; let h := modDbg (fun d => { d with was := d.was.insert c st }) ((v.put (Reg.DBG_CCc_STAT.HALTED c) 1).put (Reg.DBG_CCc_STAT.PATH c) p); (reach v = true) ∧ (dbgLevel v p = 2) ∧ (v.on (Reg.DBG_CCc_STAT.HALTED c) = false) ∧ (st = clACTIVE) ∧ (h.on Reg.DBG_CTRL.HOLD_LEASE = false))) ∧
    (∃ (p : Fin 2) (c : Fin 2) (s : State), s.live ∧ (let u := s.cleared; let reach (x : State) : Bool := if p = 0 then windowOn x Reg.DBG_AUTH_CTRL.CODE.addr else decide (x.dbg.tap = 2); (reach u = true) ∧ (dbgLevel u p = 2) ∧ (u.on (Reg.DBG_CCc_STAT.HALTED c) = true))) ∧
    (∃ (p : Fin 2) (c : Fin 2) (s : State), s.live ∧ (let u := s.cleared; let reach (x : State) : Bool := if p = 0 then windowOn x Reg.DBG_AUTH_CTRL.CODE.addr else decide (x.dbg.tap = 2); let was := u.dbg.was.get c; let w := modDbg (fun d => { d with was := d.was.erase c.val }) (modWdn (fun w => { w with hungA := w.hungA && c.val != 0, hungB := w.hungB && c.val != 1 }) ((u.put (Reg.DBG_CCc_STAT.HALTED c) 0).put (Reg.DBG_CCc_STAT.PATH c) 0)); (reach u = true) ∧ (dbgLevel u p = 2) ∧ (u.on (Reg.DBG_CCc_STAT.HALTED c) = true) ∧ (clState w c = clHALTED))) ∧
    (∃ (p : Fin 2) (c : Fin 2) (s : State), s.live ∧ (let u := s.cleared; let reach (x : State) : Bool := if p = 0 then windowOn x Reg.DBG_AUTH_CTRL.CODE.addr else decide (x.dbg.tap = 2); let was := u.dbg.was.get c; let w := modDbg (fun d => { d with was := d.was.erase c.val }) (modWdn (fun w => { w with hungA := w.hungA && c.val != 0, hungB := w.hungB && c.val != 1 }) ((u.put (Reg.DBG_CCc_STAT.HALTED c) 0).put (Reg.DBG_CCc_STAT.PATH c) 0)); (reach u = true) ∧ (dbgLevel u p = 2) ∧ (u.on (Reg.DBG_CCc_STAT.HALTED c) = true) ∧ (clState w c ≠ clHALTED))) ∧
    (∃ (p : Fin 2) (s : State), s.live ∧ (let u := s.cleared; let reach (x : State) : Bool := if p = 0 then windowOn x Reg.DBG_AUTH_CTRL.CODE.addr else decide (x.dbg.tap = 2); (dbgLevel u p ≠ 2) ∧ (reach u = true))) ∧
    (∃ (i : Fin 9) (s : State), s.live ∧ (let u := s.cleared; (tapPermitted u i = false))) ∧
    (∃ (i : Fin 9) (s : State), s.live ∧ (let u := s.cleared; (i.val ≠ 0) ∧ (i.val < 4) ∧ (tapPermitted u i = true))) ∧
    (∃ (s : State), s.live ∧ (let u := s.cleared; (tapPermitted u 0 = true))) ∧
    (∃ (i : Fin 9) (s : State), s.live ∧ (let u := s.cleared; (4 ≤ i.val) ∧ (tapPermitted u i = true))) :=
  ⟨⟨0, 0, (default : DbgEnv), W [((pathFld (0) Reg.DBG_AUTH_CTRL.BUSY), 1)], rfl, by decide +kernel⟩,
   ⟨0, 0, (default : DbgEnv), W [((pathFld (0) Reg.DBG_AUTH_CTRL.BUSY), 0)], rfl, by decide +kernel⟩,
   ⟨0, (default : DbgEnv), { State.reset with dbg := { State.reset.dbg with pf := { State.reset.dbg.pf with armed := none } } }, rfl, by decide +kernel⟩,
   ⟨0, (default : DbgEnv), 0, { State.reset with dbg := { State.reset.dbg with pf := { State.reset.dbg.pf with armed := some (0) } } }, rfl, by decide +kernel⟩,
   ⟨0, (default : DbgEnv), { State.reset with dbg := { State.reset.dbg with pf := { State.reset.dbg.pf with decide := none } } }, rfl, by decide +kernel⟩,
   ⟨0, (default : DbgEnv), 0, { State.reset with dbg := { State.reset.dbg with pf := { State.reset.dbg.pf with decide := some (0), late := true } }, core := { State.reset.core with ticks := 1000000 } }, rfl, by decide +kernel⟩,
   ⟨0, (default : DbgEnv), 0, { W [(Reg.DBG_AUTH_CTRL.LEVEL, 1)] with dbg := { State.reset.dbg with pf := { State.reset.dbg.pf with decide := some 0, late := false } }, core := { State.reset.core with ticks := 1000000 } }, rfl, by decide +kernel⟩,
   ⟨0, State.reset, rfl, by decide +kernel⟩,
   ⟨0, W [((pathFld (0) Reg.DBG_AUTH_CTRL.CUR), 2 + 1)], rfl, by decide +kernel⟩,
   ⟨0, (default : DbgEnv), 0, { State.reset with dbg := { State.reset.dbg with pf := { State.reset.dbg.pf with ends := some (0) } }, core := { State.reset.core with ticks := 1000000 } }, rfl, by decide +kernel⟩,
   ⟨0, (default : DbgEnv), { State.reset with dbg := { State.reset.dbg with pf := { State.reset.dbg.pf with ends := none } } }, rfl, by decide +kernel⟩,
   ⟨0, 0, (default : DbgEnv), W [(Reg.DBG_AUTH_CTRL.CUR, 0)], rfl, by decide +kernel⟩,
   ⟨0, 0, (default : DbgEnv), W [(Reg.DBG_AUTH_CTRL.CUR, 1)], rfl, by decide +kernel⟩,
   ⟨0, 0, (default : DbgEnv), W [(Reg.DBG_AUTH_CTRL.CUR, 0)], rfl, by decide +kernel⟩,
   ⟨0, 0, (default : DbgEnv), W [(Reg.DBG_AUTH_CTRL.CUR, 2)], rfl, by decide +kernel⟩,
   ⟨0, 0, (default : DbgEnv), W [(Reg.DBG_AUTH_CTRL.CUR, 0)], rfl, by decide +kernel⟩,
   ⟨0, 0, (default : DbgEnv), W [(Reg.DBG_AUTH_CTRL.CUR, 2)], rfl, by decide +kernel⟩,
   ⟨0, (default : DbgEnv), W [(Reg.DBG_AUTH_CTRL.CUR, 0)], rfl, by decide +kernel⟩,
   ⟨0, 0, (default : DbgEnv), W [(Reg.DBG_AUTH_CTRL.CUR, 2), ((Reg.DBG_CCc_STAT.HALTED (0)), 0), (Reg.WDN_STAT.CCA_STATE, 0)], rfl, by decide +kernel⟩,
   ⟨0, 0, (default : DbgEnv), W [(Reg.DBG_AUTH_CTRL.CUR, 2), ((Reg.DBG_CCc_STAT.HALTED (0)), 0)], rfl, by decide +kernel⟩,
   ⟨0, 0, (default : DbgEnv), W [(Reg.DBG_AUTH_CTRL.CUR, 2), ((Reg.DBG_CCc_STAT.HALTED (0)), 0), (Reg.DBG_CTRL.HOLD_LEASE, 1), (Reg.WDN_STAT.CCA_STATE, 4)], rfl, by decide +kernel⟩,
   ⟨0, 0, (default : DbgEnv), W [(Reg.DBG_AUTH_CTRL.CUR, 2), ((Reg.DBG_CCc_STAT.HALTED (0)), 0), (Reg.DBG_CTRL.HOLD_LEASE, 0), (Reg.WDN_STAT.CCA_STATE, 4)], rfl, by decide +kernel⟩,
   ⟨0, 0, W [(Reg.DBG_AUTH_CTRL.CUR, 2), ((Reg.DBG_CCc_STAT.HALTED (0)), 1)], rfl, by decide +kernel⟩,
   ⟨0, 0, W [(Reg.DBG_AUTH_CTRL.CUR, 2), ((Reg.DBG_CCc_STAT.HALTED (0)), 1), (if ((0) : Nat) = 0 then Reg.WDN_STAT.CCA_STATE else Reg.WDN_STAT.CCB_STATE, clHALTED)], rfl, by decide +kernel⟩,
   ⟨0, 0, W [(Reg.DBG_AUTH_CTRL.CUR, 2), ((Reg.DBG_CCc_STAT.HALTED (0)), 1)], rfl, by decide +kernel⟩,
   ⟨0, W [(Reg.DBG_AUTH_CTRL.CUR, 0)], rfl, by decide +kernel⟩,
   ⟨4, W [(Reg.LC_STATE.STATE, 1)], rfl, by decide +kernel⟩,
   ⟨1, State.reset, rfl, by decide +kernel⟩,
   ⟨State.reset, rfl, by decide +kernel⟩,
   ⟨4, State.reset, rfl, by decide +kernel⟩⟩
end

/-! # Registers and cells (chapters 0 and 1)

The rules of the register store, of host and TAP accesses and of cell plans, and the obligations that they settle. -/

/-! ## The register store at reset, and what an update of one field leaves of the others -/

namespace Sys2Proof.Machine

@[simp] theorem State.get_reset (f : Fld) : State.reset.get f = f.rst := rfl

@[simp] theorem State.eff_reset (f : Fld) : State.reset.eff f = f.rst := rfl

theorem State.get_putB_ne (s : State) {f g : Fld} (b : Bool) (h : f.key ≠ g.key) : (s.putB f b).get g = s.get g :=
  State.get_put_ne s _ h

theorem State.get_incBy_ne (s : State) {f g : Fld} (n : Nat) (h : f.key ≠ g.key) : (s.incBy f n).get g = s.get g :=
  State.get_put_ne s _ h

theorem State.get_incIf_ne (s : State) {f g : Fld} (b : Bool) (h : f.key ≠ g.key) : (s.incIf b f).get g = s.get g := by
  cases b with
  | false => rfl
  | true => exact State.get_inc_ne s h

theorem State.get_asOf_ne (s : State) {g : Fld} (n : Nat) (h : Reg.SYS_TICK_OFFSET.CLOCKS.key ≠ g.key) :
    (s.asOf n).get g = s.get g :=
  State.get_put_ne s.cleared _ h

/-- The value in force is looked up in `inForce` first, so it is kept where the entry of the field and its stored value are. -/
theorem State.eff_congr {s t : State} {g : Fld} (hi : t.inForce.find? g.key = s.inForce.find? g.key) (hg : t.get g = s.get g) :
    t.eff g = s.eff g := by
  simp only [State.eff, hi, hg]

theorem State.eff_put_ne (s : State) {f g : Fld} (v : Nat) (h : f.key ≠ g.key) : (s.put f v).eff g = s.eff g :=
  State.eff_congr rfl (State.get_put_ne s v h)

theorem State.on_eq_false {s : State} {f : Fld} : s.on f = false ↔ s.get f = 0 := by simp [State.on]

theorem State.on_eq_true {s : State} {f : Fld} : s.on f = true ↔ s.get f ≠ 0 := by simp [State.on]

/-! ## The host's store of one field (R9, R16) -/

/-- A host's store lists the value in the register store as the part's own does; only `inForce` can differ. -/
theorem State.hostPut_regs (s : State) (f : Fld) (v : Nat) : (s.hostPut f v).regs = (s.put f v).regs := by
  unfold State.hostPut
  split <;> rfl

@[simp] theorem State.get_hostPut_self (s : State) (f : Fld) (v : Nat) : (s.hostPut f v).get f = v % 2 ^ f.w := by
  rw [← State.get_put_self s f v, State.get, State.hostPut_regs, State.get]

theorem State.get_hostPut_ne (s : State) {f g : Fld} (v : Nat) (h : f.key ≠ g.key) : (s.hostPut f v).get g = s.get g := by
  rw [← State.get_put_ne s v h, State.get, State.hostPut_regs, State.get]

theorem State.find?_inForce_hostPut_ne (s : State) {f g : Fld} (v : Nat) (h : f.key ≠ g.key) :
    (s.hostPut f v).inForce.find? g.key = s.inForce.find? g.key := by
  unfold State.hostPut
  split
  · exact Tab.find?_insert_ne _ _ h
  · rfl

theorem State.eff_hostPut_ne (s : State) {f g : Fld} (v : Nat) (h : f.key ≠ g.key) : (s.hostPut f v).eff g = s.eff g :=
  State.eff_congr (State.find?_inForce_hostPut_ne s v h) (State.get_hostPut_ne s v h)

/-! ## A write of a field by its type (R9) -/

theorem fieldStore_rw {f : Fld} (h : f.ty = .rw) (v : Nat) (s : State) : fieldStore f v s = s.hostPut f v := by
  simp [fieldStore, h]

theorem fieldStore_rwl_unlocked {f : Fld} {s : State} (h : f.ty = .rwl) (hl : s.get Reg.SYS_LOCK.LOCK = 0) (v : Nat) :
    fieldStore f v s = s.hostPut f v := by
  simp [fieldStore, h, State.on_eq_false.2 hl]

theorem fieldStore_rwl_locked {f : Fld} {s : State} (h : f.ty = .rwl) (hl : s.get Reg.SYS_LOCK.LOCK ≠ 0) (v : Nat) :
    fieldStore f v s = s := by
  simp [fieldStore, h, State.on_eq_true.2 hl]

theorem fieldStore_w1c {f : Fld} (h : f.ty = .w1c) (v : Nat) (s : State) :
    fieldStore f v s = s.put f (s.get f - (s.get f &&& v)) := by
  simp [fieldStore, h]

theorem fieldStore_readOnly {f : Fld} (h : f.ty = .ro ∨ f.ty = .rc ∨ f.ty = .wo) (v : Nat) (s : State) : fieldStore f v s = s := by
  rcases h with h | h | h <;> simp [fieldStore, h]

/-- All that a write of a field can do: nothing, a host's store of the field, or the part's own. -/
theorem fieldStore_cases (f : Fld) (v : Nat) (s : State) :
    fieldStore f v s = s ∨ fieldStore f v s = s.hostPut f v ∨ fieldStore f v s = s.put f (s.get f - (s.get f &&& v)) := by
  unfold fieldStore
  split
  · exact .inr (.inl rfl)
  · split
    · exact .inl rfl
    · exact .inr (.inl rfl)
  · exact .inr (.inr rfl)
  · exact .inl rfl

theorem get_fieldStore_ne {f g : Fld} (v : Nat) (s : State) (h : f.key ≠ g.key) : (fieldStore f v s).get g = s.get g := by
  rcases fieldStore_cases f v s with e | e | e <;> rw [e]
  · exact State.get_hostPut_ne s v h
  · exact State.get_put_ne s _ h

theorem eff_fieldStore_ne {f g : Fld} (v : Nat) (s : State) (h : f.key ≠ g.key) : (fieldStore f v s).eff g = s.eff g := by
  rcases fieldStore_cases f v s with e | e | e <;> rw [e]
  · exact State.eff_hostPut_ne s v h
  · exact State.eff_put_ne s _ h

/-- A W1C field that fits its width loses the bits written as 1. -/
theorem get_fieldStore_w1c {f : Fld} {s : State} (h : f.ty = .w1c) (hw : s.get f < 2 ^ f.w) (v : Nat) :
    (fieldStore f v s).get f = s.get f - (s.get f &&& v) := by
  rw [fieldStore_w1c h, State.get_put_self, Nat.mod_eq_of_lt (Nat.lt_of_le_of_lt (Nat.sub_le _ _) hw)]

/-! ## A host's word write (R13, R14, R39) -/

theorem hostWord_off {a : Nat} {s : State} (h : windowOn s a = false) (v : Nat) : hostWord a v s = s.inc Reg.HIF_PD_OFF_ACC.CNT := by
  simp [hostWord, h]

theorem hostWord_hole {a : Nat} {s : State} (hw : windowOn s a = true) (h : regAt a = none) (v : Nat) : hostWord a v s = s := by
  simp [hostWord, hw, h]

theorem hostWord_32 {a : Nat} {s : State} {h : RegHit} (hw : windowOn s a = true) (hr : regAt a = some h) (hb : h.bits = 32)
    (hi : ignored h.addr s = none) (v : Nat) : hostWord a v s = regWrite h.flds v s := by
  simp [hostWord, hw, hr, hb, hi]

theorem hostWord_low {a : Nat} {s : State} {h : RegHit} (hw : windowOn s a = true) (hr : regAt a = some h) (hb : h.bits = 64)
    (ha : a = h.addr) (v : Nat) : hostWord a v s = setLow h.addr (some v) s := by
  subst ha
  simp [hostWord, hw, hr, hb]

theorem hostWord_high {a : Nat} {s : State} {h : RegHit} (hw : windowOn s a = true) (hr : regAt a = some h) (hb : h.bits = 64)
    (ha : a ≠ h.addr) (hi : ignored h.addr (setLow h.addr none s) = none) (v : Nat) :
    hostWord a v s = regWrite h.flds (lowWord s h + 2 ^ 32 * v) (setLow h.addr none s) := by
  simp [hostWord, hw, hr, hb, ha, hi]

theorem lowWord_of_held {s : State} {h : RegHit} {low : Nat} (hl : s.core.lowHeld.find? h.addr = some low) : lowWord s h = low := by
  simp [lowWord, hl]

theorem find?_lowHeld_setLow (a v : Nat) (s : State) : (setLow a (some v) s).core.lowHeld.find? a = some v :=
  Tab.find?_insert_self _ _ _

/-! ## What a source reaches (R39 to R41, R286, R497) -/

section
variable {src a : Nat} {s : State}

theorem writeWord_noFn (ht : src ≠ 257) (hf : fnOn s src = false) (v : Nat) : writeWord src a v s = s := by
  simp [writeWord, ht, hf]

theorem writeWord_off (ht : src ≠ 257) (hf : fnOn s src = true) (ho : accessOff s src a = true) (v : Nat) :
    writeWord src a v s = s.inc Reg.HIF_PD_OFF_ACC.CNT := by
  simp [writeWord, ht, hf, ho]

theorem writeWord_bus {b : Nat} (ht : src ≠ 257) (hf : fnOn s src = true) (ho : accessOff s src a = false) (hb : busAddr src a = some b)
    (v : Nat) : writeWord src a v s = hostWord b v s := by
  simp [writeWord, ht, hf, ho, hb]

theorem writeWord_noBus (ht : src ≠ 257) (ho : accessOff s src a = false) (hb : busAddr src a = none) (v : Nat) :
    writeWord src a v s = s := by
  cases hf : fnOn s src with
  | false => exact writeWord_noFn ht hf v
  | true => simp [writeWord, ht, hf, ho, hb]

/-- A write of either word of a 64-bit register is a word write at that word's address. -/
theorem write64_bus {b : Nat} {h : RegHit} (high : Bool) (ht : src ≠ 257) (hf : fnOn s src = true) (ho : accessOff s src a = false)
    (hb : busAddr src a = some b) (hr : regAt b = some h) (h64 : h.bits = 64) (ha : h.addr = b) (v : Nat) :
    write64 high src a v s = hostWord (b + 4 * b2n high) v s := by
  simp [write64, ht, hf, ho, hb, hr, h64, ha]

/-- The number of the TAP among the sources of the 64-bit accesses. -/
theorem tapSource_val : ((257 : Fin 258) : Nat) = 257 := rfl

theorem read64Low_tap (a : Nat) (s : State) : read64Low 257 a s = lowRead 257 a (tapWide s a) s := rfl

theorem read64Low_bus (ht : src ≠ 257) (hf : fnOn s src = true) (ho : accessOff s src a = false)
    (hd : a ≠ Reg.FW_DEFLIST.ITEM.addr) (he : a ≠ Reg.MEM_ECC_LOG.REGION.addr) :
    read64Low src a s = lowRead src a (wide s src a) s := by
  simp [read64Low, ht, hf, ho, hd, he]

theorem read64High_tap (a : Nat) (s : State) : read64High 257 a s = highRead 257 a (tapWide s (a - 4)) s := rfl

theorem read64High_bus (ht : src ≠ 257) (hf : fnOn s src = true) (ho : accessOff s src a = false) :
    read64High src a s = highRead src a (wide s src (a - 4)) s := by
  simp [read64High, ht, hf, ho]

end

/-- R13: the low word is given and the high word goes to the latch. -/
theorem lowRead_some (src a k x : Nat) (s : State) :
    lowRead src a (some (k, x)) s = (latchSet k (x / 2 ^ 32) s).emit (.readWord src a (x % 2 ^ 32)) := rfl

theorem highRead_latched {k h : Nat} {s : State} (src a x : Nat) (hl : s.core.latch.find? k = some h) :
    highRead src a (some (k, x)) s =
      State.emit { s with core := { s.core with latch := s.core.latch.erase k } } (.readWord src a h) := by
  simp [highRead, hl]

theorem highRead_unlatched {k : Nat} {s : State} (src a x : Nat) (hl : s.core.latch.find? k = none) :
    highRead src a (some (k, x)) s = s.emit (.readWord src a (x / 2 ^ 32)) := by
  simp [highRead, hl]

/-! ## The register commands on a live block -/

section
variable {s : State} (hs : s.live) (w : Fin 16777216) (v : BitVec 32) (ofs : Fin 122880)
include hs

/-- REGISTER_WRITE by its source: a word write of a function's BAR0 or by the TAP, a write of BAR2, one of configuration space. The
tick-offset counter has no part in which functions are there. -/
theorem exec_registerWrite (src : Fin 772) :
    exec (.registerWrite src w v ofs) s = .next (settle s
      (if src.val ≤ 257 then writeWord src (4 * w) v.toNat (s.asOf ofs)
      else if src.val < 515 then (if fnOn s (src.val - 258) then bar2Write (src.val - 258) (4 * w) v.toNat (s.asOf ofs) else s.asOf ofs)
      else if fnThere s (src.val - 515) then configWrite (src.val - 515) w v.toNat (s.asOf ofs) else s.asOf ofs)) := by
  rw [show exec (.registerWrite src w v ofs) s = execRegisterWrite src w v ofs s from rfl, execRegisterWrite, run_live hs]
  rfl

theorem exec_registerWrite_word {src : Fin 772} (h : src.val ≤ 257) :
    exec (.registerWrite src w v ofs) s = .next (settle s (writeWord src (4 * w) v.toNat (s.asOf ofs))) := by
  rw [exec_registerWrite hs, if_pos h]

theorem exec_shortWriteDiscard : exec .shortWriteDiscard s = .next (settle s (s.cleared.inc Reg.HIF_SHORT_WR.CNT)) :=
  run_live hs (fun t => t.inc Reg.HIF_SHORT_WR.CNT)

theorem exec_sysLock : exec .sysLock s = .next (settle s (s.cleared.put Reg.SYS_LOCK.LOCK 1)) :=
  run_live hs (fun t => t.put Reg.SYS_LOCK.LOCK 1)

variable (src : Fin 258)

theorem exec_read64LowWord : exec (.read64LowWord src w) s = .next (settle s (read64Low src (4 * w) s.cleared)) := run_live hs _

theorem exec_read64HighWord : exec (.read64HighWord src w) s = .next (settle s (read64High src (4 * w) s.cleared)) := run_live hs _

theorem exec_write64LowWord :
    exec (.write64LowWord src w v) s = .next (settle s (write64 false src (4 * w) v.toNat s.cleared)) := run_live hs _

theorem exec_write64HighWord :
    exec (.write64HighWord src w v ofs) s = .next (settle s (write64 true src (4 * w) v.toNat (s.asOf ofs))) :=
  run_live hs (fun t => write64 true src (4 * w) v.toNat (t.at ofs))

end

/-! ## Cells, plans and amendments (R7, R181, R183) -/

theorem cellBoundary_begun {s : State} (h : cellDue s = false) : cellBoundary s = s := by simp [cellBoundary, h]

theorem cellBoundary_due {s : State} (h : cellDue s = true) :
    cellBoundary s = faQuery (offerWins (ceStart (cellMac (s.tick / cellLen s) (returnTuners (cellFacets (s.tick / cellLen s)
      (pwrCell (s.tick / cellLen s) (modFw (fun f => { f with cellTick := some s.core.ticks }) s))))))) := by
  simp [cellBoundary, h]

theorem cellPlanPost_held {p : Plan} {s : State} (h : cellNo s < p.cell) (h' : p.cell ≤ cellNo s + 3) :
    cellPlanPost p s = modMac (fun m => { m with fresh := planPut p m.fresh }) s := by
  simp [cellPlanPost, Nat.not_le.2 h, Nat.not_lt.2 h']

theorem cellPlanPost_misplaced {p : Plan} {s : State} (h : p.cell ≤ cellNo s ∨ cellNo s + 3 < p.cell) :
    cellPlanPost p s = s.inc Reg.MAC_PLAN_ERR.CNT := by
  simp [cellPlanPost, h]

theorem plansAccept_single {p : Plan} {a : Amend} {c : Commit} (hp : c.plans = [p]) (ha : c.amends = [a]) (s : State) :
    plansAccept c s = modMac (fun m => { m with plans := planPut p m.plans, amends := m.amends ++ [a] }) s := by
  simp [plansAccept, hp, ha]

theorem planAmendment_held {a : Amend} {s : State} (hr : s.mac.running = true) (hp : s.mac.planned = true) (h : s.tick < a.tick)
    (h' : a.tick < (s.mac.cell + 1) * s.mac.len) :
    planAmendment a s = modMac (fun m => { m with freshAmends := m.freshAmends ++ [a] }) s := by
  simp [planAmendment, hr, hp, h, h']

theorem planAmendment_misplaced {a : Amend} {s : State}
    (h : s.mac.running = false ∨ s.mac.planned = false ∨ a.tick ≤ s.tick ∨ (s.mac.cell + 1) * s.mac.len ≤ a.tick) :
    planAmendment a s = s.inc Reg.MAC_PLAN_ERR.CNT := by
  rcases h with h | h | h | h <;> simp [planAmendment, h, Nat.not_lt.2]

section
variable {s : State} (hs : s.live)
include hs

theorem exec_cellBoundary : exec .cellBoundary s = .next (settle s (cellBoundary s.cleared)) := run_live hs _

theorem exec_cellPlanPost (p : Plan) : exec (.cellPlanPost p) s = .next (settle s (cellPlanPost p s.cleared)) := run_live hs _

theorem exec_planAmendment (a : Amend) : exec (.planAmendment a) s = .next (settle s (planAmendment a s.cleared)) := run_live hs _

end

/-! ## The obligations -/

/-- Settles O9: each type's own equation of `fieldStore`, and what any store of a field leaves of the others. -/
theorem registerFieldTypes : Obligations.RegisterFieldTypes := by
  intro f v s
  refine ⟨fun h => ?_, fun h hl => ?_, fun h hl => fieldStore_rwl_locked h hl v, fun h hw => get_fieldStore_w1c h hw v,
    fun h => fieldStore_readOnly h v s, fun g h => get_fieldStore_ne v s h.symm, fun g h => eff_fieldStore_ne v s h.symm⟩
  · rw [fieldStore_rw h, State.get_hostPut_self]
  · rw [fieldStore_rwl_unlocked h hl, State.get_hostPut_self]

/-- Settles O12: one equation of `hostWord` for each case of the register at the address. -/
theorem hostWordWrites : Obligations.HostWordWrites := by
  intro a v s
  refine ⟨fun h => hostWord_off h v, fun hw h => hostWord_hole hw h v, fun h hw hr hb hi => hostWord_32 hw hr hb hi v, ?_, ?_⟩
  · intro h hw hr hb ha
    rw [hostWord_low hw hr hb ha]
    exact ⟨find?_lowHeld_setLow h.addr v s, rfl⟩
  · intro h low hw hr hb ha hl hi
    rw [hostWord_high hw hr hb ha hi, lowWord_of_held hl]

/-- Settles O13: the commands run `read64Low`, `read64High` and `write64`, which answer by the register that the source reaches. -/
theorem wideRegisters : Obligations.WideRegisters := by
  intro w v ofs s hs
  refine ⟨?_, ?_, ?_, ?_, ?_, ?_⟩
  · intro src k x ht hf ho hd he hx
    rw [exec_read64LowWord hs, read64Low_bus (s := s.cleared) ht hf ho hd he, hx, lowRead_some]
  · intro src k x h ht hf ho hx hl
    rw [exec_read64HighWord hs, read64High_bus (s := s.cleared) ht hf ho, hx, highRead_latched (s := s.cleared) _ _ _ hl]
    rfl
  · intro src k x ht hf ho hx hl
    rw [exec_read64HighWord hs, read64High_bus (s := s.cleared) ht hf ho, hx, highRead_unlatched (s := s.cleared) _ _ _ hl]
  · intro k x hx
    rw [exec_read64LowWord hs, tapSource_val, read64Low_tap, hx, lowRead_some]
  · intro k x h hx hl
    rw [exec_read64HighWord hs, tapSource_val, read64High_tap, hx, highRead_latched (s := s.cleared) _ _ _ hl]
    rfl
  · intro src b h ht hf ho hb hr h64 ha
    rw [exec_write64LowWord hs, exec_write64HighWord hs, write64_bus (s := s.cleared) false ht hf ho hb hr h64 ha,
      write64_bus (s := s.asOf ofs) true ht hf ho hb hr h64 ha]
    exact ⟨rfl, rfl⟩

/-- Settles O7: the register store's laws for the updates that are made with `put`; the others leave it by definition. -/
theorem namedUpdates : Obligations.NamedUpdates := by
  intro f g v n b o s t
  refine ⟨State.get_put_self s f v, State.get_inc_self s f, fun h => ?_, rfl, rfl, rfl, rfl, fun h => State.get_asOf_ne s n h.symm,
    rfl, rfl, rfl⟩
  exact ⟨State.get_put_ne s v h.symm, State.get_putB_ne s b h.symm, State.get_inc_ne s h.symm, State.get_incBy_ne s n h.symm,
    State.get_incIf_ne s b h.symm⟩

/-- Settles O8: the register store and the counter pages are empty at reset, and a key that is not listed reads as its reset value. -/
theorem resetValues : Obligations.ResetValues :=
  ⟨fun f => ⟨State.get_reset f, State.eff_reset f⟩, fun _ => ⟨rfl, rfl⟩, State.get_reset _, State.get_reset _, rfl, rfl⟩

/-- Settles O11: by the source, REGISTER_WRITE is a word write, a write of BAR2 or one of configuration space. -/
theorem registerWrites : Obligations.RegisterWrites := by
  intro w v ofs s hs
  refine ⟨?_, ?_, ?_, ?_, ?_, ?_, exec_shortWriteDiscard hs, exec_sysLock hs⟩
  · intro src b h hf ho hb
    rw [exec_registerWrite_word hs w v ofs (Nat.le_of_lt h), writeWord_bus (s := s.asOf ofs) (Nat.ne_of_lt h) hf ho hb]
  · rintro src h (hf | ⟨hb, ho⟩)
    · rw [exec_registerWrite_word hs w v ofs (Nat.le_of_lt h), writeWord_noFn (s := s.asOf ofs) (Nat.ne_of_lt h) hf]
    · rw [exec_registerWrite_word hs w v ofs (Nat.le_of_lt h), writeWord_noBus (s := s.asOf ofs) (Nat.ne_of_lt h) ho hb]
  · intro src h hf ho
    rw [exec_registerWrite_word hs w v ofs (Nat.le_of_lt h), writeWord_off (s := s.asOf ofs) (Nat.ne_of_lt h) hf ho]
  · exact exec_registerWrite_word hs w v ofs (src := 257) (Nat.le_refl 257)
  · intro src h h'
    rw [exec_registerWrite hs, if_neg (show ¬ src.val ≤ 257 by omega), if_pos h']
  · intro src h
    rw [exec_registerWrite hs, if_neg (show ¬ src.val ≤ 257 by omega), if_neg (Nat.not_lt.2 h)]

/-- Settles O19: the boundary, a plan and an amendment each have the case in which they take effect and the one in which they do not. -/
theorem cells : Obligations.Cells := by
  intro p a s hs
  refine ⟨fun h => ?_, fun h => ?_, fun h h' => ?_, fun c hp ha => plansAccept_single hp ha _, fun h => ?_, fun hr hp h h' => ?_,
    fun h => ?_⟩
  · rw [exec_cellBoundary hs, cellBoundary_begun h]
  · rw [exec_cellBoundary hs, cellBoundary_due h]
  · rw [exec_cellPlanPost hs, cellPlanPost_held h h']; rfl
  · rw [exec_cellPlanPost hs, cellPlanPost_misplaced h]
  · rw [exec_planAmendment hs, planAmendment_held hr hp h h']
  · rw [exec_planAmendment hs, planAmendment_misplaced h]

end Sys2Proof.Machine

/-! # Ticks, deadlines, ports and rings (chapter 1)

The tick boundary and its tick-aligned writes, the deadlines and commits within a tick, the enables of the RSI and the rings of the host
interface, and the obligations that they settle. -/

/-! ## Fields at the tick offset that a command names -/

namespace Sys2Proof.Machine

theorem State.get_incWrap_self (s : State) (f : Fld) : (s.incWrap f).get f = (s.get f + 1) % 2 ^ f.w :=
  State.get_put_self s f _

theorem State.eff_of_find?_none {s : State} {f : Fld} (h : s.inForce.find? f.key = none) : s.eff f = s.get f := by
  simp [State.eff, h]

/-- R17: the tick-offset counter goes forward to a later offset that a command names. -/
theorem State.ofs_asOf {s : State} {n : Nat} (h : s.ofs ≤ n) (hn : n < 122880) : (s.asOf n).ofs = n := by
  have hc : s.asOf n = s.cleared.put Reg.SYS_TICK_OFFSET.CLOCKS (max s.ofs (min n 122879)) := rfl
  have hm : max s.ofs (min n 122879) = n := by omega
  have hw : n < 2 ^ Reg.SYS_TICK_OFFSET.CLOCKS.w := Nat.lt_trans hn (by decide)
  rw [State.ofs, hc, hm, State.get_put_self, Nat.mod_eq_of_lt hw]

theorem State.tick_asOf (s : State) (n : Nat) : (s.asOf n).tick = s.tick :=
  State.get_asOf_ne s n (by decide)

/-! ## Tick-aligned writes (R16) -/

/-- A tick-aligned field that the host writes keeps in force what was in force before. -/
theorem State.eff_hostPut_aligned {f : Fld} (h : f.ta = true) (v : Nat) (s : State) : (s.hostPut f v).eff f = s.eff f := by
  cases hf : s.inForce.find? f.key with
  | none => simp [State.hostPut, State.eff, h, hf, Tab.find?_insert_self]
  | some x => simp [State.hostPut, State.eff, hf]

/-- A field that is not tick-aligned takes effect as it is written. -/
theorem State.eff_hostPut_unaligned {f : Fld} {s : State} (h : f.ta = false) (hf : s.inForce.find? f.key = none) (v : Nat) :
    (s.hostPut f v).eff f = v % 2 ^ f.w := by
  have hi : (s.hostPut f v).inForce.find? f.key = none := by simp [State.hostPut, h, hf]
  rw [State.eff_of_find?_none hi, State.get_hostPut_self]

/-- At the boundary every value stored comes into force. -/
theorem eff_alignedApply_eq_get (t : State) (f : Fld) : (alignedApply t).eff f = (alignedApply t).get f := by
  have h : (alignedApply t).inForce = [] := by simp only [alignedApply, apply_ite State.inForce, modTime_inForce, ite_self]
  exact State.eff_of_find?_none (by rw [h]; rfl)

/-- Of the fields' stored values the boundary changes none but ON_ALT of a tuner (R76). -/
theorem get_alignedApply {f : Fld} (h : ∀ n : Nat, f.key ≠ (Reg.PRSM_TUn_STAT.ON_ALT n).key) (t : State) :
    (alignedApply t).get f = t.get f := by
  have hput : ∀ (n : Nat) (s : State), (s.put (Reg.PRSM_TUn_STAT.ON_ALT n) 0).get f = s.get f :=
    fun n s => State.get_put_ne s 0 (h n).symm
  have hall := fun l => forEach_keeps (fun s => s.get f) (fun n s => s.put (Reg.PRSM_TUn_STAT.ON_ALT n) 0) hput l t
  simp only [alignedApply]
  split <;> split <;> exact hall _

/-! ## The tick boundary (R15 to R17, R345) -/

theorem tickBoundary_standing {s : State} (h : s.time.going = false) (e : TickEnv) : tickBoundary e s = s := by
  simp [tickBoundary, h]

theorem tickBoundary_going {s : State} (h : s.time.going = true) (e : TickEnv) :
    tickBoundary e s = tickRest s.mac.running (txClip (commitApply (prismTick e.rx (advanceTick (endOfTick s))))) e
      (alignedApply (txClip (commitApply (prismTick e.rx (advanceTick (endOfTick s)))))) := by
  simp [tickBoundary, h]

theorem ofs_countTick (s : State) : (countTick s).ofs = 0 := by
  rw [State.ofs, countTick, State.get_put_self, Nat.zero_mod]

theorem tick_countTick (s : State) : (countTick s).tick = (s.tick + 1) % 2 ^ 64 := by
  rw [State.tick, countTick, State.get_put_ne _ 0 (by decide), State.get_incWrap_self]
  rfl

theorem ticks_countTick (s : State) : (countTick s).core.ticks = s.core.ticks + 1 := rfl

/-- The counters of ticks are kept beside Reticle time. -/
theorem tick_timeBecomes (t : Nat) (s : State) : (timeBecomes t s).tick = s.tick := rfl

theorem core_timeBecomes (t : Nat) (s : State) : (timeBecomes t s).core = s.core := rfl

theorem ofs_advanceTick (s : State) : (advanceTick s).ofs = 0 := ofs_countTick _

theorem tick_advanceTick (s : State) : (advanceTick s).tick = (s.tick + 1) % 2 ^ 64 := by
  rw [advanceTick, tick_countTick, tick_timeBecomes]

theorem ticks_advanceTick (s : State) : (advanceTick s).core.ticks = s.core.ticks + 1 := by
  rw [advanceTick, ticks_countTick, core_timeBecomes]

/-! ## The deadlines within a tick (R18, R19, R23, R24) -/

theorem composeDeadline_none {s : State} (h : composeDue s = []) : composeDeadline s = s := by
  rw [composeDeadline, h, forEach_nil]

theorem composeDeadline_single {d : FDesc} {s : State} (h : composeDue s = [d]) : composeDeadline s = composeLate d s := by
  rw [composeDeadline, h, forEach_cons, forEach_nil]

theorem reportDeadline_single {e : Nat} {c : CeS} {s : State} (h : s.rx.ce.filter (fun x => x.2.report.isSome) = [(e, c)]) :
    reportDeadline s =
      modCe e (fun c => { c with report := none }) (overrun Reg.SYS_OVR_STAT.CE_RPT_LATE (s.inc (Reg.CE_RPT_LATE.CNT e))) := by
  rw [reportDeadline, h]
  rfl

section
variable {e : Nat} {f : RxFrame} {s : State} (h : rxFrames (s.at Config.ofsDecode) = [(e, f.fseq)])
  (hf : findRx (s.at Config.ofsDecode) e f.fseq = some f)
include h hf

/-- Of a single frame in reception the decode deadline asks whether it is due. -/
theorem decodeDeadline_single : decodeDeadline s = dupDeadline
    (if rxDue (s.at Config.ofsDecode) f then lateFrame e f (s.at Config.ofsDecode) else s.at Config.ofsDecode) := by
  simp only [decodeDeadline, h, forEach_cons, forEach_nil, hf]

theorem decodeDeadline_late (hd : rxDue (s.at Config.ofsDecode) f = true) :
    decodeDeadline s = dupDeadline (lateFrame e f (s.at Config.ofsDecode)) := by
  rw [decodeDeadline_single h hf, if_pos hd]

theorem decodeDeadline_kept (hd : rxDue (s.at Config.ofsDecode) f = false) :
    decodeDeadline s = dupDeadline (s.at Config.ofsDecode) := by
  rw [decodeDeadline_single h hf, hd, if_neg Bool.false_ne_true]

end

theorem releaseDeadline_late {r : Frame} {s : State} (h : s.sec.release = [r]) (hl : releaseLate s r = true) :
    releaseDeadline s = releaseDrop r { s with sec := { s.sec with release := [] } } := by
  simp [releaseDeadline, modSec, h, hl]

theorem releaseDeadline_kept {r : Frame} {s : State} (h : s.sec.release = [r]) (hl : releaseLate s r = false) :
    releaseDeadline s = s := by
  have hlate : s.sec.release.filter (releaseLate s) = [] := by simp [h, hl]
  have hkept : s.sec.release.filter (fun f => !releaseLate s f) = s.sec.release := by simp [h, hl]
  rw [releaseDeadline, hlate, modSec, hkept, forEach_nil]

/-! ## Tick commits (R25, R387 to R391) -/

/-- The commit that the active cluster posts: its commands, with the plans and amendments posted before and those of its buffer. -/
def postedCommit (tick : Nat) (ok : Bool) (cmds : List FwCmd) (s : State) : Commit :=
  { tick := tick, crcOk := ok, late := decide (Config.ofsCommit < s.ofs) && decide (s.ofs < Config.ofsCheck), cmds := cmds
    plans := (s.wdn.posted.elim ([], []) (fun c => (c.plans, c.amends))).1 ++ s.mac.fresh
    amends := (s.wdn.posted.elim ([], []) (fun c => (c.plans, c.amends))).2 ++ s.mac.freshAmends }

theorem postedCommit_late {s : State} (h : Config.ofsCommit < s.ofs) (h' : s.ofs < Config.ofsCheck) (tick : Nat) (ok : Bool)
    (cmds : List FwCmd) : (postedCommit tick ok cmds s).late = true := by
  simp [postedCommit, h, h']

/-- A commit waits for the Warden's check, and the command buffer from which it was taken is empty. -/
def awaitCheck (c : Commit) (s : State) : State := modWdn (fun w => { w with posted := some c }) (bufferClear s)

theorem commitOk_postedCommit {s t : State} {tick : Nat} (h : tick = (t.tick + 1) % 2 ^ 64) (cmds : List FwCmd) :
    commitOk t (postedCommit tick true cmds s) = true := by
  simp [commitOk, postedCommit, h]

theorem get_awaitCheck (c : Commit) (s : State) (f : Fld) : (awaitCheck c s).get f = s.get f := rfl

theorem tick_awaitCheck (c : Commit) (s : State) : (awaitCheck c s).tick = s.tick := rfl

theorem tick_settle (s t : State) : (settle s t).tick = t.tick := rfl

theorem accepted_acceptCommit (c : Commit) (s : State) : (acceptCommit c s).wdn.accepted = some c := by
  unfold acceptCommit
  cases c.late <;> rfl

theorem acceptCommit_late {c : Commit} (h : c.late = true) (s : State) :
    (acceptCommit c s).get Reg.WDN_CMT_LATE.CNT = min (s.get Reg.WDN_CMT_LATE.CNT + 1) (2 ^ 32 - 1) := by
  rw [acceptCommit, h, incIf_true, State.get_inc_self]
  rfl

section
variable {s : State} {ofs : Nat}

theorem tickCommit_posted (ha : clActive (s.at ofs) = true) (hh : (s.at ofs).on (Reg.DBG_CCc_STAT.HALTED (clHolder (s.at ofs))) = false)
    (ho : (s.at ofs).ofs < Config.ofsCheck) (tick : Nat) (ok : Bool) (cmds : List FwCmd) :
    tickCommit ofs tick ok cmds s = awaitCheck (postedCommit tick ok cmds (s.at ofs)) (s.at ofs) := by
  have hb : (bufferClear (s.at ofs)).ofs < Config.ofsCheck := ho
  simp only [tickCommit, ha, hh, hb, if_true, Bool.not_true, Bool.or_self, Bool.false_eq_true, if_false]
  rfl

/-- After the check the commit of a cluster that holds the lease since before this tick is discarded. -/
theorem tickCommit_discarded (ha : clActive (s.at ofs) = true)
    (hh : (s.at ofs).on (Reg.DBG_CCc_STAT.HALTED (clHolder (s.at ofs))) = false)
    (ht : s.wdn.tookIn ≠ some s.core.ticks) (ho : Config.ofsCheck ≤ (s.at ofs).ofs) (tick : Nat) (ok : Bool) (cmds : List FwCmd) :
    tickCommit ofs tick ok cmds s = bufferClear (s.at ofs) := by
  have hb : ¬ (bufferClear (s.at ofs)).ofs < Config.ofsCheck := Nat.not_lt.2 ho
  have hk : (bufferClear (s.at ofs)).wdn.tookIn ≠ some (bufferClear (s.at ofs)).core.ticks := ht
  simp [tickCommit, ha, hh, hb, hk]

end

section
variable {s : State} (ha : clActive (s.at Config.ofsCheck) = true) (hn : (s.at Config.ofsCheck).wdn.accepted = none)
include ha hn

theorem commitCheck_valid {c : Commit} (hp : (s.at Config.ofsCheck).wdn.posted = some c) (hc : commitOk (s.at Config.ofsCheck) c = true) :
    commitCheck s = acceptCommit c (s.at Config.ofsCheck) := by
  simp only [commitCheck, ha, hn, hp, hc, if_true]
  rfl

theorem commitCheck_invalid {c : Commit} (hp : (s.at Config.ofsCheck).wdn.posted = some c)
    (hc : commitOk (s.at Config.ofsCheck) c = false) (ht : (s.at Config.ofsCheck).wdn.tookIn ≠ some (s.at Config.ofsCheck).core.ticks) :
    commitCheck s = missCommit (modWdn (fun w => { w with posted := none }) (s.at Config.ofsCheck)) := by
  simp only [commitCheck, ha, hn, hp, hc, ht, if_false]
  rfl

theorem commitCheck_absent (hp : (s.at Config.ofsCheck).wdn.posted = none)
    (ht : (s.at Config.ofsCheck).wdn.tookIn ≠ some (s.at Config.ofsCheck).core.ticks) :
    commitCheck s = missCommit (s.at Config.ofsCheck) := by
  simp only [commitCheck, ha, hn, hp, ht, if_false]
  rfl

end

theorem graceExpiry_missed {s : State} (ha : clActive (s.at (usClk 120)) = true) (hn : (s.at (usClk 120)).wdn.accepted = none)
    (ht : (s.at (usClk 120)).wdn.tookIn = some (s.at (usClk 120)).core.ticks) :
    graceExpiry s = overrun Reg.SYS_OVR_STAT.CMT_MISS ((s.at (usClk 120)).inc Reg.WDN_CMT_MISS.CNT) := by
  simp only [graceExpiry, ha, hn, ht]
  rfl

theorem graceExpiry_holder {s : State} (ht : (s.at (usClk 120)).wdn.tookIn ≠ some (s.at (usClk 120)).core.ticks) :
    graceExpiry s = s.at (usClk 120) := by
  simp only [graceExpiry, ht, decide_false, Bool.false_and, Bool.false_eq_true, if_false]

/-- The lease's holder and its state are read from fields that the tick offset is not among. -/
theorem clHolder_at (s : State) (n : Nat) : clHolder (s.at n) = clHolder s := State.get_put_ne s _ (by decide)

theorem clActive_at (s : State) (n : Nat) : clActive (s.at n) = clActive s := by
  have hf : ∀ c : Nat, clState (s.at n) c = clState s c := by
    intro c
    simp only [clState]
    split <;> exact State.get_put_ne s _ (by decide)
  rw [clActive, clActive, clHolder_at, hf]

theorem clActive_asOf (s : State) (n : Nat) : clActive (s.asOf n) = clActive s := clActive_at s.cleared n

theorem get_halted_at (s : State) (n c : Nat) : (s.at n).get (Reg.DBG_CCc_STAT.HALTED c) = s.get (Reg.DBG_CCc_STAT.HALTED c) := by
  refine State.get_put_ne s _ ?_
  simp only [Fld.key, Reg.SYS_TICK_OFFSET.CLOCKS, Reg.DBG_CCc_STAT.HALTED]
  omega

/-! ## Enables of the RSI (R44, R53, R522) -/

theorem rsiEnable_off (s : State) : rsiEnable false s = forEach (List.range 12) disablePort (s.put Reg.RSI_CTRL.EN 0) := rfl

theorem rsiEnable_on {s : State} (h : s.on Reg.RSI_CTRL.EN = false) :
    rsiEnable true s = forEach (List.range 12) (fun p t => if t.on (portEn p) then trainPort p t else t) (s.put Reg.RSI_CTRL.EN 1) := by
  simp only [rsiEnable, h]
  rfl

theorem rsiEnable_already {s : State} (h : s.on Reg.RSI_CTRL.EN = true) : rsiEnable true s = s.put Reg.RSI_CTRL.EN 1 := by
  simp only [rsiEnable, h]
  rfl

section
variable {s : State} {p : Nat}

/-- Disabling leaves the odd port of its lanes alone where the port was off or is odd itself. -/
theorem rsiPortEnable_off (h : s.on (portEn p) = false ∨ p % 2 = 1) :
    rsiPortEnable p false s = disablePort p ((s.put (portEn p) 0).put (portErr p) 0) := by
  rcases h with h | h
  · simp [rsiPortEnable, h, State.putB, b2n]
  · simp [rsiPortEnable, h, State.putB, b2n]

theorem rsiPortEnable_off_judged (h : s.on (portEn p) = true) (he : p % 2 = 0) :
    rsiPortEnable p false s = judgePort (p + 1) (disablePort p ((s.put (portEn p) 0).put (portErr p) 0)) := by
  simp [rsiPortEnable, h, he, State.putB, b2n]

theorem rsiPortEnable_already (h : s.on (portEn p) = true) : rsiPortEnable p true s = s.put (portEn p) 1 := by
  simp [rsiPortEnable, h, State.putB, b2n]

theorem rsiPortEnable_on (h : s.on (portEn p) = false) (ho : p % 2 = 1) :
    rsiPortEnable p true s = trainPort p (s.put (portEn p) 1) := by
  simp [rsiPortEnable, h, ho, State.putB, b2n]

theorem rsiPortEnable_on_judged (h : s.on (portEn p) = false) (he : p % 2 = 0) :
    rsiPortEnable p true s = judgePort (p + 1) (trainPort p (s.put (portEn p) 1)) := by
  simp [rsiPortEnable, h, he, State.putB, b2n]

end

/-! ## Function resets and rings (R285, R288, R304, R305) -/

theorem flr_pf (s : State) : flr 0 s = hifReset (s.get Reg.HIF_STAT.SPEED) (s.get Reg.HIF_STAT.WIDTH) s := rfl

theorem flr_vf {fn : Nat} {s : State} (hf : fn ≠ 0) (h : s.hif.fetched.filter (ofRing fn none) = []) :
    flr fn s = fnForget fn (discardFor (· == fn) s) := by
  simp [flr, hf, h]

theorem ringEnable_vf {fn r : Nat} {s : State} (hx : ringExists fn r = true) (ho : s.on (Reg.HIF_Rr_CFG.EN fn r) = false) (hf : fn ≠ 0) :
    ringEnable fn r s = noCplSync fn (flushHeld fn r
      (((((s.put (Reg.HIF_Rr_CFG.EN fn r) 1).put (Reg.HIF_Rr_STAT.STATE fn r) 1).put (Reg.HIF_Rr_STAT.ERR fn r) 0).put
        (Reg.HIF_Rr_POS.POS fn r) 0).put (Reg.HIF_Rr_HPOS.HPOS fn r) 0)) := by
  have hb : (fn == 0 && r == ringSBK) = false := by simp [hf]
  simp only [ringEnable, hx, ho, hb, when_false]
  rfl

theorem ringEnable_idle {fn r : Nat} {s : State} (h : ringExists fn r = false ∨ s.on (Reg.HIF_Rr_CFG.EN fn r) = true) :
    ringEnable fn r s = s := by
  rcases h with h | h <;> simp [ringEnable, h]

/-- The descriptors to flush are those fetched before: turning the ring off fetches and drops none. -/
theorem txRingDisable_on {fn r : Nat} {s : State} (h : s.on (Reg.HIF_Rr_CFG.EN fn r) = true) :
    txRingDisable fn r s = forEach (s.hif.fetched.filter (ofRing fn (some r))) (fun d t => descEnd d stFLUSHED 0 (dropUnmade d t))
      (modHif (fun h => { h with fetchQ := h.fetchQ.filter (fun j => !(j.fn == fn && j.ring == r)) }) (ringOff fn r s)) := by
  simp only [txRingDisable, h]
  rfl

theorem txRingDisable_off {fn r : Nat} {s : State} (h : s.on (Reg.HIF_Rr_CFG.EN fn r) = false) : txRingDisable fn r s = s := by
  simp [txRingDisable, h]

/-! ## The commands on a live block -/

section
variable {s : State} (hs : s.live)
include hs

theorem exec_tickBoundary (e : TickEnv) : exec (.tickBoundary e) s = .next (settle s (tickBoundary e s.cleared)) := run_live hs _

theorem exec_intakeCutoff : exec .intakeCutoff s = .next (settle s (forEach (posFns s.cleared) posRecord
    (modHif (fun h => { h with intakeOpen := false }) (s.asOf Config.ofsIntake)))) :=
  run_live hs (fun t => forEach (posFns t) posRecord (modHif (fun h => { h with intakeOpen := false }) (t.at Config.ofsIntake)))

theorem exec_compositionDeadline : exec .compositionDeadline s = .next (settle s (composeDeadline s.cleared)) := run_live hs _

theorem exec_tickReportDeadline : exec .tickReportDeadline s = .next (settle s (reportDeadline s.cleared)) := run_live hs _

theorem exec_decodeDeadline : exec .decodeDeadline s = .next (settle s (dupSettle (decodeDeadline s.cleared))) := runRx_live hs _

theorem exec_releaseDeadline (ofs : Fin 122880) : exec (.releaseDeadline ofs) s = .next (settle s (releaseDeadline (s.asOf ofs))) :=
  run_live hs (fun t => releaseDeadline (t.at ofs))

theorem exec_tickCommit (ofs : Fin 122880) (tick : Nat) (ok : Bool) (cmds : List FwCmd) :
    exec (.tickCommit ofs tick ok cmds) s = .next (settle s (tickCommit ofs tick ok cmds s.cleared)) := run_live hs _

theorem exec_tickCommit_posted {ofs : Fin 122880} (ha : clActive (s.asOf ofs) = true)
    (hh : (s.asOf ofs).on (Reg.DBG_CCc_STAT.HALTED (clHolder (s.asOf ofs))) = false) (ho : (s.asOf ofs).ofs < Config.ofsCheck)
    (tick : Nat) (ok : Bool) (cmds : List FwCmd) : exec (.tickCommit ofs tick ok cmds) s =
      .next (settle s (awaitCheck (postedCommit tick ok cmds (s.asOf ofs)) (s.asOf ofs))) := by
  rw [exec_tickCommit hs, tickCommit_posted (s := s.cleared) ha hh ho, asOf_eq]

theorem exec_wardenCommitCheck : exec .wardenCommitCheck s = .next (settle s (commitCheck s.cleared)) := run_live hs _

theorem exec_wardenCommitCheck_valid {c : Commit} (ha : clActive (s.asOf Config.ofsCheck) = true) (hn : s.wdn.accepted = none)
    (hp : s.wdn.posted = some c) (hc : commitOk (s.asOf Config.ofsCheck) c = true) :
    exec .wardenCommitCheck s = .next (settle s (acceptCommit c (s.asOf Config.ofsCheck))) := by
  rw [exec_wardenCommitCheck hs, commitCheck_valid (s := s.cleared) ha hn hp hc, asOf_eq]

theorem exec_commitGraceExpiry : exec .commitGraceExpiry s = .next (settle s (graceExpiry s.cleared)) := run_live hs _

theorem exec_rsiEnableWrite (en : Bool) :
    exec (.rsiEnableWrite en) s = .next (settle s (regAccess Reg.RSI_CTRL.EN.addr (rsiEnable en) s.cleared)) := run_live hs _

theorem exec_rsiPortEnable (p : Fin 12) (en : Bool) :
    exec (.rsiPortEnable p en) s = .next (settle s (regAccess Reg.RSI_CTRL.EN.addr (rsiPortEnable p en) s.cleared)) := run_live hs _

theorem exec_hifReset (speed : Fin 6) (width : Fin 5) :
    exec (.hifReset speed width) s = .next (settle s (hifReset speed (linkLanes width) s.cleared)) := run_live hs _

variable (fn : Fin 257)

theorem exec_functionLevelReset : exec (.functionLevelReset fn) s = .next (settle s (flr fn s.cleared)) := run_live hs _

theorem exec_ringEnable (r : Fin 16) :
    exec (.ringEnable fn r) s = .next (settle s (regAccess (Reg.HIF_Rr_CFG.EN fn r).addr (ringEnable fn r) s.cleared)) := run_live hs _

theorem exec_txRingDisable (r : Fin 4) :
    exec (.txRingDisable fn r) s = .next (settle s (regAccess (Reg.HIF_Rr_CFG.EN fn r).addr (txRingDisable fn r) s.cleared)) :=
  run_live hs _

/-- PART_RING_DISABLE turns a ring off that is there and on, and does nothing else. -/
theorem exec_partRingDisable {r : Fin 8} (hw : windowOn s.cleared (Reg.HIF_Rr_CFG.EN fn (6 + r)).addr = true) :
    exec (.partRingDisable fn r) s = .next (settle s
      (if ringExists fn (6 + r) && s.cleared.on (Reg.HIF_Rr_CFG.EN fn (6 + r)) then ringOff fn (6 + r) s.cleared else s.cleared)) := by
  rw [show exec (.partRingDisable fn r) s = execPartRingDisable fn r s from rfl, execPartRingDisable, run_live hs, regAccess_on hw]

end

/-! ## The obligations -/

/-- Settles O14: TICK_BOUNDARY before and after the first lock, and what the end of a tick makes of the counters of time. -/
theorem tickBoundaries : Obligations.TickBoundaries := by
  intro e s hs
  refine ⟨fun h => ?_, fun h => ?_, ofs_advanceTick _, tick_advanceTick _, ticks_advanceTick _⟩
  · rw [exec_tickBoundary hs, tickBoundary_standing h]
  · rw [exec_tickBoundary hs, tickBoundary_going h]

/-- Settles O10: a host's store of the field, with the old value in `inForce` until the boundary empties it. -/
theorem tickAligned : Obligations.TickAligned := by
  intro f v s hrw
  rw [fieldStore_rw hrw]
  exact ⟨State.get_hostPut_self s f v, fun h => State.eff_hostPut_aligned h v s, fun h hf => State.eff_hostPut_unaligned h hf v,
    fun h t => (eff_alignedApply_eq_get t f).trans (get_alignedApply h t)⟩

/-- Settles O16: each deadline goes through the list of what is due, which is empty or a single one here. -/
theorem tickDeadlines : Obligations.TickDeadlines := by
  intro e c f r d ofs s hs
  refine ⟨exec_intakeCutoff hs, fun h => ?_, fun h => ?_, fun h => ?_, fun h hf hd => ?_, fun h hf hd => ?_, fun h hl => ?_,
    fun h hl => ?_⟩
  · rw [exec_compositionDeadline hs, composeDeadline_none h]
  · rw [exec_compositionDeadline hs, composeDeadline_single h]
  · rw [exec_tickReportDeadline hs, reportDeadline_single h]
  · rw [exec_decodeDeadline hs, decodeDeadline_late (s := s.cleared) h hf hd]
    rfl
  · rw [exec_decodeDeadline hs, decodeDeadline_kept (s := s.cleared) h hf hd]
    rfl
  · rw [exec_releaseDeadline hs, releaseDeadline_late h hl]
  · rw [exec_releaseDeadline hs, releaseDeadline_kept h hl]

/-- Settles O17: one equation of TICK_COMMIT, of the Warden's check and of the end of the grace for each case. -/
theorem commitRules : Obligations.CommitRules := by
  intro ofs tick ok cmds s hs
  refine ⟨fun ha hh ho => ?_, fun c ha hn hp hc => ?_, fun c ha hn hp hc ht => ?_, fun ha hn hp ht => ?_,
    fun ha hn ht => ?_, fun ht => ?_⟩
  · exact exec_tickCommit_posted hs ha hh ho tick ok cmds
  · exact exec_wardenCommitCheck_valid hs ha hn hp hc
  · rw [exec_wardenCommitCheck hs, commitCheck_invalid (s := s.cleared) ha hn hp hc ht]
    rfl
  · rw [exec_wardenCommitCheck hs, commitCheck_absent (s := s.cleared) ha hn hp ht]
    rfl
  · rw [exec_commitGraceExpiry hs, graceExpiry_missed (s := s.cleared) ha hn ht]
    rfl
  · rw [exec_commitGraceExpiry hs, graceExpiry_holder (s := s.cleared) ht]
    rfl

/-- Settles O18: the posted commit waits for the check, at which it is valid and late; past the check it goes with the buffer. -/
theorem lateCommit : Obligations.LateCommit := by
  intro ofs tick cmds s hs ha hh ht
  have ha' : clActive (s.asOf ofs) = true := (clActive_asOf s ofs).trans ha
  have hh' : (s.asOf ofs).on (Reg.DBG_CCc_STAT.HALTED (clHolder (s.asOf ofs))) = false := by
    rw [State.on_eq_false, asOf_eq, get_halted_at, clHolder_at]
    exact hh
  refine ⟨fun hn htick hle hlo hhi => ?_, fun ok ho => ?_⟩
  · have ho : (s.asOf ofs).ofs = ofs.val := State.ofs_asOf hle ofs.isLt
    have hcheck : (s.asOf ofs).ofs < Config.ofsCheck := by rw [ho]; exact hhi
    have hl := postedCommit_late (ho.symm ▸ hlo) hcheck tick true cmds
    have hok := commitOk_postedCommit (s := s.asOf ofs) (tick := tick)
      (t := (settle s (awaitCheck (postedCommit tick true cmds (s.asOf ofs)) (s.asOf ofs))).asOf Config.ofsCheck)
      (by rw [State.tick_asOf, tick_settle, tick_awaitCheck, State.tick_asOf, htick]) cmds
    refine ⟨_, _, exec_tickCommit_posted hs ha' hh' hcheck tick true cmds,
      exec_wardenCommitCheck_valid (s := settle s (awaitCheck _ (s.asOf ofs))) hs ((clActive_asOf _ _).trans ha') hn rfl hok, ?_, ?_⟩
    · rw [settle_wdn, accepted_acceptCommit, ← hl]
      rfl
    · rw [settle_get, acceptCommit_late hl, State.get_asOf_ne _ _ (by decide), settle_get, get_awaitCheck,
        State.get_asOf_ne s ofs (by decide)]
  · rw [exec_tickCommit hs, tickCommit_discarded (s := s.cleared) ha' hh' ht ho]
    rfl

/-- Settles O20: with the window on the meanings of the two enables by case, with it off the count alone. -/
theorem portEnables : Obligations.PortEnables := by
  intro en p s hs
  refine ⟨fun hw => ?_, fun hw => ?_⟩
  · rw [exec_rsiEnableWrite hs, exec_rsiPortEnable hs, regAccess_off hw, regAccess_off hw]
    exact ⟨rfl, rfl⟩
  · simp only [exec_rsiEnableWrite hs, exec_rsiPortEnable hs, regAccess_on hw]
    exact ⟨by rw [rsiEnable_off], fun h => by rw [rsiEnable_on h], fun h => by rw [rsiEnable_already h],
      fun h => by rw [rsiPortEnable_off h], fun h he => by rw [rsiPortEnable_off_judged h he], fun h => by rw [rsiPortEnable_already h],
      fun h ho => by rw [rsiPortEnable_on h ho], fun h he => by rw [rsiPortEnable_on_judged h he]⟩

/-- Settles O33: the resets, and each ring command where it acts, where there is nothing to do and where the window is off. -/
theorem ringsAndResets : Obligations.RingsAndResets := by
  intro fn r tr pr speed width s hs
  refine ⟨?_, ?_, fun hf h => ?_, fun hw => ?_, fun hw hx ho hf => ?_, fun hw h => ?_, fun hw h => ?_, fun hw h => ?_, fun hw hx h => ?_,
    fun hw h => ?_⟩
  · exact exec_hifReset hs speed width
  · rw [exec_functionLevelReset hs, show ((0 : Fin 257) : Nat) = 0 from rfl, flr_pf]
  · rw [exec_functionLevelReset hs, flr_vf hf h]
  · rw [exec_ringEnable hs, regAccess_off hw]
  · rw [exec_ringEnable hs, regAccess_on hw, ringEnable_vf hx ho hf]
  · rw [exec_ringEnable hs, regAccess_on hw, ringEnable_idle h]
  · rw [exec_txRingDisable hs, regAccess_on hw, txRingDisable_on h]
  · rw [exec_txRingDisable hs, regAccess_on hw, txRingDisable_off h]
  · rw [exec_partRingDisable hs fn hw, hx, h]
    rfl
  · rw [exec_partRingDisable hs fn hw, Bool.and_eq_false_iff.2 h]
    rfl

end Sys2Proof.Machine

/-! # Ports, lanes, SYSREF and tuners (chapter 2)

What locks, losses and errors do to a port, lane discovery, the SYSREF input and its boundary, the end of a tuner's fill and an INVALID
sample, and the obligations that they settle. -/

/-! ## Lock and loss of lock (R47, R51, R53, R54) -/

namespace Sys2Proof.Machine

section
variable {p : Nat} {s : State}

theorem lanesLock_uncoded (h : 8 ≤ p ∨ coded8b (s.get (portSet p)) = false) (l : List LaneLock) : lanesLock p l s = s := by
  rcases h with h | h <;> simp [lanesLock, h]

/-- R51: with set P6 a lane whose identifier is 0 or 1 takes its place and its polarity from the lock. -/
theorem lanesLock_single {x : LaneLock} (hp : p < 8) (h : s.get (portSet p) = 6) (hx : x.lid < 2) : lanesLock p [x] s =
    (s.put (Reg.RSI_RXLANEl.LOGICAL x.lane) (p + x.lid)).putB (Reg.RSI_RXLANEl.POL x.lane) x.inverted := by
  have hc : coded8b 6 = true := rfl
  simp [lanesLock, Nat.not_le.2 hp, h, hc, hx]

theorem portLock_training (h : s.get (portState p) = psTRAINING) (l : List LaneLock) :
    portLock p l s = setPort p psALIGNING (lanesLock p l s) := if_pos h

theorem portLock_ignored (h : s.get (portState p) ≠ psTRAINING) (l : List LaneLock) : portLock p l s = s := if_neg h

/-- What LANE_LOCK_LOSS does once the tick offset stands (R54). -/
def laneLockLoss (p : Nat) (s : State) : State :=
  if s.get (portState p) = psUP then (if p < 8 then prismGap p s else s)
  else if s.get (portState p) = psALIGNING then setPort p psTRAINING s
  else s

theorem laneLockLoss_aligning (h : s.get (portState p) = psALIGNING) : laneLockLoss p s = setPort p psTRAINING s := by
  have hup : s.get (portState p) ≠ psUP := by rw [h]; decide
  rw [laneLockLoss, if_neg hup, if_pos h]

theorem laneLockLoss_up (h : s.get (portState p) = psUP) (hp : p < 8) : laneLockLoss p s = prismGap p s := by
  rw [laneLockLoss, if_pos h, if_pos hp]

theorem portDown_ignored (h : s.get (portState p) ≠ psUP) (cause : Nat) : portDown p cause s = s := if_pos h

theorem portDown_tx (h : s.get (portState p) = psUP) (hp : 8 ≤ p) (cause : Nat) : portDown p cause s = setPort p psDOWN s := by
  rw [portDown, if_neg (not_not_intro h)]
  exact if_pos hp

theorem portDown_rx (h : s.get (portState p) = psUP) (hp : p < 8) (cause : Nat) : portDown p cause s =
    portLost p (((lpe (0x068 + p) (setPort p psDOWN s)).inc (Reg.RSI_RXn_CNT.DOWN_EVT p)).put (Reg.RSI_RXn_STAT.DOWN_CAUSE p) cause) := by
  rw [portDown, if_neg (not_not_intro h)]
  exact if_neg (Nat.not_le.2 hp)

theorem inc_downEvt (p : Nat) (s : State) : s.inc (Reg.RSI_RXn_CNT.DOWN_EVT p) =
    s.put (Reg.RSI_RXn_CNT.DOWN_EVT p) (min 65535 (s.get (Reg.RSI_RXn_CNT.DOWN_EVT p) + 1)) := by
  rw [State.inc, State.incBy, Nat.min_comm]
  rfl

theorem portPowered_of_on (h : pdOn s 31 = true) (hq : 8 ≤ p ∨ pdOn s (quadPd p) = true) : portPowered s p = true := by
  simp [portPowered, h, hq]

end

/-! ## Lane discovery (R49, R50) -/

/-- Where no lane received a bit, no logical lane is found on any. -/
theorem laneDiscoveryEnd_nil (s : State) : laneDiscoveryEnd [] s =
    forEach (List.range 8) (fun p t => if t.get (portState p) = psDISCOVERY then setPort p psTRAINING t else t)
      (forEach (List.range 8) (fun l t => t.putB (Reg.RSI_RXLANEl.FOUND l) false)
        (((s.put Reg.RSI_CTRL.DISC_START 0).put Reg.RSI_CTRL.DISC_DONE 1).put Reg.RSI_CTRL.DISC_FOUND 0)) := by
  have hnone : (List.range 8).map (fun l => if laneCoded s l then none else laneSearch (([] : List (List Bool)).getD l [])) =
      List.replicate 8 none := by
    refine List.eq_replicate_iff.2 ⟨rfl, fun x hx => ?_⟩
    obtain ⟨l, -, rfl⟩ := List.mem_map.1 hx
    exact ite_self _
  rw [laneDiscoveryEnd, hnone]
  rfl

/-! ## SYSREF (R55, R56) -/

theorem eff_armSync {f : Fld} (h : Reg.RSI_SYSREF.ARM.key ≠ f.key) (s : State) : (armSync s).eff f = s.eff f :=
  State.eff_put_ne s _ h

/-- The mode of SYSREF is the value in force of its field, so it stays where that does. -/
theorem sysrefMode_congr {s t : State} (h : t.eff Reg.RSI_SYSREF.MODE = s.eff Reg.RSI_SYSREF.MODE) : sysrefMode t = sysrefMode s := by
  rw [sysrefMode, sysrefMode, h]

theorem sysrefMode_seen (s : State) : sysrefMode (s.put Reg.RSI_SYSREF_STAT.IN_SEEN 1) = sysrefMode s :=
  sysrefMode_congr (State.eff_put_ne s 1 (by decide))

/-- With SYSREF off what was armed ends at the boundary, and there is no pulse (log entry 50). -/
theorem sysrefBoundary_off {s : State} (h : sysrefMode s = 0) (arrive : List Nat) :
    sysrefBoundary arrive s = armSync (modRsi (fun r => { r with armPulse := false, armEdge := false }) s) := by
  have hoff : (sysrefMode s != 1) = true := by rw [h]; rfl
  have hmode : sysrefMode (armSync (modRsi (fun r => { r with armPulse := false, armEdge := false }) s)) = 0 :=
    (sysrefMode_congr (eff_armSync (by decide) _)).trans h
  simp only [sysrefBoundary, hoff, when_true, hmode, Bool.not_false, if_true]

section
variable {s : State} (hsrc : s.on Reg.RSI_SYSREF.SRC = true) (dev : Nat) (arrive : List Nat)
include hsrc

/-- That the edge is seen leaves the source selected. -/
theorem src_seen : (s.put Reg.RSI_SYSREF_STAT.IN_SEEN 1).get Reg.RSI_SYSREF.SRC ≠ 0 := by
  rw [State.get_put_ne s 1 (by decide)]
  exact State.on_eq_true.1 hsrc

theorem sysrefEdge_off (h : sysrefMode s = 0) : sysrefEdge dev arrive s = s.put Reg.RSI_SYSREF_STAT.IN_SEEN 1 := by
  simp only [sysrefEdge, if_neg (src_seen hsrc), sysrefMode_seen, h]

theorem sysrefEdge_armed (h : sysrefMode s = 1) (ha : s.rsi.armEdge = true) : sysrefEdge dev arrive s =
    armSync (modRsi (fun r => { r with armEdge := false }) (applyEdge dev arrive (s.put Reg.RSI_SYSREF_STAT.IN_SEEN 1))) := by
  have ha' : (s.put Reg.RSI_SYSREF_STAT.IN_SEEN 1).rsi.armEdge = true := ha
  simp only [sysrefEdge, if_neg (src_seen hsrc), sysrefMode_seen, h, ha', if_true]

theorem sysrefEdge_periodic (h : sysrefMode s = 2) :
    sysrefEdge dev arrive s = applyEdge dev arrive (s.put Reg.RSI_SYSREF_STAT.IN_SEEN 1) := by
  simp only [sysrefEdge, if_neg (src_seen hsrc), sysrefMode_seen, h]

end

/-! ## Fills of tuners and INVALID samples (R73, R74, R105) -/

theorem tunerFilled_ignored {n : Nat} {s : State} (h : s.get (Reg.PRSM_TUn_STAT.STATE n) ≠ 1) : tunerFilled n s = s := if_pos h

/-- A tuner that fills runs once it has filled; its state is stored last. -/
theorem get_state_tunerFilled {n : Nat} {s : State} (h : s.get (Reg.PRSM_TUn_STAT.STATE n) = 1) :
    (tunerFilled n s).get (Reg.PRSM_TUn_STAT.STATE n) = 2 := by
  rw [tunerFilled, if_neg (not_not_intro h)]
  exact State.get_put_self _ (Reg.PRSM_TUn_STAT.STATE n) 2

theorem abortSync_single {e : Nat} {f : RxFrame} {s : State} (hc : (ceOf s e).cur = some f) (hh : (ceOf s e).held = []) :
    abortSync e s = modCe e (fun c => { c with ringSince :=
        (takeFrame e f.fseq (dropFrame e f 0x04 0 (s.inc (Reg.CE_ABORT_SYNC.CNT e)))).clk })
      (takeFrame e f.fseq (dropFrame e f 0x04 0 (s.inc (Reg.CE_ABORT_SYNC.CNT e)))) := by
  rw [abortSync, hc, hh]
  rfl

theorem abortSync_idle {e : Nat} {s : State} (hc : (ceOf s e).cur = none) (hh : (ceOf s e).held = []) :
    abortSync e s = modCe e (fun c => { c with ringSince := s.clk }) s := by
  rw [abortSync, hc, hh]
  rfl

/-! ## The commands on a live block -/

section
variable {s : State} (hs : s.live)
include hs

theorem exec_portLock (p : Fin 12) (l : List LaneLock) : exec (.portLock p l) s = .next (settle s (portLock p l s.cleared)) :=
  run_live hs _

theorem exec_laneLockLoss (p : Fin 12) (ofs : Fin 122880) :
    exec (.laneLockLoss p ofs) s = .next (settle s (laneLockLoss p (s.asOf ofs))) :=
  run_live hs (fun t => laneLockLoss p (t.at ofs))

theorem exec_portDown (p : Fin 12) (ofs : Fin 122880) : exec (.portDown p ofs) s = .next (settle s (portDown p 1 (s.asOf ofs))) :=
  run_live hs (fun t => portDown p 1 (t.at ofs))

theorem exec_portRetry (p : Fin 12) : exec (.portRetry p) s = .next (settle s
    (if s.cleared.get (portState p) = psDOWN && portPowered s.cleared p then setPort p psTRAINING s.cleared else s.cleared)) :=
  run_live hs (fun t => if t.get (portState p) = psDOWN && portPowered t p then setPort p psTRAINING t else t)

theorem exec_portRetry_down {p : Fin 12} (h : s.cleared.get (portState p) = psDOWN) (hp : portPowered s.cleared p = true) :
    exec (.portRetry p) s = .next (settle s (setPort p psTRAINING s.cleared)) := by
  rw [exec_portRetry hs, h, hp]
  rfl

theorem exec_portRetry_ignored {p : Fin 12} (h : s.cleared.get (portState p) ≠ psDOWN ∨ portPowered s.cleared p = false) :
    exec (.portRetry p) s = .next (settle s s.cleared) := by
  rw [exec_portRetry hs, if_neg]
  rcases h with h | h <;> simp only [h, decide_false, Bool.false_and, Bool.and_false, Bool.false_eq_true, not_false_eq_true]

theorem exec_laneDiscoveryStart (hw : windowOn s.cleared Reg.RSI_CTRL.EN.addr = true) : exec .laneDiscoveryStart s = .next (settle s
    (forEach (List.range 8) (fun p t => if t.get (portState p) = psTRAINING then setPort p psDISCOVERY t else t)
      ((s.cleared.put Reg.RSI_CTRL.DISC_START 1).put Reg.RSI_CTRL.DISC_DONE 0))) := by
  rw [show exec .laneDiscoveryStart s = execLaneDiscoveryStart s from rfl, execLaneDiscoveryStart, run_live hs, regAccess_on hw]

theorem exec_laneDiscoveryEnd (found : List (List Bool)) :
    exec (.laneDiscoveryEnd found) s = .next (settle s (laneDiscoveryEnd found s.cleared)) := run_live hs _

theorem exec_sysrefArm : exec .sysrefArm s = .next (settle s (regAccess Reg.RSI_SYSREF.MODE.addr sysrefArm s.cleared)) := run_live hs _

/-- With SRC = 0 an edge at the SYSREF input is not used. -/
theorem exec_sysrefEdge (dev : Fin 30720) (arrive : List Nat) : exec (.sysrefEdge dev arrive) s = .next (settle s
    (if s.cleared.on Reg.RSI_SYSREF.SRC then sysrefEdge dev arrive s.cleared else s.cleared)) :=
  run_live hs (fun t => if t.on Reg.RSI_SYSREF.SRC then sysrefEdge dev arrive t else t)

theorem exec_sysrefEdge_input (h : s.cleared.on Reg.RSI_SYSREF.SRC = true) (dev : Fin 30720) (arrive : List Nat) :
    exec (.sysrefEdge dev arrive) s = .next (settle s (sysrefEdge dev arrive s.cleared)) := by
  rw [exec_sysrefEdge hs, if_pos h]

theorem exec_tunerFillComplete (n : Fin 128) : exec (.tunerFillComplete n) s = .next (settle s (tunerFilled n s.cleared)) :=
  run_live hs _

theorem exec_invalidSampleAbort (e : Fin 128) : exec (.invalidSampleAbort e) s = .next (settle s (abortSync e s.cleared)) :=
  run_live hs _

/-- CRC12_ERROR counts the error with Loupe and in the port's counter, and is a Prism overrun where CRC_ACT says so. -/
theorem exec_crc12Error (q : Fin 8) (ofs : Fin 122880) :
    let t := lpe (0x060 + q) (s.asOf ofs)
    let d := t.put (Reg.RSI_RXn_CNT.CRC_ERR q) (min 65535 (t.get (Reg.RSI_RXn_CNT.CRC_ERR q) + 1))
    exec (.crc12Error q ofs) s = .next (settle s (if d.on (Reg.RSI_RXn_CFG.CRC_ACT q) then prismGap q d else d)) := by
  rw [show exec (.crc12Error q ofs) s = execCrc12Error q ofs s from rfl, execCrc12Error, run_live hs]
  rfl

end

/-! ## The obligations -/

/-- Settles O21: each event in the states of a port in which it acts, and in the others, where it is ignored. -/
theorem portEvents : Obligations.PortEvents := by
  intro p q ofs l x s hs
  refine ⟨fun h hc => ?_, fun h hp h6 hx => ?_, fun h => ?_, fun h => ?_, fun h hp => ?_, fun h hp => ?_, fun h hp => ?_, fun h => ?_,
    fun h h31 hq => ?_, fun h => ?_, fun h => ?_, exec_crc12Error hs q ofs⟩
  · rw [exec_portLock hs, portLock_training h, lanesLock_uncoded hc]
  · rw [exec_portLock hs, portLock_training h, lanesLock_single hp h6 hx]
  · rw [exec_portLock hs, portLock_ignored h]
  · rw [exec_laneLockLoss hs, laneLockLoss_aligning h]
  · rw [exec_laneLockLoss hs, laneLockLoss_up h hp]
  · rw [exec_portDown hs, portDown_tx h hp]
  · rw [exec_portDown hs, portDown_rx h hp, inc_downEvt]
  · rw [exec_portDown hs, portDown_ignored h]
  · exact exec_portRetry_down hs h (portPowered_of_on h31 hq)
  · exact exec_portRetry_ignored hs (.inr h)
  · exact exec_portRetry_ignored hs (.inl h)

/-- Settles O22: discovery and SYSREF by case, and the tuner and the engine in the states in which the events act. -/
theorem lanesAndTuners : Obligations.LanesAndTuners := by
  intro found dev arrive n e f s hs
  refine ⟨exec_laneDiscoveryStart hs, exec_laneDiscoveryEnd hs found, laneDiscoveryEnd_nil _, fun hw => ?_, fun hw => ?_,
    fun h => sysrefBoundary_off h arrive, fun hsrc => ?_, fun hsrc h => ?_, fun hsrc h ha => ?_, fun hsrc h => ?_,
    fun _ => exec_tunerFillComplete hs n, ?_, fun h => ?_, fun hc hh => ?_, fun hc hh => ?_⟩
  · rw [exec_sysrefArm hs, regAccess_on hw, sysrefArm]
  · rw [exec_sysrefArm hs, regAccess_off hw]
  · rw [exec_sysrefEdge hs, hsrc, if_neg Bool.false_ne_true]
  · rw [exec_sysrefEdge_input hs hsrc, sysrefEdge_periodic hsrc _ _ h]
  · rw [exec_sysrefEdge_input hs hsrc, sysrefEdge_armed hsrc _ _ h ha]
  · rw [exec_sysrefEdge_input hs hsrc, sysrefEdge_off hsrc _ _ h]
  · split
    · next h => exact get_state_tunerFilled h
    · next h => rw [tunerFilled_ignored h]
  · rw [exec_tunerFillComplete hs, tunerFilled_ignored h]
  · rw [exec_invalidSampleAbort hs, abortSync_single hc hh]
  · rw [exec_invalidSampleAbort hs, abortSync_idle hc hh]

end Sys2Proof.Machine

/-! # Reception (chapter 3)

A detection at an engine, the other events of a reception in progress, the end of a frame that an engine decodes itself or in replay and
the report of a tick, and the obligations that they settle. -/

/-! ## Detection and synchronisation (R82, R86, R87, R93, R97) -/

namespace Sys2Proof.Machine

/-- A detection is counted in CE_DET_CNT and for the tick report (R86, R110). -/
def countDetection (e : Nat) (s : State) : State := modCe e (fun c => { c with dets := c.dets + 1 }) (s.inc (Reg.CE_DET_CNT.CNT e))

section
variable {e ofs : Nat} {d : Detect} {s : State}

theorem frameDetection_none (h : ceListens (s.at ofs) e = false ∨ detects (s.at ofs) e d = false) (acq : Option Acq) :
    frameDetection e ofs d acq s = s.at ofs := by
  have hn : (ceListens (s.at ofs) e && detects (s.at ofs) e d) = false := Bool.and_eq_false_iff.2 h
  simp only [frameDetection, hn, Bool.not_false, if_true]

variable (hl : ceListens (s.at ofs) e = true) (hd : detects (s.at ofs) e d = true)
include hl hd

/-- During a frame a detection is a candidate captor, in the window in which the frame began. -/
theorem frameDetection_capture {f : RxFrame} (hc : (ceOf (s.at ofs) e).cur = some f) (acq : Option Acq) :
    frameDetection e ofs d acq s = candidate e f d f.win acq (countDetection e (s.at ofs)) := by
  simp only [frameDetection, hl, hd, hc, Bool.and_self, Bool.not_true, Bool.false_eq_true, if_false, countDetection]

theorem frameDetection_search (hc : (ceOf (s.at ofs) e).cur = none) (acq : Option Acq) :
    frameDetection e ofs d acq s = (searchWin (s.at ofs) e).elim (s.at ofs)
      (fun w => beginFrame e (some w) acq id (countDetection e (s.at ofs))) := by
  simp only [frameDetection, hl, hd, hc, Bool.and_self, Bool.not_true, Bool.false_eq_true, if_false]
  cases searchWin (s.at ofs) e <;> rfl

end

/-- A frame begins with every stream of its engine (R93). -/
theorem newFrame_undropped (s : State) (e : Nat) (win : Option RxWin) (acq : Option Acq) :
    { newFrame s e win acq with dropped := false } = newFrame s e win acq := rfl

section
variable {e : Nat} {a : Acq} {s : State} (hf : acqFound s e a = true)
include hf

/-- A frame begins where the acquisition holds; of a pair with an INVALID stream it goes on with the other one, which counts (R93). -/
theorem beginFrame_sync (ho : acqOk s e a = true) (win : Option RxWin) (mark : RxFrame → RxFrame) :
    beginFrame e win (some a) mark s =
      ceSync e (modCe e (fun c => { c with
          cur := some (mark { newFrame s e win (some a) with dropped := (streamsIn s e).contains false })
          fseq := (c.fseq + 1) % 65536
          busyFrom := some (c.busyFrom.getD a.syncClk) })
        (s.incIf ((streamsIn s e).contains false) (Reg.CE_DIV_DROP.CNT e))) := by
  simp only [beginFrame, Option.filter_some, hf, ho, if_true]

theorem beginFrame_syncFail (ho : acqOk s e a = false) (win : Option RxWin) (mark : RxFrame → RxFrame) :
    beginFrame e win (some a) mark s = ceSync e (modCe e (fun c => { c with cur := none }) (s.inc (Reg.CE_SYNC_FAIL.CNT e))) := by
  simp only [beginFrame, Option.filter_some, hf, ho, if_true, Bool.false_eq_true, if_false]

end

/-! ## Events of a reception in progress (R84, R87, R99) -/

section
variable {e : Nat} {f : RxFrame} {s : State}

/-- At the SFD limit a frame that is not synchronised leaves the engine; of a captor the frame it displaced fails with it. -/
theorem sfdTimeout_unsynchronised (hc : (ceOf s e).cur = some f) (ha : f.acq = none) :
    sfdTimeout e s = when f.captor (captorOutcome e f.fseq false) (ceFree e (s.inc (Reg.CE_SYNC_FAIL.CNT e))) := by
  simp only [sfdTimeout, hc, ha, Option.isSome_none, Bool.false_eq_true, if_false, when]

theorem sfdTimeout_idle (hc : (ceOf s e).cur = none) : sfdTimeout e s = s := by
  rw [sfdTimeout, hc]

/-- The engine searches again after a PHR that carried no frame: its FSEQ is free. -/
def returnFrame (e : Nat) (f : RxFrame) (s : State) : State := modCe e (fun c => { c with fseq := f.fseq }) (ceFree e s)

theorem modeSwitch_phr {a : Acq} (hc : (ceOf s e).cur = some f) (hp : f.phy = 0) (ha : f.acq = some a) (mode : Nat) (ok : Bool) :
    modeSwitch e mode ok s =
      if ok && (ceFree e s).eff (Reg.CE_MODE.MODE e) / 16 % 2 = 1 && chainFor 0 mode = some (engChain (returnFrame e f s) e) then
        modCe e (fun c => { c with msMode := some mode }) (returnFrame e f s)
      else (returnFrame e f s).inc (Reg.CE_MS_REJECT.CNT e) := by
  have hn : (decide (f.phy ≠ 0) || f.acq.isNone) = false := by rw [hp, ha]; rfl
  simp only [modeSwitch, hc, hn, Bool.false_eq_true, if_false, returnFrame]
  rfl

theorem modeSwitch_announced {a : Acq} (hc : (ceOf s e).cur = some f) (hp : f.phy = 0) (ha : f.acq = some a) {mode : Nat}
    (he : (ceFree e s).eff (Reg.CE_MODE.MODE e) / 16 % 2 = 1) (hm : chainFor 0 mode = some (engChain (returnFrame e f s) e)) :
    modeSwitch e mode true s = modCe e (fun c => { c with msMode := some mode }) (returnFrame e f s) := by
  rw [modeSwitch_phr hc hp ha, he, hm]
  simp

/-- A PHR that fails its checks, or a configuration that allows no switch, rejects the announcement. -/
theorem modeSwitch_rejected {a : Acq} (hc : (ceOf s e).cur = some f) (hp : f.phy = 0) (ha : f.acq = some a) (mode : Nat) {ok : Bool}
    (h : ok = false ∨ (ceFree e s).eff (Reg.CE_MODE.MODE e) / 16 % 2 = 0) :
    modeSwitch e mode ok s = (returnFrame e f s).inc (Reg.CE_MS_REJECT.CNT e) := by
  rw [modeSwitch_phr hc hp ha, if_neg]
  rcases h with h | h <;> simp [h]

/-- An announced mode lapses where no frame has begun. -/
def modeLapse (e : Nat) (s : State) : State :=
  if (ceOf s e).cur.isSome then s else modCe e (fun c => { c with msMode := none }) s

theorem modeLapse_idle (hc : (ceOf s e).cur = none) : modeLapse e s = modCe e (fun c => { c with msMode := none }) s := by
  rw [modeLapse, hc]
  rfl

theorem modeLapse_receiving (hc : (ceOf s e).cur = some f) : modeLapse e s = s := by
  rw [modeLapse, hc]
  rfl

end

section
variable {e slice ofs : Nat} {s : State}

theorem heldOverflow_full {f : RxFrame} {a : Acq} (hh : (ceOf (s.at ofs) e).held.find? (fun h => h.slice == slice) = some f)
    (ha : f.acq = some a) (hcap : holdCap (s.at ofs) e slice f.phy ≤ samplesIn (engChain (s.at ofs) e) ((s.at ofs).clk - a.startClk))
    (hr : (s.at ofs).clk < frameEnd f) :
    heldOverflow e slice ofs s = lpe 0x033 ((sicFail e f.fseq 0x08 4 (s.at ofs)).inc (Reg.CE_SIC_NOBUF.CNT e)) := by
  simp only [heldOverflow, hh, ha, hcap, hr, decide_true, Bool.and_self, if_true]

theorem heldOverflow_none (hh : (ceOf (s.at ofs) e).held.find? (fun h => h.slice == slice) = none) :
    heldOverflow e slice ofs s = s.at ofs := by
  simp only [heldOverflow, hh]

end

/-! ## The end of a frame that an engine decodes itself (R83, R85, R103, R104, R199) -/

section
variable {g : RxFrame} {x : Confirm}

theorem phrBad_ofdm (hp : g.phy = 1) (h : x.hcsOk = false ∨ 6 < x.mcs) : phrBad g x = true := by
  rcases h with h | h <;> simp [phrBad, hp, h]

theorem phrBad_oqpsk (hp : g.phy = 2) (h : 127 < x.octets.length) : phrBad g x = true := by
  simp [phrBad, hp, h]

/-- A frame without a four-octet FCS holds it in its last two octets. -/
theorem fcsOk_crc16 (hn : 2 ≤ x.octets.length) (h4 : x.fcs4 = false) : fcsOk g x = true ↔
    ofOctets (x.octets.drop (x.octets.length - 2)) = crc16 (x.octets.take (x.octets.length - 2)) := by
  have h2 : fcsOctets g x = 2 := by rw [fcsOctets, h4]; rfl
  simp [fcsOk, fcsOf, h2, hn]

variable {s : State} (e : Nat)

theorem engineEnd_late (hl : decodeLate s g = true) : engineEnd e g x s = lateFrame e g s := by
  rw [engineEnd, if_pos hl]

variable (hl : decodeLate s g = false)
include hl

theorem engineEnd_phrBad (hb : phrBad g x = true) : engineEnd e g x s = decodeFail e g 0x01 s := by
  simp only [engineEnd, hl, hb, if_true, Bool.false_eq_true, if_false]

theorem engineEnd_fcsBad (hb : phrBad g x = false) (hk : fcsOk g x = false) : engineEnd e g x s = decodeFail e g 0x02 s := by
  simp only [engineEnd, hl, hb, hk, Bool.not_false, if_true, Bool.false_eq_true, if_false]

theorem engineEnd_confirmed (hb : phrBad g x = false) (hk : fcsOk g x = true) :
    let z := s.incIf (faInelig s e x.psdu x.octets.length) Reg.MAC_FA_INELIG.CNT
    engineEnd e g x s = confirmFrame e g x.psdu x.octets.length (fcsOf g x) (x.octets.flatMap (bitsLsb 8))
      (faElig z e x.psdu x.octets.length && !g.held) z := by
  simp only [engineEnd, hl, hb, hk, Bool.not_true, Bool.false_eq_true, if_false]

end

section
variable {e ofs : Nat} {s : State}

theorem frameConfirmation_ended {f : RxFrame} {a : Acq} (hc : (ceOf (s.at ofs) e).cur = some f) (hp : f.phy ≠ 3) (ha : f.acq = some a)
    (hl : f.lastClk.getD 0 ≤ (s.at ofs).clk) (x : Confirm) : frameConfirmation e ofs x s = confirmEngine e f x (s.at ofs) := by
  have hn : ¬ (s.at ofs).clk < f.lastClk.getD 0 := Nat.not_lt.2 hl
  simp only [frameConfirmation, hc, hp, ha, hn, decide_false, Option.isNone_some, Bool.or_self, Bool.false_eq_true, if_false]

theorem frameConfirmation_idle (hc : (ceOf (s.at ofs) e).cur = none) (x : Confirm) : frameConfirmation e ofs x s = s.at ofs := by
  simp only [frameConfirmation, hc]

end

/-! ## Replay of a held frame (R102, R103, R135) -/

section
variable {e slice ofs : Nat} {s : State}

theorem replayStart_residual {f : RxFrame} {r : Regen}
    (hh : (ceOf (s.at ofs) e).held.find?
      (fun h => h.slice == slice && h.captorOk && !h.replay && decide (frameEnd h ≤ (s.at ofs).clk)) = some f)
    (hr : f.regen = some r) (npre : Nat) (stored : List Cpx) :
    replayStart e slice ofs npre stored s = modFrame e f.fseq
      (fun g => { g with replay := true, hdrStaged := none, residual := sicResidual (s.at ofs) e npre f r stored }) (s.at ofs) := by
  simp only [replayStart, hh, hr]

theorem replayStart_idle (hh : (ceOf (s.at ofs) e).held = []) (npre : Nat) (stored : List Cpx) :
    replayStart e slice ofs npre stored s = s.at ofs := by
  simp only [replayStart, hh, List.find?_nil]

variable {f : RxFrame} (hh : (ceOf (s.at ofs) e).held.find? (fun h => h.slice == slice && h.replay) = some f)
include hh

theorem replayEnd_engine (hp : f.phy ≠ 3) (x : Confirm) :
    replayEnd e slice ofs x s = confirmEngine e f { x with octets := Config.oqpskOctets f.residual } (s.at ofs) := by
  simp only [replayEnd, hh, if_pos hp]

/-- The replay of an LD frame can only fail here: its codewords are the decoder array's. -/
theorem replayEnd_ldFailed (hp : f.phy = 3) {x : Confirm} (hx : x.hcsOk = false) (hl : decodeLate (s.at ofs) f = false) :
    replayEnd e slice ofs x s = decodeFail e f 0x02 (s.at ofs) := by
  simp only [replayEnd, hh, hp, hx, hl, ne_eq, not_true_eq_false, Bool.false_eq_true, if_false]

theorem replayEnd_ldDecoding (hp : f.phy = 3) {x : Confirm} (hx : x.hcsOk = true) : replayEnd e slice ofs x s = s.at ofs := by
  simp only [replayEnd, hh, hp, hx, ne_eq, not_true_eq_false, if_false, if_true]

end

/-! ## The limit of a staged header, and tick reports (R110, R134) -/

section
variable {e ofs c : Nat} {f : RxFrame} {s : State}
  (hc : (ceOf (s.at ofs) e).cur = some f) (hst : f.hdrStaged = some c) (hh : f.hdr = none)
include hc hst hh

theorem headerTimeout_over (h : c + samplesClk (engChain (s.at ofs) e) 64 ≤ (s.at ofs).clk) :
    headerTimeout e ofs s = frameFail e f 0x03 ((s.at ofs).inc Reg.DEC_HDR_LATE.CNT) := by
  simp only [headerTimeout, hc, hst, hh, if_pos h]

theorem headerTimeout_within (h : (s.at ofs).clk < c + samplesClk (engChain (s.at ofs) e) 64) : headerTimeout e ofs s = s.at ofs := by
  simp only [headerTimeout, hc, hst, hh, if_neg (Nat.not_le.2 h)]

end

section
variable {e : Nat} {s : State}

/-- A report reaches CE_TREP, BUSY and DETS saturating there, and the firmware as it is. -/
theorem tickReport_delivered {busy dets : Nat} {arr : List Int} (h : (ceOf s e).report = some (busy, dets, arr)) (noise : Nat × Nat) :
    let floor := if noise.2 = 0 then 0x1FF else powerField noise.1 noise.2
    tickReport e noise s = (modCe e (fun c => { c with report := none })
        (((s.put (Reg.CE_TREP.BUSY e) (min 255 (clocksNs busy / 500))).put (Reg.CE_TREP.NOISE e) floor).put (Reg.CE_TREP.DETS e)
          (min 255 dets))).emit (.toFirmware "tick report" ([e, busy, floor, dets] ++ arr.map (ofSigned 32))) := by
  simp only [tickReport, h]

theorem tickReport_none (h : (ceOf s e).report = none) (noise : Nat × Nat) : tickReport e noise s = s := by
  simp only [tickReport, h]

end

/-! ## The commands on a live block -/

section
variable {s : State} (hs : s.live) (e : Fin 128)
include hs

theorem exec_frameDetection (ofs : Fin 122880) (d : Detect) (acq : Option Acq) :
    exec (.frameDetection e ofs d acq) s = .next (settle s (dupSettle (frameDetection e ofs d acq s.cleared))) := runRx_live hs _

theorem exec_sfdSearchTimeout : exec (.sfdSearchTimeout e) s = .next (settle s (dupSettle (sfdTimeout e s.cleared))) := runRx_live hs _

theorem exec_heldFrameOverflow (k : Fin 2) (ofs : Fin 122880) :
    exec (.heldFrameOverflow e k ofs) s = .next (settle s (dupSettle (heldOverflow e k ofs s.cleared))) := runRx_live hs _

theorem exec_modeSwitchPhr (mode : Fin 16) (ok : Bool) :
    exec (.modeSwitchPhr e mode ok) s = .next (settle s (dupSettle (modeSwitch e mode ok s.cleared))) := runRx_live hs _

theorem exec_modeSwitchTimeout : exec (.modeSwitchTimeout e) s = .next (settle s (dupSettle (modeLapse e s.cleared))) :=
  runRx_live hs (modeLapse e)

theorem exec_frameConfirmation (ofs : Fin 122880) (x : Confirm) :
    exec (.frameConfirmation e ofs x) s = .next (settle s (dupSettle (frameConfirmation e ofs x s.cleared))) := runRx_live hs _

theorem exec_sicReplayStart (k : Fin 2) (ofs : Fin 122880) (npre : Fin 65) (stored : List (Int × Int)) :
    exec (.sicReplayStart e k ofs npre stored) s = .next (settle s (dupSettle (replayStart e k ofs npre stored s.cleared))) :=
  runRx_live hs _

theorem exec_sicReplayEnd (k : Fin 2) (ofs : Fin 122880) (x : Confirm) :
    exec (.sicReplayEnd e k ofs x) s = .next (settle s (dupSettle (replayEnd e k ofs x s.cleared))) := runRx_live hs _

theorem exec_headerConfirmTimeout (ofs : Fin 122880) :
    exec (.headerConfirmTimeout e ofs) s = .next (settle s (dupSettle (headerTimeout e ofs s.cleared))) := runRx_live hs _

theorem exec_tickReport (noise : Nat × Nat) :
    exec (.tickReport e noise) s = .next (settle s (tickReport e noise s.cleared)) := run_live hs _

end

/-! ## The obligations -/

/-- Settles O23: FRAME_DETECTION by what the engine is doing, and the three ends of an acquisition that found a sync word. -/
theorem detections : Obligations.Detections := by
  intro e ofs d acq a f w s hs
  refine ⟨fun h => ?_, fun hl hd hc => ?_, fun hl hd hc hw => ?_, fun hl hd hc hw => ?_, fun hf ho hd => ?_, fun hf ho hd => ?_,
    fun hf ho => beginFrame_syncFail hf ho _ _⟩
  · rw [exec_frameDetection hs, frameDetection_none (s := s.cleared) h, asOf_eq]
  · rw [exec_frameDetection hs, frameDetection_capture (s := s.cleared) hl hd hc, countDetection, asOf_eq]
  · rw [exec_frameDetection hs, frameDetection_search (s := s.cleared) hl hd hc, ← asOf_eq, hw, Option.elim_none]
  · rw [exec_frameDetection hs, frameDetection_search (s := s.cleared) hl hd hc, ← asOf_eq, hw, Option.elim_some, countDetection]
  · rw [beginFrame_sync hf ho, hd, incIf_false, newFrame_undropped, id_eq]
  · rw [beginFrame_sync hf ho, hd, incIf_true, id_eq]

/-- Settles O24: each event in the states of the engine in which it acts, and in those in which there is nothing to end. -/
theorem receptionEvents : Obligations.ReceptionEvents := by
  intro e k mode ok ofs f a s hs
  refine ⟨fun hc ha hn => ?_, fun hc ha hn => ?_, fun hc => ?_, fun hh ha hcap hr => ?_, fun hh => ?_, fun hc hp ha he hm => ?_,
    fun hc hp ha h => ?_, fun hc => ?_, fun hc => ?_⟩
  · rw [exec_sfdSearchTimeout hs, sfdTimeout_unsynchronised hc ha, hn, when_false]
  · rw [exec_sfdSearchTimeout hs, sfdTimeout_unsynchronised hc ha, hn, when_true]
  · rw [exec_sfdSearchTimeout hs, sfdTimeout_idle hc]
  · rw [exec_heldFrameOverflow hs, heldOverflow_full (s := s.cleared) hh ha hcap hr, asOf_eq]
  · rw [exec_heldFrameOverflow hs, heldOverflow_none (s := s.cleared) hh, asOf_eq]
  · rw [exec_modeSwitchPhr hs, modeSwitch_announced hc hp ha he hm, returnFrame]
  · rw [exec_modeSwitchPhr hs, modeSwitch_rejected hc hp ha mode h, returnFrame]
  · rw [exec_modeSwitchTimeout hs, modeLapse_idle hc]
  · rw [exec_modeSwitchTimeout hs, modeLapse_receiving hc]

/-- Settles O25: a frame's end in the engine by case, the replay of a held frame, the limit of a staged header and the tick report. -/
theorem frameEnds : Obligations.FrameEnds := by
  intro e k ofs x f g a noise npre stored rg busy dets arr c s hs
  refine ⟨fun hc hp ha hl => ?_, fun hc => ?_, rfl, engineEnd_late e, fun hl hp h => engineEnd_phrBad e hl (phrBad_ofdm hp h),
    fun hl hp h => engineEnd_phrBad e hl (phrBad_oqpsk hp h), engineEnd_fcsBad e, engineEnd_confirmed e, fcsOk_crc16,
    fun hh hr => ?_, fun hh => ?_, fun hh hp => ?_, fun hh hp hx hl => ?_, fun hh hp hx => ?_, fun hc hst hh h => ?_,
    fun hc hst hh h => ?_, fun h => ?_, fun h => ?_⟩
  · rw [exec_frameConfirmation hs, frameConfirmation_ended (s := s.cleared) hc hp ha hl, asOf_eq]
  · rw [exec_frameConfirmation hs, frameConfirmation_idle (s := s.cleared) hc, asOf_eq]
  · rw [exec_sicReplayStart hs, replayStart_residual (s := s.cleared) hh hr, asOf_eq]
  · rw [exec_sicReplayStart hs, replayStart_idle (s := s.cleared) hh, asOf_eq]
  · rw [exec_sicReplayEnd hs, replayEnd_engine (s := s.cleared) hh hp, asOf_eq]
  · rw [exec_sicReplayEnd hs, replayEnd_ldFailed (s := s.cleared) hh hp hx hl, asOf_eq]
  · rw [exec_sicReplayEnd hs, replayEnd_ldDecoding (s := s.cleared) hh hp hx, asOf_eq]
  · rw [exec_headerConfirmTimeout hs, headerTimeout_over (s := s.cleared) hc hst hh h, asOf_eq]
  · rw [exec_headerConfirmTimeout hs, headerTimeout_within (s := s.cleared) hc hst hh h, asOf_eq]
  · rw [exec_tickReport hs, tickReport_delivered h]
  · rw [exec_tickReport hs, tickReport_none h]

end Sys2Proof.Machine

/-! # LD frames and the decoder array (chapter 4)

The early header and the staging of codewords, the dispatch and the end of a decode, the withdrawal of a fast-ACK, and the obligation that
they settle. -/

namespace Sys2Proof.Machine

/-! ## The early header (R141, R142, R213) -/

/-- The hard decisions of the header bits x0 to x35 (R141). -/
def earlyBits (s : State) (e : Nat) (f : RxFrame) (c : Chips) : List Bool := (softBits s e 4 0 36 f c).map (fun v => decide (v < 0))

/-- The key prefetcher brings the node key of a joined node into the key cache, where its record can be read and holds one (R213). -/
def prefetchKey (h : NtH) (s : State) : State :=
  if h.joined && secretsOpen s && (nodeKeyOf s h.endpoint (s.kv.secrets.get h.endpoint).tenant).isSome then
    cacheKey h.endpoint (lpe 0x03C s)
  else s

/-- A frame's early header names a NODE: it is noted in the frame, its key is prefetched and its speculative lookup begins (R141). -/
def speculate (e node : Nat) (f : RxFrame) (s : State) : State :=
  let w := lpe 0x038 (modFrame e f.fseq (fun f => { f with early := some node, specUsed := true }) s)
  specStart e node f.fseq true (prefetchKey (nthOf w node) (windowKeys w))

/-- The fields that a header of an uplink frame with a payload has (R118, R141). -/
theorem uplinkFields_eq (x : List Bool) : (hVer x == 0 && !hDir x && decide (1 ≤ hLen x)) =
    decide (hVer x = 0 ∧ hDir x = false ∧ 1 ≤ hLen x) := by
  rw [Bool.decide_and, Bool.decide_and, Bool.and_assoc]
  cases hDir x <;> rfl

section
variable {e : Nat} {c : Chips} {s : State}

theorem earlyHeader_idle (hc : (ceOf s e).cur = none) : earlyHeader e c s = s := by
  simp only [earlyHeader, hc]

variable {f : RxFrame} (hc : (ceOf s e).cur = some f)
include hc

theorem earlyHeader_receiving : earlyHeader e c s =
    if f.phy ≠ 3 || f.acq.isNone || f.hdr.isSome || f.early.isSome || f.hdrStaged.isSome then s
    else if !(s.effOn Reg.DEC_CTRL.SPEC_EARLY && hVer (earlyBits s e f c) == 0 && !hDir (earlyBits s e f c) &&
      decide (1 ≤ hLen (earlyBits s e f c))) then s
    else speculate e (hNode (earlyBits s e f c)) f s := by
  simp only [earlyHeader, hc]
  rfl

/-- A synchronised LD frame forms one early header before its header codeword is staged, and acts on the one that an uplink frame with a
payload could have. -/
theorem earlyHeader_live {a : Acq} (hp : f.phy = 3) (ha : f.acq = some a) (hh : f.hdr = none) (he : f.early = none)
    (hst : f.hdrStaged = none) (hon : s.effOn Reg.DEC_CTRL.SPEC_EARLY = true) : earlyHeader e c s =
    if hVer (earlyBits s e f c) = 0 ∧ hDir (earlyBits s e f c) = false ∧ 1 ≤ hLen (earlyBits s e f c) then
      speculate e (hNode (earlyBits s e f c)) f s
    else s := by
  have hn : (decide (f.phy ≠ 3) || f.acq.isNone || f.hdr.isSome || f.early.isSome || f.hdrStaged.isSome) = false := by
    rw [hp, ha, hh, he, hst]
    rfl
  simp only [earlyHeader_receiving hc, hn, hon, Bool.true_and, uplinkFields_eq, Bool.not_eq_true', decide_eq_false_iff_not, ite_not,
    Bool.false_eq_true, if_false]

end

/-! ## Staging (R95, R133 to R135) -/

section
variable {e ofs age : Nat} {c : Chips} {m : Meas} {s : State}

theorem codewordStaging_idle (held : Bool) (hc : (ceOf (s.at ofs) e).cur = none) (hh : (ceOf (s.at ofs) e).held = []) :
    codewordStaging e ofs age held c m s = s.at ofs := by
  cases held with
  | false => simp only [codewordStaging, Bool.false_eq_true, if_false, hc]
  | true => simp only [codewordStaging, if_true, hh, List.find?_nil]

variable {f : RxFrame} {a : Acq} (hc : (ceOf (s.at ofs) e).cur = some f) (hp : f.phy = 3) (ha : f.acq = some a)
include hc hp ha

/-- A live LD frame whose header is not confirmed stages its header codeword, once; then its payload codewords follow. -/
theorem codewordStaging_live : codewordStaging e ofs age false c m s =
    f.hdr.elim (if f.hdrStaged.isSome then s.at ofs else stageHeader e f c (s.at ofs))
      (fun h => stagePayload e age f h c m (s.at ofs)) := by
  have hn : (decide (f.phy ≠ 3) || f.acq.isNone) = false := by rw [hp, ha]; rfl
  simp only [codewordStaging, Bool.false_eq_true, if_false, hc, hn]
  cases f.hdr <;> rfl

theorem codewordStaging_header (hh : f.hdr = none) (hst : f.hdrStaged = none) :
    codewordStaging e ofs age false c m s = stageHeader e f c (s.at ofs) := by
  rw [codewordStaging_live hc hp ha, hh, hst]
  rfl

theorem codewordStaging_payload {h : LdHdr} (hh : f.hdr = some h) :
    codewordStaging e ofs age false c m s = stagePayload e age f h c m (s.at ofs) := by
  rw [codewordStaging_live hc hp ha, hh]
  rfl

end

/-! ## Dispatch (R137, R138) -/

/-- What decoder `d` takes a codeword from: a reserved decoder takes classes 1 and 2 only (R138). -/
def takeable (s : State) (d : Nat) : List CwS :=
  s.rx.staged.filter (fun c => !decide (d < min 12 (s.eff Reg.DEC_CTRL.FA_RSV)) || decide (cwClass c ≤ 2))

/-- The iteration limit with which a codeword begins (R137, R145). -/
def iterLimit (s : State) (c : CwS) : Nat := if c.hdr then maxHdr s else if c.faElig then max (maxFa s) (maxPay s) else maxPay s

section
variable {d ofs : Nat} {s : State}

theorem dispatch_busy {j : DecJob} (hj : (s.at ofs).rx.jobs.find? d = some j) : dispatch d ofs s = s.at ofs := by
  simp only [dispatch, hj, Option.isSome_some, Bool.true_or, if_true]

theorem dispatch_free {c : CwS} (hj : (s.at ofs).rx.jobs.find? d = none) (hp : pdOn (s.at ofs) (decPd d) = true)
    (hf : cwFirst (takeable (s.at ofs) d) = some c) :
    dispatch d ofs s = decSync (modRx (fun r => { r with
      staged := r.staged.erase c
      jobs := r.jobs.insert d ⟨c, (s.at ofs).clk, iterLimit (s.at ofs) c, maxFa (s.at ofs), false⟩ }) (s.at ofs)) := by
  rw [takeable] at hf
  simp only [dispatch, hj, hp, hf, Option.isSome_none, Bool.not_true, Bool.or_self, Bool.false_eq_true, if_false, iterLimit]

end

/-! ## The end of a decode, and the withdrawal of a fast-ACK (R137, R139, R145) -/

/-- Decoder `d` is free after a decode of `n` iterations. -/
def freeDecoder (d n : Nat) (s : State) : State :=
  decSync (modRx (fun r => { r with jobs := r.jobs.erase d }) (s.incBy Reg.DEC_ITER_TOT.CNT n))

section
variable {d ofs : Nat} {psdu : Psdu} {s : State}

theorem decodeComplete_idle (hj : (s.at ofs).rx.jobs.find? d = none) : decodeComplete d ofs psdu s = s.at ofs := by
  simp only [decodeComplete, hj]

theorem fastAckWithdraw_idle (hj : (s.at ofs).rx.jobs.find? d = none) : fastAckWithdraw d ofs s = s.at ofs := by
  simp only [fastAckWithdraw, hj]

variable {j : DecJob} {n : Nat} {ok : Bool} {x : List Bool} (hj : (s.at ofs).rx.jobs.find? d = some j) (hd : decodeCw j = (n, ok, x))
include hj hd

theorem decodeComplete_running (h : (s.at ofs).clk < j.start + cwClocks (jobCode j) n) : decodeComplete d ofs psdu s = s.at ofs := by
  simp only [decodeComplete, hj, hd, if_pos h]

/-- A fast-ACK is withdrawn where MAX_FA iterations have gone by and the decode converges later or not at all. -/
theorem fastAckWithdraw_missed (hh : j.cw.hdr = false) (hf : j.cw.faElig = true) (hw : j.withdrawn = false)
    (ht : j.start + cwClocks (jobCode j) j.faLimit ≤ (s.at ofs).clk) (h : ok = false ∨ j.faLimit < n) :
    fastAckWithdraw d ofs s = faWithdraw d j (s.at ofs) := by
  have hm : (ok && decide (n ≤ j.faLimit)) = false := by
    rcases h with h | h
    · rw [h, Bool.false_and]
    · rw [decide_eq_false (Nat.not_le.2 h), Bool.and_false]
  simp only [fastAckWithdraw, hj, hh, hf, hw, hd, hm, Nat.not_lt.2 ht, decide_false, Bool.not_true, Bool.or_self, Bool.false_eq_true,
    if_false]

variable (ht : j.start + cwClocks (jobCode j) n ≤ (s.at ofs).clk) (he : j.cw.faElig = false) {f : RxFrame}
  (hf : findRx (freeDecoder d n (s.at ofs)) j.cw.engine j.cw.fseq = some f)
include ht he hf

/-- A codeword of a frame that gets no fast-ACK ends on a free decoder, unless the frame's deadline is past: that of a live header is R134's. -/
theorem decodeComplete_ended : decodeComplete d ofs psdu s =
    if (!j.cw.hdr || f.held) && decodeLate (freeDecoder d n (s.at ofs)) f then lateFrame j.cw.engine f (freeDecoder d n (s.at ofs))
    else if j.cw.hdr then headerDone j.cw.engine n ok f x (freeDecoder d n (s.at ofs))
    else payloadDone j.cw.engine n ok j.cw f x psdu (freeDecoder d n (s.at ofs)) := by
  rw [freeDecoder] at hf ⊢
  simp only [decodeComplete, hj, hd, if_neg (Nat.not_lt.2 ht), he, hf, Bool.and_false, Bool.false_and, Bool.or_self, Bool.false_eq_true,
    if_false]

theorem decodeComplete_header (hh : j.cw.hdr = true) (hl : f.held = false) :
    decodeComplete d ofs psdu s = headerDone j.cw.engine n ok f x (freeDecoder d n (s.at ofs)) := by
  rw [decodeComplete_ended hj hd ht he hf, hh, hl]
  rfl

theorem decodeComplete_payload (hh : j.cw.hdr = false) (hl : decodeLate (freeDecoder d n (s.at ofs)) f = false) :
    decodeComplete d ofs psdu s = payloadDone j.cw.engine n ok j.cw f x psdu (freeDecoder d n (s.at ofs)) := by
  rw [decodeComplete_ended hj hd ht he hf, hh, hl]
  rfl

end

/-! ## The commands on a live block -/

section
variable {s : State} (hs : s.live) (ofs : Fin 122880)
include hs

theorem exec_earlyHeader (e : Fin 128) (c : Chips) :
    exec (.earlyHeader e c) s = .next (settle s (dupSettle (earlyHeader e c s.cleared))) := runRx_live hs _

theorem exec_codewordStaging (e : Fin 128) (age : Fin 1967) (held : Bool) (c : Chips) (m : Meas) :
    exec (.codewordStaging e ofs age held c m) s = .next (settle s (dupSettle (codewordStaging e ofs age held c m s.cleared))) :=
  runRx_live hs _

variable (d : Fin 24)

theorem exec_decoderDispatch : exec (.decoderDispatch d ofs) s = .next (settle s (dupSettle (dispatch d ofs s.cleared))) :=
  runRx_live hs _

theorem exec_decodeComplete (psdu : Psdu) :
    exec (.decodeComplete d ofs psdu) s = .next (settle s (dupSettle (decodeComplete d ofs psdu s.cleared))) := runRx_live hs _

theorem exec_fastAckWithdraw : exec (.fastAckWithdraw d ofs) s = .next (settle s (dupSettle (fastAckWithdraw d ofs s.cleared))) :=
  runRx_live hs _

end

/-! ## The obligation -/

/-- Settles O26: each of the five commands in the states in which it acts, and in those in which it finds nothing to do or is too early. -/
theorem decoderArray : Obligations.DecoderArray := by
  intro e d ofs age held ok x chips m psdu f a h j c n s hs
  refine ⟨fun hc hp ha hh he hst hon => ?_, fun hc => ?_, fun hc hp ha hh hst => ?_, fun hc hp ha hh => ?_, fun hc hh => ?_,
    fun hj hp hf => ?_, fun hj => ?_, fun hj hd ht => ?_, fun hj hd ht hh he hf hl => ?_, fun hj hd ht hh he hf hl => ?_,
    fun hj => ⟨?_, ?_⟩, fun hj hh he hw ht hd hm => ?_⟩
  · rw [exec_earlyHeader hs, earlyHeader_live hc hp ha hh he hst hon]
    rfl
  · rw [exec_earlyHeader hs, earlyHeader_idle hc]
  · rw [exec_codewordStaging hs, codewordStaging_header (s := s.cleared) hc hp ha hh hst, asOf_eq]
  · rw [exec_codewordStaging hs, codewordStaging_payload (s := s.cleared) hc hp ha hh, asOf_eq]
  · rw [exec_codewordStaging hs, codewordStaging_idle (s := s.cleared) held hc hh, asOf_eq]
  · rw [exec_decoderDispatch hs, dispatch_free (s := s.cleared) hj hp hf, iterLimit, asOf_eq]
  · rw [exec_decoderDispatch hs, dispatch_busy (s := s.cleared) hj, asOf_eq]
  · rw [exec_decodeComplete hs, decodeComplete_running (s := s.cleared) hj hd ht, asOf_eq]
  · rw [exec_decodeComplete hs, decodeComplete_header (s := s.cleared) hj hd ht he hf hh hl, freeDecoder, asOf_eq]
  · rw [exec_decodeComplete hs, decodeComplete_payload (s := s.cleared) hj hd ht he hf hh hl, freeDecoder, asOf_eq]
  · rw [exec_decodeComplete hs, decodeComplete_idle (s := s.cleared) hj, asOf_eq]
  · rw [exec_fastAckWithdraw hs, fastAckWithdraw_idle (s := s.cleared) hj, asOf_eq]
  · rw [exec_fastAckWithdraw hs, fastAckWithdraw_missed (s := s.cleared) hj hd hh he hw ht hm, asOf_eq]

end Sys2Proof.Machine

/-! # Budgets, the spectral mask and the front-end pins (chapter 5)

The sub-windows of the duty-cycle budgets, the writes that wait for a tick boundary, the mask monitor and the read-back of the FE_CTL pins,
and the obligations that they settle. -/

namespace Sys2Proof.Machine

/-! ## Sub-windows (R166) -/

section
variable {k : Nat} {s : State}

theorem sbRoll_due (he : s.on (sbEnFld k) = true) (ht : s.tick % sbSw (sbOf s k) = 0) (hr : (sbOf s k).rolled ≠ s.core.ticks + 1) :
    sbRoll k s =
      sbSync k (modSb k (fun x => { x with sw := listSet x.sw 0 (sbTurn s x % 60) 0, rolled := s.core.ticks + 1 }) s) := by
  simp [sbRoll, he, ht, hr]

/-- A disabled entry, a tick inside a sub-window and an entry that has rolled over in this tick leave everything. -/
theorem sbRoll_idle (h : s.on (sbEnFld k) = false ∨ s.tick % sbSw (sbOf s k) ≠ 0 ∨ (sbOf s k).rolled = s.core.ticks + 1) :
    sbRoll k s = s := by
  rcases h with h | h | h <;> simp [sbRoll, h]

end

/-! ## The mask monitor (R172, R173) -/

/-- A violation as the port's status shows it: VIOL counts it up to its 16 bits, and FIRST_BIN names the bin. -/
def countViolation (p : Nat) (b : Int) (s : State) : State :=
  (s.put (Reg.TXC_MASKp_STAT.VIOL p) (min (2 ^ 16 - 1) (s.get (Reg.TXC_MASKp_STAT.VIOL p) + 1))).putS (Reg.TXC_MASKp_STAT.FIRST_BIN p) b

theorem on_countViolation {f : Fld} (p : Nat) (b : Int) (s : State) (hv : (Reg.TXC_MASKp_STAT.VIOL p).key ≠ f.key)
    (hb : (Reg.TXC_MASKp_STAT.FIRST_BIN p).key ≠ f.key) : (countViolation p b s).on f = s.on f := by
  rw [State.on, countViolation, State.putS, State.get_put_ne _ _ hb, State.get_put_ne _ _ hv, State.on]

@[simp] theorem act_countViolation (p : Nat) (b : Int) (s : State) :
    (countViolation p b s).on (Reg.TXC_MASKp_CTRL.ACT p) = s.on (Reg.TXC_MASKp_CTRL.ACT p) := by
  apply on_countViolation <;>
    simp only [Fld.key, Reg.TXC_MASKp_STAT.VIOL, Reg.TXC_MASKp_STAT.FIRST_BIN, Reg.TXC_MASKp_CTRL.ACT] <;> omega

@[simp] theorem gated_countViolation (p : Nat) (b : Int) (s : State) :
    (countViolation p b s).on (Reg.TXC_MASKp_STAT.GATED p) = s.on (Reg.TXC_MASKp_STAT.GATED p) := by
  apply on_countViolation <;>
    simp only [Fld.key, Reg.TXC_MASKp_STAT.VIOL, Reg.TXC_MASKp_STAT.FIRST_BIN, Reg.TXC_MASKp_STAT.GATED] <;> omega

section
variable {p ofs : Nat} {s : State}

theorem maskCompare_disabled (he : (s.at ofs).on (Reg.TXC_MASKp_CTRL.EN p) = false) : maskCompare p ofs s = s.at ofs := by
  simp [maskCompare, he]

/-- With EN = 1 the first bin over its limit, if there is one, is counted; whether the port then gates is asked of the state before. -/
theorem maskCompare_enabled (he : (s.at ofs).on (Reg.TXC_MASKp_CTRL.EN p) = true) : maskCompare p ofs s =
    (maskFirst (s.at ofs) p).elim (s.at ofs) (fun b =>
      if (s.at ofs).on (Reg.TXC_MASKp_CTRL.ACT p) && !(s.at ofs).on (Reg.TXC_MASKp_STAT.GATED p)
      then gatePort p false (countViolation p b (s.at ofs)) else countViolation p b (s.at ofs)) := by
  cases hb : maskFirst (s.at ofs) p with
  | none => simp [maskCompare, he, hb]
  | some b =>
    rw [Option.elim_some, ← act_countViolation p b, ← gated_countViolation p b]
    simp only [maskCompare, he, hb, Bool.not_true, Bool.false_eq_true, if_false]
    rfl

theorem maskCompare_gates (he : (s.at ofs).on (Reg.TXC_MASKp_CTRL.EN p) = true) (ha : (s.at ofs).on (Reg.TXC_MASKp_CTRL.ACT p) = true)
    (hg : (s.at ofs).on (Reg.TXC_MASKp_STAT.GATED p) = false) :
    maskCompare p ofs s = (maskFirst (s.at ofs) p).elim (s.at ofs) (fun b => gatePort p false (countViolation p b (s.at ofs))) := by
  simp [maskCompare_enabled he, ha, hg]

theorem maskCompare_counts (he : (s.at ofs).on (Reg.TXC_MASKp_CTRL.EN p) = true)
    (h : (s.at ofs).on (Reg.TXC_MASKp_CTRL.ACT p) = false ∨ (s.at ofs).on (Reg.TXC_MASKp_STAT.GATED p) = true) :
    maskCompare p ofs s = (maskFirst (s.at ofs) p).elim (s.at ofs) (fun b => countViolation p b (s.at ofs)) := by
  rcases h with h | h <;> simp [maskCompare_enabled he, h]

end

section
variable {p : Nat} {s : State}

theorem holdOver_of_passed {g : Nat} (hg : s.on (Reg.TXC_MASKp_STAT.GATED p) = true) (hh : s.get (Reg.TXC_MASKp_CTRL.HOLD p) ≠ 0)
    (hc : s.txc.gateClk.find? p = some g) (ht : g + s.get (Reg.TXC_MASKp_CTRL.HOLD p) * 122880 ≤ s.clk) : holdOver s p = true := by
  simp [holdOver, hg, hh, Tab.getD, hc, Config.tickClocks, ht]

/-- A port that is not gated has no hold, and with HOLD = 0 only the write ungates. -/
theorem holdOver_of_idle (h : s.on (Reg.TXC_MASKp_STAT.GATED p) = false ∨ s.get (Reg.TXC_MASKp_CTRL.HOLD p) = 0) :
    holdOver s p = false := by
  rcases h with h | h <;> simp [holdOver, h]

end

/-! ## The read-back of the pins (R176) -/

/-- A mismatch on pin `n` as RB_ERR and the counter show it. -/
def countReadback (n : Nat) (s : State) : State :=
  (s.put Reg.TXC_FE_STAT.RB_ERR (s.get Reg.TXC_FE_STAT.RB_ERR ||| 2 ^ n)).inc Reg.TXC_FE_RB.CNT

section
variable {n ofs : Nat} {level : Bool} {s : State}

theorem feReadback_agrees (h : (feSync (s.at ofs)).on (Reg.TXC_FEn_CFG.RB_EN n) = false ∨
    bitAt ((feSync (s.at ofs)).get Reg.TXC_FE_STAT.LEVEL) n = level) : feReadback n ofs level s = feSync (s.at ofs) := by
  rcases h with h | h <;> simp [feReadback, h]

section
variable (he : (feSync (s.at ofs)).on (Reg.TXC_FEn_CFG.RB_EN n) = true)
  (hl : bitAt ((feSync (s.at ofs)).get Reg.TXC_FE_STAT.LEVEL) n ≠ level)
include he hl

theorem feReadback_mismatch : feReadback n ofs level s =
    let r := countReadback n (feSync (s.at ofs))
    let port := r.get (Reg.TXC_FEn_CFG.PORT n)
    if r.on (Reg.TXC_FEn_CFG.RB_GATE n) && (r.get (Reg.TXC_FEn_CFG.SRC n) == 1 || r.get (Reg.TXC_FEn_CFG.SRC n) == 2) &&
      !r.on (Reg.TXC_MASKp_STAT.GATED port) then gatePort port true r else r := by
  have hc : (!(feSync (s.at ofs)).on (Reg.TXC_FEn_CFG.RB_EN n) || bitAt ((feSync (s.at ofs)).get Reg.TXC_FE_STAT.LEVEL) n == level)
      = false := by simp [he, hl]
  simp only [feReadback, hc, Bool.false_eq_true, if_false]
  rfl

variable {r : State} (hr : countReadback n (feSync (s.at ofs)) = r)
include hr

theorem feReadback_gates (hg : r.on (Reg.TXC_FEn_CFG.RB_GATE n) = true)
    (hs : r.get (Reg.TXC_FEn_CFG.SRC n) = 1 ∨ r.get (Reg.TXC_FEn_CFG.SRC n) = 2)
    (hp : r.on (Reg.TXC_MASKp_STAT.GATED (r.get (Reg.TXC_FEn_CFG.PORT n))) = false) :
    feReadback n ofs level s = gatePort (r.get (Reg.TXC_FEn_CFG.PORT n)) true r := by
  rw [feReadback_mismatch he hl, hr]
  simp [hg, hs, hp]

/-- With RB_GATE = 0, or where the pin's port is gated already, a mismatch is counted only. -/
theorem feReadback_counts (h : r.on (Reg.TXC_FEn_CFG.RB_GATE n) = false ∨
    r.on (Reg.TXC_MASKp_STAT.GATED (r.get (Reg.TXC_FEn_CFG.PORT n))) = true) : feReadback n ofs level s = r := by
  rw [feReadback_mismatch he hl, hr]
  rcases h with h | h <;> simp [h]

/-- A pin with SRC = 0 or 3 serves no port and gates nothing. -/
theorem feReadback_portless (h1 : r.get (Reg.TXC_FEn_CFG.SRC n) ≠ 1) (h2 : r.get (Reg.TXC_FEn_CFG.SRC n) ≠ 2) :
    feReadback n ofs level s = r := by
  rw [feReadback_mismatch he hl, hr]
  simp [h1, h2]

end

end

/-! ## The commands on a live block -/

section
variable {s : State} (hs : s.live)
include hs

theorem exec_dcSubwindowRollover (b : Fin 4) (e : Fin 16) :
    exec (.dcSubwindowRollover b e) s = .next (settle s (sbRoll (16 * b.val + e.val) s.cleared)) := run_live hs _

theorem exec_dcPresetLoad (b : Fin 4) : exec (.dcPresetLoad b) s = .next (settle s
    (regAccess (Reg.TXC_BANDb_DC.PRESET b).addr (fun t => t.put (Reg.TXC_BANDb_DC.PRESET b) 1) s.cleared)) := run_live hs _

theorem exec_firCommit (banks : Fin 65536) : exec (.firCommit banks) s = .next (settle s
    (regAccess Reg.TXC_FIR_COMMIT.BANKS.addr
      (fun t => t.put Reg.TXC_FIR_COMMIT.BANKS (t.get Reg.TXC_FIR_COMMIT.BANKS ||| banks.val / 4)) s.cleared)) := run_live hs _

theorem exec_maskViolation (p : Fin 4) (ofs : Fin 122880) :
    exec (.maskViolation p ofs) s = .next (settle s (maskCompare p ofs s.cleared)) := run_live hs _

theorem exec_maskUngate (p : Fin 4) : exec (.maskUngate p) s = .next (settle s
    (regAccess (Reg.TXC_MASKp_CTRL.UNGATE p).addr (fun t => t.put (Reg.TXC_MASKp_CTRL.UNGATE p) 1) s.cleared)) := run_live hs _

theorem exec_maskHoldExpiry (p : Fin 4) : exec (.maskHoldExpiry p) s = .next (settle s
    (if holdOver s.cleared p then modTxc (fun t => { t with holdDone := setAdd t.holdDone p }) s.cleared else s.cleared)) :=
  run_live hs (fun u => if holdOver u p then modTxc (fun t => { t with holdDone := setAdd t.holdDone p }) u else u)

theorem exec_feReadbackCheck (n : Fin 16) (ofs : Fin 122880) (level : Bool) :
    exec (.feReadbackCheck n ofs level) s = .next (settle s (feReadback n ofs level s.cleared)) := run_live hs _

end

/-! ## The obligations -/

/-- Settles O30: a rollover that is due and one that is not, and the two writes with the composer's window on and off. -/
theorem budgets : Obligations.Budgets := by
  intro b e banks s hs
  refine ⟨fun he ht hr => ?_, fun h => ?_, fun h => ?_, fun h => ?_, fun h => ?_, fun h => ?_⟩
  · rw [exec_dcSubwindowRollover hs, sbRoll_due he ht hr]
  · rw [exec_dcSubwindowRollover hs, sbRoll_idle h]
  · rw [exec_dcPresetLoad hs, regAccess_on h]
  · rw [exec_firCommit hs, regAccess_on h]
  · rw [exec_dcPresetLoad hs, regAccess_off h]
  · rw [exec_firCommit hs, regAccess_off h]

/-- Settles O31: a comparison by EN, ACT and GATED, the two ways to ungate, and a read-back by what the pin is set up to gate. -/
theorem maskAndFrontEnd : Obligations.MaskAndFrontEnd := by
  intro p n ofs level g s hs
  refine ⟨fun he ha => ?_, fun he ha hg => ?_, fun he _ hg => ?_, fun he => ?_, fun h => ?_, fun hg hh hc ht => ?_, fun h => ?_, rfl,
    fun h => ?_, fun he hl => ⟨fun h => ?_, fun h1 h2 => ?_, fun hg hsrc hp => ?_⟩⟩
  · rw [exec_maskViolation hs, maskCompare_counts he (.inl ha)]
    rfl
  · rw [exec_maskViolation hs, maskCompare_gates he ha hg]
    rfl
  · rw [exec_maskViolation hs, maskCompare_counts he (.inr hg)]
    rfl
  · rw [exec_maskViolation hs, maskCompare_disabled he, asOf_eq]
  · rw [exec_maskUngate hs, regAccess_on h]
  · rw [exec_maskHoldExpiry hs, if_pos (holdOver_of_passed hg hh hc ht)]
    rfl
  · rw [exec_maskHoldExpiry hs, holdOver_of_idle h, if_neg Bool.false_ne_true]
  · rw [exec_feReadbackCheck hs, feReadback_agrees h, asOf_eq]
  · rw [exec_feReadbackCheck hs, feReadback_counts he hl rfl h]
    rfl
  · rw [exec_feReadbackCheck hs, feReadback_portless he hl rfl h1 h2]
    rfl
  · rw [exec_feReadbackCheck hs, feReadback_gates he hl rfl hg hsrc hp]
    rfl

end Sys2Proof.Machine

/-! # The scheduler's commands and the sequencer's timers (chapter 6)

A scheduler command at its turn and away from it, what each of the eight answers, the CCA after a backoff, the end of an ACK wait and the
launch of an acknowledgement, and the obligations that they settle. -/

namespace Sys2Proof.Machine

/-! ## A scheduler command and its turn (R208, R209, R415) -/

section
variable {c : CmdSrc} {code : Nat} {f : Nat → State → Nat × (State → State)} {more : Nat → State → List Nat} {s : State}

theorem schedCmd_absent (h : cmdNext s c.fn code = none) : schedCmd c code f more s = s := by
  simp only [schedCmd, h]

variable {e : CmdEntry} (h : cmdNext s c.fn code = some e)
include h

theorem schedCmd_lowerFirst (hw : lowerWaits s (e.ten c.fn) = true) : schedCmd c code f more s = s := by
  simp only [schedCmd, h, hw, if_true]

variable (hw : lowerWaits s (e.ten c.fn) = false)
include hw

theorem schedCmd_follower (hf : isFollower s = true) : schedCmd c code f more s = schedFinish c e code stDENIED more s := by
  simp only [schedCmd, h, hw, hf, Bool.false_eq_true, if_false, if_true, id, ite_self]

variable (hf : isFollower s = false)
include hf

/-- Off a follower the command's own answer is its status; its change is made with the status OK only. -/
theorem schedCmd_answered {st : Nat} {g : State → State} (ha : f (e.ten c.fn) s = (st, g)) :
    schedCmd c code f more s = schedFinish c e code st more (if st = 0 then g s else s) := by
  simp only [schedCmd, h, hw, hf, ha, Bool.false_eq_true, if_false]

theorem schedCmd_done {g : State → State} (ha : f (e.ten c.fn) s = (0, g)) :
    schedCmd c code f more s = schedFinish c e code 0 more (g s) := schedCmd_answered h hw hf ha

/-- An answer without a change, as every refusal is, leaves the scheduler's tables. -/
theorem schedCmd_unchanged {st : Nat} (ha : f (e.ten c.fn) s = (st, id)) :
    schedCmd c code f more s = schedFinish c e code st more s := by
  rw [schedCmd_answered h hw hf ha, id, ite_self]

end

/-! ## Slotframes (R184, R208, R209) -/

/-- The slotframe takes the place of the one that its tenant has under its number, if there is one. -/
def storeSf (f : Slotframe) : State → State :=
  modMac (fun m => { m with sfs := m.sfs.filter (fun x => !(x.tenant == f.tenant && x.sf == f.sf)) ++ [f] })

/-- One of the slotframe's links would meet another link in some cell and channel offset. -/
def sfClash (f : Slotframe) (s : State) : Bool :=
  (s.mac.links.filter (fun l => l.tenant == f.tenant && l.sf == f.sf)).any
    (fun l => s.mac.links.any (fun m => m != l && linkClash (storeSf f s) f l m))

section
variable {t sf len hopg : Nat} {s : State}

theorem sfSet_badParam (h : 3 < sf ∨ len = 0 ∨ 65535 < len ∨ 15 < hopg) : sfSet sf len hopg t s = (stBAD_PARAM, id) := by
  have hr : (3 < sf || len = 0 || 65535 < len || 15 < hopg) = true := by simpa [or_assoc] using h
  simp only [sfSet, hr, if_true]

section
variable (hsf : sf ≤ 3) (hlen : 1 ≤ len) (hlen' : len ≤ 65535) (hh : hopg ≤ 15) (hg : hopg = s.eff (Reg.MAC_Tt_POL.HOPG t))
include hsf hlen hlen' hh hg

/-- With its parameters in range and its hop group the tenant's, a slotframe is refused for want of space only. -/
theorem sfSet_inRange : sfSet sf len hopg t s =
    if (sfOf s t sf).isNone && decide (64 ≤ s.mac.sfs.length) || sfClash ⟨t, sf, len, hopg⟩ s then (stNO_SPACE, id)
    else (0, storeSf ⟨t, sf, len, hopg⟩) := by
  have hr : ¬ ((3 < sf || len = 0 || 65535 < len || 15 < hopg) = true) := by
    simp only [Bool.or_eq_true, decide_eq_true_eq]; omega
  simp only [sfSet, if_neg hr, if_neg (not_not_intro hg)]
  cases (sfOf s t sf).isNone && decide (64 ≤ s.mac.sfs.length) with
  | true => rfl
  | false => rfl

theorem sfSet_clashing (hc : sfClash ⟨t, sf, len, hopg⟩ s = true) : sfSet sf len hopg t s = (stNO_SPACE, id) := by
  rw [sfSet_inRange hsf hlen hlen' hh hg, hc, Bool.or_true, if_pos rfl]

theorem sfSet_stored (hn : (sfOf s t sf).isSome = true ∨ s.mac.sfs.length < 64) (hc : sfClash ⟨t, sf, len, hopg⟩ s = false) :
    sfSet sf len hopg t s = (0, storeSf ⟨t, sf, len, hopg⟩) := by
  have hroom : ((sfOf s t sf).isNone && decide (64 ≤ s.mac.sfs.length)) = false := by
    rcases hn with hn | hn
    · rw [← Option.not_isSome, hn]
      rfl
    · rw [decide_eq_false (Nat.not_le.2 hn), Bool.and_false]
  rw [sfSet_inRange hsf hlen hlen' hh hg, hroom, hc, Bool.or_self, if_neg Bool.false_ne_true]

end

theorem sfDel_absent (h : sfOf s t sf = none) : sfDel sf t s = (stBAD_PARAM, id) := by
  simp only [sfDel, h, Option.isNone_none, if_true]

/-- A slotframe goes with its links. -/
theorem sfDel_present (h : (sfOf s t sf).isSome = true) : sfDel sf t s =
    (0, modMac (fun m => { m with
      sfs := m.sfs.filter (fun x => !(x.tenant == t && x.sf == sf))
      links := m.links.filter (fun x => !(x.tenant == t && x.sf == sf)) })) := by
  simp only [sfDel, ← Option.not_isSome, h, Bool.not_true, Bool.false_eq_true, if_false]

end

/-! ## Links (R208, R209) -/

/-- The links of a tenant that LINK_DEL names by slotframe, position, channel offset and node. -/
def linkAt (t sf pos chofs node : Nat) (x : Link) : Bool :=
  x.tenant == t && x.sf == sf && x.pos == pos && x.chofs == chofs && x.node == node

section
variable {t : Nat} {s : State}

/-- LINK_ADD with its fields in range, of a node that is the tenant's where the kind names one, and with room for a link that meets no other. -/
theorem linkAdd_added {l : Link} {f : Slotframe} (hf : sfOf s t l.sf = some f) (hpos : l.pos < f.len) (hch : l.chofs ≤ 63)
    (hkind : l.kind ≤ 6) (hnode : l.node ≤ 262143) (hofs : l.ofs ≤ 511999) (hspan : l.span ≤ 511999) (hlead : l.lead ≤ 65535)
    (hprof : l.prof ≤ 15) (hown : (l.kind ≠ 0 ∧ l.kind ≠ 3) ∨ ownNode s t l.node = true)
    (hquota : (s.mac.links.filter (fun x => x.tenant == t)).length < linkQuota s t) (hroom : s.mac.links.length < 524288)
    (hclash : s.mac.links.any (linkClash s f { l with tenant := t, auto := false }) = false) :
    linkAdd l t s = (0, modMac (fun m => { m with links := m.links ++ [{ l with tenant := t, auto := false }] })) := by
  have hrange : ¬ ((f.len ≤ l.pos || 63 < l.chofs || 6 < l.kind || 262143 < l.node || 511999 < l.ofs || 511999 < l.span ||
      65535 < l.lead || 15 < l.prof) = true) := by
    simp only [Bool.or_eq_true, decide_eq_true_eq]; omega
  have hmine : ¬ (((l.kind = 0 || l.kind = 3) && !ownNode s t l.node) = true) := by
    rcases hown with ⟨h0, h3⟩ | hown
    · simp [h0, h3]
    · simp [hown]
  have hspace : ¬ ((linkQuota s t ≤ (s.mac.links.filter (fun x => x.tenant == t)).length || 524288 ≤ s.mac.links.length ||
      s.mac.links.any (linkClash s f { l with tenant := t, auto := false })) = true) := by
    rw [hclash]
    simp [hquota, hroom]
  simp only [linkAdd, hf, if_neg hrange, if_neg hmine, if_neg hspace]

variable {sf pos chofs node : Nat}

section
variable (hsf : (sfOf s t sf).isSome = true) (hnode : node ≤ 262143) (hch : chofs ≤ 63)
include hsf hnode hch

/-- With its parameters in range LINK_DEL is refused for want of such a link only. -/
theorem linkDel_inRange : linkDel sf pos chofs node t s =
    if !s.mac.links.any (linkAt t sf pos chofs node) then (if ownNode s t node then stBAD_PARAM else stDENIED, id)
    else (0, modMac (fun m => { m with links := m.links.filter (fun x => !linkAt t sf pos chofs node x) })) := by
  have hr : ¬ (((sfOf s t sf).isNone || 262143 < node || 63 < chofs) = true) := by
    rw [← Option.not_isSome, hsf]
    simp only [Bool.not_true, Bool.false_or, Bool.or_eq_true, decide_eq_true_eq]; omega
  simp only [linkDel, if_neg hr]
  rfl

theorem linkDel_removed (h : s.mac.links.any (linkAt t sf pos chofs node) = true) : linkDel sf pos chofs node t s =
    (0, modMac (fun m => { m with links := m.links.filter (fun x => !linkAt t sf pos chofs node x) })) := by
  rw [linkDel_inRange hsf hnode hch, h]
  rfl

theorem linkDel_denied (h : s.mac.links.any (linkAt t sf pos chofs node) = false) (hown : ownNode s t node = false) :
    linkDel sf pos chofs node t s = (stDENIED, id) := by
  rw [linkDel_inRange hsf hnode hch, h, hown]
  rfl

end

/-! ## Rates (R208, R209) -/

section
variable {up down airtime : Nat}

/-- The links that the scheduler chose for a node and its rate are gone. -/
def clearRate (t node : Nat) : State → State :=
  modMac (fun m => { m with
    links := m.links.filter (fun x => !(x.auto && x.tenant == t && x.node == node)), rates := m.rates.filter (fun x => x.node != node) })

/-- The chosen links and the rate take the place of what the node had; the next choice is another one (log entry 10). -/
def storeRate (t node up down airtime : Nat) (l : List Link) (s : State) : State :=
  (modMac (fun m => { m with links := m.links ++ l, rates := m.rates ++ [⟨t, node, up, down, airtime⟩] }) (clearRate t node s)).drawn

/-- NODE_RATE of a node that is the tenant's, with a period to maintain, is refused only where the chosen links do not fit. -/
theorem nodeRate_own (hnode : node ≤ 262143) (hown : ownNode s t node = true) (hp : 0 < up ∨ 0 < down) :
    nodeRate node up down airtime t s =
      if !linksFit (clearRate t node s) t (rateLinks s t node up down airtime) then (stNO_SPACE, id)
      else (0, storeRate t node up down airtime (rateLinks s t node up down airtime)) := by
  have hz : ¬ ((up = 0 && down = 0) = true) := by simp only [Bool.and_eq_true, decide_eq_true_eq]; omega
  simp only [nodeRate, if_neg (Nat.not_lt.2 hnode), hown, if_neg hz, Bool.not_true, Bool.false_eq_true, if_false]
  rfl

/-- At its turn such a NODE_RATE makes its change where the chosen links fit, and is refused where they do not. -/
theorem schedCmd_nodeRate_own {c : CmdSrc} {e : CmdEntry} {more : Nat → State → List Nat} (hnode : node ≤ 262143)
    (hown : ownNode s (e.ten c.fn) node = true) (hp : 0 < up ∨ 0 < down) (h : cmdNext s c.fn 0x24 = some e)
    (hw : lowerWaits s (e.ten c.fn) = false) (hf : isFollower s = false) :
    schedCmd c 0x24 (nodeRate node up down airtime) more s =
      if linksFit (clearRate (e.ten c.fn) node s) (e.ten c.fn) (rateLinks s (e.ten c.fn) node up down airtime) then
        schedFinish c e 0x24 0 more
          (storeRate (e.ten c.fn) node up down airtime (rateLinks s (e.ten c.fn) node up down airtime) s)
      else schedFinish c e 0x24 stNO_SPACE more s := by
  have ha := nodeRate_own (airtime := airtime) hnode hown hp
  cases hl : linksFit (clearRate (e.ten c.fn) node s) (e.ten c.fn) (rateLinks s (e.ten c.fn) node up down airtime) with
  | true =>
    rw [hl] at ha
    exact schedCmd_done h hw hf ha
  | false =>
    rw [hl] at ha
    exact schedCmd_unchanged h hw hf ha

theorem nodeRate_denied (hnode : node ≤ 262143) (hown : ownNode s t node = false) :
    nodeRate node up down airtime t s = (stDENIED, id) := by
  simp only [nodeRate, if_neg (Nat.not_lt.2 hnode), hown, Bool.not_false, if_true]

end

/-! ## Aperture resets and beacons (R191) -/

theorem aptReset_own (hnode : node ≤ 262143) (hown : ownNode s t node = true) :
    aptReset node t s = (0, modMac (fun m => { m with resets := setAdd m.resets node })) := by
  simp only [aptReset, if_neg (Nat.not_lt.2 hnode), hown, Bool.not_true, Bool.false_eq_true, if_false]

theorem ebSet_stored {period prof : Nat} (hprof : prof ≤ 15) (hch : chofs ≤ 63) (hp : 0 < period) : ebSet period prof chofs t s =
    (0, modMac (fun m => { m with beacons := m.beacons.filter (fun x => x.tenant != t) ++ [⟨t, period, prof, chofs⟩] })) := by
  simp [ebSet, Nat.not_lt.2 hprof, Nat.not_lt.2 hch, Nat.pos_iff_ne_zero.1 hp]

end

/-! ## CSMA-CA (R204 to R206) -/

section
variable {e ofs : Nat} {power : Int} {s : State}

theorem csmaExpiry_idle (h : (s.at ofs).mac.csma.find? (fun c => c.engine == e && decide (c.due ≤ (s.at ofs).clk)) = none) :
    csmaExpiry e ofs power s = s.at ofs := by
  simp only [csmaExpiry, h]

variable {c : Csma} (h : (s.at ofs).mac.csma.find? (fun c => c.engine == e && decide (c.due ≤ (s.at ofs).clk)) = some c)
include h

theorem csmaExpiry_busy (hb : ccaBusy (s.at ofs) e power = true) : csmaExpiry e ofs power s = csmaBusy c (s.at ofs) := by
  simp only [csmaExpiry, h, hb, if_true]

theorem csmaExpiry_clear (hb : ccaBusy (s.at ofs) e power = false) : csmaExpiry e ofs power s = csmaIdle c (s.at ofs) := by
  simp only [csmaExpiry, h, hb, Bool.false_eq_true, if_false]

end

section
variable {c : Csma} {s : State}

theorem csmaBusy_failed (h : (s.inc Reg.MAC_CSMA_BUSY.CNT).get Reg.MAC_CSMA_CFG.MAX_BO < c.nb + 1) :
    csmaBusy c s = csmaDefer c ((s.inc Reg.MAC_CSMA_BUSY.CNT).inc Reg.MAC_CSMA_FAIL.CNT) := by
  simp only [csmaBusy, if_pos h]

/-- A frame whose CCA found the channel busy, in its next backoff: of a greater exponent up to the greatest (R204). -/
def csmaNext (c : Csma) (s : State) : Csma :=
  { c with nb := c.nb + 1, be := min (c.be + 1) (csmaMaxBe s), due := backoffEnd s c.win (min (c.be + 1) (csmaMaxBe s)) }

theorem csmaBusy_again (h : c.nb + 1 ≤ (s.inc Reg.MAC_CSMA_BUSY.CNT).get Reg.MAC_CSMA_CFG.MAX_BO) :
    csmaBusy c s = (modMac (fun m => { m with csma := m.csma.map (fun x =>
      if x = c then csmaNext c (s.inc Reg.MAC_CSMA_BUSY.CNT) else x) }) (s.inc Reg.MAC_CSMA_BUSY.CNT)).drawn := by
  simp only [csmaBusy, if_neg (Nat.not_lt.2 h), csmaNext]

theorem csmaIdle_go {m : Nat} (h : verdict (beforeFw c.engine s) false true c.engine c.win.w.prof c.frame.len
      (some (csmaRoom (beforeFw c.engine s) c.win)) = .go m) :
    csmaIdle c s = txStart m c.engine c.win.w.prof c.frame.len (.fw c.frame)
      (modMac (fun m => { m with csma := m.csma.filter (fun y => y != c) }) (beforeFw c.engine s)) := by
  simp only [csmaIdle, h]

theorem winOrder_nil (h : winsDue s = []) : winOrder s = [] := by
  rw [winOrder, h]
  rfl

/-- With no acknowledgement and no window due, nothing goes before a firmware frame. -/
theorem beforeFw_nothingDue {e : Nat} (ha : acksDue s = []) (hw : winsDue s = []) : beforeFw e s = s := by
  rw [beforeFw, ha, winOrder_nil hw]
  rfl

end

/-! ## The end of an ACK wait (R203) -/

theorem waitsOver_of_over {sel : AckWait → Bool} {s : State} {l : List AckWait}
    (h : s.mac.waits.filter (fun w => sel w && decide (w.hi < s.clk) && !waitBusy s w) = l) : waitsOver sel s = forEach l waitEnd s := by
  rw [waitsOver, h]

/-! ## The launch of an acknowledgement (R148, R196 to R200, R222) -/

section
variable {e ofs : Nat} {s : State}

theorem fastAckLaunch_notDue (h : (acksDue (s.at ofs)).any (fun a => a.engine == e) = false) : fastAckLaunch e ofs s = s.at ofs := by
  simp only [fastAckLaunch, h, Bool.false_eq_true, if_false]

/-- An engine's acknowledgement that is due is served after those of the lower engines. -/
theorem fastAckLaunch_due (h : (acksDue (s.at ofs)).any (fun a => a.engine == e) = true) :
    fastAckLaunch e ofs s = forEach ((acksDue (s.at ofs)).filter (fun a => decide (a.engine ≤ e))) ackServe (s.at ofs) := by
  simp only [fastAckLaunch, h, if_true]

variable {a d : AckPend}

theorem fastAckLaunch_single (h : acksDue (s.at ofs) = [a]) (ha : a.engine = e) : fastAckLaunch e ofs s = ackServe a (s.at ofs) := by
  have hfirst : [a].filter (fun b => decide (b.engine ≤ e)) = [a] := by simp [ha]
  rw [fastAckLaunch_due (by simp [h, ha]), h, hfirst, forEach_cons, forEach_nil]

theorem fastAckLaunch_pair (h : acksDue (s.at ofs) = [a, d]) (hlt : a.engine < d.engine) (hd : d.engine = e) :
    fastAckLaunch e ofs s = ackServe d (ackServe a (s.at ofs)) := by
  have hle : a.engine ≤ e := hd ▸ Nat.le_of_lt hlt
  have hfirst : [a, d].filter (fun b => decide (b.engine ≤ e)) = [a, d] := by simp [hle, hd]
  rw [fastAckLaunch_due (by simp [h, hd]), h, hfirst, forEach_cons, forEach_cons, forEach_nil]

end

section
variable {a : AckPend} {s : State}

theorem ackSecure_plain (h : a.secured = false) : ackSecure a s = (s, some a) := by
  simp only [ackSecure, h, Bool.not_false, if_true]

theorem ackLaunch_late (h : s.clk < a.ready) :
    ackLaunch a s = ackUnsent a (overrun Reg.SYS_OVR_STAT.ACK_LATE (s.inc Reg.MAC_ACK_LATE.CNT)) := by
  simp only [ackLaunch, if_pos h]

variable (h : a.ready ≤ s.clk)
include h

theorem ackLaunch_noLease (hl : holdsTx s = false) : ackLaunch a s = s.inc Reg.MAC_NOLEASE_ACK.CNT := by
  simp only [ackLaunch, if_neg (Nat.not_lt.2 h), hl, Bool.not_false, if_true]

theorem ackLaunch_go {m : Nat} {t : State} {b : AckPend} (hl : holdsTx s = true)
    (hv : verdict s true true a.engine (s.eff (Reg.MAC_ENGn_ACK.PROF a.engine)) a.psduLen none = .go m)
    (hs : ackSecure a s = (t, some b)) :
    ackLaunch a s = ackSent b (txStart m a.engine (s.eff (Reg.MAC_ENGn_ACK.PROF a.engine)) a.psduLen (.ack b) t) := by
  simp only [ackLaunch, if_neg (Nat.not_lt.2 h), hl, hv, hs, Bool.not_true, Bool.false_eq_true, if_false]

end

/-! ## The commands on a live block -/

section
variable {s : State} (hs : s.live) (c : CmdSrc)
include hs

theorem exec_sfSet (sf len hopg : Nat) :
    exec (.sfSet c sf len hopg) s = .next (settle s (schedCmd c 0x20 (sfSet sf len hopg) noMore s.cleared)) := run_live hs _

theorem exec_sfDel (sf : Nat) : exec (.sfDel c sf) s = .next (settle s (schedCmd c 0x21 (sfDel sf) noMore s.cleared)) := run_live hs _

theorem exec_linkAdd (l : Link) : exec (.linkAdd c l) s = .next (settle s (schedCmd c 0x22 (linkAdd l) noMore s.cleared)) :=
  run_live hs _

theorem exec_linkDel (sf pos chofs node : Nat) : exec (.linkDel c sf pos chofs node) s =
    .next (settle s (schedCmd c 0x23 (linkDel sf pos chofs node) noMore s.cleared)) := run_live hs _

theorem exec_nodeRate (node up down airtime : Nat) : exec (.nodeRate c node up down airtime) s =
    .next (settle s (schedCmd c 0x24 (nodeRate node up down airtime) noMore s.cleared)) := run_live hs _

theorem exec_aptReset (node : Nat) : exec (.aptReset c node) s =
    .next (settle s (schedCmd c 0x25 (aptReset node) noMore s.cleared)) := run_live hs _

theorem exec_ebSet (period prof chofs : Nat) : exec (.ebSet c period prof chofs) s =
    .next (settle s (schedCmd c 0x26 (ebSet period prof chofs) noMore s.cleared)) := run_live hs _

theorem exec_schedQuery : exec (.schedQuery c) s =
    .next (settle s (schedCmd c 0x27 (fun _ _ => (0, id)) schedUse s.cleared)) := run_live hs _

end

section
variable {s : State} (hs : s.live) (e : Fin 128) (ofs : Fin 122880)
include hs

theorem exec_csmaBackoffExpiry (power : Int) :
    exec (.csmaBackoffExpiry e ofs power) s = .next (settle s (csmaExpiry e ofs power s.cleared)) := run_live hs _

theorem exec_ackWaitExpiry :
    exec (.ackWaitExpiry e ofs) s = .next (settle s (waitsOver (fun w => w.engine == e.val) (s.asOf ofs))) :=
  run_live hs (fun t => waitsOver (fun w => w.engine == e.val) (t.at ofs))

theorem exec_fastAckLaunch : exec (.fastAckLaunch e ofs) s = .next (settle s (fastAckLaunch e ofs s.cleared)) := run_live hs _

end

/-! ## The obligations -/

/-- Settles O27: each command where it changes its table, and the refusals, at the command's turn; away from it nothing happens. -/
theorem schedulerCommands : Obligations.SchedulerCommands := by
  intro c e sf len hopg pos chofs node up down airtime period prof l f s hs
  refine ⟨fun h hw => ?_, fun hw => ⟨fun h hf hsf hlen hlen' hh hg hn hc => ?_, fun h hf hsf hlen hlen' hh hg hc => ?_, fun h hf hr => ?_,
    fun h hf => ?_, fun h => ?_, fun h hf hsf => ?_, fun h hf hsf => ?_,
    fun h hf hsf hpos hch hkind hnode hofs hspan hlead hprof hown hquota hroom hclash => ?_, fun h hf hsf hnode hch hm => ?_,
    fun h hf hsf hnode hch hm hown => ?_, fun h hf hnode hown hp => ?_, fun h hf hnode hown => ?_, fun h hf hnode hown => ?_,
    fun h hf hprof hch hp => ?_, fun h hf => ?_⟩⟩
  · rw [exec_sfSet hs, schedCmd_lowerFirst h hw]
  · rw [exec_sfSet hs, schedCmd_done h hw hf (sfSet_stored hsf hlen hlen' hh hg hn hc)]
    rfl
  · rw [exec_sfSet hs, schedCmd_unchanged h hw hf (sfSet_clashing hsf hlen hlen' hh hg hc)]
  · rw [exec_sfSet hs, schedCmd_unchanged h hw hf (sfSet_badParam hr)]
  · rw [exec_sfSet hs, schedCmd_follower h hw hf]
  · rw [exec_sfSet hs, schedCmd_absent h]
  · rw [exec_sfDel hs, schedCmd_done h hw hf (sfDel_present hsf)]
  · rw [exec_sfDel hs, schedCmd_unchanged h hw hf (sfDel_absent hsf)]
  · rw [exec_linkAdd hs, schedCmd_done h hw hf
      (linkAdd_added (l := l) hsf hpos hch hkind hnode hofs hspan hlead hprof hown hquota hroom hclash)]
  · rw [exec_linkDel hs, schedCmd_done h hw hf (linkDel_removed hsf hnode hch hm)]
    rfl
  · rw [exec_linkDel hs, schedCmd_unchanged h hw hf (linkDel_denied hsf hnode hch hm hown)]
  · rw [exec_nodeRate hs, schedCmd_nodeRate_own hnode hown hp h hw hf]
    rfl
  · rw [exec_nodeRate hs, schedCmd_unchanged h hw hf (nodeRate_denied hnode hown)]
  · rw [exec_aptReset hs, schedCmd_done h hw hf (aptReset_own hnode hown)]
  · rw [exec_ebSet hs, schedCmd_done h hw hf (ebSet_stored hprof hch hp)]
  · rw [exec_schedQuery hs, schedCmd_unchanged h hw hf rfl]

/-- Settles O28: what a CCA finds and leads to, which waits are over, and the acknowledgements that are due in the order of their engines. -/
theorem macTimers : Obligations.MacTimers := by
  intro e m ofs power c w a d s hs
  refine ⟨fun h => ?_, fun h hb hn => ?_, fun h hb hn => ?_, fun h hb hv => ?_, beforeFw_nothingDue, fun h => ?_, fun h => ?_,
    fun h ha => ?_, fun h hlt hd => ?_, fun h => ?_, ackLaunch_late, ackLaunch_noLease,
    fun hr hl hp hv => ackLaunch_go hr hl hv (ackSecure_plain hp)⟩
  · rw [exec_csmaBackoffExpiry hs, csmaExpiry_idle (s := s.cleared) h, asOf_eq]
  · rw [exec_csmaBackoffExpiry hs, csmaExpiry_busy (s := s.cleared) h hb, ← asOf_eq, csmaBusy_failed hn]
  · rw [exec_csmaBackoffExpiry hs, csmaExpiry_busy (s := s.cleared) h hb, ← asOf_eq, csmaBusy_again hn]
    rfl
  · rw [exec_csmaBackoffExpiry hs, csmaExpiry_clear (s := s.cleared) h hb, ← asOf_eq, csmaIdle_go hv]
  · rw [exec_ackWaitExpiry hs, waitsOver_of_over h]
    rfl
  · rw [exec_ackWaitExpiry hs, waitsOver_of_over h]
    rfl
  · rw [exec_fastAckLaunch hs, fastAckLaunch_single (s := s.cleared) h ha]
    rfl
  · rw [exec_fastAckLaunch hs, fastAckLaunch_pair (s := s.cleared) h hlt hd, asOf_eq]
  · rw [exec_fastAckLaunch hs, fastAckLaunch_notDue (s := s.cleared) h, asOf_eq]

end Sys2Proof.Machine

/-! # The queue, what is programmed once, and the key vault (chapter 7)

What every command does to the queue and to the fuses, the vault's queue and its commands, zeroise, the counter journal, PORST_N and the
boot, and the obligations that they settle. -/

/-! ## The queue and the one-time-programmable memory (R245, R440, R451) -/

namespace Sys2Proof.Machine

/-- The form of every command's meaning: it answers, and its next state is settled. -/
theorem exec_settles (c : Instr) (s : State) : ∃ t, exec c s = .next (settle s t) := by
  cases c <;> exact ⟨_, rfl⟩

theorem step_empty {s : State} (h : s.pending = []) : step s = .next s := by
  simp [step, h]

theorem step_front {c : Instr} {l : List Instr} {s : State} (h : s.pending = c :: l) : step s = exec c { s with pending := l } := by
  simp [step, h]

/-- A step on a queue that is not empty takes its front and programs nothing back. -/
theorem step_takes_front {c : Instr} {l : List Instr} {s : State} (h : s.pending = c :: l) :
    ∃ t, step s = .next t ∧ t.pending = l ∧ s.otp.le t.otp := by
  obtain ⟨t, ht⟩ := exec_settles c { s with pending := l }
  exact ⟨_, (step_front h).trans ht, settle_safe { s with pending := l } t⟩

theorem step_keeps_otp {s t : State} (h : step s = .next t) : s.otp.le t.otp := by
  cases hq : s.pending with
  | nil =>
    obtain rfl : s = t := by simpa [step_empty hq] using h
    exact OtpS.le_refl _
  | cons c l =>
    obtain ⟨u, hu, -, hle⟩ := step_takes_front hq
    obtain rfl : u = t := by simpa [hu] using h
    exact hle

theorem runSteps_succ {n : Nat} {s t : State} (h : step s = .next t) : runSteps (n + 1) s = runSteps n t := by
  simp [runSteps, h]

theorem runSteps_empties_queue (l : List Instr) (s : State) (hl : s.pending = l) :
    ∃ t, runSteps l.length s = some t ∧ t.pending = [] ∧ s.otp.le t.otp := by
  induction l generalizing s with
  | nil => exact ⟨s, rfl, hl, OtpS.le_refl _⟩
  | cons c l ih =>
    obtain ⟨u, hstep, hu, hle⟩ := step_takes_front hl
    obtain ⟨t, hrun, ht, hle'⟩ := ih u hu
    exact ⟨t, (runSteps_succ hstep).trans hrun, ht, OtpS.le_trans hle hle'⟩

/-! ## The vault's queue (R231, R232) -/

/-- The command that a write of KV_CMD_GO makes of the registers. -/
def regCommand (code : Nat) (a : VArgs) (s : State) : VCmd :=
  { fn := 0, reg := true, asTenant := 256, code := code, tag := 0, discard := false, args := regArgs s code a, start := 0 }

/-- The command that the vault fetches from the front of a CMD ring. -/
def ringCommand (fn code : Nat) (a : VArgs) (e : CmdEntry) : VCmd :=
  { fn := fn, reg := false, asTenant := e.ten fn, code := code, tag := e.tag, discard := false, args := a, start := 0 }

/-- A command joins the queue, and a vault that is free takes the oldest one. -/
def vaultJoin (c : VCmd) (s : State) : State :=
  vaultStart s.clk (vaultQueued (modKv (fun v => { v with queue := v.queue ++ [c] }) s))

section
variable {s : State}

/-- A command that comes by the registers enters a queue with room at once. -/
theorem regEnter_waiting (c : VCmd) (hr : vaultRoom s 0 = true) : regEnter (modKv (fun v => { v with regWait := some c }) s) =
    vaultQueued (modKv (fun v => { v with regWait := none, queue := v.queue ++ [c] }) s) := by
  have hr' : vaultRoom (modKv (fun v => { v with regWait := some c }) s) 0 = true := hr
  simp only [regEnter, modKv_kv, hr', if_true]
  rfl

theorem regEnter_full (hr : vaultRoom s 0 = false) : regEnter s = s := by
  cases hw : s.kv.regWait <;> simp [regEnter, hw, hr]

variable (code : Nat) (a : VArgs)

theorem regSubmit_busy (h : regBusy s = true) : regSubmit code a s = s.put Reg.KV_STAT.GO_IGN 1 := by
  simp [regSubmit, h]

theorem regSubmit_free (h : regBusy s = false) : regSubmit code a s =
    vaultStart s.clk (regEnter (modKv (fun v => { v with regWait := some (regCommand code a s) }) s)) := by
  simp [regSubmit, h, regCommand]

variable (fn : Fin 257)

theorem vaultSubmit_reg : vaultSubmit ⟨true, fn⟩ code a s = regSubmit code a s := rfl

theorem vaultSubmit_ring {e : CmdEntry} (hn : cmdNext s fn (code + 0x40) = some e) (hr : vaultRoom s fn = true) :
    vaultSubmit ⟨false, fn⟩ code a s = cmdSettle fn ((vaultJoin (ringCommand fn code a e) (cmdTake fn s)).hif.fns.get fn).cmdQ
      (vaultJoin (ringCommand fn code a e) (cmdTake fn s)) := by
  simp [vaultSubmit, hn, hr, ringCommand, vaultJoin]

theorem vaultSubmit_ringFull {e : CmdEntry} (hn : cmdNext s fn (code + 0x40) = some e) (hr : vaultRoom s fn = false) :
    vaultSubmit ⟨false, fn⟩ code a s = s := by
  simp [vaultSubmit, hn, hr]

theorem vaultSubmit_ringIdle (hn : cmdNext s fn (code + 0x40) = none) : vaultSubmit ⟨false, fn⟩ code a s = s := by
  simp [vaultSubmit, hn]

end

/-! ## The end of a vault command (R231, R233) -/

/-- The vault with no command running. -/
def vaultIdle (s : State) : State := (modKv (fun v => { v with running := none }) s).put Reg.KV_STAT.BUSY 0

/-- The clock at which a command's fixed time is over. -/
def vaultDue (c : VCmd) : Nat := c.start + Config.usClocks (vaultUs c.code)

section
variable {c : VCmd} {s : State}

theorem vaultFinish_done (h : refusal (vaultIdle s) c = none) : vaultFinish c s =
    vaultStart (vaultDue c) (vaultPost c 0 (vaultEffect c (unwrapUse c (vaultIdle s))).2
      (if drawsDrbg c then (vaultEffect c (unwrapUse c (vaultIdle s))).1.drawn else (vaultEffect c (unwrapUse c (vaultIdle s))).1)) := by
  rw [vaultIdle] at h
  simp only [vaultFinish, h]
  rfl

/-- With the secret region there, a refusal reaches no record of it and the reason is only counted. -/
theorem vaultFinish_denied {r : Nat} (h : refusal (vaultIdle s) c = some r) (ho : secretsOpen (vaultIdle s) = true) : vaultFinish c s =
    vaultStart (vaultDue c) (vaultPost c stDENIED []
      (if drawsDrbg c then (lpe (0x0A0 + r) (vaultIdle s)).drawn else lpe (0x0A0 + r) (vaultIdle s))) := by
  rw [vaultIdle] at h ho
  simp only [vaultFinish, h, ho, Bool.not_true, Bool.and_false, when_false]
  rfl

variable {ofs : Nat}

theorem kvComplete_idle (h : (s.at ofs).kv.running = none) : kvComplete ofs s = s.at ofs := by
  simp only [kvComplete, h]

theorem kvComplete_early (h : (s.at ofs).kv.running = some c) (hc : (s.at ofs).clk < vaultDue c) : kvComplete ofs s = s.at ofs := by
  rw [vaultDue] at hc
  simp only [kvComplete, h, if_pos hc]

theorem kvComplete_due (h : (s.at ofs).kv.running = some c) (hc : vaultDue c ≤ (s.at ofs).clk) :
    kvComplete ofs s = vaultFinish c (s.at ofs) := by
  rw [vaultDue] at hc
  simp only [kvComplete, h, if_neg (Nat.not_lt.2 hc)]

end

/-! ## What leaves the vault alone -/

@[simp] theorem msixSend_kv (fn vec : Nat) (s : State) : (msixSend fn vec s).kv = s.kv := by
  unfold msixSend
  dsimp only
  split
  · rfl
  · split <;> rfl

@[simp] theorem ringWrite_kv (fn r : Nat) (e : Entry) (s : State) : (ringWrite fn r e s).kv = s.kv := by
  unfold ringWrite
  dsimp only
  split
  · rfl
  · rw [msixSend_kv]
    rfl

@[simp] theorem fnCnt_kv (fn ofs n : Nat) (s : State) : (fnCnt fn ofs n s).kv = s.kv := by
  unfold fnCnt
  split <;> rfl

@[simp] theorem raiseOn_kv (fn code about a0 a1 : Nat) (s : State) : (raiseOn fn code about a0 a1 s).kv = s.kv := by
  unfold raiseOn
  split
  · exact ringWrite_kv ..
  · exact fnCnt_kv ..

@[simp] theorem raisePf_kv (code a0 a1 : Nat) (s : State) : (raisePf code a0 a1 s).kv = s.kv := raiseOn_kv ..

@[simp] theorem raiseTenant_kv (t code a0 a1 : Nat) (s : State) : (raiseTenant t code a0 a1 s).kv = s.kv := raiseOn_kv ..

@[simp] theorem exhaustNote_kv (ref : Nat) (s : State) : (exhaustNote ref s).kv = s.kv := by
  rw [exhaustNote, apply_ite State.kv, raiseTenant_kv, ite_self, raisePf_kv, State.put_kv]

/-- The counters of a key that is loaded are the security engine's. -/
@[simp] theorem loadKey_kv (ref key : Nat) (s : State) : (loadKey ref key s).kv = s.kv := by
  unfold loadKey
  dsimp only
  cases decide (0xFFFFFC00 ≤ journalRes s (Config.fpr key)) with
  | false => rfl
  | true => exact exhaustNote_kv ..

@[simp] theorem lpe_kv (id : Nat) (s : State) : (lpe id s).kv = s.kv := by rw [lpe, lpeBy_eq]

@[simp] theorem lpe_sec (id : Nat) (s : State) : (lpe id s).sec = s.sec := by rw [lpe, lpeBy_eq]

/-! ## Slots and the effects of the commands (R234 to R239) -/

theorem slotOf_modSlot_self (k : Nat) (f : Slot → Slot) (s : State) : slotOf (modSlot k f s) k = f (slotOf s k) :=
  Tab.get_set_self _ _ _

theorem slotOf_modSlot_ne {k j : Nat} (f : Slot → Slot) (s : State) (h : k ≠ j) : slotOf (modSlot k f s) j = slotOf s j :=
  Tab.get_set_ne _ _ h

theorem slotOf_installSlot_ne {a : VArgs} {j : Nat} (key : Nat) (imported : Bool) (s : State) (h : a.slot ≠ j) :
    slotOf (installSlot a key imported s) j = slotOf s j := by
  rw [installSlot, slotOf, loadKey_kv]
  exact slotOf_modSlot_ne _ s h

/-- Nothing is staged, live or committed. -/
def Slot.unstaged (k : Slot) : Slot := { k with staged := none, stagedLive := false, commitDue := false }

section
variable {c : VCmd} (s : State)

theorem vaultEffect_generate (h : c.code = 1) : vaultEffect c s =
    (installSlot c.args (Config.drbg s.core.free) false s, [Config.kcv (Config.drbg s.core.free)]) := by
  simp only [vaultEffect, h]

theorem vaultEffect_import (h : c.code = 2) : vaultEffect c s =
    (installSlot c.args c.args.wrapped.key true s, [Config.kcv c.args.wrapped.key]) := by
  simp only [vaultEffect, h]

theorem vaultEffect_stage (h : c.code = 3) : (vaultEffect c s).1 = modSlot c.args.slot (fun k =>
    { k with staged := some (if c.args.gen then Config.drbg s.core.free else c.args.wrapped.key), stagedLive := false, commitDue := false }) s := by
  simp only [vaultEffect, h]

theorem namesNode_of_slot (hs : c.args.slot < 4096) : namesNode c = false := by
  rw [namesNode, decide_eq_false (Nat.not_le.2 hs), Bool.and_false]

theorem namesNode_of_node (h : c.code = 4) (hs : 4096 ≤ c.args.slot) : namesNode c = true := by
  rw [namesNode, h, decide_eq_true hs]
  rfl

theorem vaultEffect_commit_slot (h : c.code = 4) (hs : c.args.slot < 4096) :
    vaultEffect c s = (modSlot c.args.slot (fun k => { k with commitDue := true }) s, []) := by
  simp only [vaultEffect, h, namesNode_of_slot hs, Bool.false_eq_true, if_false]

theorem vaultEffect_commit_node (h : c.code = 4) (hs : 4096 ≤ c.args.slot) :
    vaultEffect c s = (modKv (fun v => { v with nodeCommit := setAdd v.nodeCommit (nthOf s (cmdNode c)).endpoint }) s, []) := by
  simp only [vaultEffect, h, namesNode_of_node h hs, if_true]

theorem vaultEffect_cancel (h : c.code = 5) : vaultEffect c s = (modSlot c.args.slot Slot.unstaged s, []) := by
  simp only [vaultEffect, h]
  rfl

theorem vaultEffect_destroy (h : c.code = 6) : vaultEffect c s =
    (modSec (fun x => { x with ctr := x.ctr.erase c.args.slot }) (modSlot c.args.slot (fun _ => default) s), []) := by
  simp only [vaultEffect, h]

theorem vaultEffect_query (h : c.code = 7) : vaultEffect c s = (s, slotEntry s c.args.slot) := by
  simp only [vaultEffect, h]

theorem vaultEffect_attest (h : c.code = 8) : vaultEffect c s = (s.emit (.statement c.fn (statement s c)), []) := by
  simp only [vaultEffect, h]

theorem vaultEffect_random (h : c.code = 9) : vaultEffect c s = (s, randomWords (Config.drbg s.core.free) c.args.len) := by
  simp only [vaultEffect, h]

theorem vaultEffect_nodeImport (h : c.code = 10) (hg : c.args.gen = false) : vaultEffect c s =
    (nodeInstall c.args.node c.args.wrapped.key s, [Config.kcv c.args.wrapped.key]) := by
  simp [vaultEffect, h, hg]

/-- The commands on slots change no slot but the one they name. -/
theorem slotOf_vaultEffect_ne {j : Nat} (hj : j ≠ c.args.slot) (h1 : 1 ≤ c.code) (h9 : c.code ≤ 9) :
    slotOf (vaultEffect c s).1 j = slotOf s j := by
  have hne := hj.symm
  obtain h | h | h | h | h | h | h | h | h : c.code = 1 ∨ c.code = 2 ∨ c.code = 3 ∨ c.code = 4 ∨ c.code = 5 ∨ c.code = 6 ∨
    c.code = 7 ∨ c.code = 8 ∨ c.code = 9 := by omega
  · rw [vaultEffect_generate s h]
    exact slotOf_installSlot_ne _ _ s hne
  · rw [vaultEffect_import s h]
    exact slotOf_installSlot_ne _ _ s hne
  · rw [vaultEffect_stage s h]
    exact slotOf_modSlot_ne _ s hne
  · rcases Nat.lt_or_ge c.args.slot 4096 with hs | hs
    · rw [vaultEffect_commit_slot s h hs]
      exact slotOf_modSlot_ne _ s hne
    · rw [vaultEffect_commit_node s h hs]
      rfl
  · rw [vaultEffect_cancel s h]
    exact slotOf_modSlot_ne _ s hne
  · rw [vaultEffect_destroy s h]
    exact slotOf_modSlot_ne _ s hne
  · rw [vaultEffect_query s h]
  · rw [vaultEffect_attest s h]
    rfl
  · rw [vaultEffect_random s h]

end

/-! ## Zeroise, TAMPER_N and the wrap epoch (R245 to R248) -/

/-- An argument and a response register read 0. -/
def vaultRegClear (i : Nat) (s : State) : State := (s.put (Reg.KV_CMD_ARGi.ARG i) 0).put (Reg.KV_RSPi.RSP i) 0

/-- The argument and response registers read 0. -/
def vaultRegsCleared (s : State) : State := forEach (List.range 16) vaultRegClear s

@[simp] theorem vaultRegsCleared_kv (s : State) : (vaultRegsCleared s).kv = s.kv :=
  forEach_keeps State.kv vaultRegClear (fun _ _ => rfl) (List.range 16) s

@[simp] theorem vaultRegsCleared_sec (s : State) : (vaultRegsCleared s).sec = s.sec :=
  forEach_keeps State.sec vaultRegClear (fun _ _ => rfl) (List.range 16) s

/-- The secrets that a zeroise erases are gone and STATE shows it; the cause is not yet recorded. -/
def secretsErased (s : State) : State :=
  let t := modSec (fun c => { c with cache := [] }) (modKv (fun v => { v with slots := [], kekD := false, drbg := false, epochDue := true }) s)
  let t := ((vaultRegsCleared t).put Reg.KV_SLOTS_USED.USED 0).put Reg.KV_STATE.STATE 1
  modMem (fun m => { m with fillQ := setDel m.fillQ 1 }) (modKv (fun v => { v with secrets := [] }) (t.put (Reg.MEM_WINw_STAT.STATE 1) 0))

theorem zeroise_eq (cause : Nat) (s : State) :
    zeroise cause s = lpe 0x092 (((secretsErased s).put Reg.KV_STATE.CAUSE cause).put Reg.SEC_STAT.ZEROISED 1) := rfl

theorem zeroise_kv (cause : Nat) (s : State) : (zeroise cause s).kv =
    { s.kv with slots := [], secrets := [], kekD := false, drbg := false, epochDue := true } := by
  simp [zeroise_eq, secretsErased]

theorem zeroise_cache (cause : Nat) (s : State) : (zeroise cause s).sec.cache = [] := by
  simp [zeroise_eq, secretsErased]

theorem zeroise_state (cause : Nat) (s : State) : (zeroise cause s).get Reg.KV_STATE.STATE = 1 := by
  rw [zeroise_eq, lpe_get, State.get_put_ne _ _ (by decide), State.get_put_ne _ _ (by decide), secretsErased, modMem_get, modKv_get,
    State.get_put_ne _ _ (by decide), State.get_put_self]
  rfl

theorem zeroise_cause (cause : Nat) (s : State) : (zeroise cause s).get Reg.KV_STATE.CAUSE = cause % 2 ^ Reg.KV_STATE.CAUSE.w := by
  rw [zeroise_eq, lpe_get, State.get_put_ne _ _ (by decide), State.get_put_self]

theorem zeroise_flag (cause : Nat) (s : State) : (zeroise cause s).get Reg.SEC_STAT.ZEROISED = 1 := by
  rw [zeroise_eq, lpe_get, State.get_put_self]
  rfl

section
variable {s : State} {ns : Nat}

/-- The filter's threshold, where R246 leaves it open, is from 100 ns to 200 ns. -/
theorem tamperActs_of_long (h : 200 ≤ ns) : tamperActs s ns = true := by
  have := Nat.mod_lt (Config.tamperThr s.core.free) (show 0 < 101 by decide)
  rw [tamperActs, decide_eq_true_eq]
  omega

theorem tamperActs_of_short (h : ns < 100) : tamperActs s ns = false := by
  rw [tamperActs, decide_eq_false_iff_not]
  omega

theorem tamperEvent_acts (ha : tamperActs s ns = true) (hn : s.pwr.noSupply = false) (low : Bool) :
    tamperEvent ns low s = zeroiseAll 1 (modKv (fun v => { v with tamperLow := low }) s).drawn := by
  simp [tamperEvent, ha, hn]

theorem tamperEvent_filtered (ha : tamperActs s ns = false) (low : Bool) :
    tamperEvent ns low s = (modKv (fun v => { v with tamperLow := low }) s).drawn := by
  simp [tamperEvent, ha]

/-- The enable of a sensor. -/
def sensorEnable (k : Fin 3) : Fld :=
  if k = 0 then Reg.KV_ZCTRL.SUPPLY_EN else if k = 1 then Reg.KV_ZCTRL.CLOCK_EN else Reg.KV_ZCTRL.TEMP_EN

theorem sensorTrip_eq (k : Fin 3) (s : State) : sensorTrip k s =
    if s.on (sensorEnable k) && !((k : Nat) == 0 && s.pwr.porstLow) && !s.pwr.noSupply then zeroiseAll (k + 2) s else s :=
  match k with
  | 0 => rfl
  | 1 => rfl
  | 2 => rfl

theorem sensorTrip_enabled {k : Fin 3} (he : s.on (sensorEnable k) = true) (hn : s.pwr.noSupply = false) (hs : s.live) :
    sensorTrip k s = zeroiseAll (k + 2) s := by
  rw [State.live] at hs
  simp [sensorTrip_eq, he, hn, hs]

theorem sensorTrip_disabled {k : Fin 3} (he : s.on (sensorEnable k) = false) : sensorTrip k s = s := by
  simp [sensorTrip_eq, he]

theorem epochAdvance_due (h : s.kv.epochDue = true) :
    epochAdvance s = burnEpoch (modKv (fun v => { v with epochDue := false }) s) := by
  simp [epochAdvance, h]

theorem epochAdvance_none (h : s.kv.epochDue = false) : epochAdvance s = s := by
  simp [epochAdvance, h]

theorem epoch_burnEpoch (s : State) : epoch (burnEpoch s) = min 64 (epoch s + 1) := by
  have h : min 64 (epoch s + 1) < 2 ^ Reg.KV_STATE.EPOCH.w := Nat.lt_of_le_of_lt (Nat.min_le_left _ _) (by decide)
  exact (State.get_put_self s _ _).trans (Nat.mod_eq_of_lt h)

end

/-! ## The counter journal (R223, R227, R228) -/

/-- The key behind a counter reference, as the journal names it. -/
def journalKey (ref : Nat) (s : State) : Nat := if ref < 4096 then (slotOf s ref).key else (s.kv.secrets.get (ref - 4096)).wkey.key

/-- The reservation that is written next for a key. -/
def nextRes (key : Nat) (s : State) : Nat := journalRes s (Config.fpr key) + 65536

/-- The journal with the next reservation of a key at its end. -/
def journalAdd (key : Nat) (good : Bool) (s : State) : State :=
  (modSec (fun c => { c with journal := c.journal ++ [(Config.fpr key, nextRes key s, good)] })
    (if good then s else secInc Reg.SEC_JRNL_BAD.CNT s)).emit (.lanes "flash journal" (journalOctets (Config.fpr key) (nextRes key s)))

section
variable {ref : Nat} {good : Bool} {l : Lease} {s : State}

theorem journalWritten_noLease (h : (ctrOf s ref).lease = none) : journalWritten ref good s = s := by
  simp only [journalWritten, h]

theorem journalWritten_noWait (h : (ctrOf s ref).lease = some l) (hj : l.journal = false) : journalWritten ref good s = s := by
  simp [journalWritten, h, hj]

theorem journalWritten_good (h : (ctrOf s ref).lease = some l) (hj : l.journal = true) (hr : l.hw ≤ nextRes (journalKey ref s) s) :
    journalWritten ref true s = leaseSettle ref (modCtr ref (fun c => { c with lease := some { l with journal := false } })
      (journalFill (journalCompact (journalAdd (journalKey ref s) true s)))) := by
  rw [nextRes, journalKey] at hr
  simp only [journalWritten, h, hj, hr]
  rfl

theorem journalWritten_bad (h : (ctrOf s ref).lease = some l) (hj : l.journal = true) :
    journalWritten ref false s = journalFill (journalCompact (journalAdd (journalKey ref s) false s)) := by
  simp only [journalWritten, h, hj]
  rfl

end

/-! ## Supplies, PORST_N and the boot (R431, R432, R453, R479, R494, R509 to R514) -/

/-- What the Warden has done after a release when it looks at the life-cycle state. -/
def wardenReleased (flash : Bool) (s : State) : State :=
  let b := lcRoll (loupeLoad (modFw (fun f => { f with flash := flash }) (modPwr (fun p => { p with porstLow := false }) s)))
  ((b.put Reg.KV_STATE.EPOCH b.otp.epoch).put Reg.FW_SVN.SVN b.otp.svn).emit (.pin "XSPI_RESET_N" 1)

/-- What is left of the part without its supply. -/
def unsupplied (stage : Nat) (s : State) : State :=
  let t := ((abandoned stage (fun _ => []) s).put Reg.KV_STATE.CAUSE 0).put Reg.KV_STATE.STATE 0
  { t with kv := { t.kv with epochDue := false, kekD := true, drbg := true }, pwr := { t.pwr with noSupply := true }, out := [] }

section
variable {s : State}

theorem supplyRampUp_unsupplied (h : s.pwr.noSupply = true) : supplyRampUp s =
    { s with pwr := { s.pwr with noSupply := false, porstLow := true }, out := powerUpPins } := by
  simp [supplyRampUp, h]

theorem supplyRampUp_supplied (h : s.pwr.noSupply = false) : supplyRampUp s = s := by
  simp [supplyRampUp, h]

theorem porstAssert_unsupplied (h : s.pwr.noSupply = true) (stage : Nat) : porstAssert stage s = s := by
  simp [porstAssert, h]

theorem porstAssert_supplied (h : s.pwr.noSupply = false) (stage : Nat) : porstAssert stage s = abandoned stage keptSlots s := by
  simp [porstAssert, h]

theorem supplyLoss_unsupplied (h : s.pwr.noSupply = true) (stage : Nat) : supplyLoss stage s = s := by
  simp [supplyLoss, h]

theorem supplyLoss_supplied (h : s.pwr.noSupply = false) (stage : Nat) : supplyLoss stage s = unsupplied stage s := by
  rw [supplyLoss, if_neg (Bool.eq_false_iff.1 h)]
  rfl

variable {flash : Bool}

theorem porstRelease_none (h : s.pwr.noSupply = true ∨ s.pwr.porstLow = false) : porstRelease flash s = s := by
  rcases h with h | h <;> simp [porstRelease, h]

theorem porstRelease_held (hn : s.pwr.noSupply = false) (hp : s.pwr.porstLow = true) : porstRelease flash s =
    if (wardenReleased flash s).get Reg.LC_STATE.STATE = 4 then wardenReleased flash s
    else bootSelect (tamperCheck (wardenReleased flash s)) := by
  simp only [porstRelease, hn, hp]
  rfl

theorem porstRelease_retired (hn : s.pwr.noSupply = false) (hp : s.pwr.porstLow = true)
    (hl : (wardenReleased flash s).get Reg.LC_STATE.STATE = 4) : porstRelease flash s = wardenReleased flash s := by
  rw [porstRelease_held hn hp, if_pos hl]

theorem porstRelease_boots (hn : s.pwr.noSupply = false) (hp : s.pwr.porstLow = true)
    (hl : (wardenReleased flash s).get Reg.LC_STATE.STATE ≠ 4) :
    porstRelease flash s = bootSelect (tamperCheck (wardenReleased flash s)) := by
  rw [porstRelease_held hn hp, if_neg hl]

theorem bootImage_none (h : s.fw.bootSlot = none) : bootImage s = s := by
  simp only [bootImage, h]

theorem bootImage_ready {k : Nat} (h : s.fw.bootSlot = some k) (hi : s.on Reg.MEM_STAT.INIT_DONE = true)
    (hl : s.get Reg.LC_STATE.STATE ≠ 4) : bootImage s = bootBoth (runSync (((setBank 0 { img := slotAt s k, verified := true }
      (modFw (fun f => { f with bootSlot := none }) s)).put Reg.FW_STAT.RUN_BANK 0).put Reg.FW_STAT.BOOT_SLOT k)) := by
  simp [bootImage, h, hi, hl]

end

/-! ## The commands on a live block, and those at the pins -/

section
variable {s : State} (hs : s.live)
include hs

/-- Every vault command that comes by the registers, by its code. -/
theorem run_regCommand (h : regBusy s.cleared = false) (code : Nat) (fn : Fin 257) (a : VArgs) :
    run (vaultSubmit ⟨true, fn⟩ code a) s = .next (settle s (vaultStart s.cleared.clk
      (regEnter (modKv (fun v => { v with regWait := some (regCommand code a s.cleared) }) s.cleared)))) := by
  rw [run_live hs, vaultSubmit_reg, regSubmit_free code a h]

theorem exec_keyGenerate (src : VSrc) (a : VArgs) : exec (.keyGenerate src a) s = .next (settle s (vaultSubmit src 1 a s.cleared)) :=
  run_live hs _

theorem exec_kvRandom (src : VSrc) (a : VArgs) : exec (.kvRandom src a) s = .next (settle s (vaultSubmit src 9 a s.cleared)) :=
  run_live hs _

theorem exec_kvInvalidCode {code : Fin 256} (h : code.val = 0 ∨ 11 < code.val) (a : VArgs) :
    exec (.kvInvalidCode code a) s = run (vaultSubmit ⟨true, 0⟩ code a) s := by
  have hc : ¬ (1 ≤ code.val ∧ code.val ≤ 11) := by omega
  rw [show exec (.kvInvalidCode code a) s = execKvInvalidCode code a s from rfl, execKvInvalidCode, run_live hs, run_live hs]
  simp [hc]

theorem exec_kvCommandComplete (ofs : Fin 122880) :
    exec (.kvCommandComplete ofs) s = .next (settle s (kvComplete ofs s.cleared)) := run_live hs _

theorem exec_journalEntryWritten (ref : Fin 8392704) (good : Bool) :
    exec (.journalEntryWritten ref good) s = .next (settle s (journalWritten ref good s.cleared)) := run_live hs _

theorem exec_epochAdvance : exec .epochAdvance s = .next (settle s (epochAdvance s.cleared)) := run_live hs _

theorem exec_entropyHealthFail : exec .entropyHealthFail s = .next (settle s (s.cleared.put Reg.KV_STATE.ENT_OK 0)) :=
  run_live hs (fun t => t.put Reg.KV_STATE.ENT_OK 0)

theorem exec_entropyRecovery : exec .entropyRecovery s = .next (settle s
    ((modKv (fun v => { v with drbg := !zeroised s.cleared }) s.cleared).put Reg.KV_STATE.ENT_OK 1)) :=
  run_live hs (fun t => (modKv (fun v => { v with drbg := !zeroised t }) t).put Reg.KV_STATE.ENT_OK 1)

theorem exec_sramInitDone_first (h : s.cleared.on Reg.MEM_STAT.INIT_DONE = false) : exec .sramInitDone s = .next (settle s
    (((s.cleared.put Reg.MEM_STAT.INIT_DONE 1).put Reg.HIF_STAT.READY 1).putB Reg.SEC_STAT.JRNL_OK s.cleared.fw.flash)) := by
  rw [show exec .sramInitDone s = execSramInitDone s from rfl, execSramInitDone, run_live hs, h]
  rfl

theorem exec_sramInitDone_again (h : s.cleared.on Reg.MEM_STAT.INIT_DONE = true) :
    exec .sramInitDone s = .next (settle s s.cleared) := by
  rw [show exec .sramInitDone s = execSramInitDone s from rfl, execSramInitDone, run_live hs, h]
  rfl

theorem exec_bootImageVerified : exec .bootImageVerified s = .next (settle s (bootImage s.cleared)) := run_live hs _

end

section
variable (s : State)

theorem exec_tamperEvent (ns : Nat) (low : Bool) :
    exec (.tamperEvent ns low) s = .next (settle s (tamperEvent ns low s.cleared)) := runPin_eq _ s

theorem exec_sensorTrip (k : Fin 3) : exec (.sensorTrip k) s = .next (settle s (sensorTrip k s.cleared)) := runPin_eq _ s

theorem exec_supplyRampUp : exec .supplyRampUp s = .next (settle s (supplyRampUp s.cleared)) := runPin_eq _ s

theorem exec_porstAssert (stage : Fin 6) : exec (.porstAssert stage) s = .next (settle s (porstAssert stage s.cleared)) := runPin_eq _ s

theorem exec_supplyLoss (stage : Fin 6) : exec (.supplyLoss stage) s = .next (settle s (supplyLoss stage s.cleared)) := runPin_eq _ s

theorem exec_porstRelease (flash : Bool) : exec (.porstRelease flash) s = .next (settle s (porstRelease flash s.cleared)) :=
  runPin_eq _ s

end

/-! ## The obligations -/

/-- Settles O2: every command's next state is settled. -/
theorem everyCommandAnswers : Obligations.EveryCommandAnswers := by
  intro c s
  obtain ⟨t, ht⟩ := exec_settles c s
  exact ⟨_, ht, settle_safe s t⟩

/-- Settles O3, by induction on the queue. -/
theorem queueRunsInOrder : Obligations.QueueRunsInOrder := fun s => runSteps_empties_queue s.pending s rfl

/-- Settles O5: what is programmed grows with every step. -/
theorem everyStepKeepsInv : Obligations.EveryStepKeepsInv := fun _ _ _ hstep ha => OtpS.le_trans ha (step_keeps_otp hstep)

/-- Settles O6: the part modelled holds exactly its fuses and no record pair. -/
theorem resetMeetsInv : Obligations.ResetMeetsInv := by
  intro a
  simp [State.Inv, OtpS.le, State.reset]

/-- Settles O39: a register command by `regSubmit`, a ring command by `vaultSubmit`, each with and without its turn and room. -/
theorem vaultSubmission : Obligations.VaultSubmission := by
  intro fn a code e s hs
  refine ⟨fun h => ?_, fun h => regEnter_full h, fun h => ?_, fun h => ?_, fun hn hr => ?_, fun hn hr => ?_, fun hn hr => ?_, fun hn => ?_⟩
  · exact congrArg (vaultStart s.cleared.clk) (regEnter_waiting _ h)
  · rw [exec_keyGenerate hs, vaultSubmit_reg, regSubmit_busy 1 a h]
  · have hc (n : Nat) := run_regCommand hs h n fn a
    refine ⟨hc 1, hc 2, hc 3, hc 4, hc 5, hc 6, hc 7, hc 8, hc 9, hc 10, hc 11, fun hcode => ?_⟩
    rw [exec_kvInvalidCode hs hcode, run_regCommand hs h]
    rfl
  · rw [exec_keyGenerate hs, vaultSubmit_ring 1 a fn hn hr]
    rfl
  · rw [exec_kvRandom hs, vaultSubmit_ring 9 a fn hn hr]
    rfl
  · rw [exec_keyGenerate hs, vaultSubmit_ringFull 1 a fn hn hr]
  · rw [exec_keyGenerate hs, vaultSubmit_ringIdle 1 a fn hn]

/-- Settles O40: nothing before the command's time is over, then its end by what `refusal` answers. -/
theorem vaultCompletion : Obligations.VaultCompletion := by
  intro ofs c r s hs
  refine ⟨fun h => ?_, fun h hc => ?_, fun h hc hr => ?_, fun h hc hr ho => ?_⟩
  · rw [exec_kvCommandComplete hs, kvComplete_idle (s := s.cleared) h, asOf_eq]
  · rw [exec_kvCommandComplete hs, kvComplete_early (s := s.cleared) h hc, asOf_eq]
  · rw [exec_kvCommandComplete hs, kvComplete_due (s := s.cleared) h hc, ← asOf_eq, vaultFinish_done hr]
    rfl
  · rw [exec_kvCommandComplete hs, kvComplete_due (s := s.cleared) h hc, ← asOf_eq, vaultFinish_denied hr ho]
    rfl

/-- Settles O41: each code's own equation of `vaultEffect`, read at the slot that the command names, and the other slots' frame. -/
theorem vaultEffects : Obligations.VaultEffects := by
  intro c s
  refine ⟨vaultEffect_generate s, vaultEffect_import s, fun h hg => ?_, fun h hk => ?_, fun h => ?_, fun h => ?_, vaultEffect_query s,
    vaultEffect_attest s, vaultEffect_random s, vaultEffect_nodeImport s, fun j hj => slotOf_vaultEffect_ne s hj⟩
  · rw [vaultEffect_stage s h, hg, slotOf_modSlot_self]
    rfl
  · rw [vaultEffect_commit_slot s h hk]
    exact ⟨slotOf_modSlot_self _ _ s, rfl⟩
  · rw [vaultEffect_cancel s h, slotOf_modSlot_self]
    exact ⟨rfl, rfl⟩
  · rw [vaultEffect_destroy s h]
    have hd : slotOf (modSlot c.args.slot (fun _ => default) s) c.args.slot = default := slotOf_modSlot_self _ _ s
    exact ⟨congrArg Slot.active hd, congrArg Slot.key hd, Tab.find?_erase_self _ _⟩

/-- Settles O42: what a zeroise leaves, when a pulse or a sensor makes one, and the advance of the epoch that follows. The model's own
operation has the name `zeroise`. -/
theorem zeroiseObligation : Obligations.Zeroise := by
  intro ns low k cause s
  have hkv := zeroise_kv cause s
  refine ⟨⟨congrArg KvS.slots hkv, congrArg KvS.secrets hkv, congrArg KvS.kekD hkv, congrArg KvS.drbg hkv, congrArg KvS.epochDue hkv,
    zeroise_cache cause s, zeroise_state cause s, zeroise_cause cause s, zeroise_flag cause s⟩, fun h hn => ?_, fun h => ?_,
    fun he hn hl => ?_, fun he => ?_, fun hl hd => ?_, fun hl hd => ?_, fun hl => ⟨exec_entropyHealthFail hl, exec_entropyRecovery hl⟩⟩
  · rw [exec_tamperEvent, tamperEvent_acts (s := s.cleared) (tamperActs_of_long h) hn]
  · rw [exec_tamperEvent, tamperEvent_filtered (s := s.cleared) (tamperActs_of_short h)]
  · rw [exec_sensorTrip, sensorTrip_enabled (s := s.cleared) he hn hl]
  · rw [exec_sensorTrip, sensorTrip_disabled (s := s.cleared) he]
  · refine ⟨_, exec_epochAdvance hl, ?_⟩
    rw [epochAdvance_due (s := s.cleared) hd]
    exact ⟨rfl, epoch_burnEpoch _, rfl⟩
  · rw [exec_epochAdvance hl, epochAdvance_none (s := s.cleared) hd]

/-- Settles O43: `journalWritten` without a lease that waits, with a good entry and with a bad one. -/
theorem counterJournal : Obligations.CounterJournal := by
  intro ref good l s hs
  refine ⟨fun h => ?_, fun h hj => ?_, fun h hj hg hr => ?_, fun h hj hg => ?_⟩
  · rw [exec_journalEntryWritten hs, journalWritten_noLease (s := s.cleared) h]
  · rw [exec_journalEntryWritten hs, journalWritten_noWait (s := s.cleared) h hj]
  · subst hg
    rw [exec_journalEntryWritten hs, journalWritten_good (s := s.cleared) h hj hr]
    rfl
  · subst hg
    rw [exec_journalEntryWritten hs, journalWritten_bad (s := s.cleared) h hj]
    rfl

/-- Settles O54: each command at the supplies and PORST_N with the supply and without, and the boot up to the clusters. -/
theorem resetsAndBoot : Obligations.ResetsAndBoot := by
  intro flash stage k s
  refine ⟨fun h => ?_, fun h => ?_, fun h => ⟨?_, ?_⟩, fun h => ?_, fun h => ?_, fun h => ?_, fun hn hp hl => ?_, fun hn hp hl => ?_,
    exec_sramInitDone_first, exec_sramInitDone_again, fun hs hk hi hl => ?_, fun hs hk => ?_⟩
  · rw [exec_supplyRampUp, supplyRampUp_unsupplied (s := s.cleared) h]
  · rw [exec_supplyRampUp, supplyRampUp_supplied (s := s.cleared) h]
  · rw [exec_porstAssert, porstAssert_unsupplied (s := s.cleared) h]
  · rw [exec_supplyLoss, supplyLoss_unsupplied (s := s.cleared) h]
  · rw [exec_porstAssert, porstAssert_supplied (s := s.cleared) h]
  · rw [exec_supplyLoss, supplyLoss_supplied (s := s.cleared) h]
    rfl
  · rw [exec_porstRelease, porstRelease_none (s := s.cleared) h]
  · rw [exec_porstRelease, porstRelease_retired (s := s.cleared) hn hp hl]
    rfl
  · rw [exec_porstRelease, porstRelease_boots (s := s.cleared) hn hp hl]
    rfl
  · rw [exec_bootImageVerified hs, bootImage_ready (s := s.cleared) hk hi hl]
    rfl
  · rw [exec_bootImageVerified hs, bootImage_none (s := s.cleared) hk]

end Sys2Proof.Machine

/-! # Forwarding and flooding (chapter 8)

The timers of flooded messages, the seen cache and reassembly, the commands of the exact-match and node tables, the upkeep of the tables
with the shadow comparer, and the obligations that they settle. -/

/-! ## Intervals of flooded messages (R281) -/

namespace Sys2Proof.Machine

/-- Where the time of every entry of a list is still to come, none is over. -/
theorem filter_over_eq_nil {α : Type} {l : List α} {time : α → Nat} {now : Nat} (h : l.all (fun x => decide (now < time x)) = true) :
    l.filter (fun x => decide (time x ≤ now)) = [] :=
  List.filter_eq_nil_iff.2 fun x hx => by simpa using List.all_eq_true.1 h x hx

/-- A message as it goes into its next interval. -/
def FloodMsg.nextInterval (m : FloodMsg) (s : State) : FloodMsg :=
  { m with start := m.start + m.interval, interval := min (2 * m.interval) (iMax s m.tenant), count := m.count + 1, heard := 0,
           fired := m.kept.isSome, shot := false, waits := false }

/-- A message whose timer fires now: due for transmission unless k consistent copies have been heard. -/
def FloodMsg.fire (m : FloodMsg) (s : State) : FloodMsg :=
  { m with shot := true, fired := decide (m.heard < max 1 (s.get (Reg.FLD_Tt_CFG.K m.tenant))), fireClk := s.clk }

/-- A transmission that found no window is counted as its interval ends. -/
def countSkipped (m : FloodMsg) (s : State) : State := s.incIf (m.fired && m.kept.isNone) Reg.FLD_NO_WIN.CNT

theorem intervalEnd_eq (m : FloodMsg) (s : State) : intervalEnd m s =
    modFld (fun f => { f with buf := f.buf.map (fun x => if x = m then m.nextInterval s else x) }) (countSkipped m s) := rfl

theorem fld_countSkipped (m : FloodMsg) (s : State) : (countSkipped m s).fld = s.fld := by
  unfold countSkipped
  cases m.fired && m.kept.isNone <;> rfl

theorem maxIntervals_countSkipped (m : FloodMsg) (s : State) (t : Nat) : maxIntervals (countSkipped m s) t = maxIntervals s t := by
  have hk : Reg.FLD_NO_WIN.CNT.key ≠ (Reg.FLD_Tt_CFG.EXPIRATIONS t).key := by
    simp only [Fld.key, Reg.FLD_NO_WIN.CNT, Reg.FLD_Tt_CFG.EXPIRATIONS]
    omega
  rw [maxIntervals, countSkipped, State.get_incIf_ne s _ hk, maxIntervals]

section
variable {s : State}

theorem floodIntervals_none (h : s.fld.buf.all (fun y => decide (s.ms < y.start + y.interval)) = true) : floodIntervals s = s := by
  have hdue : s.fld.buf.filter (fun m => decide (m.start + m.interval ≤ s.ms) && decide (m.count < maxIntervals s m.tenant)) = [] :=
    List.filter_eq_nil_iff.2 fun m hm => by simp [Nat.not_le.2 (of_decide_eq_true (List.all_eq_true.1 h m hm))]
  rw [floodIntervals, hdue, forEach_nil]

theorem floodIntervals_single {m : FloodMsg} (hb : s.fld.buf = [m]) (ht : m.start + m.interval ≤ s.ms)
    (hc : m.count < maxIntervals s m.tenant) :
    floodIntervals s = modFld (fun f => { f with buf := [m.nextInterval s] }) (countSkipped m s) := by
  have hdue : s.fld.buf.filter (fun m => decide (m.start + m.interval ≤ s.ms) && decide (m.count < maxIntervals s m.tenant)) = [m] := by
    simp [hb, ht, hc]
  rw [floodIntervals, hdue, forEach_cons, forEach_nil, intervalEnd_eq, modFld, modFld, fld_countSkipped, hb]
  simp

/-! ## The Trickle timer and the end of a message (R281) -/

section
variable {i : Nat} {m : FloodMsg} (hi : s.fld.buf[i]? = some m)
  (ha : s.fld.buf.all (fun y => decide (s.ms < y.start + y.interval)) = true)
include hi ha

theorem trickleFire_due (hs : m.shot = false) (he : s.effOn Reg.FLD_CTRL.EN = true) (ht : m.start + m.interval / 2 ≤ s.ms)
    (hc : m.count < maxIntervals s m.tenant) :
    trickleFire i s = modFld (fun f => { f with buf := s.fld.buf.set i (m.fire s) }) s := by
  simp only [trickleFire, floodIntervals_none ha, hi, hs, he, Nat.not_lt.2 ht, Nat.not_le.2 hc]
  rfl

theorem trickleFire_idle (h : m.shot = true ∨ s.effOn Reg.FLD_CTRL.EN = false ∨ s.ms < m.start + m.interval / 2) :
    trickleFire i s = s := by
  rcases h with h | h | h <;> simp [trickleFire, floodIntervals_none ha, hi, h]

end

theorem trickleExpiry_none (h : s.fld.buf.all (fun y => decide (s.ms < y.start + y.interval)) = true) : trickleExpiry s =
    fldSync (modFld (fun f => { f with buf := f.buf.filter (fun m => decide (m.count < maxIntervals s m.tenant)) }) s) := by
  rw [trickleExpiry, floodIntervals_none h]

section
variable {m : FloodMsg} (hb : s.fld.buf = [m]) (ht : m.start + m.interval ≤ s.ms)
include hb ht

theorem trickleExpiry_single (hc : m.count < maxIntervals s m.tenant) : trickleExpiry s =
    fldSync (modFld (fun f => { f with buf := [m.nextInterval s].filter (fun x => decide (x.count < maxIntervals s x.tenant)) })
      (countSkipped m s)) := by
  have hmax : ∀ f t, maxIntervals (modFld f (countSkipped m s)) t = maxIntervals s t := fun _ t => maxIntervals_countSkipped m s t
  simp only [trickleExpiry, floodIntervals_single hb ht hc, hmax]
  rfl

/-- A message after its last interval leaves the buffer. -/
theorem trickleExpiry_last (hc : m.count + 1 = maxIntervals s m.tenant) :
    trickleExpiry s = fldSync (modFld (fun f => { f with buf := [] }) (countSkipped m s)) := by
  have hover : ¬ (m.nextInterval s).count < maxIntervals s (m.nextInterval s).tenant := Nat.not_lt.2 (Nat.le_of_eq hc.symm)
  have hleaves : [m.nextInterval s].filter (fun x => decide (x.count < maxIntervals s x.tenant)) = [] :=
    List.filter_cons_of_neg fun h => hover (of_decide_eq_true h)
  rw [trickleExpiry_single hb ht (by omega), hleaves]

/-- A message before its last interval stays, its next one twice as long up to I_max. -/
theorem trickleExpiry_next (hc : m.count + 1 < maxIntervals s m.tenant) :
    trickleExpiry s = fldSync (modFld (fun f => { f with buf := [m.nextInterval s] }) (countSkipped m s)) := by
  have hstays : [m.nextInterval s].filter (fun x => decide (x.count < maxIntervals s x.tenant)) = [m.nextInterval s] :=
    List.filter_cons_of_pos (decide_eq_true hc)
  rw [trickleExpiry_single hb ht (by omega), hstays]

end

/-! ## What the flood engine's counts of entries leave of the rest -/

theorem fld_fldSync (s : State) : (fldSync s).fld = s.fld := rfl

theorem get_bufUsed_fldSync (s : State) : (fldSync s).get Reg.FLD_STAT.BUF_USED = s.fld.buf.length % 2 ^ Reg.FLD_STAT.BUF_USED.w :=
  State.get_put_self _ _ _

theorem get_noWin_fldSync (s : State) : (fldSync s).get Reg.FLD_NO_WIN.CNT = s.get Reg.FLD_NO_WIN.CNT := by
  rw [fldSync, State.get_put_ne _ _ (by decide), State.get_put_ne _ _ (by decide)]

/-! ## The seen cache (R283) -/

theorem seenExpire_none (h : s.fld.seen.all (fun y => decide (s.clk < y.expire)) = true) : seenExpire s = fldSync s := by
  have hkept : s.fld.seen.filter (fun y => decide (s.clk < y.expire)) = s.fld.seen := List.filter_eq_self.2 (List.all_eq_true.1 h)
  rw [seenExpire, filter_over_eq_nil h, modFld, hkept]
  rfl

theorem seenExpire_single {x : Seen} {d : Seed} (hx : s.fld.seen = [x]) (he : x.expire ≤ s.clk) (hd : s.fld.seeds = [d])
    (ht : d.tenant = x.tenant) (hs : d.seed = x.seed) (ho : serialOlder x.seq d.minSeq = false) :
    seenExpire s = fldSync (modFld (fun f => { f with seen := [], seeds := [{ d with minSeq := (x.seq + 1) % 256 }] }) s) := by
  simp [seenExpire, modFld, hx, hd, he, Nat.not_lt.2 he, ht, hs, ho]

/-! ## Reassembly (R274) -/

theorem reassemblyExpire_none (h : s.fwd.reasm.all (fun y => decide (s.clk < y.deadline)) = true) :
    reassemblyExpire s = s.incBy Reg.FWD_REASM_TO.CNT 0 := by
  have hkept : (s.incBy Reg.FWD_REASM_TO.CNT 0).fwd.reasm.filter (fun y => decide (s.clk < y.deadline)) = s.fwd.reasm :=
    List.filter_eq_self.2 (List.all_eq_true.1 h)
  rw [reassemblyExpire, filter_over_eq_nil h, modFwd, List.length_nil, hkept]
  rfl

theorem reassemblyExpire_single {c : Reasm} (hc : s.fwd.reasm = [c]) (hd : c.deadline ≤ s.clk) :
    reassemblyExpire s = modFwd (fun w => { w with reasm := [] }) (s.incBy Reg.FWD_REASM_TO.CNT 1) := by
  have hgone : s.fwd.reasm.filter (fun y => decide (y.deadline ≤ s.clk)) = [c] := by simp [hc, hd]
  have hkept : (s.incBy Reg.FWD_REASM_TO.CNT 1).fwd.reasm.filter (fun y => decide (s.clk < y.deadline)) = [] := by
    rw [show (s.incBy Reg.FWD_REASM_TO.CNT 1).fwd.reasm = [c] from hc]
    simp [Nat.not_lt.2 hd]
  rw [reassemblyExpire, hgone, modFwd, List.length_singleton, hkept]
  rfl

end

/-! ## Table commands (R258, R259, R268, R269) -/

section
variable {s : State}

theorem tcmdSettle_over (hb : s.on Reg.FWD_TCMD.BUSY = true) (h : s.fwd.tcmdEnd ≤ s.clk) :
    tcmdSettle s = (s.put Reg.FWD_TCMD.STATUS s.fwd.tcmdStatus).put Reg.FWD_TCMD.BUSY 0 := by
  simp [tcmdSettle, hb, h]

section
variable {ofs : Nat} (hw : windowOn s Reg.FWD_TCMD.GO.addr = true) (op table clocks : Nat) (f : State → State × Nat)
include hw

theorem tcmd_busy (hb : (tcmdSettle (s.at ofs)).on Reg.FWD_TCMD.BUSY = true) :
    tcmd ofs op table clocks f s = (tcmdSettle (s.at ofs)).inc Reg.FWD_TCMD_IGN.CNT := by
  rw [tcmd, regAccess_on hw]
  simp only [hb, if_true]

theorem tcmd_free (hb : (tcmdSettle (s.at ofs)).on Reg.FWD_TCMD.BUSY = false) :
    tcmd ofs op table clocks f s = tcmdAnswer clocks (f (tcmdStart op table (tcmdSettle (s.at ofs)))) := by
  rw [tcmd, regAccess_on hw]
  simp only [hb, Bool.false_eq_true, if_false]

end

section
variable {tb : Nat}

theorem tableRead_bad (h : 2 ≤ tb) : tableRead tb s = (s, stBadEntry) := if_pos h

theorem tableRead_entry (h : tb < 2) (ho : tableOff s tb = false) (hb : s.get Reg.FWD_TLOC.BUCKET < 98304) :
    tableRead tb s = (bufPut Reg.FWD_TBUFi.WORD
      (emtPack (emtAt s tb (4 * s.get Reg.FWD_TLOC.BUCKET + s.get Reg.FWD_TLOC.SLOT))) s, stOk) := by
  simp [tableRead, Nat.not_le.2 h, ho, Nat.not_le.2 hb]

theorem tableSearch_bad (h : 2 ≤ tb ∨ (tbuf s).okType = false) : tableSearch tb s = (s, stBadEntry) := by
  rcases h with h | h <;> simp [tableSearch, h]

theorem tableSearch_notFound (h : tb < 2) (ho : tableOff s tb = false) (ht : (tbuf s).okType = true)
    (hf : emtFind s tb (tbuf s).ty (tbuf s).tenant (tbuf s).key = none) : tableSearch tb s = (s, stNotFound) := by
  simp [tableSearch, Nat.not_le.2 h, ho, ht, hf]

theorem tableDeleteAll_bad (ht : (tbuf s).okType = false) : tableDeleteAll tb s = (s, stBadEntry) := by
  simp [tableDeleteAll, ht]

/-! ## An operation on the entry with a key, in one table -/

variable {e : EmtEntry}

theorem tableDelete_notFound (hf : emtFind s tb e.ty e.tenant e.key = none) : tableDelete tb e s = (s, stNotFound) := by
  simp only [tableDelete, hf]

theorem tableReplace_notFound (hf : emtFind s tb e.ty e.tenant e.key = none) : tableReplace tb e s = (s, stNotFound) := by
  simp only [tableReplace, hf]

variable {k : Nat} (hf : emtFind s tb e.ty e.tenant e.key = some k)
include hf

theorem tableDelete_found : tableDelete tb e s = (emtClear tb k s, stOk) := by
  simp only [tableDelete, hf]

theorem emtInsert_exists : emtInsert tb e s = (s, stExists) := by
  simp [emtInsert, hf]

theorem tableReplace_static (ho : (emtAt s tb k).origin = 2) : tableReplace tb e s = (emtPut tb k e s, stOk) := by
  simp only [tableReplace, hf, ho, if_true]

/-- REPLACE changes STATIC entries alone. -/
theorem tableReplace_unstatic (ho : (emtAt s tb k).origin ≠ 2) : tableReplace tb e s = (s, stOrigin) := by
  simp only [tableReplace, hf, ho, if_false]

end

end

/-! ## Node-table commands (R251, R486) -/

/-- OP and REGION of a node-table command take the values written. -/
def ntcmdStart (op : Nat) (region : Fin 2) (s : State) : State := (s.put Reg.FWD_NTCMD.OP op).put Reg.FWD_NTCMD.REGION region

/-- NTCMD_READ of entry `i`, whose index lies in its table. -/
def ntRead (region : Fin 2) (i : Nat) (s : State) : State × Nat :=
  if region = 0 then (bufPut Reg.FWD_NTBUFi.WORD (nthPack (nthOf s i)) s, 0)
  else (bufPut Reg.FWD_NTBUFi.WORD (ntcPack (ntcOf (ntcRead i s) i)) (ntcRead i s), 0)

/-- The NT-C entry that FWD_NTBUF holds. -/
def ntbuf (s : State) : NtC := ntcUnpack (fun j => s.get (Reg.FWD_NTBUFi.WORD j))

/-- NTCMD_WRITE of entry `i`, whose index lies in its table. -/
def ntWrite (region : Fin 2) (i : Nat) (s : State) : State × Nat :=
  if region = 0 || (ntcOf s i).isLocal || (ntbuf s).isLocal then (s, 2) else (writeNtc i (ntbuf s) s, 0)

section
variable {s : State}

section
variable {op : Nat} {region : Fin 2} {f : Nat → State → State × Nat} (hw : windowOn s Reg.FWD_NTCMD.GO.addr = true)
include hw

theorem ntcmd_on : ntcmd op region f s =
    let t := ntcmdStart op region s
    let i := t.get Reg.FWD_NTIDX.INDEX
    let r := if region.val = 0 && decide (262144 ≤ i) then (t, 1) else f i t
    r.1.put Reg.FWD_NTCMD.STATUS r.2 :=
  regAccess_on hw _

/-- An NT-H index beyond the table. -/
theorem ntcmd_beyond (hr : region = 0) (hi : 262144 ≤ (ntcmdStart op region s).get Reg.FWD_NTIDX.INDEX) :
    ntcmd op region f s = (ntcmdStart op region s).put Reg.FWD_NTCMD.STATUS 1 := by
  rw [ntcmd_on hw]
  simp [hi, Fin.val_eq_zero_iff.2 hr]

theorem ntcmd_within (hi : region = 1 ∨ (ntcmdStart op region s).get Reg.FWD_NTIDX.INDEX < 262144) {r : State × Nat}
    (hr : f ((ntcmdStart op region s).get Reg.FWD_NTIDX.INDEX) (ntcmdStart op region s) = r) :
    ntcmd op region f s = r.1.put Reg.FWD_NTCMD.STATUS r.2 := by
  have hc : (decide (region.val = 0) && decide (262144 ≤ (ntcmdStart op region s).get Reg.FWD_NTIDX.INDEX)) = false := by
    rcases hi with h | h <;> simp [h, Nat.not_le.2]
  rw [ntcmd_on hw]
  simp only [hc, Bool.false_eq_true, if_false, hr]

end

variable {i : Nat}

theorem ntRead_nth : ntRead 0 i s = (bufPut Reg.FWD_NTBUFi.WORD (nthPack (nthOf s i)) s, 0) := rfl

theorem ntRead_ntc (h : ntcOpen s = true) : ntRead 1 i s = (bufPut Reg.FWD_NTBUFi.WORD (ntcPack (ntcOf s i)) s, 0) := by
  have hr : ntcRead i s = s := if_pos h
  rw [ntRead, hr]
  rfl

theorem ntWrite_nth : ntWrite 0 i s = (s, 2) := rfl

theorem ntWrite_ntc (h : (ntcOf s i).isLocal = false) (hx : (ntbuf s).isLocal = false) :
    ntWrite 1 i s = (writeNtc i (ntbuf s) s, 0) := by
  simp [ntWrite, h, hx]

/-- Entries of LOCAL = 1 are neither overwritten nor written. -/
theorem ntWrite_local (h : (ntcOf s i).isLocal = true ∨ (ntbuf s).isLocal = true) : ntWrite 1 i s = (s, 2) := by
  rcases h with h | h <;> simp [ntWrite, h]

end

/-! ## Rebuild, join fill and aging (R262 to R264) -/

/-- A rebuild begins: the table is empty and is being cleared, and no copy of the speculative slots stands. -/
def rebuildStart (p : Nat) (s : State) : State :=
  emtSync p (modPipe p (fun x => { x with emt := [], learnQ := [] }) (staleAll
    ((((s.put (Reg.FWD_EMTp_CTRL.REBUILD p) 1).put (Reg.FWD_EMTp_STAT.CLEARING p) 1).put (Reg.FWD_EMTp_STAT.NEED_REHASH p) 0).put
      (Reg.FWD_EMTp_STAT.JOIN_DONE p) 0)))

/-- The JOIN entries of a pipeline's tenants are all in. -/
def joinFilled (p : Nat) (s : State) : State :=
  ((joinInstall p (fun t => s.eff (Reg.FWD_Tt_CFG.FP t) == p) s).put (Reg.FWD_EMTp_CTRL.JOIN_FILL p) 0).put
    (Reg.FWD_EMTp_STAT.JOIN_DONE p) 1

/-! ## Confirmation of a difference, and reads of the log (R270 to R272) -/

section
variable {s : State}

theorem shadowConfirm_off (h : comparerOn s = false) (x : Option EmtEntry) : shadowConfirm x s = comparerOff s := by
  simp [shadowConfirm, h]

section
variable (hc : comparerOn s = true)
include hc

theorem shadowConfirm_idle (h : s.on Reg.FWD_SHADOW_CFG.PAUSE = true ∨ s.fwd.diffs = []) (x : Option EmtEntry) :
    shadowConfirm x s = s := by
  rcases h with h | h <;> simp [shadowConfirm, hc, h]

variable (hp : s.on Reg.FWD_SHADOW_CFG.PAUSE = false) {d : Diff} {l : List Diff} (hd : s.fwd.diffs = d :: l) (hdue : d.due ≤ s.core.ticks)
include hp hd hdue

theorem shadowConfirm_readErr : shadowConfirm none s = shadowReadErr s := by
  simp [shadowConfirm, hc, hp, hd, Nat.not_lt.2 hdue]

variable {e : EmtEntry} {r : State} (hr : modFwd (fun w => { w with diffs := l }) s = r)
include hr

/-- A difference that something touched since, or that is gone, is left out of the log. -/
theorem shadowConfirm_gone (h : d.touched = true ∨ stillDiffers r d e = false) : shadowConfirm (some e) s = r := by
  rcases h with h | h <;> simp [shadowConfirm, hc, hp, hd, Nat.not_lt.2 hdue, hr, h]

theorem shadowConfirm_diverges (ht : d.touched = false) (h : stillDiffers r d e = true) :
    shadowConfirm (some e) s = diverge d e r := by
  simp [shadowConfirm, hc, hp, hd, Nat.not_lt.2 hdue, hr, ht, h]

end

/-- The log loses its oldest entry, and FWD_DIV shows the one after it. -/
def divPop (s : State) : State := divSync (modFwd (fun w => { w with divLog := w.divLog.drop 1 }) s)

section
variable (hw : windowOn s Reg.FWD_DIV.VALID.addr = true)
include hw

theorem divRead_empty (h : s.fwd.divLog = []) : divRead s = (divPop s).emit (.readWord 0 Reg.FWD_DIV.VALID.addr 0) := by
  simp [divRead, hw, h, divPop]

theorem divRead_oldest {t k sid : Nat} {q : List (Nat × Nat × Nat)} (h : s.fwd.divLog = (t, k, sid) :: q) :
    divRead s = (divPop s).emit (.readWord 0 Reg.FWD_DIV.VALID.addr (t + 2 * k + 8 + 65536 * sid)) := by
  simp [divRead, hw, h, divPop]

end

end

/-! ## The commands on a live block -/

section
variable {s : State} (hs : s.live)
include hs

theorem exec_trickleFire (i : Fin 256) : exec (.trickleFire i) s = .next (settle s (trickleFire i s.cleared)) := run_live hs _

theorem exec_trickleExpiry : exec .trickleExpiry s = .next (settle s (trickleExpiry s.cleared)) := run_live hs _

theorem exec_seenEntryExpiry : exec .seenEntryExpiry s = .next (settle s (seenExpire s.cleared)) := run_live hs _

theorem exec_reassemblyTimeout : exec .reassemblyTimeout s = .next (settle s (reassemblyExpire s.cleared)) := run_live hs _

theorem exec_emtClearDone (p : Fin 2) : exec (.emtClearDone p) s = .next (settle s (s.cleared.put (Reg.FWD_EMTp_STAT.CLEARING p) 0)) :=
  run_live hs (fun t => t.put (Reg.FWD_EMTp_STAT.CLEARING p) 0)

theorem exec_emtRebuild (p : Fin 2) : exec (.emtRebuild p) s = .next (settle s (regAccess (Reg.FWD_EMTp_CTRL.REBUILD p).addr
    (fun t => if t.on (Reg.FWD_EMTp_CTRL.REBUILD p) then t else rebuildStart p t) s.cleared)) := run_live hs _

theorem exec_joinFill (p : Fin 2) : exec (.joinFill p) s = .next (settle s (regAccess (Reg.FWD_EMTp_CTRL.JOIN_FILL p).addr
    (fun t => (t.put (Reg.FWD_EMTp_CTRL.JOIN_FILL p) 1).put (Reg.FWD_EMTp_STAT.JOIN_DONE p) 0) s.cleared)) := run_live hs _

/-- JOIN_FILL_DONE fills a table whose filling was asked for, and does nothing else. -/
theorem exec_joinFillDone (p : Fin 2) : exec (.joinFillDone p) s = .next (settle s
    (if !s.cleared.on (Reg.FWD_EMTp_CTRL.JOIN_FILL p) then s.cleared else joinFilled p s.cleared)) :=
  run_live hs (fun t => if !t.on (Reg.FWD_EMTp_CTRL.JOIN_FILL p) then t else joinFilled p t)

/-- AGE = 0 turns aging off, and the walker of a pipeline that is off stands still. -/
theorem exec_agingWalk : exec .agingWalk s = .next (settle s (if s.cleared.get Reg.FWD_LEARN.AGE = 0 then s.cleared
    else when (pdOn s.cleared 21) (ageTable 1) (when (pdOn s.cleared 20) (ageTable 0) s.cleared))) :=
  run_live hs (fun t => if t.get Reg.FWD_LEARN.AGE = 0 then t else when (pdOn t 21) (ageTable 1) (when (pdOn t 20) (ageTable 0) t))

theorem exec_shadowConfirm (x : Option EmtEntry) : exec (.shadowConfirm x) s = .next (settle s (shadowConfirm x s.cleared)) :=
  run_live hs _

theorem exec_fwdDivRead : exec .fwdDivRead s = .next (settle s (divRead s.cleared)) := run_live hs _

theorem exec_ntcmdRead (region : Fin 2) :
    exec (.ntcmdRead region) s = .next (settle s (ntcmd 0 region (ntRead region) s.cleared)) := run_live hs _

theorem exec_ntcmdWrite (region : Fin 2) :
    exec (.ntcmdWrite region) s = .next (settle s (ntcmd 1 region (ntWrite region) s.cleared)) := run_live hs _

section
variable (ofs : Fin 122880) (tb : Fin 4)

theorem exec_tcmdRead : exec (.tcmdRead ofs tb) s = .next (settle s (tcmd ofs 1 tb 12 (tableRead tb) s.cleared)) := run_live hs _

theorem exec_tcmdSearch : exec (.tcmdSearch ofs tb) s = .next (settle s (tcmd ofs 2 tb 12 (tableSearch tb) s.cleared)) := run_live hs _

/-- An insertion takes no more than its bound on each table that it is made in. -/
theorem exec_tcmdInsert (took : Fin 4113) : exec (.tcmdInsert ofs tb took) s = .next (settle s
    (tcmd ofs 3 tb (min took (insertClocks s.cleared (if tb.val = 1 then 1 else 0) + (if tb.val = 2 then insertClocks s.cleared 1 else 0)))
      (tableInsertAll tb) s.cleared)) := by
  rw [show exec (.tcmdInsert ofs tb took) s = execTcmdInsert ofs tb took s from rfl, execTcmdInsert, run_live hs]
  simp only [Fin.ext_iff]
  rfl

theorem exec_tcmdDelete :
    exec (.tcmdDelete ofs tb) s = .next (settle s (tcmd ofs 4 tb (12 * tablesOf tb) (tableDeleteAll tb) s.cleared)) := run_live hs _

theorem exec_tcmdReplace :
    exec (.tcmdReplace ofs tb) s = .next (settle s (tcmd ofs 5 tb (12 * tablesOf tb) (tableReplaceAll tb) s.cleared)) := run_live hs _

theorem exec_tcmdInvalidOp (op : Fin 3) : exec (.tcmdInvalidOp ofs op tb) s = .next (settle s
    (tcmd ofs (if op.val = 0 then 0 else 5 + op.val) tb 0 (fun t => (t, stBadEntry)) s.cleared)) := by
  rw [show exec (.tcmdInvalidOp ofs op tb) s = execTcmdInvalidOp ofs op tb s from rfl, execTcmdInvalidOp, run_live hs]
  simp only [Fin.ext_iff]
  rfl

end

end

/-! ## The obligations -/

/-- Settles O32: each timer with nothing that is due and with a single entry that is. -/
theorem floodTimers : Obligations.FloodTimers := by
  intro i m x d c s hs
  refine ⟨fun hi ha => ⟨fun hshot he ht hc => ?_, fun h => ?_⟩, fun h => ?_, fun hb ht hc => ?_, fun hb ht hc => ?_, fun h => ?_,
    fun hx he hd ht hseed ho => ?_, fun h => ?_, fun hc hd => ?_⟩
  · rw [exec_trickleFire hs, trickleFire_due hi ha hshot he ht hc]
    rfl
  · rw [exec_trickleFire hs, trickleFire_idle hi ha h]
  · rw [exec_trickleExpiry hs, trickleExpiry_none h]
    rfl
  · refine ⟨_, exec_trickleExpiry hs, ?_⟩
    rw [trickleExpiry_last hb ht hc, settle_fld, settle_get, settle_get, fld_fldSync, get_bufUsed_fldSync, get_noWin_fldSync, modFld_get,
      modFld_fld, fld_countSkipped]
    exact ⟨rfl, rfl, rfl, rfl⟩
  · refine ⟨_, exec_trickleExpiry hs, ?_⟩
    rw [trickleExpiry_next hb ht hc, settle_fld, fld_fldSync, modFld_fld, fld_countSkipped]
    rfl
  · rw [exec_seenEntryExpiry hs, seenExpire_none h]
  · rw [exec_seenEntryExpiry hs, seenExpire_single hx he hd ht hseed ho]
    rfl
  · rw [exec_reassemblyTimeout hs, reassemblyExpire_none h]
  · rw [exec_reassemblyTimeout hs, reassemblyExpire_single hc hd]
    rfl

/-- Settles O36: the commands while one runs and while none does, then what each operation answers by the table and the entry. -/
theorem tableCommands : Obligations.TableCommands := by
  intro ofs tb took op k s hs hw
  refine ⟨fun hb => ?_, fun hb => ?_, fun ht ho => ⟨fun hk => ?_, fun hk => ?_, fun hf => ?_, fun hf => ?_⟩, fun hb h => ?_, fun h => ?_⟩
  · rw [exec_tcmdRead hs, exec_tcmdInsert hs, tcmd_busy (s := s.cleared) hw _ _ _ _ hb, tcmd_busy (s := s.cleared) hw _ _ _ _ hb]
    exact ⟨rfl, rfl⟩
  · rw [exec_tcmdRead hs, exec_tcmdSearch hs, exec_tcmdInsert hs, exec_tcmdDelete hs, exec_tcmdReplace hs, exec_tcmdInvalidOp hs]
    simp only [tcmd_free (s := s.cleared) hw _ _ _ _ hb]
    exact ⟨rfl, rfl, rfl, rfl, rfl, rfl⟩
  · exact tableRead_entry ht ho hk
  · exact ⟨tableSearch_bad (.inr hk), tableDeleteAll_bad hk⟩
  · exact ⟨fun hk => tableSearch_notFound ht ho hk hf, tableDelete_notFound hf, tableReplace_notFound hf⟩
  · exact ⟨tableDelete_found hf, emtInsert_exists hf, tableReplace_static hf, tableReplace_unstatic hf⟩
  · exact tcmdSettle_over hb h
  · exact ⟨tableRead_bad h, tableSearch_bad (.inl h)⟩

/-- Settles O37: both commands with the window off, and with it on by region, index and LOCAL. -/
theorem nodeTableCommands : Obligations.NodeTableCommands := by
  intro region s hs
  refine ⟨fun hw => ?_, fun hw => ⟨fun hr hi => ?_, fun hr hi => ?_, fun hr ho => ?_, fun hr hi => ?_, fun hr hl hx => ?_, fun hr h => ?_⟩⟩
  · rw [exec_ntcmdRead hs, exec_ntcmdWrite hs, ntcmd, ntcmd, regAccess_off hw, regAccess_off hw]
    exact ⟨rfl, rfl⟩
  all_goals subst hr
  · rw [exec_ntcmdRead hs, ntcmd_within hw (.inr hi) ntRead_nth]
    rfl
  · rw [exec_ntcmdRead hs, ntcmd_beyond hw rfl hi]
    rfl
  · rw [exec_ntcmdRead hs, ntcmd_within hw (.inl rfl) (ntRead_ntc ho)]
    rfl
  · rw [exec_ntcmdWrite hs, ntcmd_within hw (.inr hi) ntWrite_nth]
    rfl
  · rw [exec_ntcmdWrite hs, ntcmd_within hw (.inl rfl) (ntWrite_ntc hl hx)]
    rfl
  · rw [exec_ntcmdWrite hs, ntcmd_within hw (.inl rfl) (ntWrite_local h)]
    rfl

/-- Settles O38: each command where it acts and where there is nothing to do, and the comparer by what the oldest difference came to. -/
theorem tableUpkeep : Obligations.TableUpkeep := by
  intro p e d l s hs
  refine ⟨fun hw h => ?_, fun hw h => ?_, exec_emtClearDone hs p, fun hw => ?_, fun h => ?_, fun h => ?_, fun h => ?_, fun h h0 h1 => ?_,
    fun h => ?_, fun hc h => ?_, fun hc hp hd hdue => ⟨?_, fun h => ?_, fun ht h => ?_⟩, fun hw h => ?_, fun t k sid q hw h => ?_⟩
  · rw [exec_emtRebuild hs, regAccess_on hw, h]
    rfl
  · rw [exec_emtRebuild hs, regAccess_on hw, if_pos h]
  · rw [exec_joinFill hs, regAccess_on hw]
  · rw [exec_joinFillDone hs, h]
    rfl
  · rw [exec_joinFillDone hs, h]
    rfl
  · rw [exec_agingWalk hs, if_pos h]
  · rw [exec_agingWalk hs, if_neg h, h0, h1, when_false, when_true]
  · rw [exec_shadowConfirm hs, shadowConfirm_off h]
  · rw [exec_shadowConfirm hs, shadowConfirm_idle hc h]
  · rw [exec_shadowConfirm hs, shadowConfirm_readErr hc hp hd hdue]
  · rw [exec_shadowConfirm hs, shadowConfirm_gone hc hp hd hdue rfl h]
  · rw [exec_shadowConfirm hs, shadowConfirm_diverges hc hp hd hdue rfl ht h]
  · rw [exec_fwdDivRead hs, divRead_empty hw h]
    rfl
  · rw [exec_fwdDivRead hs, divRead_oldest hw h]
    rfl

end Sys2Proof.Machine

/-! # The way of a packet to the air, and deliveries to the host (chapters 9, 5 and 10)

The stages from a KICK to the end of a frame, what the host port hands out, the return of space to the secret-backup ring and the polled
frame queue, and the obligations that they settle. -/

namespace Sys2Proof.Machine

/-! ## KICK (R299) -/

/-- The sampling that a KICK makes, which counts against its function's KICKs of the tick (0 stands for all rings). -/
def kickSampled (fn rings : Nat) (b : Bell) (s : State) : State :=
  sampleFn fn (if rings = 0 then 0xFFFF else rings) true b (modFn fn (fun q => { q with kicks := q.kicks + 1 }) s)

section
variable {fn rings ofs : Nat} {b : Bell} {s : State}

theorem kick_off (h : fnOn (s.at ofs) fn = false ∨ (s.at ofs).on (Reg.HIF_FN_CTRL.EN fn) = false) :
    kick fn rings ofs false b s = s.at ofs := by
  rcases h with h | h <;> simp only [kick, h, Bool.not_false, Bool.true_or, Bool.or_true, if_true]

variable (hn : fnOn (s.at ofs) fn = true) (he : (s.at ofs).on (Reg.HIF_FN_CTRL.EN fn) = true)
  (hf : (s.at ofs).on (Reg.HIF_FN_STAT.FLR fn) = false) (hq : (s.at ofs).pwr.quiet = false)
include hn he hf hq

/-- A KICK that is heard is dropped beyond KICK_MAX; else it samples, and its position record waits for the fetches that it started. -/
theorem kick_heard : kick fn rings ofs false b s =
    if (s.at ofs).get Reg.HIF_CFG.KICK_MAX ≤ ((s.at ofs).hif.fns.get fn).kicks then fnCnt fn 0x2040 1 (s.at ofs)
    else if (kickSampled fn rings b (s.at ofs)).hif.fetchQ.any (fun j => j.fn == fn && j.kick) then kickSampled fn rings b (s.at ofs)
    else posRecord fn (kickSampled fn rings b (s.at ofs)) := by
  simp only [kick, hn, he, hf, hq]
  rfl

theorem kick_dropped (h : (s.at ofs).get Reg.HIF_CFG.KICK_MAX ≤ ((s.at ofs).hif.fns.get fn).kicks) :
    kick fn rings ofs false b s = fnCnt fn 0x2040 1 (s.at ofs) := by
  rw [kick_heard hn he hf hq, if_pos h]

theorem kick_recorded (h : ((s.at ofs).hif.fns.get fn).kicks < (s.at ofs).get Reg.HIF_CFG.KICK_MAX)
    (hk : (kickSampled fn rings b (s.at ofs)).hif.fetchQ.any (fun j => j.fn == fn && j.kick) = false) :
    kick fn rings ofs false b s = posRecord fn (kickSampled fn rings b (s.at ofs)) := by
  rw [kick_heard hn he hf hq, if_neg (Nat.not_le.2 h), hk, if_neg Bool.false_ne_true]

end

/-! ## Descriptor fetch (R292, R300 to R302, R322) -/

/-- Reads of host memory are put out, and change nothing of the part. -/
theorem descReads_eq (j : FetchJob) (d : Option Desc) (s : State) : descReads j d s = { s with out := (descReads j d s).out } := by
  cases d with
  | none => rfl
  | some d =>
    simp only [descReads]
    split <;> rfl

theorem descReads_get (j : FetchJob) (d : Option Desc) (s : State) (g : Fld) : (descReads j d s).get g = s.get g := by
  rw [descReads_eq]
  rfl

theorem tqOf_descReads (j : FetchJob) (d : Option Desc) (s : State) (t q : Nat) : tqOf (descReads j d s) t q = tqOf s t q := by
  rw [descReads_eq]
  rfl

theorem descBad_descReads (j : FetchJob) (d : Option Desc) (s : State) (t : Nat) (x : Desc) :
    descBad (descReads j d s) t x = descBad s t x := by
  rw [descReads_eq]
  rfl

section
variable {ofs : Nat} {j : FetchJob} {q : List FetchJob} {s : State}

theorem descFetch_none (h : (s.at ofs).hif.fetchQ = []) (o : Option Desc) : descFetch ofs o s = s.at ofs := by
  simp only [descFetch, h]

variable (h : (s.at ofs).hif.fetchQ = j :: q)
include h

theorem descFetch_stopped (hr : ringRunning (s.at ofs) j.fn j.ring = false) (o : Option Desc) :
    descFetch ofs o s = fetchEnd j (s.at ofs) := by
  simp only [descFetch, h, hr, Bool.not_false, Bool.true_or, if_true]

variable (hr : ringRunning (s.at ofs) j.fn j.ring = true) (hc : ringRunning (s.at ofs) j.fn ringTXCPL = true)
  (hroom : ((s.at ofs).hif.fns.get j.fn).outstanding < ringFree (s.at ofs) j.fn ringTXCPL)
include hr hc hroom

theorem descFetch_unreadable :
    descFetch ofs none s = fetchEnd j (ringError j.fn j.ring 4 (descReads j none (s.at ofs))) := by
  simp only [descFetch, h, hr, hc, if_neg (Nat.not_le.2 hroom), Bool.not_true, Bool.or_self, Bool.false_eq_true, if_false]

variable {d : Desc}

theorem descFetch_refused {st : Nat} (hb : descBad (s.at ofs) (descTenant j d) d = some st) : descFetch ofs (some d) s =
    fetchNext j (completeTx (descRef (descReads j (some d) (s.at ofs)) j d) st 0 0 (descCount j d (descReads j (some d) (s.at ofs)))) := by
  simp only [descFetch, h, hr, hc, if_neg (Nat.not_le.2 hroom), descBad_descReads, hb, Bool.not_true, Bool.or_self, Bool.false_eq_true,
    if_false, Option.isNone_some, Bool.false_and, Option.getD_some]

/-- A good descriptor is taken where its packet fits its queue and the pool. -/
theorem descFetch_accepted {p : Packet} (hb : descBad (s.at ofs) (descTenant j d) d = none) (hp : d.pkt = some p)
    (hl : (tqOf (s.at ofs) (descTenant j d) (d.queue % 32)).depth + (wordsOf d.len + 1) ≤
      (s.at ofs).get (Reg.TM_Tt_Qq_CFG.LIMIT (descTenant j d) (d.queue % 32)))
    (hw : wordsOf d.len + 1 ≤ (s.at ofs).get Reg.TM_POOL.FREE) : descFetch ofs (some d) s =
    fetchNext j (descAccept (descRef (descReads j (some d) (s.at ofs)) j d) d p (descCount j d (descReads j (some d) (s.at ofs)))) := by
  simp only [descFetch, h, hr, hc, if_neg (Nat.not_le.2 hroom), descBad_descReads, hb, tqOf_descReads, descReads_get,
    decide_eq_false (Nat.not_lt.2 hl), decide_eq_false (Nat.not_lt.2 hw), hp, Bool.not_true, Bool.or_self, Bool.false_eq_true,
    if_false, Bool.and_false]

end

/-! ## Composition (R163, R221) -/

section
variable {ofs size : Nat} {s : State}

theorem compose_none (h : composeDue (s.at ofs) = []) : compose ofs size s = s.at ofs := by
  simp only [compose, h]

theorem compose_next {d : FDesc} {l : List FDesc} (h : composeDue (s.at ofs) = d :: l) :
    compose ofs size s = composeOne d size (s.at ofs) := by
  simp only [compose, h]

end

/-! ## Launch (R148, R162, R200, R204, R281) -/

/-- A window is marked used. -/
def winUsed (x : WinS) (s : State) : State :=
  modMac (fun m => { m with wins := m.wins.map (fun y => if y = x then { y with used := true } else y) }) s

section
variable {x : WinS} {s : State}

theorem winServe_data (h : x.w.kind = 3) : winServe x s = launchNode x.w.engine { x with used := true } (winUsed x s) := by
  simp only [winServe, h, winUsed]

theorem winServe_firmware (h : x.w.kind = 4) : winServe x s = launchFw x.w.engine x (winUsed x s) := by
  simp only [winServe, h, winUsed]

theorem winServe_csma (h : x.w.kind = 5) : winServe x s = startCsma x.w.engine x (winUsed x s) := by
  simp only [winServe, h, winUsed]

theorem winServe_flood (h : x.w.kind = 6) : winServe x s = launchFlood x.w.engine x (winUsed x s) := by
  simp only [winServe, h, winUsed]

theorem txWindow_single (h : winsDue s = [x]) : txWindow s x.w.engine = some x := by
  simp only [txWindow, h, List.find?_cons, beq_self_eq_true]

theorem winOrder_single (h : winsDue s = [x]) : winOrder s = [x] := by
  rw [winOrder, h]
  rfl

variable {e ofs : Nat}

theorem txLaunch_none (h : txWindow (s.at ofs) e = none) : txLaunch e ofs s = s.at ofs := by
  simp only [txLaunch, h]

/-- The only window due comes after the acknowledgements that are due. -/
theorem txLaunch_single (h : winsDue (s.at ofs) = [x]) (he : x.w.engine = e) :
    txLaunch e ofs s = winServe x (forEach (acksDue (s.at ofs)) ackServe (s.at ofs)) := by
  have hfirst : [x].takeWhile (fun y => y != x) = [] := by simp
  subst he
  simp only [txLaunch, txWindow_single h, winOrder_single h, hfirst, List.nil_append, forEach_cons, forEach_nil]

theorem txLaunch_noAcks (h : winsDue (s.at ofs) = [x]) (he : x.w.engine = e) (ha : acksDue (s.at ofs) = []) :
    txLaunch e ofs s = winServe x (s.at ofs) := by
  rw [txLaunch_single h he, ha, forEach_nil]

end

/-! ## The end of a transmission (R179, R202) -/

/-- A modulator's transmission is over once its on-air time has run. -/
def txOver (m : Nat) (x : TxS) (s : State) : State := txRemove m x (x.start + t3Clocks x.onAir) false s

section
variable {m ofs : Nat} {x : TxS} {s : State}

theorem txEnd_none (h : (s.at ofs).txc.mods.find? m = none) : txEnd m ofs s = s.at ofs := by
  simp only [txEnd, h]

variable (h : (s.at ofs).txc.mods.find? m = some x)
include h

theorem txEnd_onAir (hc : (s.at ofs).clk < x.start + t3Clocks x.onAir) : txEnd m ofs s = s.at ofs := by
  simp only [txEnd, h, if_pos hc]

variable (hc : x.start + t3Clocks x.onAir ≤ (s.at ofs).clk)
include hc

theorem txEnd_data {f : AirFrame} (hk : x.kind = .data f) : txEnd m ofs s = sentFrame x f (txOver m x (s.at ofs)) := by
  simp only [txEnd, h, if_neg (Nat.not_lt.2 hc), hk, txOver]

/-- A frame of firmware that is an acknowledgement is not waited for. -/
theorem txEnd_firmware {f : FwFrame} (hk : x.kind = .fw f) : txEnd m ofs s =
    if f.isAck then txOver m x (s.at ofs) else sentFrame x (fwAir f) (txOver m x (s.at ofs)) := by
  simp only [txEnd, h, if_neg (Nat.not_lt.2 hc), hk, txOver]

theorem txEnd_ack {a : AckPend} (hk : x.kind = .ack a) : txEnd m ofs s = txOver m x (s.at ofs) := by
  simp only [txEnd, h, if_neg (Nat.not_lt.2 hc), hk, txOver]

end

/-! ## Deliveries to the host (R307, R308, R326, R333) -/

/-- The tenant sets with a packet that their function can take and no shaper holds back. -/
def hostReady (s : State) : List Nat :=
  (s.tm.fq.map (·.1)).filter (fun t =>
    decide (t < 256) && (fqHead s t).isSome && canDeliver s t && eligible s (.port portHost) && eligible s (.tenant t portHost))

section
variable {p : FqPkt} {s : State}

theorem hostSelect_exception (hd : canDeliver s 256 = true) (he : eligible s (.port portHost) = true) (h : fqHead s 256 = some p) :
    hostSelect s = deliver 256 (charge (.port portHost) (hostCharge s p) s) := by
  simp only [hostSelect, hd, he, h, Option.isSome_some, Bool.and_self, if_true]

variable (h : fqHead s 256 = none)
include h

/-- With no packet in set 256, the tenant sets that are ready compete by their finish tags. -/
theorem hostSelect_idle (hl : leastTag s ((hostReady s).map leafHost) = none) : hostSelect s = s := by
  rw [hostReady] at hl
  simp only [hostSelect, h, Option.isSome_none, Bool.false_and, Bool.false_eq_true, if_false, hl]

theorem hostSelect_tenant {k : Nat} (hl : leastTag s ((hostReady s).map leafHost) = some k) (hp : fqHead s (k - 8192) = some p) :
    hostSelect s = deliver (k - 8192) (charge (.tenant (k - 8192) portHost) (hostCharge s p)
      (charge (.port portHost) (hostCharge s p) (sentTag portHost k s))) := by
  rw [hostReady] at hl
  simp only [hostSelect, h, Option.isSome_none, Bool.false_and, Bool.false_eq_true, if_false, hl, hp]

end

/-! ## Space in the secret-backup ring (R314) -/

/-- The pass over every VALID record begins. -/
def sbkPassBegin (s : State) : State :=
  modHif (fun h => { h with sbkPass := (List.filter (fun e => e.2.valid) s.kv.secrets).map (·.1), sbkAll := true }) s

section
variable {s : State}

theorem sbkReturn_noOverflow (h : s.on Reg.HIF_STAT.SBK_OVF = false) : sbkReturn s = s := by
  simp only [sbkReturn, h, Bool.not_false, Bool.true_or, if_true]

variable (h : s.on Reg.HIF_STAT.SBK_OVF = true) (hr : ringTakes s 0 ringSBK = true)
include h hr

/-- Space in the ring after an overflow: the pass goes on, or begins. -/
theorem sbkReturn_space : sbkReturn s = sbkDrain (if s.hif.sbkAll then s else sbkPassBegin s) := by
  simp only [sbkReturn, h, hr, sbkPassBegin]
  cases s.hif.sbkAll <;> rfl

theorem sbkReturn_begins (ha : s.hif.sbkAll = false) : sbkReturn s = sbkDrain (sbkPassBegin s) := by
  rw [sbkReturn_space h hr, ha, if_neg Bool.false_ne_true]

theorem sbkReturn_continues (ha : s.hif.sbkAll = true) : sbkReturn s = sbkDrain s := by
  rw [sbkReturn_space h hr, if_pos ha]

end

/-! ## The polled frame queue (R39, R325) -/

section
variable {s : State}

theorem pollTagRead_on (h : windowOn s Reg.FQ_POLL_TAG.TAG.addr = true) : pollTagRead s = pollRead s := if_pos h

theorem pollTagRead_off (h : windowOn s Reg.FQ_POLL_TAG.TAG.addr = false) :
    pollTagRead s = (s.inc Reg.HIF_PD_OFF_ACC.CNT).emit (.readWord 0 Reg.FQ_POLL_TAG.TAG.addr 0) :=
  if_neg (Bool.eq_false_iff.1 h)

theorem pollRead_noSet (h : s.on Reg.FQ_POLL_SEL.EN = false) : pollRead s =
    ((s.put Reg.FQ_POLL_TAG.TAG 0).put Reg.FQ_POLL_TAG.VALID 0).emit (.readWord 0 Reg.FQ_POLL_TAG.TAG.addr 0) := by
  simp only [pollRead, h, Bool.false_and, Bool.false_eq_true, if_false]

end

/-! ## The commands on a live block -/

section
variable {s : State} (hs : s.live)
include hs

theorem exec_kick (fn : Fin 257) (rings : Fin 65536) (ofs : Fin 122880) (merged : Bool) (b : Bell) : exec (.kick fn rings ofs merged b) s =
    .next (settle s (regAccess Reg.HIF_PF_KICK.RINGS.addr (kick fn rings ofs merged b) s.cleared)) := run_live hs _

theorem exec_descriptorFetch (ofs : Fin 122880) (o : Option RawDesc) :
    exec (.descriptorFetch ofs o) s = .next (settle s (descFetch ofs (o.map descUnpack) s.cleared)) := run_live hs _

theorem exec_composeFrame (ofs : Fin 122880) (size : Fin 2048) :
    exec (.composeFrame ofs size) s = .next (settle s (compose ofs size s.cleared)) := run_live hs _

theorem exec_txLaunch (e : Fin 128) (ofs : Fin 122880) :
    exec (.txLaunch e ofs) s = .next (settle s (txLaunch e ofs s.cleared)) := run_live hs _

theorem exec_txEnd (m : Fin 32) (ofs : Fin 122880) : exec (.txEnd m ofs) s = .next (settle s (txEnd m ofs s.cleared)) := run_live hs _

theorem exec_rxDelivery : exec .rxDelivery s = .next (settle s (hostSelect s.cleared)) := run_live hs _

theorem exec_sbkSpaceReturn : exec .sbkSpaceReturn s = .next (settle s (sbkReturn s.cleared)) := run_live hs _

theorem exec_fqPollTagRead : exec .fqPollTagRead s = .next (settle s (pollTagRead s.cleared)) := run_live hs _

end

/-! ## The obligations -/

/-- Settles O29: each stage where it has nothing to do and where it acts; at the launch by the window's kind, at the end by the frame's. -/
theorem transmitPath : Obligations.TransmitPath := by
  intro fn rings ofs b p o raw j q st fd fl size e x m tx f g ak s hs hw
  refine ⟨fun h => ?_, fun hn he hf hq h => ?_, fun hn he hf hq h hk => ?_, fun h => ?_, fun h hr => ?_,
    fun h hr hc hroom => ⟨?_, fun hb hp hl hpool => ?_, fun hb => ?_⟩, fun h => ?_, fun h => ?_, fun h => ?_,
    fun h he ha => ⟨fun hk => ?_, fun hk => ?_, fun hk => ?_, fun hk => ?_⟩, fun h he => ?_, fun h => ?_, fun h hc => ?_,
    fun h hc => ⟨fun hk => ?_, fun hk hg => ?_, fun hk hg => ?_, fun hk => ?_⟩⟩
  · rw [exec_kick hs, regAccess_on hw, kick_off h, asOf_eq]
  · rw [exec_kick hs, regAccess_on hw, kick_dropped hn he hf hq h, asOf_eq]
  · rw [exec_kick hs, regAccess_on hw, kick_recorded hn he hf hq h hk]
    rfl
  · rw [exec_descriptorFetch hs, descFetch_none h, asOf_eq]
  · rw [exec_descriptorFetch hs, descFetch_stopped h hr, asOf_eq]
  · rw [exec_descriptorFetch hs, Option.map_none, descFetch_unreadable h hr hc hroom, asOf_eq]
  · rw [exec_descriptorFetch hs, Option.map_some, descFetch_accepted h hr hc hroom hb hp hl hpool]
    rfl
  · rw [exec_descriptorFetch hs, Option.map_some, descFetch_refused h hr hc hroom hb]
    rfl
  · rw [exec_composeFrame hs, compose_next h, asOf_eq]
  · rw [exec_composeFrame hs, compose_none h, asOf_eq]
  · rw [exec_txLaunch hs, txLaunch_none h, asOf_eq]
  · rw [exec_txLaunch hs, txLaunch_noAcks h he ha, winServe_data hk, he]
    rfl
  · rw [exec_txLaunch hs, txLaunch_noAcks h he ha, winServe_firmware hk, he]
    rfl
  · rw [exec_txLaunch hs, txLaunch_noAcks h he ha, winServe_csma hk, he]
    rfl
  · rw [exec_txLaunch hs, txLaunch_noAcks h he ha, winServe_flood hk, he]
    rfl
  · rw [exec_txLaunch hs, txLaunch_single h he, asOf_eq]
  · rw [exec_txEnd hs, txEnd_none h, asOf_eq]
  · rw [exec_txEnd hs, txEnd_onAir h hc, asOf_eq]
  · rw [exec_txEnd hs, txEnd_data h hc hk]
    rfl
  · rw [exec_txEnd hs, txEnd_firmware h hc hk, hg]
    rfl
  · rw [exec_txEnd hs, txEnd_firmware h hc hk, hg]
    rfl
  · rw [exec_txEnd hs, txEnd_ack h hc hk]
    rfl

/-- Settles O34: the host port by what it selects, the backup ring by its overflow and pass, and the polled read by its window and set. -/
theorem hostDeliveries : Obligations.HostDeliveries := by
  intro p k s hs
  refine ⟨fun hd he h => ?_, fun h hl => ?_, fun h hl hp => ?_, fun h => ?_, fun h hr ha => ?_, fun h hr ha => ?_, fun h => ?_,
    fun h => ?_, pollRead_noSet⟩
  · rw [exec_rxDelivery hs, hostSelect_exception hd he h]
  · rw [exec_rxDelivery hs, hostSelect_idle h hl]
  · rw [exec_rxDelivery hs, hostSelect_tenant h hl hp]
  · rw [exec_sbkSpaceReturn hs, sbkReturn_noOverflow h]
  · rw [exec_sbkSpaceReturn hs, sbkReturn_begins h hr ha]
    rfl
  · rw [exec_sbkSpaceReturn hs, sbkReturn_continues h hr ha]
  · rw [exec_fqPollTagRead hs, pollTagRead_on h]
  · rw [exec_fqPollTagRead hs, pollTagRead_off h]

end Sys2Proof.Machine

/-! # The Ethernet and backhaul ports (chapters 8, 10 and 17)

What an Ethernet port selects, how a packet from one meets the policer and goes into forwarding, and what the loss and the return of a
link do; then the obligation that they settle. -/

namespace Sys2Proof.Machine

/-! ## Selection (R331, R333, R334) -/

/-- The packet count of a queue and the address of a next hop are registers of their own. -/
theorem mac_tqSync (t q r : Nat) (s : State) : (tqSync t q s).get (Reg.FWD_NHr_MAC.MAC r) = s.get (Reg.FWD_NHr_MAC.MAC r) := by
  refine State.get_put_ne s _ ?_
  simp only [Fld.key, Reg.TM_Tt_Qq_STAT.PKTS, Reg.FWD_NHr_MAC.MAC]
  omega

/-- The head of queue `k` leaves by port `p`, with `rest` behind it: its finish tag is taken, the three shapers are charged, its words go
back to the pool and it counts. -/
def ethDepart (p k : Nat) (x : EthPkt) (rest : List EthPkt) (s : State) : State :=
  let t := k / 32
  let q := k % 32
  let c := ethCharge s p x
  tqCnt t q 3 c (tqCnt t q 1 1 (tqTel t q (fun y => { y with dep := y.dep + 1 }) (poolGive x.words
    (charge (.queue t q) c (charge (.tenant t p) c (charge (.port p) c
      (sentTag p k (modTq t q (fun y => { y with eth := rest }) s))))))))

section
variable {p : Nat} {s : State}

theorem ethSelect_down (h : s.tm.linkUp.contains p = false) : ethSelect p s = s := by
  simp only [ethSelect, h, Bool.not_false, Bool.or_true, if_true]

/-- The packet of the least finish tag leaves, and the one behind it becomes its queue's head. -/
theorem ethSelect_least {k : Nat} {x y : EthPkt} {l : List EthPkt} (he : s.effOn Reg.TM_CTRL.EN = true)
    (hup : s.tm.linkUp.contains p = true) (hk : leastTag s (ethEligible s p) = some k)
    (hq : (tqOf s (k / 32) (k % 32)).eth = x :: y :: l) :
    let d := ethDepart p k x (y :: l) s
    let z := tqSync (k / 32) (k % 32) (headTag p k (ethCharge d p y) d)
    ethSelect p s = z.emit (.eth p (k / 32) (k % 32) x.octets (z.get (Reg.FWD_NHr_MAC.MAC x.nh)) (Config.vlan (k / 32)) x.pkt) := by
  simp only [mac_tqSync, ethSelect, he, hup, hk, hq, Bool.not_true, Bool.or_self, Bool.false_eq_true, if_false, ethDepart]

end

/-! ## A packet of the backhaul (R276, R331) -/

theorem police_off {t c : Nat} {s : State} (h : s.on (Bucket.policer t).enFld = false) : police t c s = (s, true) := by
  simp only [police, h, Bool.not_false, if_true]

section
variable {p t : Nat} {pkt : Packet} {s : State}

theorem backhaulIn_down (h : s.tm.linkUp.contains p = false) : backhaulIn p t pkt s = s := by
  simp only [backhaulIn, h, Bool.not_false, Bool.true_or, if_true]

/-- At a port that is up, a packet that no policer holds enters forwarding by its destination. -/
theorem backhaulIn_forwards (hup : s.tm.linkUp.contains p = true) (hpd : pdOn s 24 = true)
    (hpol : s.on (Bucket.policer t).enFld = false) (hf : s.effOn Reg.FWD_CTRL.EN = true) :
    backhaulIn p t pkt s = if isMulticast pkt.dst then multicastIn t pkt s
      else downlinkIn t true (Config.fwdProfile s.core.free % 16) (Config.fwdAr s.core.free) pkt s.drawn := by
  simp only [backhaulIn, hup, hpd, police_off hpol, hf, Bool.not_true, Bool.or_self, Bool.false_eq_true, if_false]

end

/-! ## The link (R334, R490, R518) -/

/-- A port loses its link, which Loupe counts. -/
def linkLost (p : Nat) (s : State) : State :=
  modTm (fun t => { t with linkUp := setDel t.linkUp p, ethSince := t.ethSince.setD 0 p s.core.ticks }) (lpe (0x070 + p) s)

/-- A port gets a link. -/
def linkGained (p : Nat) (s : State) : State := modTm (fun t => { t with linkUp := setAdd t.linkUp p }) s

/-- A port's transmit pair is inverted, or is so no longer. -/
def pairInverted (p : Nat) (s : State) : State :=
  modTm (fun t => { t with
    ethFlip := if t.ethFlip.contains p then setDel t.ethFlip p else t.ethFlip ++ [p]
    ethSince := t.ethSince.setD 0 p s.core.ticks }) s

/-! ## The commands on a live block -/

section
variable {s : State} (hs : s.live)
include hs

theorem exec_portSelect (p : Fin 3) : exec (.portSelect p) s =
    .next (settle s (if p.val = portHost then hostSelect s.cleared else ethSelect p s.cleared)) :=
  run_live hs (fun u => if p.val = portHost then hostSelect u else ethSelect p u)

theorem exec_portSelect_eth (p : Fin 2) : exec (.portSelect (p.castAdd 1)) s = .next (settle s (ethSelect p s.cleared)) := by
  rw [exec_portSelect hs, if_neg (show (p.castAdd 1).val ≠ portHost from Nat.ne_of_lt p.isLt), Fin.val_castAdd]

theorem exec_portSelect_host : exec (.portSelect 2) s = .next (settle s (hostSelect s.cleared)) := exec_portSelect hs 2

theorem exec_backhaulPacket (p : Fin 2) (t : Fin 256) (pkt : Packet) :
    exec (.backhaulPacket p t pkt) s = .next (settle s (backhaulIn p t pkt s.cleared)) := run_live hs _

variable {p : Fin 2}

theorem exec_ethLinkDown : exec (.ethLinkDown p) s =
    .next (settle s (if s.cleared.tm.linkUp.contains p.val then linkLost p s.cleared else s.cleared)) :=
  run_live hs (fun u => if u.tm.linkUp.contains p.val then linkLost p u else u)

theorem exec_ethLinkUp : exec (.ethLinkUp p) s =
    .next (settle s (if pdOn s.cleared 24 then linkGained p s.cleared else s.cleared)) := run_live hs _

/-- An inversion waits for a port that is powered and has been without a link for 500 ms since the last one or the loss. -/
theorem exec_ethTxPolarityFlip : exec (.ethTxPolarityFlip p) s = .next (settle s
    (if s.cleared.tm.linkUp.contains p.val || s.cleared.core.ticks < s.cleared.tm.ethSince.getD 0 p + 4000 || !pdOn s.cleared 24
      then s.cleared else pairInverted p s.cleared)) :=
  run_live hs (fun u => if u.tm.linkUp.contains p.val || u.core.ticks < u.tm.ethSince.getD 0 p + 4000 || !pdOn u 24 then u
    else pairInverted p u)

theorem exec_ethTxPolarityFlip_inverts (hup : s.cleared.tm.linkUp.contains p.val = false)
    (hw : s.cleared.tm.ethSince.getD 0 p + 4000 ≤ s.cleared.core.ticks) (hpd : pdOn s.cleared 24 = true) :
    exec (.ethTxPolarityFlip p) s = .next (settle s (pairInverted p s.cleared)) := by
  simp only [exec_ethTxPolarityFlip hs, hup, hpd, decide_eq_false (Nat.not_lt.2 hw), Bool.not_true, Bool.or_self, Bool.false_eq_true,
    if_false]

theorem exec_ethTxPolarityFlip_waits (h : s.cleared.tm.linkUp.contains p.val = true ∨
    s.cleared.core.ticks < s.cleared.tm.ethSince.getD 0 p + 4000) :
    exec (.ethTxPolarityFlip p) s = .next (settle s s.cleared) := by
  rw [exec_ethTxPolarityFlip hs]
  rcases h with hup | hw
  · simp only [hup, Bool.true_or, if_true]
  · simp only [decide_eq_true hw, Bool.or_true, Bool.true_or, if_true]

end

/-! ## The obligation -/

/-- Settles O35: a port's selection and a packet of the backhaul by whether the port has a link, and the events of the link. -/
theorem ethernetPorts : Obligations.EthernetPorts := by
  intro p tn pkt k x y l s hs
  refine ⟨fun h => ?_, exec_portSelect_host hs, fun he hup hk hq => ?_, fun h => ?_, fun hup hpd hpol hf => ⟨fun hm => ?_, fun hm => ?_⟩,
    fun h => ?_, fun h => ?_, fun h => ?_, exec_ethTxPolarityFlip_inverts hs, exec_ethTxPolarityFlip_waits hs⟩
  · rw [exec_portSelect_eth hs, ethSelect_down h]
  · rw [exec_portSelect_eth hs, ethSelect_least he hup hk hq]
    rfl
  · rw [exec_backhaulPacket hs, backhaulIn_down h]
  · rw [exec_backhaulPacket hs, backhaulIn_forwards hup hpd hpol hf, if_pos hm]
  · rw [exec_backhaulPacket hs, backhaulIn_forwards hup hpd hpol hf, hm, if_neg Bool.false_ne_true]
  · rw [exec_ethLinkDown hs, if_pos h]
    rfl
  · rw [exec_ethLinkUp hs, if_pos h]
    rfl
  · rw [exec_ethLinkUp hs, h, if_neg Bool.false_ne_true]

end Sys2Proof.Machine

/-! # The step, Reticle time and PTP (chapter 11)

The queue's front command and PORST_N low, the servo, the reads of Reticle time, the pulse-per-second pins and the PTP path; then the
obligations that they settle. -/

namespace Sys2Proof.Machine

/-! ## The step (R509, R510) -/

/-- The form of a command's meaning that is not at a pin: PORST_N holds it. -/
theorem exec_holds {c : Instr} (h : pinCommand c = false) (s : State) :
    ∃ t, exec c s = .next (settle s (if s.pwr.porstLow then s.cleared else t)) := by
  cases c with
  | porstAssert | porstRelease | supplyLoss | supplyRampUp | tamperEvent | sensorTrip => cases h
  | _ => exact ⟨_, rfl⟩

theorem settle_cleared (s : State) : settle s s.cleared = s.cleared := by simp [settle, State.cleared]

/-- Settles O1: the front command by the match on the queue, and the table of words, which is empty. -/
theorem stepRunsFrontCommand : Obligations.StepRunsFrontCommand :=
  ⟨fun _ _ _ => rfl, fun _ => step_empty, fun _ _ => ⟨rfl, fun _ => rfl⟩⟩

/-- Settles O4: what every command but those at pins does while PORST_N is low. -/
theorem porstLowHoldsStill : Obligations.PorstLowHoldsStill := by
  intro c s hlow hc
  obtain ⟨t, ht⟩ := exec_holds hc s
  rw [ht, if_pos hlow, settle_cleared]

end Sys2Proof.Machine

namespace Sys2Proof.Machine

/-! ## The servo (R346 to R348, R352, R353, R357) -/

/-- The servo starts anew, with its integrator, its output and its average at 0. -/
def servoFreed (s : State) : State :=
  showServo (modTime (fun t => { t with i := 0, y := 0, yAvg := 0, tPrev := none, first := true, spikes := 0 }) (setServo svFREE s))

/-- The servo goes on with the average of what it has put out. -/
def servoHeld (s : State) : State :=
  showServo (modTime (fun t => { t with y := t.yAvg }) ((setServo svHOLDOVER s).inc Reg.TIME_HOLD_ENTRY.CNT))

/-- HOLD_TO has passed since the last accepted offset. -/
def holdoverDue (s : State) : Bool :=
  (servoState s = svACQUIRE || servoState s = svLOCKED) &&
    decide (s.time.lastAcc + max 1 (s.get Reg.TIME_HOLD.HOLD_TO) * 983040000 ≤ s.clk)

theorem holdoverDue_of_state {s : State} (h : servoState s = svACQUIRE ∨ servoState s = svLOCKED)
    (ht : s.time.lastAcc + max 1 (s.get Reg.TIME_HOLD.HOLD_TO) * 983040000 ≤ s.clk) : holdoverDue s = true := by
  simp [holdoverDue, h, ht]

theorem holdoverDue_eq_false {s : State} (ha : servoState s ≠ svACQUIRE) (hl : servoState s ≠ svLOCKED) : holdoverDue s = false := by
  simp [holdoverDue, ha, hl]

section
variable {s : State} {th : Int}

/-- An offset beyond SPIKE, with fewer than SPIKE_N of them in a row, is dropped. -/
theorem servoOffset_spike (hf : s.time.first = false) (hh : s.time.holdFirst = false)
    (hs : s.get Reg.TIME_FILT.SPIKE * 65536 < th.natAbs) (hn : s.time.spikes + 1 < max 1 (s.get Reg.TIME_FILT.SPIKE_N)) :
    servoOffset th s = (modTime (fun t => { t with spikes := s.time.spikes + 1 })
      (modTime (fun t => { t with first := false, holdFirst := false }) s)).inc Reg.TIME_OFS_SPIKE.CNT := by
  simp only [servoOffset, modTime_get, hf, hh, hs, hn, Bool.or_self, Bool.not_false, Bool.true_and, decide_true, if_true]

/-- An offset within SPIKE is dropped while DISCARD offsets are, and accepted otherwise. -/
theorem servoOffset_within (h : th.natAbs ≤ s.get Reg.TIME_FILT.SPIKE * 65536) :
    let z := modTime (fun t => { t with spikes := 0 }) (modTime (fun t => { t with first := false, holdFirst := false }) s)
    servoOffset th s = if 0 < s.time.discard then (modTime (fun t => { t with discard := t.discard - 1 }) z).inc Reg.TIME_OFS_DISCARD.CNT
      else servoAccept th z := by
  simp only [servoOffset, decide_eq_false (Nat.not_lt.2 h), Bool.and_false, Bool.false_and, Bool.false_eq_true, if_false]
  rfl

end

/-! ## The words of a time (R344) -/

theorem nsOf_lt (t : Nat) : nsOf t < 1000000000 := by
  rw [nsOf, Nat.div_lt_iff_lt_mul (by decide)]
  exact Nat.mod_lt _ (by decide)

section
variable {ns lo hi fr : Fld} (hk : [ns.key, lo.key, hi.key, fr.key].Nodup) (sec n frac : Nat) (s : State)
include hk

theorem get_latchTime_ns : (latchTime ns lo hi fr sec n frac s).get ns = n % 2 ^ ns.w := by
  simp only [List.nodup_cons, List.mem_cons, not_or] at hk
  obtain ⟨⟨hlo, hhi, hfr, -⟩, -⟩ := hk
  rw [latchTime, State.get_put_ne _ _ (Ne.symm hfr), State.get_put_ne _ _ (Ne.symm hhi), State.get_put_ne _ _ (Ne.symm hlo),
    State.get_put_self]

theorem get_latchTime_lo : (latchTime ns lo hi fr sec n frac s).get lo = sec % 2 ^ lo.w := by
  simp only [List.nodup_cons, List.mem_cons, not_or] at hk
  obtain ⟨-, ⟨hhi, hfr, -⟩, -⟩ := hk
  rw [latchTime, State.get_put_ne _ _ (Ne.symm hfr), State.get_put_ne _ _ (Ne.symm hhi), State.get_put_self]

theorem get_latchTime_hi : (latchTime ns lo hi fr sec n frac s).get hi = sec / 2 ^ 32 % 2 ^ hi.w := by
  simp only [List.nodup_cons, List.mem_cons, not_or] at hk
  obtain ⟨-, -, ⟨hfr, -⟩, -⟩ := hk
  rw [latchTime, State.get_put_ne _ _ (Ne.symm hfr), State.get_put_self]

omit hk in
theorem get_latchTime_fr : (latchTime ns lo hi fr sec n frac s).get fr = frac % 2 ^ fr.w := State.get_put_self _ _ _

end

/-! ## The pulse-per-second pins (R349 to R351) -/

/-- The edge is the captured one. -/
def ppsCaptured (rising : Bool) (s : State) : Bool :=
  s.on Reg.TIME_PPS_IN.EN && (rising != s.on Reg.TIME_PPS_IN.POL) && !isDormant s

/-- A second has passed with no edge. -/
def ppsMissing (s : State) : Bool := s.on Reg.TIME_PPS_IN.EN && decide (s.time.ppsMark + 983040000 + 98304 < s.clk)

/-- The missing edge is counted, and the second after it begins. -/
def ppsMissed (s : State) : State := (modTime (fun t => { t with ppsMark := t.ppsMark + 983040000 }) s).inc Reg.TIME_PPS_MISS.CNT

/-- 500 ms have passed since the last rise. -/
def ppsSpaced (s : State) : Bool :=
  match s.time.ppsRise with
  | some c => decide (c + 491520000 ≤ s.clk)
  | none => true

/-- PPS_OUT rises, and falls WIDTH ms later. -/
def ppsRises (s : State) : State :=
  let fall := s.clk + min 999 (max 1 (s.get Reg.TIME_PPS_OUT.WIDTH)) * 983040
  ((modTime (fun t => { t with ppsRise := some s.clk, ppsFall := fall }) s).emit (.pin "PPS_OUT" 1)).emit (.edge "PPS_OUT" 0 fall)

/-- PPS_OUT rises now. -/
def ppsRising (s : State) : Bool := s.on Reg.TIME_PPS_OUT.EN && ppsQual s && ppsDue s && ppsSpaced s

section
variable {s : State}

theorem ppsCaptured_edge {rising : Bool} (he : s.on Reg.TIME_PPS_IN.EN = true) (hr : rising ≠ s.on Reg.TIME_PPS_IN.POL)
    (hd : isDormant s = false) : ppsCaptured rising s = true := by
  simp only [ppsCaptured, he, hd, bne_iff_ne.2 hr, Bool.not_false, Bool.and_self]

theorem ppsCaptured_eq_false {rising : Bool} (h : s.on Reg.TIME_PPS_IN.EN = false ∨ rising = s.on Reg.TIME_PPS_IN.POL) :
    ppsCaptured rising s = false := by
  rcases h with h | h
  · simp only [ppsCaptured, h, Bool.false_and]
  · simp only [ppsCaptured, h, bne_self_eq_false, Bool.and_false, Bool.false_and]

theorem ppsRising_eq_false (h : s.on Reg.TIME_PPS_OUT.EN = false ∨ ppsQual s = false ∨ ppsDue s = false) : ppsRising s = false := by
  rcases h with h | h | h <;> simp only [ppsRising, h, Bool.false_and, Bool.and_false]

theorem ppsSpaced_first (h : s.time.ppsRise = none) : ppsSpaced s = true := by simp only [ppsSpaced, h]

theorem ppsSpaced_early {c : Nat} (h : s.time.ppsRise = some c) (hc : s.clk < c + 491520000) : ppsSpaced s = false := by
  simp only [ppsSpaced, h, decide_eq_false (Nat.not_le.2 hc)]

end

/-! ## The PTP path (R360 to R364) -/

section
variable {s : State}

theorem ptpReceive_other {o : List Byte} (h : ptpForm o = none) (p : Nat) (dev : BitVec 24) : ptpReceive p o dev s = s := by
  simp only [ptpReceive, h]

section
variable {p : Nat} {o : List Byte} {f : PtpForm} (hf : ptpForm o = some f) (hup : s.tm.linkUp.contains p = true) (hpd : pdOn s 24 = true)
  (hd : ptpDiverts s p f = true)
include hf hup hpd hd

theorem ptpReceive_queued (hl : s.time.rxq.length < 64) (dev : BitVec 24) :
    let r := s.inc (Reg.TIME_PTPp_CNT.RX p)
    let a := modTime (fun t => { t with rxq := t.rxq ++
      [{ port := p, octets := o.take 256, ts := ptpStamp p (ptpType o f == 0) dev r }] }) r
    ptpReceive p o dev s = a.put Reg.TIME_PTP_RXSTAT.QUEUED a.time.rxq.length := by
  simp only [ptpReceive, hf, hup, hpd, hd, Bool.not_true, Bool.or_self, Bool.false_eq_true, if_false, State.inc_time,
    Nat.not_le.2 hl]

theorem ptpReceive_full (hl : 64 ≤ s.time.rxq.length) (dev : BitVec 24) :
    ptpReceive p o dev s = (s.inc (Reg.TIME_PTPp_CNT.RX p)).inc Reg.TIME_PTP_RXDROP.CNT := by
  simp only [ptpReceive, hf, hup, hpd, hd, Bool.not_true, Bool.or_self, Bool.false_eq_true, if_false, State.inc_time, hl, if_true]

end

/-- A read that finds nothing shows how many frames wait. -/
def ptpRxNone (s : State) : State :=
  s.emit (.readWord 0 Reg.TIME_PTP_RXSTAT.VALID.addr (s.get Reg.TIME_PTP_RXSTAT.QUEUED * 65536))

theorem ptpRxRead_empty (h : s.time.rxq = []) (fwm : Bool) : ptpRxRead fwm s = ptpRxNone s := by
  simp only [ptpRxRead, h, ite_self]
  rfl

/-- The PF host's read while the firmware owns the path. -/
theorem ptpRxRead_notOwner (h : s.on Reg.TIME_PTP_CTRL.OWNER = false) : ptpRxRead false s = ptpRxNone s := by
  simp only [ptpRxRead, h, Bool.not_false, Bool.and_self, if_true]
  rfl

theorem ptpRxRead_firmware {e : PtpRx} {l : List PtpRx} (h : s.time.rxq = e :: l) :
    ptpRxRead true s = ((bufPut Reg.TIME_PTP_RXDATAi.DATA (wordsLE e.octets 64)
      (latch16 Reg.TIME_PTP_RX_NS.NS Reg.TIME_PTP_RX_SEC_LO.SEC Reg.TIME_PTP_RX_SEC_HI.SEC Reg.TIME_PTP_RX_SEC_HI.FRAC e.ts
        (modTime (fun t => { t with rxq := l }) s))).put Reg.TIME_PTP_RXSTAT.QUEUED l.length).emit
      (.readWord 0 Reg.TIME_PTP_RXSTAT.VALID.addr (1 + 2 * e.port + 4 * e.octets.length + 65536 * l.length)) := by
  simp only [ptpRxRead, h, Bool.not_true, Bool.false_and, Bool.false_eq_true, if_false]

/-- What a write of TIME_PTP_TXCTL stores beside GO. -/
def ptpTxCtl (len p : Nat) (one : Bool) (tag : Nat) (s : State) : State :=
  (((s.put Reg.TIME_PTP_TXCTL.LEN len).put Reg.TIME_PTP_TXCTL.PORT p).putB Reg.TIME_PTP_TXCTL.ONE_STEP one).put Reg.TIME_PTP_TXCTL.TAG tag

section
variable {len p tag : Nat} {one : Bool} {fwm : Bool}

/-- The write of the one that does not own the path. -/
theorem ptpGo_notOwner (h : s.on Reg.TIME_PTP_CTRL.OWNER = fwm) : ptpGo fwm len p one tag s = s := by
  simp only [ptpGo, h, beq_self_eq_true, if_true]

theorem ptpGo_sends (ho : s.on Reg.TIME_PTP_CTRL.OWNER = !fwm) (hb : s.on Reg.TIME_PTP_TXCTL.BUSY = false) (hl : 14 ≤ len)
    (hh : len ≤ 256) :
    let g := ptpTxCtl len p one tag s
    ptpGo fwm len p one tag s = (modTime (fun t => { t with
      tx := some { port := p, oneStep := one, tag := tag, octets := ptpBuffer g len } }) g).put Reg.TIME_PTP_TXCTL.BUSY 1 := by
  cases fwm <;> simp [ptpGo, ptpTxCtl, ho, hb, Nat.not_lt.2 hl, Nat.not_lt.2 hh]

theorem ptpGo_badLength (ho : s.on Reg.TIME_PTP_CTRL.OWNER = !fwm) (hl : len < 14 ∨ 256 < len) :
    ptpGo fwm len p one tag s = ptpTxCtl len p one tag s := by
  have hbad : (decide (len < 14) || decide (256 < len)) = true := by simpa using hl
  cases fwm <;> simp [ptpGo, ptpTxCtl, ho, Bool.or_assoc, hbad]

end

theorem ptpDone_idle (h : s.time.tx = none) (dev : BitVec 24) : ptpDone dev s = s := by simp only [ptpDone, h]

/-- A two-step frame leaves as it is, and its egress timestamp is kept. -/
theorem ptpDone_twoStep {x : PtpTx} (h : s.time.tx = some x) (hup : s.tm.linkUp.contains x.port = true) (hpd : pdOn s 24 = true)
    (h1 : x.oneStep = false) (hl : s.time.tsq.length < 16) (dev : BitVec 24) :
    let d := ((modTime (fun t => { t with tx := none }) s).put Reg.TIME_PTP_TXCTL.BUSY 0).inc (Reg.TIME_PTPp_CNT.TX x.port)
    ptpDone dev s = modTime (fun t => { t with
      tsq := t.tsq ++ [(x.tag, ptpStamp x.port ((ptpForm x.octets).map (ptpType x.octets) == some 1) dev d)] })
      (d.emit (.lanes "ETH PTP" (x.port :: withFcs x.octets))) := by
  simp only [ptpDone, h, hup, hpd, h1, Bool.not_true, Bool.or_self, Bool.false_and, Bool.false_eq_true, if_false, State.emit_time,
    State.inc_time, State.put_time, modTime_time, Nat.not_le.2 hl]

theorem ptpTsRead_empty (h : s.time.tsq = []) : ptpTsRead s = s.emit (.readWord 0 Reg.TIME_PTP_TXTS_STAT.TAG.addr 0) := by
  simp only [ptpTsRead, h]

theorem ptpTsRead_oldest {k ts : Nat} {q : List (Nat × Nat)} (h : s.time.tsq = (k, ts) :: q) :
    ptpTsRead s = (latch16 Reg.TIME_PTP_TXTS_NS.NS Reg.TIME_PTP_TXTS_SEC_LO.SEC Reg.TIME_PTP_TXTS_SEC_HI.SEC Reg.TIME_PTP_TXTS_SEC_HI.FRAC ts
      (modTime (fun t => { t with tsq := q }) s)).emit (.readWord 0 Reg.TIME_PTP_TXTS_STAT.TAG.addr (k + 65536)) := by
  simp only [ptpTsRead, h]

end

/-! ## The commands on a live block -/

section
variable {s : State} (hs : s.live) (ofs : Fin 122880)
include hs

theorem exec_offsetDelivery (fwm : Bool) (ns : BitVec 32) :
    let w := (s.asOf ofs).put Reg.TIME_OFS_NS.NS ns.toNat
    exec (.offsetDelivery ofs fwm ns) s = .next (settle s
      (if w.get Reg.TIME_SERVO.SRC = (if fwm then 2 else 1) then servoOffset (ns.toInt * 65536 + (w.get Reg.TIME_OFS_FRAC.FRAC : Nat)) w
        else w.inc Reg.TIME_OFS_IGN.CNT)) :=
  run_live hs (fun u =>
    let w := (u.at ofs).put Reg.TIME_OFS_NS.NS ns.toNat
    if w.get Reg.TIME_SERVO.SRC = (if fwm then 2 else 1) then servoOffset (ns.toInt * 65536 + (w.get Reg.TIME_OFS_FRAC.FRAC : Nat)) w
    else w.inc Reg.TIME_OFS_IGN.CNT)

theorem exec_servoSrcWrite (src : Fin 4) :
    exec (.servoSrcWrite src) s = .next (settle s (servoFreed (s.cleared.put Reg.TIME_SERVO.SRC src))) :=
  run_live hs (fun u => servoFreed (u.put Reg.TIME_SERVO.SRC src))

theorem exec_servoHoldoverTimeout : exec (.servoHoldoverTimeout ofs) s =
    .next (settle s (if holdoverDue (s.asOf ofs) then servoHeld (s.asOf ofs) else s.asOf ofs)) :=
  run_live hs (fun u => if holdoverDue (u.at ofs) then servoHeld (u.at ofs) else u.at ofs)

theorem exec_ppsInEdge (rising : Bool) (dev : Fin 262145) : exec (.ppsInEdge ofs rising dev) s = .next (settle s
    (if ppsCaptured rising (s.asOf ofs) then ppsEdge (instant dev (s.asOf ofs)) (s.asOf ofs) else s.asOf ofs)) :=
  run_live hs (fun u => if ppsCaptured rising (u.at ofs) then ppsEdge (instant dev (u.at ofs)) (u.at ofs) else u.at ofs)

theorem exec_ppsInMiss : exec (.ppsInMiss ofs) s = .next (settle s
    (if ppsMissing (s.asOf ofs) then ppsMissed (s.asOf ofs) else s.asOf ofs)) :=
  run_live hs (fun u => if ppsMissing (u.at ofs) then ppsMissed (u.at ofs) else u.at ofs)

theorem exec_ppsOutPulse : exec (.ppsOutPulse ofs) s = .next (settle s
    (if ppsRising (s.asOf ofs) then ppsRises (s.asOf ofs) else s.asOf ofs)) :=
  run_live hs (fun u => if ppsRising (u.at ofs) then ppsRises (u.at ofs) else u.at ofs)

theorem exec_timeNowRead : exec (.timeNowRead ofs) s = .next (settle s (timeNowRead (s.asOf ofs))) :=
  run_live hs (fun u => timeNowRead (u.at ofs))

theorem exec_ptpFrameReceived (p : Fin 2) (o : List Byte) (dev : BitVec 24) :
    exec (.ptpFrameReceived ofs p o dev) s = .next (settle s (ptpReceive p o dev (s.asOf ofs))) :=
  run_live hs (fun u => ptpReceive p o dev (u.at ofs))

theorem exec_ptpTxDone (dev : BitVec 24) : exec (.ptpTxDone ofs dev) s = .next (settle s (ptpDone dev (s.asOf ofs))) :=
  run_live hs (fun u => ptpDone dev (u.at ofs))

omit ofs

theorem exec_timeTbRead : exec .timeTbRead s = .next (settle s (timeTbRead s.cleared)) := run_live hs _

theorem exec_ptpRxstatRead (fwm : Bool) : exec (.ptpRxstatRead fwm) s = .next (settle s (ptpRxRead fwm s.cleared)) := run_live hs _

theorem exec_ptpTxGo (fwm : Bool) (len : Fin 512) (p : Fin 2) (one : Bool) (tag : Fin 65536) :
    exec (.ptpTxGo fwm len p one tag) s = .next (settle s (ptpGo fwm len p one tag s.cleared)) := run_live hs _

theorem exec_ptpTxtsRead : exec .ptpTxtsRead s = .next (settle s (ptpTsRead s.cleared)) := run_live hs _

end

/-! ## The obligations -/

/-- Settles O44: the requests, the delivery by its writer, the two ways out of the servo's state, and what an offset is to the filter. -/
theorem timeControl : Obligations.TimeControl := by
  intro ofs fwm ns src th s hs
  refine ⟨run_live hs (·.put Reg.TIME_CTRL.SET 1), run_live hs (·.put Reg.TIME_CTRL.STEP 1), fun h => ?_, fun h => ?_, exec_servoSrcWrite hs src,
    fun hst ht => ?_, fun ha hl => ?_,
    servoOffset_spike, fun hth hd => ?_, fun hth hd => ?_⟩
  · rw [exec_offsetDelivery hs, if_pos h]
  · rw [exec_offsetDelivery hs, if_neg h]
  · rw [exec_servoHoldoverTimeout hs, if_pos (holdoverDue_of_state hst ht)]
    rfl
  · rw [exec_servoHoldoverTimeout hs, holdoverDue_eq_false ha hl, if_neg Bool.false_ne_true]
  · rw [servoOffset_within hth, if_pos hd]
  · rw [servoOffset_within hth, if_neg (Nat.not_lt.2 (Nat.le_of_eq hd))]

/-- Settles O45: the words that a read latches, read back. -/
theorem timeReads : Obligations.TimeReads := by
  intro ofs s hs
  refine ⟨⟨_, exec_timeNowRead hs ofs, ?_, ?_, ?_, ?_, rfl⟩, ⟨_, exec_timeTbRead hs, ?_, ?_, ?_, rfl⟩⟩
  · rw [settle_get, timeNowRead, State.emit_get, get_latchTime_ns (by decide)]
    exact Nat.mod_eq_of_lt (Nat.lt_trans (nsOf_lt _) (by decide))
  · rw [settle_get, timeNowRead, State.emit_get, get_latchTime_lo (by decide)]
    rfl
  · rw [settle_get, timeNowRead, State.emit_get, get_latchTime_hi (by decide)]
    rfl
  · rw [settle_get, timeNowRead, State.emit_get, get_latchTime_fr]
    rfl
  · rw [settle_get, timeTbRead, State.emit_get, get_latchTime_lo (by decide)]
    rfl
  · rw [settle_get, timeTbRead, State.emit_get, get_latchTime_hi (by decide)]
    rfl
  · rw [settle_get, timeTbRead, State.emit_get, get_latchTime_fr]
    rfl

/-- Settles O46: an edge that is captured and one that is not, a second without one, and when the output rises. -/
theorem ppsPins : Obligations.PpsPins := by
  intro ofs rising dev s hs
  refine ⟨fun he hr hd => ?_, fun h => ?_, fun he hm => ?_, fun hm => ?_, fun he hq hd hr => ?_, fun c hr hc => ?_, fun h => ?_⟩
  · rw [exec_ppsInEdge hs, if_pos (ppsCaptured_edge he hr hd)]
  · rw [exec_ppsInEdge hs, ppsCaptured_eq_false h, if_neg Bool.false_ne_true]
  · rw [exec_ppsInMiss hs, ppsMissing, he, decide_eq_true hm]
    rfl
  · rw [exec_ppsInMiss hs, ppsMissing, decide_eq_false (Nat.not_lt.2 hm), Bool.and_false, if_neg Bool.false_ne_true]
  · rw [exec_ppsOutPulse hs, ppsRising, he, hq, hd, ppsSpaced_first hr]
    rfl
  · rw [exec_ppsOutPulse hs, ppsRising, ppsSpaced_early hr hc, Bool.and_false, if_neg Bool.false_ne_true]
  · rw [exec_ppsOutPulse hs, ppsRising_eq_false h, if_neg Bool.false_ne_true]

/-- Settles O47: each command of the path by what its queue holds and who owns the path. -/
theorem ptpPath : Obligations.PtpPath := by
  intro ofs p o dev f e l len one tag x k ts q s hs
  refine ⟨fun h => ?_, fun hf hup hpd hd => ⟨fun hl => ?_, fun hl => ?_⟩, fun h => ?_, fun h => ?_, fun h => ?_, fun h => ?_,
    fun ho hb hl hh => ?_, fun ho hl => ?_, fun h => ?_, fun h hup hpd h1 hl => ?_, fun h => ?_, fun h => ?_⟩
  · rw [exec_ptpFrameReceived hs, ptpReceive_other h]
  · rw [exec_ptpFrameReceived hs, ptpReceive_queued hf hup hpd hd hl]
  · rw [exec_ptpFrameReceived hs, ptpReceive_full hf hup hpd hd hl]
  · rw [exec_ptpRxstatRead hs, ptpRxRead_empty h]
    rfl
  · rw [exec_ptpRxstatRead hs, ptpRxRead_notOwner h]
    rfl
  · rw [exec_ptpRxstatRead hs, ptpRxRead_firmware h]
  · rw [exec_ptpTxGo hs, ptpGo_notOwner h]
  · rw [exec_ptpTxGo hs, ptpGo_sends ho hb hl hh]
    rfl
  · rw [exec_ptpTxGo hs, ptpGo_badLength ho hl]
    rfl
  · rw [exec_ptpTxDone hs, ptpDone_idle h]
  · rw [exec_ptpTxDone hs, ptpDone_twoStep h hup hpd h1 hl]
  · rw [exec_ptpTxtsRead hs, ptpTsRead_empty h]
  · rw [exec_ptpTxtsRead hs, ptpTsRead_oldest h]

end Sys2Proof.Machine

/-! # The clock synthesizer (chapter 12)

Relock and lock, the references and the selection among them, the clock outputs; then the obligations that they settle. -/

namespace Sys2Proof.Machine

/-! ## Relock and lock (R368, R371 to R374) -/

/-- The reference that a relock is for: PREF where it may be selected, else the selected one. -/
def relockRef (s : State) : Nat :=
  if refState s (s.get Reg.CLK_REFSEL.PREF) = refVALID then s.get Reg.CLK_REFSEL.PREF else clkSel s

/-- The loop lets go of its lock for reference `r`, with the outputs of the VCO stopped and LPDDR5X in self-refresh. -/
def unlocked (r : Nat) (s : State) : State :=
  (((((stopFrom 0 s).put Reg.CLK_CTRL.RELOCK 1).put Reg.CLK_STAT.RELOCKING 1).put Reg.CLK_STAT.LOCK 0).put Reg.CLK_STAT.SEL r).put
    Reg.MEM_STAT.SELF_REFRESH 1

/-- The staged plan of reference `r` becomes the loop's. -/
def planLoaded (r : Nat) (s : State) : State :=
  showAlt (modClock (fun c => { c with
    n := s.get Reg.CLK_PLL.N, icp := s.get Reg.CLK_CP.ICP, pre := s.get (Reg.CLK_REFr_CFG.PRE r), rdiv := s.get (Reg.CLK_REFr_CFG.REF_DIV r) }) s)

section
variable {s : State}

theorem relock_eq (s : State) : relock s =
    if s.on Reg.RSI_CTRL.EN || s.on Reg.TXC_CTRL.EN || s.effOn Reg.MAC_CTRL.EN then s.put Reg.CLK_STAT.CFG_ERR 2
    else if !planValid s (relockRef s) then s.put Reg.CLK_STAT.CFG_ERR 1
    else planLoaded (relockRef s) (when (refState (unlocked (relockRef s) s) (relockRef s) == refVALID)
      (fun s => s.put Reg.CLK_STAT.HOLD 0) (unlocked (relockRef s) s)) := rfl

/-- The sequencer needs the clock. -/
theorem relock_sequencer (h : s.effOn Reg.MAC_CTRL.EN = true) : relock s = s.put Reg.CLK_STAT.CFG_ERR 2 := by
  simp only [relock_eq, h, Bool.or_true, if_true]

section
variable (hr : s.on Reg.RSI_CTRL.EN = false) (ht : s.on Reg.TXC_CTRL.EN = false) (hm : s.effOn Reg.MAC_CTRL.EN = false)
include hr ht hm

theorem relock_invalid (h : planValid s (relockRef s) = false) : relock s = s.put Reg.CLK_STAT.CFG_ERR 1 := by
  simp only [relock_eq, hr, ht, hm, h, Bool.or_self, Bool.false_eq_true, if_false, Bool.not_false, if_true]

variable (h : planValid s (relockRef s) = true)
include h

theorem relock_notValid (hv : refState (unlocked (relockRef s) s) (relockRef s) ≠ refVALID) :
    relock s = planLoaded (relockRef s) (unlocked (relockRef s) s) := by
  simp only [relock_eq, hr, ht, hm, h, beq_eq_false_iff_ne.2 hv, Bool.or_self, Bool.not_true, Bool.false_eq_true, if_false, when_false]

/-- A relock to a VALID reference ends clock holdover. -/
theorem relock_valid (hv : refState (unlocked (relockRef s) s) (relockRef s) = refVALID) :
    relock s = planLoaded (relockRef s) ((unlocked (relockRef s) s).put Reg.CLK_STAT.HOLD 0) := by
  simp only [relock_eq, hr, ht, hm, h, beq_iff_eq.2 hv, Bool.or_self, Bool.not_true, Bool.false_eq_true, if_false, when_true]

end

theorem pllLock_already (h : s.on Reg.CLK_STAT.LOCK = true) (k : Fin 41) : pllLock k s = s := by
  simp only [pllLock, h, Bool.true_or, if_true]

/-- The loop locks, and its VCO gain is shown. -/
def pllLocked (k : Fin 41) (s : State) : State := (s.put Reg.CLK_STAT.LOCK 1).put Reg.CLK_STAT.KVCO (k.val + 40)

/-- The first lock starts tick 0 and the outputs. -/
def tickZero (s : State) : State :=
  showAlt (forEach (List.range 8) startOut (clockBack (modTime (fun t => { t with going := true }) (s.put Reg.SYS_TICK_OFFSET.CLOCKS 0))))

section
variable (h : s.on Reg.CLK_STAT.LOCK = false) (hpd : pdOn s 29 = true) (k : Fin 41)
include h hpd

theorem pllLock_again (hg : s.time.going = true) (hr : refState s (clkSel s) = refVALID) : pllLock k s = pllLocked k s := by
  simp [pllLock, pllLocked, h, hpd, hg, hr]

theorem pllLock_first (hg : s.time.going = false) (hr : refState s (clkSel s) ≠ refABSENT) : pllLock k s = tickZero (pllLocked k s) := by
  simp [pllLock, pllLocked, tickZero, h, hpd, hg, hr]

end

/-! ## References (R379, R383, R384) -/

theorem refAbsent_absent {r : Nat} (h : refState s r = refABSENT) : refAbsent r s = s := by simp only [refAbsent, h, if_true]

section
variable (hi : inService s = true) (hh : s.on Reg.CLK_STAT.HOLD = false)
include hi hh

/-- Without another reference to switch to, the loop holds. -/
theorem leaveRef_holds (h : refState s (1 - clkSel s) ≠ refVALID) :
    leaveRef s = (s.put Reg.CLK_STAT.HOLD 1).inc Reg.CLK_HOLD_CNT.CNT := by
  simp [leaveRef, hi, hh, h]

theorem leaveRef_switches (h : refState s (1 - clkSel s) = refVALID) (ha : isAlternate s (1 - clkSel s) = true) :
    leaveRef s = switchTo (1 - clkSel s) s := by
  simp [leaveRef, hi, hh, h, ha]

end

theorem clkForce_switches (h : refState s (s.get Reg.CLK_REFSEL.PREF) = refVALID) (ha : isAlternate s (s.get Reg.CLK_REFSEL.PREF) = true)
    (hi : inService s = true) (hne : clkSel s ≠ s.get Reg.CLK_REFSEL.PREF) : clkForce s = switchTo (s.get Reg.CLK_REFSEL.PREF) s := by
  simp [clkForce, h, ha, hi, hne]

theorem clkForce_notValid (h : refState s (s.get Reg.CLK_REFSEL.PREF) ≠ refVALID) : clkForce s = s := by
  simp [clkForce, h]

/-! ## Outputs (R375 to R378) -/

/-- The configuration of output `n` as a write gives it. -/
def outConfigured (n src fmt dv : Nat) (s : State) : State :=
  ((s.put (Reg.CLK_OUTn_CFG.SRC n) src).put (Reg.CLK_OUTn_CFG.FMT n) fmt).put (Reg.CLK_OUTn_CFG.DIV n) dv

variable {n src fmt dv : Nat}

theorem clkoutWrite_source (h : s.get (Reg.CLK_OUTn_CFG.SRC n) ≠ src) :
    clkoutWrite n src fmt dv s = checkOut n (outConfigured n src fmt dv (stopOut n s)) := by
  simp [clkoutWrite, outConfigured, bne_iff_ne.2 h]

theorem clkoutWrite_same (hs : s.get (Reg.CLK_OUTn_CFG.SRC n) = src) (hf : s.get (Reg.CLK_OUTn_CFG.FMT n) = fmt)
    (hd : s.get (Reg.CLK_OUTn_CFG.DIV n) = dv) : clkoutWrite n src fmt dv s = checkOut n (outConfigured n src fmt dv s) := by
  simp [clkoutWrite, outConfigured, hs, hf, hd]

/-- The output that a short stopped is tried again. -/
def outRetries (n : Nat) (s : State) : Bool :=
  s.on (Reg.CLK_OUTn_CFG.EN n) && s.on (Reg.CLK_OUTn_STAT.SHORT n) && decide (s.clock.retry.get n + 80 ≤ s.core.ticks) && pdOn s 29

theorem outRetries_early (h : s.core.ticks < s.clock.retry.get n + 80) : outRetries n s = false := by
  simp only [outRetries, decide_eq_false (Nat.not_le.2 h), Bool.and_false, Bool.false_and]

end

/-! ## The commands on a live block -/

section
variable {s : State} (hs : s.live)
include hs

/-- A write to a window that answers. -/
theorem run_regAccess_on {a : Nat} (h : windowOn s.cleared a = true) (f : State → State) :
    run (regAccess a f) s = .next (settle s (f s.cleared)) := by
  rw [run_live hs, regAccess_on h]

/-- A write to a window that does not answer (R39). -/
theorem run_regAccess_off {a : Nat} (h : windowOn s.cleared a = false) (f : State → State) :
    run (regAccess a f) s = .next (settle s (s.cleared.inc Reg.HIF_PD_OFF_ACC.CNT)) := by
  rw [run_live hs, regAccess_off h]

theorem exec_pllLock (k : Fin 41) : exec (.pllLock k) s = .next (settle s (pllLock k s.cleared)) := run_live hs _

theorem exec_pllLossOfLock : exec .pllLossOfLock s = .next (settle s
    (if s.cleared.on Reg.CLK_STAT.LOCK && inService s.cleared then (s.cleared.put Reg.CLK_STAT.LOCK 0).inc Reg.CLK_LOL_CNT.CNT
      else s.cleared)) :=
  run_live hs (fun u => if u.on Reg.CLK_STAT.LOCK && inService u then (u.put Reg.CLK_STAT.LOCK 0).inc Reg.CLK_LOL_CNT.CNT else u)

theorem exec_refLoss (r : Fin 2) : exec (.refLoss r) s = .next (settle s
    (if refState s.cleared r ≠ refABSENT && r.val = clkSel (refAbsent r s.cleared) then leaveRef (refAbsent r s.cleared)
      else refAbsent r s.cleared)) :=
  run_live hs (fun u => if refState u r ≠ refABSENT && r.val = clkSel (refAbsent r u) then leaveRef (refAbsent r u) else refAbsent r u)

theorem exec_refEdgesReturn (r : Fin 2) : exec (.refEdgesReturn r) s = .next (settle s
    (if refState s.cleared r = refABSENT then
      modClock (fun c => { c with quals := c.quals.set r 0 }) (s.cleared.put (Reg.CLK_REFr_STAT.STATE r) refQUALIFYING) else s.cleared)) :=
  run_live hs (fun u => if refState u r = refABSENT then
    modClock (fun c => { c with quals := c.quals.set r 0 }) (u.put (Reg.CLK_REFr_STAT.STATE r) refQUALIFYING) else u)

theorem exec_monitorWindowEnd (ofs : Fin 122880) (d01 : BitVec 32) (off0 off1 : Bool) :
    exec (.monitorWindowEnd ofs d01 off0 off1) s = .next (settle s
      (if pdOn (s.asOf ofs) 29 then monitorEnd d01.toInt off0 off1 (s.asOf ofs) else s.asOf ofs)) :=
  run_live hs (fun u => if pdOn (u.at ofs) 29 then monitorEnd d01.toInt off0 off1 (u.at ofs) else u.at ofs)

theorem exec_clkoutShort (n : Fin 8) : exec (.clkoutShort n) s = .next (settle s
    (if s.cleared.on (Reg.CLK_OUTn_STAT.RUN n) then outShort n s.cleared else s.cleared)) :=
  run_live hs (fun u => if u.on (Reg.CLK_OUTn_STAT.RUN n) then outShort n u else u)

theorem exec_clkoutShortRetry (n : Fin 8) (again : Bool) : exec (.clkoutShortRetry n again) s = .next (settle s
    (if outRetries n s.cleared then if again then outShort n s.cleared else s.cleared.put (Reg.CLK_OUTn_STAT.SHORT n) 0 else s.cleared)) :=
  run_live hs (fun u => if outRetries n u then if again then outShort n u else u.put (Reg.CLK_OUTn_STAT.SHORT n) 0 else u)

section
variable (hw : windowOn s.cleared Reg.CLK_CTRL.RELOCK.addr = true)
include hw

theorem exec_relock : exec .relock s = .next (settle s (relock s.cleared)) := run_regAccess_on hs hw _

theorem exec_clkForce : exec .clkForce s = .next (settle s (clkForce s.cleared)) := run_regAccess_on hs hw _

theorem exec_clkoutConfigWrite (n : Fin 8) (src : Fin 4) (fmt : Fin 8) (dv : Fin 4096) :
    exec (.clkoutConfigWrite n src fmt dv) s = .next (settle s (clkoutWrite n src fmt dv s.cleared)) := run_regAccess_on hs hw _

end

end

/-! ## The obligations -/

/-- Settles O48: a relock by what needs the clock and by its plan, the locks, and a reference that is lost, returns or is selected. -/
theorem synthesizer : Obligations.Synthesizer := by
  intro k r ofs d01 off0 off1 s hs
  refine ⟨fun hw hm => ?_, fun hw hr ht hm => ⟨fun hp => ?_, fun hp hv => ?_, fun hp hv => ?_⟩, fun h => ?_, fun h hpd hg hr => ?_,
    fun h hpd hg hr => ?_, fun h hi => ?_, fun h => ?_, fun h => ?_, fun h hne => ?_, fun h heq => ?_, leaveRef_holds, leaveRef_switches,
    fun h => ?_, fun h => ?_, fun h => ?_, fun h => ?_, fun hw hv ha hi hne => ?_, fun hw hv => ?_⟩
  · rw [exec_relock hs hw, relock_sequencer hm]
  · rw [exec_relock hs hw, relock_invalid hr ht hm hp]
  · rw [exec_relock hs hw, relock_notValid hr ht hm hp hv]
    rfl
  · rw [exec_relock hs hw, relock_valid hr ht hm hp hv]
    rfl
  · rw [exec_pllLock hs, pllLock_already h]
  · rw [exec_pllLock hs, pllLock_again h hpd k hg hr]
    rfl
  · rw [exec_pllLock hs, pllLock_first h hpd k hg hr]
    rfl
  · rw [exec_pllLossOfLock hs, h, hi]
    rfl
  · rw [exec_pllLossOfLock hs, h]
    rfl
  · rw [exec_refLoss hs, refAbsent_absent h, h]
    rfl
  · rw [exec_refLoss hs, decide_eq_false hne, Bool.and_false]
    rfl
  · rw [exec_refLoss hs, decide_eq_true h, decide_eq_true heq]
    rfl
  · rw [exec_refEdgesReturn hs, if_pos h]
  · rw [exec_refEdgesReturn hs, if_neg h]
  · rw [exec_monitorWindowEnd hs, if_pos h]
  · rw [exec_monitorWindowEnd hs, h, if_neg Bool.false_ne_true]
  · rw [exec_clkForce hs hw, clkForce_switches hv ha hi hne]
  · rw [exec_clkForce hs hw, clkForce_notValid hv]

/-- Settles O49: a write that changes the source and one that changes nothing, a short, and the try 80 ticks after it. -/
theorem clockOutputs : Obligations.ClockOutputs := by
  intro n src fmt dv again s hs
  refine ⟨fun hw hne => ?_, fun hw h1 h2 h3 => ?_, fun h => ?_, fun h => ?_, fun he hsh ht hpd => ?_, fun h => ?_⟩
  · rw [exec_clkoutConfigWrite hs hw, clkoutWrite_source hne]
    rfl
  · rw [exec_clkoutConfigWrite hs hw, clkoutWrite_same h1 h2 h3]
    rfl
  · rw [exec_clkoutShort hs, if_pos h]
    rfl
  · rw [exec_clkoutShort hs, h, if_neg Bool.false_ne_true]
  · have hr : outRetries n s.cleared = true := by simp only [outRetries, he, hsh, hpd, decide_eq_true ht, Bool.and_self]
    simp only [exec_clkoutShortRetry hs, hr, if_true, Bool.false_eq_true, if_false, and_self]
  · rw [exec_clkoutShortRetry hs, outRetries_early h, if_neg Bool.false_ne_true]

end Sys2Proof.Machine

/-! # Clusters, the Warden and the transmit lease (chapter 13)

Fault reports, boots, handovers and the Warden's own recovery, and the lease of a twin pair with its override; then the obligations that
they settle. -/

namespace Sys2Proof.Machine

/-! ## Clusters (R386, R389, R392, R393) -/

section
variable {s : State}

theorem actAbort_none (h : actBefore s = false) (err : Nat) : actAbort err s = s := by
  simp only [actAbort, h, Bool.not_false, if_true]

theorem faultReport_inactive (h : clActive s = false) : faultReport s = s := by
  simp only [faultReport, h, Bool.not_false, if_true]

/-- Without an activation to abort, a fault report moves the lease where the Warden works and a standby is eligible. -/
theorem faultReport_active (h : clActive s = true) (ha : actBefore s = false) :
    faultReport s = if wardenWorks s && stbyOk s then moveLease s else s := by
  simp only [faultReport, h, actAbort_none ha, Bool.not_true, Bool.false_eq_true, if_false]

/-- A FAILED cluster boots, but for one that a debugger has halted. -/
def restartOne (c : Nat) (s : State) : State :=
  if clState s c = clFAILED && !s.on (Reg.DBG_CCc_STAT.HALTED c) then bootCluster c s else s

theorem restartOne_failed {c : Nat} (h : clState s c = clFAILED) (hh : s.on (Reg.DBG_CCc_STAT.HALTED c) = false) :
    restartOne c s = bootCluster c s := by
  simp only [restartOne, h, hh, decide_true, Bool.not_false, Bool.and_self, if_true]

theorem restartOne_other {c : Nat} (h : clState s c ≠ clFAILED) : restartOne c s = s := by
  simp only [restartOne, h, decide_false, Bool.false_and, Bool.false_eq_true, if_false]

theorem restart_works (h : s.on Reg.WDN_STAT.FAIL = false) : restart s = restartOne 1 (restartOne 0 s) := by
  simp only [restart, h, Bool.false_eq_true, if_false]
  rfl

theorem restart_failed (h : s.on Reg.WDN_STAT.FAIL = true) : restart s = s := by simp only [restart, h, if_true]

section
variable {c : Nat}

theorem bootEnd_none (h : clState s c ≠ clBOOT ∨ (clBank s c).verified = false) : bootEnd c s = s := by
  rcases h with h | h <;> simp [bootEnd, h]

section
variable (hb : clState s c = clBOOT) (hv : (clBank s c).verified = true)
include hb hv

/-- Beside an ACTIVE cluster the one that has booted enters RESYNC. -/
theorem bootEnd_resync (ha : clState s (1 - c) = clACTIVE) (hn : s.get Reg.FW_STAT.ACT_STATE ≠ 1) :
    bootEnd c s = startPages 0 (setCluster c clRESYNC s) := by
  simp only [bootEnd, hb, hv, ha, hn, ne_eq, not_true_eq_false, decide_false, Bool.not_true, Bool.or_self, Bool.false_eq_true, if_false,
    if_true]

/-- With no ACTIVE peer it takes the lease. -/
theorem bootEnd_takes (hf : s.wdn.firstTake = true) (ha : clState s (1 - c) ≠ clACTIVE)
    (hr : clState (takeLease c causeAlone (forgetFirmware s)) (1 - c) ≠ clRESYNC) :
    bootEnd c s = takeLease c causeAlone (forgetFirmware s) := by
  simp only [bootEnd, hb, hv, ha, hf, hr, ne_eq, not_true_eq_false, decide_false, Bool.not_true, Bool.or_self, Bool.false_eq_true, if_false,
    Bool.false_and]

end

/-- After the first take the facets are not loaded again. -/
theorem clusterBootEnd_later (h : s.wdn.firstTake = true) : clusterBootEnd c s = bootEnd c s := by
  simp only [clusterBootEnd, h, Bool.not_true, Bool.false_and, Bool.false_eq_true, if_false]

theorem clusterBootEnd_none (h : clState s c ≠ clBOOT ∨ (clBank s c).verified = false) : clusterBootEnd c s = s := by
  simp only [clusterBootEnd, bootEnd_none h, Bool.not_and_self, Bool.false_eq_true, if_false]

theorem handover_accepted (hs : stbyOk s = true) (ha : clActive s = true) (hf : s.on Reg.WDN_STAT.FAIL = false) (off : Bool) :
    handover off s = modWdn (fun w => { w with handover := some (off || w.handover.getD false) }) (s.put Reg.WDN_CTRL.HANDOVER 1) := by
  simp only [handover, hs, ha, hf, Bool.not_false, Bool.and_self, if_true]

theorem handover_refused (h : stbyOk s = false ∨ clActive s = false ∨ s.on Reg.WDN_STAT.FAIL = true) (off : Bool) :
    handover off s = (s.put Reg.WDN_CTRL.HANDOVER 0).put Reg.WDN_STAT.HO_REFUSED 1 := by
  rcases h with h | h | h <;>
    simp only [handover, h, Bool.not_true, Bool.false_and, Bool.and_false, Bool.false_eq_true, if_false]

/-- A cluster that is not ACTIVE goes OFF, and with the standby its path. -/
theorem clusterDisable_inactive (h : clState s c ≠ clACTIVE) :
    let y := setCluster c clOFF (s.put (clEnFld c) 0)
    clusterDisable c s = if c = clStandby y then clearPath 0 y else y := by
  simp only [clusterDisable, if_neg h]

/-- The ACTIVE cluster asks for a handover, and goes OFF with it where it is accepted. -/
theorem clusterDisable_active (h : clState s c = clACTIVE) :
    clusterDisable c s = if (handover true s).wdn.handover = some true then (handover true s).put (clEnFld c) 0 else handover true s := by
  simp only [clusterDisable, if_pos h]

end

/-! ## The Warden's own faults (R397, R398) -/

/-- The failed recoveries in a row, with one that a fault makes of the attempt in hand. -/
def wardenTries (s : State) : Nat := s.get Reg.WDN_STAT.ATTEMPTS + b2n (s.on Reg.WDN_STAT.FROZEN || s.wdn.tested.isSome)

/-- A fault of the Warden is counted. -/
def wardenCounted (s : State) : State := (lpe 0x022 (s.inc Reg.WDN_SELF_RESET.CNT)).put Reg.WDN_STAT.ATTEMPTS (min 3 (wardenTries s))

theorem wardenFault_failed (h : s.on Reg.WDN_STAT.FAIL = true) : wardenFault s = s := by simp only [wardenFault, h, if_true]

section
variable (h : s.on Reg.WDN_STAT.FAIL = false)
include h

theorem wardenFault_resets (hn : wardenTries s < 3) : wardenFault s =
    modWdn (fun w => { w with resetSince := some (wardenCounted s).core.ticks, tested := none })
      ((wardenCounted s).put Reg.WDN_STAT.FROZEN 1) := by
  rw [wardenFault, h]
  exact if_neg (Nat.not_le.2 hn)

theorem wardenFault_last (hn : 3 ≤ wardenTries s) : wardenFault s = wardenFail (wardenCounted s) := by
  rw [wardenFault, h]
  exact if_pos hn

end

@[simp] theorem lpe_core (id : Nat) (s : State) : (lpe id s).core = s.core := by rw [lpe, lpeBy_eq]

theorem core_wardenCounted (s : State) : (wardenCounted s).core = s.core := by
  rw [wardenCounted, State.put_core, lpe_core, State.inc_core]

/-- The Warden's self-test was passed 100 ms ago, with no fault since. -/
def wardenSound (s : State) : Bool := s.wdn.tested.any (fun c => decide (c + usClk 100000 ≤ s.clk))

end

/-! ## The lease of a twin pair (R410 to R416) -/

/-- The lease is to be renewed: LEASE_REQ rises for 5 µs. -/
def renewalAsked (s : State) : State :=
  (leaseReq 1 (modWdn (fun w => { w with lastReq := some s.clk, granted := false }) (noGrant s))).emit (.edge "LEASE_REQ" 0 (s.clk + usClk 5))

section
variable {s : State} {c : Nat}

theorem renewalEdge_none (h : s.on Reg.MIR_CTRL.TWIN = false ∨ s.on Reg.WDN_TWL_STAT.HELD = false) : renewalEdge s = s := by
  rcases h with h | h <;> simp only [renewalEdge, h, Bool.not_false, Bool.true_or, Bool.or_true, if_true]

section
variable (ht : s.on Reg.MIR_CTRL.TWIN = true) (hh : s.on Reg.WDN_TWL_STAT.HELD = true) (hf : s.on Reg.WDN_STAT.FAIL = false)
  (hy : s.wdn.yieldStop = false) (ha : s.on Reg.WDN_FORCE_CTRL.ACTIVE = false)
include ht hh hf hy ha

theorem renewalEdge_holder : renewalEdge s =
    if s.wdn.yieldDue && s.txc.mods.isEmpty then modWdn (fun w => { w with yieldStop := true }) s
    else if !renewalDue s then s else renewalAsked s := by
  simp only [renewalEdge, ht, hh, hf, hy, ha, Bool.not_true, Bool.or_self, Bool.false_eq_true, if_false]
  rfl

theorem renewalEdge_due (hd : s.wdn.yieldDue = false) (hr : renewalDue s = true) : renewalEdge s = renewalAsked s := by
  simp only [renewalEdge_holder ht hh hf hy ha, hd, hr, Bool.false_and, Bool.not_true, Bool.false_eq_true, if_false]

theorem renewalEdge_early (hd : s.wdn.yieldDue = false) (hl : s.wdn.lastReq = some c) (hc : s.clk < c + usClk 10) : renewalEdge s = s := by
  have hr : renewalDue s = false := by simp only [renewalDue, hl, decide_eq_false (Nat.not_le.2 hc)]
  simp only [renewalEdge_holder ht hh hf hy ha, hd, hr, Bool.false_and, Bool.not_false, Bool.false_eq_true, if_false, if_true]

/-- A yielding holder with nothing in flight stops renewing. -/
theorem renewalEdge_yields (hd : s.wdn.yieldDue = true) (hm : s.txc.mods = []) :
    renewalEdge s = modWdn (fun w => { w with yieldStop := true }) s := by
  simp only [renewalEdge_holder ht hh hf hy ha, hd, hm, List.isEmpty_nil, Bool.and_self, if_true]

end

theorem leaseGrant_absent (h : witOk s = false) : leaseGrant s = s := by
  simp only [leaseGrant, h, Bool.not_false, Bool.true_or, Bool.or_true, if_true]

section
variable (ht : s.on Reg.MIR_CTRL.TWIN = true) (hw : witOk s = true) (ha : s.on Reg.WDN_FORCE_CTRL.ACTIVE = false)
include ht hw ha

theorem leaseGrant_takes (hp : s.on Reg.WDN_TWL_STAT.PENDING = true) : leaseGrant s = leaseReq 0 (twinTake (s.clk + usClk 29) s) := by
  simp only [leaseGrant, ht, hw, ha, hp, Bool.not_true, Bool.or_self, Bool.false_eq_true, if_false, if_true]

theorem leaseGrant_renews (hp : s.on Reg.WDN_TWL_STAT.PENDING = false) (hl : s.wdn.lastReq = some c)
    (hh : s.on Reg.WDN_TWL_STAT.HELD = true) (hg : s.wdn.granted = false) (hc : s.clk ≤ c + usClk 2) :
    leaseGrant s = modWdn (fun w => { w with granted := true, leaseEnd := some (c + usClk 30) }) s := by
  simp only [leaseGrant, ht, hw, ha, hp, hl, hh, hg, decide_eq_true hc, Bool.not_true, Bool.not_false, Bool.or_self, Bool.and_self,
    Bool.false_eq_true, if_false, if_true]

end

theorem leaseLapse_held (ht : s.on Reg.MIR_CTRL.TWIN = true) (hh : s.on Reg.WDN_TWL_STAT.HELD = true)
    (ha : s.on Reg.WDN_FORCE_CTRL.ACTIVE = false) (hl : s.wdn.leaseEnd = some c) : leaseLapse s = if c ≤ s.clk then lapse s else s := by
  simp [leaseLapse, ht, hh, ha, hl]

theorem holdoffEnd_over (h : s.wdn.holdoff = some c) (hc : c ≤ s.clk) :
    holdoffEnd s = leaseAsk (modWdn (fun w => { w with holdoff := none }) s) := by
  simp only [holdoffEnd, h, Option.any_some, decide_eq_true hc, if_true]

theorem holdoffEnd_none (h : s.wdn.holdoff = none) : holdoffEnd s = s := by
  simp only [holdoffEnd, h, Option.any_none, Bool.false_eq_true, if_false]

/-- WIT_PRESENT has a new level: how long it is high counts from its rise. -/
def witChanged (level : Bool) (s : State) : State :=
  modWdn (fun w => { w with witHigh := if !level then none else if s.on Reg.WDN_TWL_STAT.WIT then w.witHigh else some s.clk })
    (s.putB Reg.WDN_TWL_STAT.WIT level)

theorem leaseYield_accepted (ht : s.on Reg.MIR_CTRL.TWIN = true) (hh : s.on Reg.WDN_TWL_STAT.HELD = true) (hl : twinLinked s = true)
    (hp : s.mir.peerCaughtUp = true) (hw : s.on Reg.WDN_TWL_STAT.WIT = true) :
    leaseYield s = modWdn (fun w => { w with yieldSet := true }) (s.put Reg.MIR_CTRL.YIELD 1) := by
  simp only [leaseYield, ht, hh, hl, hp, hw, Bool.and_self, if_true]

theorem leaseYield_refused (h : twinLinked s = false ∨ s.mir.peerCaughtUp = false ∨ s.on Reg.WDN_TWL_STAT.WIT = false)
    (hy : s.wdn.yieldSet = false) : leaseYield s = (s.put Reg.MIR_CTRL.YIELD 0).put Reg.MIR_STAT.YIELD_REFUSED 1 := by
  rcases h with h | h | h <;>
    simp only [leaseYield, h, hy, Bool.and_false, Bool.false_and, Bool.false_eq_true, if_false]

/-! ## FORCE_HOLD (R417) -/

/-- A challenge is drawn, and the confirmation is awaited. -/
def forceArmed (s : State) : State :=
  modWdn (fun w => { w with forceSince := some s.clk })
    ((s.drawn.put Reg.WDN_FORCE_CHAL.CHAL (Config.drbg s.core.free)).put Reg.WDN_FORCE_CTRL.ARMED 1)

/-- The arming is used up. -/
def forceDisarmed (s : State) : State := modWdn (fun w => { w with forceSince := none }) (s.put Reg.WDN_FORCE_CTRL.ARMED 0)

/-- What a confirmation comes to: refused later than 1 ms after the arming, and ignored without one. -/
def forceConfirm (s : State) : State :=
  match s.wdn.forceSince with
  | none => s
  | some c =>
    let s := forceDisarmed s
    if c + usClk 1000 < s.clk then forceRefused s else
    modWdn (fun w => { w with forceDecide := some (s.clk + usClk 4000) }) (s.put Reg.WDN_FORCE_CTRL.BUSY 1)

theorem forceConfirm_none (h : s.wdn.forceSince = none) : forceConfirm s = s := by simp only [forceConfirm, h]

section
variable (h : s.wdn.forceSince = some c)
include h

theorem forceConfirm_inTime (hc : (forceDisarmed s).clk ≤ c + usClk 1000) : forceConfirm s =
    modWdn (fun w => { w with forceDecide := some ((forceDisarmed s).clk + usClk 4000) })
      ((forceDisarmed s).put Reg.WDN_FORCE_CTRL.BUSY 1) := by
  simp only [forceConfirm, h, if_neg (Nat.not_lt.2 hc)]

theorem forceConfirm_late (hc : c + usClk 1000 < (forceDisarmed s).clk) : forceConfirm s = forceRefused (forceDisarmed s) := by
  simp only [forceConfirm, h, if_pos hc]

end

/-- The decision is made. -/
def forceDecided (s : State) : State := modWdn (fun w => { w with forceDecide := none }) (s.put Reg.WDN_FORCE_CTRL.BUSY 0)

/-- The clock at which an override that begins now runs out. -/
def forceUntil (s : State) : Nat := s.clk + forceDur s * 983040000

/-- The override is active up to clock `e`. -/
def forceActive (e : Nat) (s : State) : State :=
  modWdn (fun w => { w with forceEnd := some e, leaseEnd := some e })
    ((s.put Reg.WDN_FORCE_CTRL.ACTIVE 1).put Reg.WDN_FORCE_LEFT.SEC (forceDur s))

theorem forceDecision_none (h : s.wdn.forceDecide = none) : forceDecision s = s := by simp only [forceDecision, h]

section
variable (h : s.wdn.forceDecide = some c) (hc : c ≤ s.clk)
include h hc

theorem forceDecision_due :
    let y := forceDecided s
    let w := forceActive (forceUntil y) y
    forceDecision s =
      if !forceSigned y || y.on Reg.WDN_TWL_STAT.WIT || (twinLinked y && (y.mir.peerHolder || y.mir.peerForce)) then forceRefused y
      else if w.on Reg.WDN_TWL_STAT.HELD then w else leaseReq 0 (twinTake (forceUntil y) w) := by
  simp only [forceDecision, h, if_neg (Nat.not_lt.2 hc)]
  rfl

theorem forceDecision_refused (hr : forceSigned (forceDecided s) = false ∨ (forceDecided s).on Reg.WDN_TWL_STAT.WIT = true) :
    forceDecision s = forceRefused (forceDecided s) := by
  rcases hr with hr | hr <;>
    simp only [forceDecision_due h hc, hr, Bool.not_false, Bool.true_or, Bool.or_true, if_true]

section
variable (hsig : forceSigned (forceDecided s) = true) (hw : (forceDecided s).on Reg.WDN_TWL_STAT.WIT = false)
  (hl : twinLinked (forceDecided s) = false)
include hsig hw hl

/-- A decision for the operator, with neither the witness nor the twin there, makes the override active: the holder keeps the lease. -/
theorem forceDecision_holder (hh : (forceActive (forceUntil (forceDecided s)) (forceDecided s)).on Reg.WDN_TWL_STAT.HELD = true) :
    forceDecision s = forceActive (forceUntil (forceDecided s)) (forceDecided s) := by
  simp only [forceDecision_due h hc, hsig, hw, hl, hh, Bool.not_true, Bool.or_self, Bool.false_and, Bool.false_eq_true, if_false, if_true]

/-- A part that does not hold the lease takes it. -/
theorem forceDecision_takes (hh : (forceActive (forceUntil (forceDecided s)) (forceDecided s)).on Reg.WDN_TWL_STAT.HELD = false) :
    forceDecision s =
      leaseReq 0 (twinTake (forceUntil (forceDecided s)) (forceActive (forceUntil (forceDecided s)) (forceDecided s))) := by
  simp only [forceDecision_due h hc, hsig, hw, hl, hh, Bool.not_true, Bool.or_self, Bool.false_and, Bool.false_eq_true, if_false]

end

end

/-- The override is over. -/
def forceOver (s : State) : State :=
  modWdn (fun w => { w with forceEnd := none }) ((s.put Reg.WDN_FORCE_CTRL.ACTIVE 0).put Reg.WDN_FORCE_LEFT.SEC 0)

section
variable (ha : s.on Reg.WDN_FORCE_CTRL.ACTIVE = true) (h : s.wdn.forceEnd = some c) (hc : c ≤ s.clk)
include ha h hc

theorem forceHoldEnd_over :
    forceHoldEnd s = if (forceOver s).on Reg.MIR_CTRL.TWIN then lapse (forceOver s) else forceOver s := by
  simp only [forceHoldEnd, ha, h, Option.all_some, decide_eq_true hc, Bool.true_or, Bool.and_self, if_true]
  rfl

/-- In a twin pair the lease lapses with the override. -/
theorem forceHoldEnd_twin (ht : (forceOver s).on Reg.MIR_CTRL.TWIN = true) : forceHoldEnd s = lapse (forceOver s) := by
  rw [forceHoldEnd_over ha h hc, if_pos ht]

theorem forceHoldEnd_single (ht : (forceOver s).on Reg.MIR_CTRL.TWIN = false) : forceHoldEnd s = forceOver s := by
  rw [forceHoldEnd_over ha h hc, ht, if_neg Bool.false_ne_true]

end

theorem forceHoldEnd_inactive (h : s.on Reg.WDN_FORCE_CTRL.ACTIVE = false) : forceHoldEnd s = s := by
  simp only [forceHoldEnd, h, Bool.false_and, Bool.false_eq_true, if_false]

end

/-! ## The commands on a live block -/

section
variable {s : State} (hs : s.live) (ofs : Fin 122880)
include hs

theorem exec_clusterFaultReport : exec (.clusterFaultReport ofs) s = .next (settle s (faultReport (s.asOf ofs))) :=
  run_live hs (fun u => faultReport (u.at ofs))

theorem exec_wardenFault : exec (.wardenFault ofs) s = .next (settle s (wardenFault (s.asOf ofs))) :=
  run_live hs (fun u => wardenFault (u.at ofs))

theorem exec_wardenRecovered : exec (.wardenRecovered ofs) s = .next (settle s (if wardenSound (s.asOf ofs) then
    modWdn (fun w => { w with tested := none }) ((s.asOf ofs).put Reg.WDN_STAT.ATTEMPTS 0) else s.asOf ofs)) :=
  run_live hs (fun u => if wardenSound (u.at ofs) then
    modWdn (fun w => { w with tested := none }) ((u.at ofs).put Reg.WDN_STAT.ATTEMPTS 0) else u.at ofs)

theorem exec_leaseRenewalEdge : exec (.leaseRenewalEdge ofs) s = .next (settle s (renewalEdge (s.asOf ofs))) :=
  run_live hs (fun u => renewalEdge (u.at ofs))

theorem exec_leaseGrant : exec (.leaseGrant ofs) s = .next (settle s (leaseGrant (s.asOf ofs))) :=
  run_live hs (fun u => leaseGrant (u.at ofs))

theorem exec_transmitLeaseLapse : exec (.transmitLeaseLapse ofs) s = .next (settle s (leaseLapse (s.asOf ofs))) :=
  run_live hs (fun u => leaseLapse (u.at ofs))

theorem exec_requestHoldoffEnd : exec (.requestHoldoffEnd ofs) s = .next (settle s (holdoffEnd (s.asOf ofs))) :=
  run_live hs (fun u => holdoffEnd (u.at ofs))

theorem exec_witPresentChange (level : Bool) : exec (.witPresentChange level ofs) s = .next (settle s (witChanged level (s.asOf ofs))) :=
  run_live hs (fun u => witChanged level (u.at ofs))

theorem exec_forceHoldArm : exec (.forceHoldArm ofs) s = .next (settle s
    (if (s.asOf ofs).on Reg.WDN_FORCE_CTRL.BUSY then s.asOf ofs else forceArmed (s.asOf ofs))) :=
  run_live hs (fun u => if (u.at ofs).on Reg.WDN_FORCE_CTRL.BUSY then u.at ofs else forceArmed (u.at ofs))

theorem exec_forceHoldConfirm : exec (.forceHoldConfirm ofs) s = .next (settle s (forceConfirm (s.asOf ofs))) :=
  run_live hs (fun u => forceConfirm (u.at ofs))

theorem exec_forceHoldDecision : exec (.forceHoldDecision ofs) s = .next (settle s (forceDecision (s.asOf ofs))) :=
  run_live hs (fun u => forceDecision (u.at ofs))

theorem exec_forceHoldEnd : exec (.forceHoldEnd ofs) s = .next (settle s (forceHoldEnd (s.asOf ofs))) :=
  run_live hs (fun u => forceHoldEnd (u.at ofs))

omit ofs

theorem exec_clusterRestart : exec .clusterRestart s = .next (settle s (restart s.cleared)) := run_live hs _

theorem exec_clusterBootEnd (c : Fin 2) : exec (.clusterBootEnd c) s = .next (settle s (clusterBootEnd c s.cleared)) := run_live hs _

theorem exec_handover : exec .handover s = .next (settle s (handover false s.cleared)) := run_live hs _

theorem exec_clusterDisable (c : Fin 2) : exec (.clusterDisable c) s = .next (settle s (clusterDisable c s.cleared)) := run_live hs _

theorem exec_leaseYield_on (h : windowOn s.cleared Reg.MIR_CTRL.YIELD.addr = true) :
    exec .leaseYield s = .next (settle s (leaseYield s.cleared)) := run_regAccess_on hs h _

theorem exec_leaseYield_off (h : windowOn s.cleared Reg.MIR_CTRL.YIELD.addr = false) :
    exec .leaseYield s = .next (settle s (s.cleared.inc Reg.HIF_PD_OFF_ACC.CNT)) := run_regAccess_off hs h _

end

/-! ## The obligations -/

/-- Settles O50: each command of a cluster by the states of the two, and a fault of the Warden by the recoveries that failed before it. -/
theorem clustersAndWarden : Obligations.ClustersAndWarden := by
  intro ofs c k s hs
  refine ⟨fun h => ?_, fun h ha hw hk => ?_, fun h ha hx => ?_, fun hf h0 h1 hh => ?_, fun hf h0 hh h1 => ?_, fun h => ?_,
    fun hf hb hv ha hn => ?_, fun hf hb hv ha hr => ?_, fun h => ?_, fun hk ha hf => ?_, fun h => ?_, fun h hne => ?_, fun h heq => ?_,
    fun h hho => ?_, fun h hho => ?_, fun h => ?_, fun h hn => ?_, fun h hn => ?_, fun h hk => ?_, fun h => ?_⟩
  · rw [exec_clusterFaultReport hs, faultReport_inactive h]
  · rw [exec_clusterFaultReport hs, faultReport_active h ha, hw, hk]
    rfl
  · rw [exec_clusterFaultReport hs, faultReport_active h ha, Bool.and_eq_false_iff.2 hx]
    rfl
  · rw [exec_clusterRestart hs, restart_works hf, restartOne_other h0, restartOne_failed h1 hh]
  · rw [exec_clusterRestart hs, restart_works hf, restartOne_failed h0 hh, restartOne_other h1]
  · rw [exec_clusterRestart hs, restart_failed h]
  · rw [exec_clusterBootEnd hs, clusterBootEnd_later hf, bootEnd_resync hb hv ha hn]
  · rw [exec_clusterBootEnd hs, clusterBootEnd_later hf, bootEnd_takes hb hv hf ha hr]
  · rw [exec_clusterBootEnd hs, clusterBootEnd_none h]
  · rw [exec_handover hs, handover_accepted hk ha hf]
    rfl
  · rw [exec_handover hs, handover_refused h]
  · rw [exec_clusterDisable hs, clusterDisable_inactive h, if_neg hne]
  · rw [exec_clusterDisable hs, clusterDisable_inactive h, if_pos heq]
  · rw [exec_clusterDisable hs, clusterDisable_active h, if_pos hho]
  · rw [exec_clusterDisable hs, clusterDisable_active h, if_neg hho]
  · rw [exec_wardenFault hs, wardenFault_failed h]
  · rw [exec_wardenFault hs, wardenFault_resets h hn, core_wardenCounted]
    rfl
  · rw [exec_wardenFault hs, wardenFault_last h hn]
    rfl
  · rw [exec_wardenRecovered hs, wardenSound, h, Option.any_some, decide_eq_true hk]
    rfl
  · rw [exec_wardenRecovered hs, wardenSound, h]
    rfl

/-- Settles O53: the lease's edges by who holds it and by the clock, and the override by its arming, its decision and its end. -/
theorem transmitLease : Obligations.TransmitLease := by
  intro ofs level c s hs
  refine ⟨fun ht hh hf hy ha => ⟨fun hd hr => ?_, fun hd hl hc => ?_, fun hd hm => ?_⟩, fun h => ?_,
    fun ht hw ha => ⟨fun hp => ?_, fun hp hl hh hg hc => ?_⟩, fun h => ?_, fun ht hh ha hl => ⟨fun hc => ?_, fun hc => ?_⟩,
    fun h hc => ?_, fun h => ?_, exec_witPresentChange hs ofs level, exec_leaseYield_off hs, fun hw ht hh hl hp hwit => ?_,
    fun hw h hy => ?_, fun h => ?_, fun h => ?_, fun h => ?_, fun h hc => ?_, fun h hc => ?_, fun h => ?_,
    fun h hc => ⟨fun hsig hw hl hh => ?_, fun hsig hw hl hh => ?_, fun hr => ?_⟩, fun ha h hc => ⟨fun ht => ?_, fun ht => ?_⟩, fun h => ?_⟩
  · rw [exec_leaseRenewalEdge hs, renewalEdge_due ht hh hf hy ha hd hr]
    rfl
  · rw [exec_leaseRenewalEdge hs, renewalEdge_early ht hh hf hy ha hd hl hc]
  · rw [exec_leaseRenewalEdge hs, renewalEdge_yields ht hh hf hy ha hd hm]
  · rw [exec_leaseRenewalEdge hs, renewalEdge_none h]
  · rw [exec_leaseGrant hs, leaseGrant_takes ht hw ha hp]
    rfl
  · rw [exec_leaseGrant hs, leaseGrant_renews ht hw ha hp hl hh hg hc]
  · rw [exec_leaseGrant hs, leaseGrant_absent h]
  · rw [exec_transmitLeaseLapse hs, leaseLapse_held ht hh ha hl, if_pos hc]
  · rw [exec_transmitLeaseLapse hs, leaseLapse_held ht hh ha hl, if_neg (Nat.not_le.2 hc)]
  · rw [exec_requestHoldoffEnd hs, holdoffEnd_over h hc]
  · rw [exec_requestHoldoffEnd hs, holdoffEnd_none h]
  · rw [exec_leaseYield_on hs hw, leaseYield_accepted ht hh hl hp hwit]
  · rw [exec_leaseYield_on hs hw, leaseYield_refused h hy]
  · rw [exec_forceHoldArm hs, if_pos h]
  · rw [exec_forceHoldArm hs, h, if_neg Bool.false_ne_true]
    rfl
  · rw [exec_forceHoldConfirm hs, forceConfirm_none h]
  · rw [exec_forceHoldConfirm hs, forceConfirm_inTime h hc]
    rfl
  · rw [exec_forceHoldConfirm hs, forceConfirm_late h hc]
    rfl
  · rw [exec_forceHoldDecision hs, forceDecision_none h]
  · rw [exec_forceHoldDecision hs, forceDecision_takes h hc hsig hw hl hh]
    rfl
  · rw [exec_forceHoldDecision hs, forceDecision_holder h hc hsig hw hl hh]
    rfl
  · rw [exec_forceHoldDecision hs, forceDecision_refused h hc hr]
    rfl
  · rw [exec_forceHoldEnd hs, forceHoldEnd_twin ha h hc ht]
    rfl
  · rw [exec_forceHoldEnd hs, forceHoldEnd_single ha h hc ht]
    rfl
  · rw [exec_forceHoldEnd hs, forceHoldEnd_inactive h]

end Sys2Proof.Machine

/-! # The mirror and the twin path (chapter 13)

Bursts, their acknowledgements, losses and pages, and the keying of the twin path; then the obligations that they settle. -/

namespace Sys2Proof.Machine

/-! ## Bursts (R399, R401, R403) -/

section
variable {s : State} {kind : Nat}

theorem mirPathUp_int (s : State) : mirPathUp s 0 = pathHasReceiver s 0 := rfl

theorem burstOn_down {p : Nat} (h : mirPathUp s p = false) : burstOn kind p s = s := by
  simp only [burstOn, h, Bool.not_false, if_true]

/-- The internal path's burst carries as many of its records as fit, and no digest. -/
theorem burstOn_int {l q : List MirRec} (h : pathHasReceiver s 0 = true) (ht : takeRecs 32704 s.mir.int.queue = (l, q)) :
    let i := (modPath 0 (fun x => { x with queue := q }) s).incIf (!q.isEmpty) Reg.MIR_BURST_FULL.CNT
    burstOn kind 0 s = sendBurst 0 { burstHead i 0 kind with recs := l } i := by
  have hq : takeRecs (32768 - 64 - (([] : List MirRec).map MirRec.octets).sum) (pathOf s 0).queue = (l, q) := ht
  simp only [burstOn, mirPathUp_int, h, Nat.zero_ne_one, decide_false, Bool.false_and, Bool.not_true, Bool.false_eq_true, if_false, hq,
    List.nil_append]

end

/-! ## What is received (R400, R404, R406, R420) -/

section
variable {s : State} {b : Burst}

theorem burstReceived_int (h : pathHasReceiver s 0 = true) (hb : b.seq = s.mir.int.rxNext) :
    burstReceived 0 b s = modPath 0 (fun q => { q with rxNext := b.seq + 1 }) s := by
  simp only [burstReceived, h, hb, decide_true, Bool.and_self, if_true]

theorem burstReceived_int_gap (hb : b.seq ≠ s.mir.int.rxNext) : burstReceived 0 b s = s := by
  simp only [burstReceived, hb, decide_false, Bool.and_false, Bool.false_eq_true, if_false, if_true]

section
variable (ht : twinUp s = true) (hl : s.on Reg.MIR_STAT.TWIN_LOST = false)
include ht hl

/-- A twin that was not lost is reached as it stands: a burst is one seen before, one ahead of its turn, or the next one. -/
theorem burstReceived_twin : burstReceived 1 b s =
    if b.seq < s.mir.twin.rxNext then s
    else if s.mir.twin.rxNext < b.seq then
      if s.mir.twin.ahead.any (fun x => x.seq == b.seq) then s else modPath 1 (fun q => { q with ahead := q.ahead ++ [b] }) s
    else selfCaught (applyAhead (applyBurst b s).mir.twin.ahead.length (applyBurst b s)) := by
  have hr : twinReached s = s := by simp only [twinReached, hl, Bool.not_false, if_true]
  simp only [burstReceived, Nat.one_ne_zero, if_false, ht, hr, Bool.not_true, Bool.false_eq_true]

theorem burstReceived_seen (hb : b.seq < s.mir.twin.rxNext) : burstReceived 1 b s = s := by
  rw [burstReceived_twin ht hl, if_pos hb]

theorem burstReceived_ahead (hb : s.mir.twin.rxNext < b.seq) (ha : s.mir.twin.ahead = []) :
    burstReceived 1 b s = modPath 1 (fun q => { q with ahead := q.ahead ++ [b] }) s := by
  rw [burstReceived_twin ht hl, if_neg (Nat.not_lt.2 (Nat.le_of_lt hb)), if_pos hb, ha]
  rfl

theorem burstReceived_next (hb : b.seq = s.mir.twin.rxNext) :
    burstReceived 1 b s = selfCaught (applyAhead (applyBurst b s).mir.twin.ahead.length (applyBurst b s)) := by
  rw [burstReceived_twin ht hl, if_neg (hb ▸ Nat.lt_irrefl _), if_neg (hb ▸ Nat.lt_irrefl _)]

end

end

/-! ## Acknowledgement and recovery (R405, R406) -/

section
variable {s : State} {p seq : Nat} {x : Sent}

theorem ackUpTo_none (h : (pathOf s p).unacked.filter (fun y => decide (y.burst.seq ≤ seq)) = []) : ackUpTo p seq s = s := by
  simp only [ackUpTo, h, List.isEmpty_nil, if_true]

/-- The bursts of a path up to a SEQ are acknowledged no more. -/
def acked (p seq : Nat) (s : State) : State :=
  modPath p (fun q => { q with unacked := q.unacked.filter (fun x => decide (seq < x.burst.seq)) }) s

section
variable (h : (pathOf s p).unacked.filter (fun y => decide (y.burst.seq ≤ seq)) = [x]) (hn : s.clk ≤ x.norm)
include h hn

/-- A burst that is acknowledged by its normal instant ends the waits for it. -/
theorem ackUpTo_single : ackUpTo p seq s =
    let y := endWaits p (x.burst.recs.filterMap recId) (if p = 1 then (acked p seq s).put Reg.MIR_SEQ_ACK.ACK seq else acked p seq s)
    if p = 0 then standbyCaught y else y := by
  simp only [ackUpTo, h, List.isEmpty_cons, Bool.false_eq_true, if_false, forEach_cons, forEach_nil, if_neg (Nat.not_lt.2 hn),
    List.flatMap_cons, List.flatMap_nil, List.append_nil, acked]

theorem ackUpTo_int (hp : p = 0) : ackUpTo p seq s = standbyCaught (endWaits 0 (x.burst.recs.filterMap recId) (acked p seq s)) := by
  subst hp
  exact ackUpTo_single h hn

theorem ackUpTo_twin (hp : p = 1) :
    ackUpTo p seq s = endWaits 1 (x.burst.recs.filterMap recId) ((acked p seq s).put Reg.MIR_SEQ_ACK.ACK seq) := by
  subst hp
  exact ackUpTo_single h hn

end

/-- A retransmission is counted. -/
def retxCounted (s : State) : State := lpe 0x072 (s.inc Reg.MIR_RETX.CNT)

@[simp] theorem lpe_mir (id : Nat) (s : State) : (lpe id s).mir = s.mir := by rw [lpe, lpeBy_eq]

/-- The timer of the path's burst `seq`, which is as long as `x`, starts anew. -/
def timerSet (p seq : Nat) (x : Sent) (s : State) : State :=
  modPath p (fun q => { q with unacked := q.unacked.map (fun y =>
    if y.burst.seq = seq then { y with due := retxDue p (s.clk + burstClks p x.len) } else y) }) s

theorem session_timerSet_retxCounted : (timerSet p seq x (retxCounted s)).mir.session = s.mir.session := by
  have h : (timerSet p seq x (retxCounted s)).mir.session = (retxCounted s).mir.session := by
    show (if p = 0 then _ else _ : MirS).session = _
    split <;> rfl
  rw [h, retxCounted, lpe_mir, State.inc_mir]

theorem side_timerSet_retxCounted : (timerSet p seq x (retxCounted s)).get Reg.MIR_STAT.SIDE = s.get Reg.MIR_STAT.SIDE := by
  show (retxCounted s).get Reg.MIR_STAT.SIDE = _
  rw [retxCounted, lpe_get, State.get_inc_ne _ (by decide)]

theorem retransmit_none (h : (pathOf s p).unacked.find? (fun y => y.burst.seq == seq) = none) : retransmit p seq s = s := by
  simp only [retransmit, h]

/-- What is sent again is the burst unchanged, with a timer of its own; what waited beyond its normal instant is counted before. -/
theorem retransmit_found (h : (pathOf s p).unacked.find? (fun y => y.burst.seq == seq) = some x) :
    let r := if x.norm < (retxCounted s).clk then bubble p x (retxCounted s) else retxCounted s
    retransmit p seq s = (timerSet p seq x r).emit (.lanes "mirror"
      (p :: burstWire p ((timerSet p seq x r).get Reg.MIR_STAT.SIDE) (timerSet p seq x r).mir.session x.burst)) := by
  simp only [retransmit, h]
  rfl

theorem retransmit_inTime (h : (pathOf s p).unacked.find? (fun y => y.burst.seq == seq) = some x) (hn : (retxCounted s).clk ≤ x.norm) :
    retransmit p seq s = (timerSet p seq x (retxCounted s)).emit
      (.lanes "mirror" (p :: burstWire p (s.get Reg.MIR_STAT.SIDE) s.mir.session x.burst)) := by
  simp only [retransmit_found h, if_neg (Nat.not_lt.2 hn), side_timerSet_retxCounted, session_timerSet_retxCounted]

/-- A timer of the path's burst has run out. -/
def retxOver (p seq : Nat) (s : State) : Bool := (pathOf s p).unacked.any (fun x => x.burst.seq == seq && decide (x.due ≤ s.clk))

/-- A NAK is sent for what the path misses. -/
def nakSent (p : Nat) (mic : Bool) (s : State) : State :=
  let s := (s.incIf mic Reg.MIR_MIC_FAIL.CNT).inc Reg.MIR_NAK_TX.CNT
  s.emit (.lanes "mirror NAK" (p :: nakBlock s p))

/-- The ticks after which a receiver that acknowledges nothing is lost. -/
def lostTicks (s : State) : Nat := min 8 (max 1 (s.get Reg.MIR_CFG.LOST_TICKS))

/-- A burst of the path has been unacknowledged for as long. -/
def lostDue (p : Nat) (s : State) : Bool := (pathOf s p).unacked.any (fun x => decide (x.tick + lostTicks s ≤ s.core.ticks))

theorem receiverLost_none (h : lostDue p s = false) : receiverLost p s = s := by
  rw [receiverLost, ← lostTicks, ← lostDue, h]
  rfl

theorem receiverLost_int (h : lostDue 0 s = true) :
    receiverLost 0 s = clearPath 0 ((setCluster (clStandby s) clFAILED s).inc Reg.WDN_STBY_LOST.CNT) := by
  rw [receiverLost, ← lostTicks, ← lostDue, h]
  rfl

theorem receiverLost_twin (h : lostDue 1 s = true) : receiverLost 1 s = twinLost s := by
  rw [receiverLost, ← lostTicks, ← lostDue, h]
  rfl

end

/-! ## RESYNC (R420, R421) -/

section
variable {p : Nat} {s : State}

/-- The pages that a path has sent in this tick. -/
def pagesSentNow (p : Nat) (s : State) : Nat := if (pathOf s p).pagesTick = s.core.ticks then (pathOf s p).pagesSent else 0

/-- The pages of the next RESYNC burst. -/
def pagesNext (p : Nat) (s : State) : Nat := min 7 (min (pathOf s p).pagesLeft (pagesPerTick s p - pagesSentNow p s))

/-- They are taken from those that are left. -/
def pagesTaken (p : Nat) (s : State) : State :=
  modPath p (fun x => { x with pagesLeft := x.pagesLeft - pagesNext p s, pagesTick := s.core.ticks,
                               pagesSent := pagesSentNow p s + pagesNext p s }) s

/-- The burst of the pages that were next at `s` leaves. -/
def pagesSend (p : Nat) (s w : State) : State :=
  sendBurst p { burstHead w p 2 with
    pages := (List.range (pagesNext p s)).map (fun i => resyncPage ((pathOf s p).pagesLeft - i)) } w

theorem resyncBurst_eq (p ofs : Nat) (s : State) : resyncBurst p ofs s =
    if pagesNext p (s.at ofs) = 0 || (s.at ofs).ofs < usClk 45 ||
      Config.ofsDecode < (s.at ofs).ofs + burstClks p (resyncLen (pagesNext p (s.at ofs))) || !mirPathUp (s.at ofs) p then s.at ofs
    else
      let w := pagesTaken p (s.at ofs)
      pagesSend p (s.at ofs) (if (pathOf w p).pagesLeft = 0 then w.put Reg.MIR_STAT.RESYNC_STAGE 2 else w) := rfl

variable {ofs : Nat}

/-- No burst leaves with no page left for this tick, before 45 µs, or with no time until the decode deadline. -/
theorem resyncBurst_none (h : pagesNext p (s.at ofs) = 0 ∨ (s.at ofs).ofs < usClk 45 ∨
    Config.ofsDecode < (s.at ofs).ofs + burstClks p (resyncLen (pagesNext p (s.at ofs)))) : resyncBurst p ofs s = s.at ofs := by
  rw [resyncBurst_eq]
  refine if_pos ?_
  rcases h with h | h | h <;> simp [h]

/-- Otherwise the burst leaves with its pages; after the last page of a path RESYNC is in its second stage. -/
theorem resyncBurst_sends (hn : pagesNext p (s.at ofs) ≠ 0) (h45 : usClk 45 ≤ (s.at ofs).ofs)
    (hd : (s.at ofs).ofs + burstClks p (resyncLen (pagesNext p (s.at ofs))) ≤ Config.ofsDecode) (hup : mirPathUp (s.at ofs) p = true)
    (hl : (pathOf (pagesTaken p (s.at ofs)) p).pagesLeft ≠ 0) :
    resyncBurst p ofs s = pagesSend p (s.at ofs) (pagesTaken p (s.at ofs)) := by
  simp only [resyncBurst_eq, decide_eq_false hn, decide_eq_false (Nat.not_lt.2 h45), decide_eq_false (Nat.not_lt.2 hd), hup, Bool.not_true,
    Bool.or_self, Bool.false_eq_true, if_false, if_neg hl]

end

/-! ## Keying of the twin path (R406 to R408) -/

section
variable {s : State}

/-- The path enters KEYING with octets of its own and sends them. -/
def keyingBegun (s : State) : State :=
  let n := Config.drbg s.core.free
  ((modMir (fun m => { m with nonce := n, peerNonce := none, session := none, confirmFail := none }) s.drawn).put
    Reg.MIR_STAT.LINK 2).emit (.lanes "mirror KEYING" (keyingWire (burstHead s 1 4).flags (s.tick % 2 ^ 32) n (s.get Reg.FW_RUN_VER.VER)))

theorem linkTrained_keys (ht : s.on Reg.MIR_CTRL.TWIN = true) (hpd : pdOn s 25 = true) (hl : s.get Reg.MIR_STAT.LINK ≤ 1) :
    linkTrained s = keyingBegun s := by
  simp only [linkTrained, ht, hpd, decide_eq_false (Nat.not_lt.2 hl), Bool.not_true, Bool.or_self, Bool.false_eq_true, if_false]
  rfl

theorem linkTrained_single (h : s.on Reg.MIR_CTRL.TWIN = false) : linkTrained s = s := by
  simp only [linkTrained, h, Bool.not_false, Bool.true_or, if_true]

section
variable {nonce : BitVec 128} {ver : BitVec 32}

/-- The peer's part of the session's key is there. -/
def peerKeyed (nonce : BitVec 128) (ver : BitVec 32) (s : State) : State :=
  modMir (fun m => { m with peerNonce := some nonce.toNat, peerFw := ver.toNat }) s

theorem keyingReceived_other (h : s.get Reg.MIR_STAT.LINK ≠ 2) : keyingReceived nonce ver s = s := by simp only [keyingReceived, if_pos h]

variable (h : s.get Reg.MIR_STAT.LINK = 2)
include h

theorem keyingReceived_noPair (hk : pairKey (peerKeyed nonce ver s) = none) : keyingReceived nonce ver s = peerKeyed nonce ver s := by
  rw [peerKeyed] at hk ⊢
  simp only [keyingReceived, h, ne_eq, not_true_eq_false, if_false, hk]

/-- Both parts make the session's key under the pair key. -/
theorem keyingReceived_keyed {k : Nat} (hk : pairKey (peerKeyed nonce ver s) = some k) :
    let w := peerKeyed nonce ver s
    let x := Config.sessionKey k (s.mir.nonce ^^^ nonce.toNat)
    keyingReceived nonce ver s = (modMir (fun m => { m with session := some x }) w).emit
      (.lanes "mirror CONFIRM" (confirmWire (s.get Reg.MIR_STAT.SIDE) x (burstHead w 1 5).flags (s.tick % 2 ^ 32))) := by
  rw [peerKeyed] at hk
  simp only [keyingReceived, h, ne_eq, not_true_eq_false, if_false, hk]
  rfl

end

section
variable {k ofs : Nat}

theorem confirmReceived_other (h : (s.at ofs).get Reg.MIR_STAT.LINK ≠ 2) : confirmReceived k ofs s = s.at ofs := by
  simp only [confirmReceived, if_pos h]

theorem confirmReceived_links (h : (s.at ofs).get Reg.MIR_STAT.LINK = 2) (hk : (s.at ofs).mir.session = some k) :
    confirmReceived k ofs s = linked (s.at ofs) := by
  simp only [confirmReceived, h, ne_eq, not_true_eq_false, if_false, if_pos hk]

theorem confirmReceived_fails (h : (s.at ofs).get Reg.MIR_STAT.LINK = 2) (hk : (s.at ofs).mir.session ≠ some k) :
    confirmReceived k ofs s =
      modMir (fun m => { m with confirmFail := some (s.at ofs).clk }) ((s.at ofs).inc Reg.MIR_MIC_FAIL.CNT) := by
  simp only [confirmReceived, h, ne_eq, not_true_eq_false, if_false, if_neg hk]

end

/-- After 1 ms a link whose CONFIRM failed keys anew. -/
def confirmRetry (s : State) : State :=
  match s.mir.confirmFail with
  | some c => if c + usClk 1000 ≤ s.clk && s.get Reg.MIR_STAT.LINK = 2 then
      modMir (fun m => { m with confirmFail := none, session := none }) (s.put Reg.MIR_STAT.LINK 1) else s
  | none => s

theorem confirmRetry_none (h : s.mir.confirmFail = none) : confirmRetry s = s := by simp only [confirmRetry, h]

theorem confirmRetry_due {c : Nat} (h : s.mir.confirmFail = some c) (hc : c + usClk 1000 ≤ s.clk) (hl : s.get Reg.MIR_STAT.LINK = 2) :
    confirmRetry s = modMir (fun m => { m with confirmFail := none, session := none }) (s.put Reg.MIR_STAT.LINK 1) := by
  simp only [confirmRetry, h, hl, decide_eq_true hc, decide_true, Bool.and_self, if_true]

/-- The session ends with the link. -/
def linkOff (s : State) : State := modMir (fun m => { m with session := none, confirmFail := none }) (s.put Reg.MIR_STAT.LINK 0)

theorem linkDown_linked (h : s.get Reg.MIR_STAT.LINK = 3) : linkDown s = twinLost ((linkOff s).inc Reg.MIR_LINK_DOWN.CNT) := by
  rw [linkDown]
  exact if_pos h

theorem linkDown_other (h : s.get Reg.MIR_STAT.LINK ≠ 3) : linkDown s = linkOff s := by
  rw [linkDown]
  exact if_neg h

end

/-! ## The commands on a live block -/

section
variable {s : State} (hs : s.live)
include hs

theorem exec_mirrorBurstReceived (p : Fin 2) (b : Burst) (ofs : Fin 122880) :
    exec (.mirrorBurstReceived p b ofs) s = .next (settle s (burstReceived p b (s.asOf ofs))) :=
  run_live hs (fun u => burstReceived p b (u.at ofs))

theorem exec_mirrorBurstReceived_int (b : Burst) (ofs : Fin 122880) :
    exec (.mirrorBurstReceived 0 b ofs) s = .next (settle s (burstReceived 0 b (s.asOf ofs))) := exec_mirrorBurstReceived hs 0 b ofs

theorem exec_mirrorBurstReceived_twin (b : Burst) (ofs : Fin 122880) :
    exec (.mirrorBurstReceived 1 b ofs) s = .next (settle s (burstReceived 1 b (s.asOf ofs))) := exec_mirrorBurstReceived hs 1 b ofs

theorem exec_mirrorBurstMissing (p : Fin 2) (mic : Bool) : exec (.mirrorBurstMissing p mic) s = .next (settle s
    (if !mirPathUp s.cleared p then s.cleared else nakSent p mic s.cleared)) :=
  run_live hs (fun u => if !mirPathUp u p then u else nakSent p mic u)

section
variable (p : Fin 2) (seq : Nat) (ofs : Fin 122880)

theorem exec_mirrorAckReceived : exec (.mirrorAckReceived p seq ofs) s = .next (settle s (ackUpTo p seq (s.asOf ofs))) :=
  run_live hs (fun u => ackUpTo p seq (u.at ofs))

theorem exec_mirrorNakReceived : exec (.mirrorNakReceived p seq ofs) s =
    .next (settle s (retransmit p seq ((s.asOf ofs).inc Reg.MIR_NAK_RX.CNT))) :=
  run_live hs (fun u => retransmit p seq ((u.at ofs).inc Reg.MIR_NAK_RX.CNT))

theorem exec_mirrorRetransmitTimer : exec (.mirrorRetransmitTimer p seq ofs) s = .next (settle s
    (if retxOver p seq (s.asOf ofs) then retransmit p seq (s.asOf ofs) else s.asOf ofs)) :=
  run_live hs (fun u => if retxOver p seq (u.at ofs) then retransmit p seq (u.at ofs) else u.at ofs)

end

theorem exec_receiverLost (p : Fin 2) : exec (.receiverLost p) s = .next (settle s (receiverLost p s.cleared)) := run_live hs _

theorem exec_receiverLost_int : exec (.receiverLost 0) s = .next (settle s (receiverLost 0 s.cleared)) := exec_receiverLost hs 0

theorem exec_receiverLost_twin : exec (.receiverLost 1) s = .next (settle s (receiverLost 1 s.cleared)) := exec_receiverLost hs 1

theorem exec_resyncBurst (p : Fin 2) (ofs : Fin 122880) : exec (.resyncBurst p ofs) s = .next (settle s (resyncBurst p ofs s.cleared)) :=
  run_live hs _

theorem exec_twinLinkTrained : exec .twinLinkTrained s = .next (settle s (linkTrained s.cleared)) := run_live hs _

theorem exec_keyingReceived (nonce : BitVec 128) (ver : BitVec 32) :
    exec (.keyingReceived nonce ver) s = .next (settle s (keyingReceived nonce ver s.cleared)) := run_live hs _

theorem exec_confirmReceived (k : Nat) (ofs : Fin 122880) :
    exec (.confirmReceived k ofs) s = .next (settle s (confirmReceived k ofs s.cleared)) := run_live hs _

theorem exec_confirmRetry (ofs : Fin 122880) : exec (.confirmRetry ofs) s = .next (settle s (confirmRetry (s.asOf ofs))) :=
  run_live hs (fun u => confirmRetry (u.at ofs))

theorem exec_twinLinkDown : exec .twinLinkDown s = .next (settle s (linkDown s.cleared)) := run_live hs _

end

/-! ## The obligations -/

/-- Settles O51: bursts out and in on the two paths, what is acknowledged, sent again or lost, and the pages of a RESYNC. -/
theorem mirrorBursts : Obligations.MirrorBursts := by
  intro ofs p kind seq mic b l q x s hs
  refine ⟨run_live hs (fun u => burstOn 0 1 (burstOn 0 0 (u.at Config.ofsBurstA))),
    run_live hs (fun u => burstOn 1 1 (burstOn 1 0 (u.at Config.ofsBurstB))), burstOn_int, burstOn_down (p := 0),
    burstOn_down (p := 1), fun h hb => ?_,
    fun hb => ?_, fun ht hl => ⟨fun hb => ?_, fun hb ha => ?_, fun hb => ?_⟩, fun h => ?_, fun h => ?_, fun h => ?_,
    fun h hn => ⟨fun hp => ?_, fun hp => ?_⟩, fun h => ?_, fun h hn => ?_, fun h => ?_, fun h => ?_, fun h => ?_, fun h => ?_, fun h => ?_,
    fun h => ?_, fun hn h45 hd hup hl => ?_⟩
  · rw [exec_mirrorBurstReceived_int hs, burstReceived_int h hb]
  · rw [exec_mirrorBurstReceived_int hs, burstReceived_int_gap hb]
  · rw [exec_mirrorBurstReceived_twin hs, burstReceived_seen ht hl hb]
  · rw [exec_mirrorBurstReceived_twin hs, burstReceived_ahead ht hl hb ha]
  · rw [exec_mirrorBurstReceived_twin hs, burstReceived_next ht hl hb]
  · rw [exec_mirrorBurstMissing hs, h]
    rfl
  · rw [exec_mirrorBurstMissing hs, h]
    rfl
  · rw [exec_mirrorAckReceived hs, ackUpTo_none h]
  · rw [exec_mirrorAckReceived hs, ackUpTo_int h hn (congrArg Fin.val hp)]
    rfl
  · rw [exec_mirrorAckReceived hs, ackUpTo_twin h hn (congrArg Fin.val hp)]
    rfl
  · rw [exec_mirrorNakReceived hs, retransmit_none h]
  · rw [exec_mirrorNakReceived hs, retransmit_inTime h hn, State.get_inc_ne _ (by decide)]
    rfl
  · rw [exec_mirrorRetransmitTimer hs, retxOver, if_pos h]
  · rw [exec_mirrorRetransmitTimer hs, retxOver, h, if_neg Bool.false_ne_true]
  · rw [exec_receiverLost hs, receiverLost_none h]
  · rw [exec_receiverLost_int hs, receiverLost_int h]
  · rw [exec_receiverLost_twin hs, receiverLost_twin h]
  · rw [exec_resyncBurst hs, resyncBurst_none h]
    rfl
  · rw [exec_resyncBurst hs, resyncBurst_sends hn h45 hd hup hl]
    rfl

/-- Settles O52: each message of the keying in the state of the link in which it acts, and in the others. -/
theorem twinLink : Obligations.TwinLink := by
  intro ofs nonce ver k c s hs
  refine ⟨fun ht hpd hl => ?_, fun h => ?_, fun h => ?_, fun h hk => ?_, fun h hk => ?_, fun h => ?_, fun h hk => ?_, fun h hk => ?_,
    fun h hc hl => ?_, fun h => ?_, fun h => ?_, fun h => ?_⟩
  · rw [exec_twinLinkTrained hs, linkTrained_keys ht hpd hl]
    rfl
  · rw [exec_twinLinkTrained hs, linkTrained_single h]
  · rw [exec_keyingReceived hs, keyingReceived_other h]
  · rw [exec_keyingReceived hs, keyingReceived_noPair h hk]
    rfl
  · rw [exec_keyingReceived hs, keyingReceived_keyed h hk]
    rfl
  · rw [exec_confirmReceived hs, confirmReceived_other h]
    rfl
  · rw [exec_confirmReceived hs, confirmReceived_links h hk]
    rfl
  · rw [exec_confirmReceived hs, confirmReceived_fails h hk]
    rfl
  · rw [exec_confirmRetry hs, confirmRetry_due h hc hl]
  · rw [exec_confirmRetry hs, confirmRetry_none h]
  · rw [exec_twinLinkDown hs, linkDown_linked h]
    rfl
  · rw [exec_twinLinkDown hs, linkDown_other h]
    rfl

end Sys2Proof.Machine

/-! # Firmware, facets and the life cycle (chapter 14)

Loads, banks and slots, activation and its abort, the fuses' SVN, facet loads and requests, and life-cycle transitions; then the obligations
that they settle. -/

namespace Sys2Proof.Machine

/-! ## Loads, banks and slots (R429, R430, R434 to R436) -/

/-- A load has failed with a code. -/
def loadFailed (e : Nat) (s : State) : State :=
  ((s.put Reg.FW_STAT.LOAD_STATE 5).put Reg.FW_STAT.LOAD_ERR e).inc Reg.FW_LOAD_FAIL.CNT

/-- A load has built an image, and the staging bank holds it verified. -/
def loadBuilt (x : Image) (s : State) : State :=
  (((setBank (stgBank s) { img := some x, verified := true } s).put Reg.FW_STAT.LOAD_STATE 4).put Reg.FW_STG_VER.VER
    x.hdr.targetVer).inc Reg.FW_LOADS.CNT

section
variable {s : State}

theorem fwLoad_activating (h : activating s = true) : fwLoad s = s.put Reg.FW_STAT.LOAD_ERR 8 := by simp only [fwLoad, h, if_true]

theorem fwLoad_loading (ha : activating s = false) (h : loading s = true) : fwLoad s = s := by
  simp only [fwLoad, ha, h, Bool.false_eq_true, if_false, if_true]

theorem fwLoad_begins (ha : activating s = false) (h : loading s = false) :
    fwLoad s = ((stgClear s).put Reg.FW_STAT.LOAD_STATE 1).put Reg.FW_STAT.LOAD_ERR 0 := by
  simp only [fwLoad, ha, h, Bool.false_eq_true, if_false]

theorem fwLoadDone_idle (h : loading s = false) (p : Option (List Byte × Option (List Byte))) : fwLoadDone p s = s := by
  simp only [fwLoadDone, h, Bool.not_false, if_true]

section
variable (h : loading s = true)
include h

theorem fwLoadDone_unread : fwLoadDone none s = loadFailed 9 s := by
  simp only [fwLoadDone, h, Bool.not_true, Bool.false_eq_true, if_false]
  rfl

variable {g : PkgHdr} {o : List Byte} {e : Nat}

theorem fwLoadDone_fails (hb : buildImage s g o = (e, none)) : fwLoadDone (some (g.octets, some o)) s = loadFailed e s := by
  simp only [fwLoadDone, h, hb, Bool.not_true, Bool.false_eq_true, if_false]
  rfl

theorem fwLoadDone_builds {x : Image} (hb : buildImage s g o = (e, some x)) :
    fwLoadDone (some (g.octets, some o)) s = loadBuilt x s := by
  simp only [fwLoadDone, h, hb, Bool.not_true, Bool.false_eq_true, if_false]
  rfl

end

theorem flashWritten_none (h : s.get Reg.FW_STAT.LOAD_STATE ≠ 4 ∨ s.on Reg.FW_STAT.FLASH_DONE = true ∨ s.fw.flash = false) :
    flashWritten s = s := by
  rcases h with h | h | h <;> simp [flashWritten, h]

/-- After a boot from flash, what is written is the staged image. -/
theorem flashWritten_staged (hl : s.get Reg.FW_STAT.LOAD_STATE = 4) (hd : s.on Reg.FW_STAT.FLASH_DONE = false) (hf : s.fw.flash = true)
    (hb : s.get Reg.FW_STAT.BOOT_SLOT ≠ 2) :
    flashWritten s = (setSlot (otherSlot s) (bankAt s (stgBank s)).img s).put Reg.FW_STAT.FLASH_DONE 1 := by
  simp [flashWritten, hl, hd, hf, hb]

section
variable {b : Nat}

theorem bankReverify_none (h : (bankAt s b).verified = true ∨ (bankAt s b).img = none) (good : Bool) : bankReverify b good s = s := by
  rcases h with h | h <;> simp [bankReverify, h]

section
variable {x : Image} (hv : (bankAt s b).verified = false) (hx : (bankAt s b).img = some x)
include hv hx

theorem bankReverify_good : bankReverify b true s = setBank b { bankAt s b with verified := true } s := by
  simp only [bankReverify, hv, hx, Option.isNone_some, Bool.or_self, Bool.false_eq_true, if_false, if_true]

theorem bankReverify_staged (hb : b = stgBank s) : bankReverify b false s =
    (((stgClear s).put Reg.FW_STAT.LOAD_STATE 5).put Reg.FW_STAT.LOAD_ERR 7).inc Reg.FW_LOAD_FAIL.CNT := by
  simp only [bankReverify, hv, hx, Option.isNone_some, Bool.or_self, Bool.false_eq_true, if_false, if_pos hb]

/-- The run bank whose hash does not match is empty where no directory names a slot. -/
theorem bankReverify_run (hb : b ≠ stgBank s) (hd : dirNow s = none) :
    bankReverify b false s = setBank b { img := none, verified := false } s := by
  simp only [bankReverify, hv, hx, hd, Option.isNone_some, Bool.or_self, Bool.false_eq_true, if_false, if_neg hb]

end

end

theorem fwCold_names (hl : s.get Reg.FW_STAT.LOAD_STATE = 4) (hd : s.on Reg.FW_STAT.FLASH_DONE = true) (hf : s.fw.flash = true) :
    fwCold s = dirWrite (slotOfImage s (bankAt s (stgBank s)).img) s := by
  simp only [fwCold, hl, hd, hf, decide_true, Bool.and_self, if_true]

theorem fwCold_none (h : s.get Reg.FW_STAT.LOAD_STATE ≠ 4) : fwCold s = s := by
  simp only [fwCold, h, decide_false, Bool.false_and, Bool.false_eq_true, if_false]

/-! ## Activation (R432, R436 to R440) -/

/-- In recovery the staging bank becomes the run bank. -/
def recovered (s : State) : State :=
  ((s.put Reg.FW_STAT.RUN_BANK (stgBank s)).put Reg.FW_STAT.RECOVERY 0).put Reg.FW_STAT.BOOT_SLOT 2

section
variable (h : s.on Reg.FW_STAT.RECOVERY = true)
include h

theorem activate_recovery_none (hv : (bankAt s (stgBank s)).verified = false) : activate s = s.put Reg.FW_STAT.ACT_ERR 1 := by
  simp only [activate, h, activateRecovery, hv, Bool.not_false, if_true]

theorem activate_recovery_boots (hv : (bankAt s (stgBank s)).verified = true) (hd : (recovered s).on Reg.FW_STAT.FLASH_DONE = false) :
    activate s = bootBoth (runSync (recovered s)) := by
  rw [recovered] at hd ⊢
  simp only [activate, h, activateRecovery, hv, hd, Bool.not_true, Bool.false_eq_true, if_false, if_true]

end

section
variable (h : s.on Reg.FW_STAT.RECOVERY = false)
include h

theorem activate_running (ha : activating s = true) : activate s = s := by
  simp only [activate, h, ha, Bool.false_eq_true, if_false, if_true]

variable (ha : activating s = false)
include ha

theorem activate_refused (hr : actRefusal s ≠ 0) : activate s = s.put Reg.FW_STAT.ACT_ERR (actRefusal s) := by
  simp only [activate, h, ha, Bool.false_eq_true, if_false, if_pos hr]

/-- An accepted activation boots the standby from the staging bank. -/
theorem activate_accepted (hr : actRefusal s = 0) : activate s = clearPath 0 (bootCluster (clStandby s)
    (modFw (fun f => { f with actSince := s.core.ticks, newCl := clStandby s }) (s.put Reg.FW_STAT.ACT_STATE 1))) := by
  simp only [activate, h, ha, hr, ne_eq, not_true_eq_false, Bool.false_eq_true, if_false]

end

/-- An activation has ended with a code. -/
def actEnded (e : Nat) (s : State) : State :=
  ((s.put Reg.FW_STAT.ACT_STATE 0).put Reg.FW_STAT.ACT_ERR e).inc Reg.FW_ACT_ABORT.CNT

/-- An abort before the handover restarts the new standby. -/
theorem actAbort_restarts {e : Nat} (h : actBefore s = true) (hc : clState (actEnded e s) (clStandby (actEnded e s)) ≠ clACTIVE) :
    actAbort e s = clearPath 0 (bootCluster (clStandby (actEnded e s)) (actEnded e s)) := by
  rw [actEnded] at hc ⊢
  simp only [actAbort, h, Bool.not_true, Bool.false_eq_true, if_false, if_neg hc]

/-- The SVN of the fuses after a COMMIT_SVN. -/
def svnCommitted (s : State) : Nat := max s.otp.svn (min 64 (((bankAt s (runBank s)).img.map (·.hdr.svn)).getD 0))

theorem commitSvn_burns (h : s.get Reg.FW_STAT.ACT_STATE = 5) (hl : s.get Reg.LC_STATE.STATE ≠ 0) :
    commitSvn s = { s.put Reg.FW_SVN.SVN (svnCommitted s) with otp := { s.otp with svn := svnCommitted s } } := by
  simp only [commitSvn, h, hl, ne_eq, not_true_eq_false, decide_false, Bool.or_self, Bool.false_eq_true, if_false]
  rfl

theorem commitSvn_none (h : s.get Reg.FW_STAT.ACT_STATE ≠ 5 ∨ s.get Reg.LC_STATE.STATE = 0) : commitSvn s = s := by
  rcases h with h | h <;> simp [commitSvn, h]

/-! ## Facets (R441 to R447) -/

theorem facetLoadDone_idle (h : s.get Reg.FW_FCT_STAT.STATE ≠ 1) (o : Option (List Byte)) : facetLoadDone o s = s := by
  simp only [facetLoadDone, if_pos h]

/-- A facet image with number `n` has passed its checks, and the facet store holds it. -/
def facetStored (n : Nat) (f : Facet) (s : State) : State :=
  modFw (fun w => { w with store := w.store.set n (f :: (w.store.get n).take 1) })
    (((s.put Reg.FW_FCT_STAT.FACET n).put Reg.FW_FCT_STAT.STATE 2).put Reg.FW_FCT_STAT.ERR 0)

section
variable {o : Option (List Byte)} {e n : Nat} {f : Facet} (h : s.get Reg.FW_FCT_STAT.STATE = 1) (hc : facetCheck s (o.getD []) = (e, n, f))
include h hc

theorem facetLoadDone_refused (he : e ≠ 0) :
    facetLoadDone o s = ((s.put Reg.FW_FCT_STAT.FACET n).put Reg.FW_FCT_STAT.STATE 3).put Reg.FW_FCT_STAT.ERR e := by
  simp only [facetLoadDone, h, hc, ne_eq, not_true_eq_false, if_false, if_pos he]

variable (he : e = 0)
include he

/-- A facet of the staged schema is held until its firmware runs. -/
theorem facetLoadDone_held (hs : forStaged (facetStored n f s) f.schemaVer = true) : facetLoadDone o s =
    modFw (fun w => { w with held := w.held.set n f }) ((facetStored n f s).put Reg.FW_FCT_STAT.PENDING 1) := by
  subst he
  rw [facetStored] at hs ⊢
  simp only [facetLoadDone, h, hc, hs, ne_eq, not_true_eq_false, if_false, if_true]

theorem facetLoadDone_loaded (hs : forStaged (facetStored n f s) f.schemaVer = false) : facetLoadDone o s =
    loadedSync (modFw (fun w => { w with loaded := w.loaded.set n f }) ((facetStored n f s).put Reg.FW_FCT_STAT.PENDING 0)) := by
  subst he
  rw [facetStored] at hs ⊢
  simp only [facetLoadDone, h, hc, hs, ne_eq, not_true_eq_false, Bool.false_eq_true, if_false]

end

section
variable {cell mask : Nat}

/-- The mask that is asked for. -/
def facetAsked (mask : Nat) (s : State) : State := s.put Reg.FW_FACET_REQ.MASK (mask / 2)

/-- The first cell that a request can be for. -/
def facetLead (cell : Nat) (s : State) : Nat := cell + max 1 (s.get Reg.FW_FACET_CFG.LEAD)

/-- The request waits for the cell it names, or the first one possible. -/
def facetDue (cell mask : Nat) (r s : State) : State :=
  modFw (fun f => { f with request := some (mask / 2 * 2, max (r.get Reg.FW_FACET_CELL.CELL) (facetLead cell r)) }) s

theorem facetRequest_inTime (h : (facetAsked mask s).get Reg.FW_FACET_CELL.CELL = 0 ∨
    facetLead cell (facetAsked mask s) ≤ (facetAsked mask s).get Reg.FW_FACET_CELL.CELL) :
    facetRequest cell mask s = facetDue cell mask (facetAsked mask s) (facetAsked mask s) := by
  have hl : ((facetAsked mask s).get Reg.FW_FACET_CELL.CELL ≠ 0 &&
      decide ((facetAsked mask s).get Reg.FW_FACET_CELL.CELL < facetLead cell (facetAsked mask s))) = false := by
    rcases h with h | h
    · simp [h]
    · simp [Nat.not_lt.2 h]
  rw [facetRequest, ← facetAsked, ← facetLead, hl]
  rfl

theorem facetRequest_late (h0 : (facetAsked mask s).get Reg.FW_FACET_CELL.CELL ≠ 0)
    (h : (facetAsked mask s).get Reg.FW_FACET_CELL.CELL < facetLead cell (facetAsked mask s)) :
    facetRequest cell mask s = facetDue cell mask (facetAsked mask s)
      (((facetAsked mask s).put Reg.FW_FACET_REQ.LATE 1).inc Reg.FW_FACET_LATE.CNT) := by
  rw [facetRequest, ← facetAsked, ← facetLead, decide_eq_true h0, decide_eq_true h]
  rfl

end

/-- A read of FW_DEFLIST pops the oldest entry and keeps its high word. -/
theorem deflRead_on (h : windowOn s Reg.FW_DEFLIST.ITEM.addr = true) : deflRead s =
    (deflSync (modFw (fun f => { f with defl := f.defl.drop 1 })
      { s with core := { s.core with latch := s.core.latch.insert Reg.FW_DEFLIST.ITEM.addr (deflWord s / 2 ^ 32) } })).emit
        (.readWord 0 Reg.FW_DEFLIST.ITEM.addr (deflWord s % 2 ^ 32)) := by
  rw [deflRead, h]
  rfl

/-! ## The life cycle (R450 to R452, R499) -/

/-- A request names its target. -/
def lcAsked (target : Nat) (s : State) : State := s.put Reg.LC_REQ.TARGET target

/-- A challenge is drawn, and the confirmation is awaited. -/
def lcArmed (s : State) : State :=
  { (s.drawn.put Reg.LC_CHAL.CHAL (Config.drbg s.core.free)).put Reg.LC_REQ.ARMED 1 with lc := { s.lc with armed := some s.clk } }

/-- The arming is used up. -/
def lcDisarmed (s : State) : State := { s.put Reg.LC_REQ.ARMED 0 with lc := { s.lc with armed := none } }

/-- The transition begins. -/
def lcBegun (target : Nat) (s : State) : State :=
  { (s.put Reg.LC_STATE.BUSY 1).put Reg.LC_STATE.ERR 0 with lc := { s.lc with target := some target } }

section
variable {target : Nat}

theorem lcArm_busy (h : (lcAsked target s).on Reg.LC_STATE.BUSY = true) : lcArm target s = lcAsked target s := by
  rw [lcArm, ← lcAsked, h]
  rfl

theorem lcArm_idle (h : (lcAsked target s).on Reg.LC_STATE.BUSY = false) : lcArm target s = lcArmed (lcAsked target s) := by
  rw [lcArm, ← lcAsked, h]
  rfl

theorem lcConfirm_busy (h : (lcAsked target s).on Reg.LC_STATE.BUSY = true) : lcConfirm target s = lcAsked target s := by
  rw [lcConfirm, ← lcAsked, h]
  rfl

section
variable (h : (lcAsked target s).on Reg.LC_STATE.BUSY = false)
include h

theorem lcConfirm_refused (he : lcErr (lcAsked target s) target ≠ 0) :
    lcConfirm target s = lcRefused (lcErr (lcAsked target s) target) (lcDisarmed (lcAsked target s)) := by
  rw [lcConfirm, ← lcAsked, h]
  exact if_pos he

theorem lcConfirm_accepted (he : lcErr (lcAsked target s) target = 0) :
    lcConfirm target s = levelDrop 1 (levelDrop 0 (lcBegun target (lcDisarmed (lcAsked target s)))) := by
  rw [lcConfirm, ← lcAsked, h]
  exact if_neg (not_not.2 he)

end

theorem lcErr_unarmed (h : s.lc.armed = none) (b : Nat) : lcErr s b = 2 := by
  simp only [lcErr, h, Option.any_none, Bool.not_false, if_true]

end

theorem lcDone_none (h : s.lc.target = none) : lcDone s = s := by simp only [lcDone, h]

end

/-! ## The commands on a live block -/

section
variable {s : State} (hs : s.live)
include hs

theorem exec_fwLoadDone (p : Option (List Byte × Option (List Byte))) : exec (.fwLoadDone p) s = .next (settle s (fwLoadDone p s.cleared)) :=
  run_live hs _

theorem exec_fwFlashWriteDone : exec .fwFlashWriteDone s = .next (settle s (flashWritten s.cleared)) := run_live hs _

theorem exec_bankReverify (b : Fin 2) (good : Bool) : exec (.bankReverify b good) s = .next (settle s (bankReverify b good s.cleared)) :=
  run_live hs _

theorem exec_activationTimeout : exec .activationTimeout s = .next (settle s
    (if s.cleared.fw.actSince + max 1 (s.cleared.get Reg.FW_ACT_CFG.MAX_TICKS) ≤ s.cleared.core.ticks then actAbort 5 s.cleared
      else s.cleared)) :=
  run_live hs (fun u => if u.fw.actSince + max 1 (u.get Reg.FW_ACT_CFG.MAX_TICKS) ≤ u.core.ticks then actAbort 5 u else u)

theorem exec_facetLoadDone (o : Option (List Byte)) : exec (.facetLoadDone o) s = .next (settle s (facetLoadDone o s.cleared)) :=
  run_live hs _

theorem exec_fwDeflistRead : exec .fwDeflistRead s = .next (settle s (deflRead s.cleared)) := run_live hs _

section
variable (target : Fin 8) (ofs : Fin 122880)

theorem exec_lcArm : exec (.lcArm target ofs) s = .next (settle s (lcArm target (s.asOf ofs))) :=
  run_live hs (fun u => lcArm target (u.at ofs))

theorem exec_lcConfirm : exec (.lcConfirm target ofs) s = .next (settle s (lcConfirm target (s.asOf ofs))) :=
  run_live hs (fun u => lcConfirm target (u.at ofs))

end

theorem exec_lcTransitionDone : exec .lcTransitionDone s = .next (settle s (lcDone s.cleared)) := run_live hs _

section
variable (hw : windowOn s.cleared Reg.FW_CTRL.LOAD.addr = true)
include hw

theorem exec_fwLoad : exec .fwLoad s = .next (settle s (fwLoad s.cleared)) := run_regAccess_on hs hw _

theorem exec_fwCold : exec .fwCold s = .next (settle s (fwCold s.cleared)) := run_regAccess_on hs hw _

theorem exec_fwActivate : exec .fwActivate s = .next (settle s (activate s.cleared)) := run_regAccess_on hs hw _

theorem exec_fwAbort : exec .fwAbort s = .next (settle s (actAbort 7 s.cleared)) := run_regAccess_on hs hw _

theorem exec_commitSvn : exec .commitSvn s = .next (settle s (commitSvn s.cleared)) := run_regAccess_on hs hw _

theorem exec_facetLoad : exec .facetLoad s = .next (settle s (s.cleared.put Reg.FW_FCT_STAT.STATE 1)) :=
  run_regAccess_on hs hw (·.put Reg.FW_FCT_STAT.STATE 1)

theorem exec_facetRequest (mask : Fin 65536) :
    exec (.facetRequest mask) s = .next (settle s (facetRequest (cellNo s.cleared) mask s.cleared)) :=
  run_regAccess_on hs hw (fun u => facetRequest (cellNo u) mask u)

end

end

/-! ## The obligations -/

/-- Settles O55: a load by what it built, a bank by its flag and its hash, an activation by its refusal, and the aborts and the SVN. -/
theorem firmwareCommands : Obligations.FirmwareCommands := by
  intro b h o x e s hs
  refine fun hw => ⟨fun ha => ?_, fun ha hl => ?_, fun ha hl => ?_, fun hl => ?_, fun hl => ?_, fun hl hb => ?_, fun hl hb => ?_,
    fun hl hd hf hb => ?_, fun hx => ?_, fun hx => ?_, fun hv hx => ⟨?_, fun hb => ?_, fun hb hd => ?_⟩, fun hr hv => ?_,
    fun hr hv hd => ?_, fun hr ha => ?_, fun hr ha he => ?_, fun hr ha he => ?_, fun ha hc => ⟨fun he => ?_, fun he ht => ?_⟩,
    fun ha => ⟨?_, ?_⟩, fun ha hl => ?_, fun hx => ?_, fun hl hd hf => ?_, fun hl => ?_⟩
  · rw [exec_fwLoad hs hw, fwLoad_activating ha]
  · rw [exec_fwLoad hs hw, fwLoad_loading ha hl]
  · rw [exec_fwLoad hs hw, fwLoad_begins ha hl]
  · rw [exec_fwLoadDone hs, fwLoadDone_idle hl]
  · rw [exec_fwLoadDone hs, fwLoadDone_unread hl]
    rfl
  · rw [exec_fwLoadDone hs, fwLoadDone_fails hl hb]
    rfl
  · rw [exec_fwLoadDone hs, fwLoadDone_builds hl hb]
    rfl
  · rw [exec_fwFlashWriteDone hs, flashWritten_staged hl hd hf hb]
  · rw [exec_fwFlashWriteDone hs, flashWritten_none hx]
  · rw [exec_bankReverify hs, bankReverify_none hx]
  · rw [exec_bankReverify hs, bankReverify_good hv hx]
  · rw [exec_bankReverify hs, bankReverify_staged hv hx hb]
  · rw [exec_bankReverify hs, bankReverify_run hv hx hb hd]
  · rw [exec_fwActivate hs hw, activate_recovery_none hr hv]
  · rw [exec_fwActivate hs hw, activate_recovery_boots hr hv hd]
    rfl
  · rw [exec_fwActivate hs hw, activate_running hr ha]
  · rw [exec_fwActivate hs hw, activate_refused hr ha he]
  · rw [exec_fwActivate hs hw, activate_accepted hr ha he]
  · subst he
    rw [exec_fwAbort hs hw, actAbort_restarts ha hc]
    rfl
  · subst he
    rw [exec_activationTimeout hs, if_pos ht, actAbort_restarts ha hc]
    rfl
  · rw [exec_fwAbort hs hw, actAbort_none ha]
  · rw [exec_activationTimeout hs, actAbort_none ha, ite_self]
  · rw [exec_commitSvn hs hw, commitSvn_burns ha hl]
    rfl
  · rw [exec_commitSvn hs hw, commitSvn_none hx]
  · rw [exec_fwCold hs hw, fwCold_names hl hd hf]
  · rw [exec_fwCold hs hw, fwCold_none hl]

/-- Settles O56: a facet's load by its check and its schema, a request by the cell it names, and the read that pops the list. -/
theorem facetCommands : Obligations.FacetCommands := by
  intro mask o e n f s hs
  refine fun hw => ⟨exec_facetLoad hs hw, fun h => ?_, fun h0 h => ?_, fun h => ?_,
    fun h hc => ⟨fun he => ?_, fun he hst => ?_, fun he hst => ?_⟩, fun h => ?_⟩
  · rw [exec_facetRequest hs hw, facetRequest_inTime h]
    rfl
  · rw [exec_facetRequest hs hw, facetRequest_late h0 h]
    rfl
  · rw [exec_facetLoadDone hs, facetLoadDone_idle h]
  · rw [exec_facetLoadDone hs, facetLoadDone_refused h hc he]
  · rw [exec_facetLoadDone hs, facetLoadDone_held h hc he hst]
    rfl
  · rw [exec_facetLoadDone hs, facetLoadDone_loaded h hc he hst]
    rfl
  · rw [exec_fwDeflistRead hs, deflRead_on h]

/-- Settles O57: an arming and a confirmation while a transition runs and while none does, and the end of a transition. -/
theorem lifeCycle : Obligations.LifeCycle := by
  intro target ofs b s hs
  refine ⟨fun h => ⟨?_, ?_⟩, fun h => ⟨?_, fun he => ?_, fun he => ?_, fun ha => lcErr_unarmed ha _⟩, fun h => ?_, fun h => ?_⟩
  · rw [exec_lcArm hs, lcArm_busy h]
    rfl
  · rw [exec_lcConfirm hs, lcConfirm_busy h]
    rfl
  · rw [exec_lcArm hs, lcArm_idle h]
    rfl
  · rw [exec_lcConfirm hs, lcConfirm_refused h he]
    rfl
  · rw [exec_lcConfirm hs, lcConfirm_accepted h he]
    rfl
  · rw [exec_lcTransitionDone hs, lcDone_none h]
  · rw [exec_lcTransitionDone hs, lcDone, h]

end Sys2Proof.Machine

/-! # Power, memory and Loupe (chapters 15 and 16)

Power requests and the steps of a sequence, wakes and the thermal shutdown, LPDDR5X and its windows, the error log and Loupe; then the
obligations that they settle. -/

namespace Sys2Proof.Machine

/-! ## Requests (R462 to R466) -/

section
variable {s : State} {target req r : Nat}

theorem pwrRequest_off (hn : s.pwr.seqn = none) (h : pwrState s = 4) : pwrRequest target req s = s := by
  simp only [pwrRequest, hn, h, Option.isNone_none, decide_true, Bool.and_self, if_true]

/-- The part takes requests: it is not in OFF, or on its way out of a sequence. -/
def takesRequests (s : State) : Prop := s.pwr.seqn ≠ none ∨ pwrState s ≠ 4

section
variable (ht : takesRequests s)
include ht

theorem not_off : (s.pwr.seqn.isNone && decide (pwrState s = 4)) = false := by
  rcases ht with h | h
  · rw [Option.isNone_eq_false_iff.2 (Option.isSome_iff_ne_none.2 h), Bool.false_and]
  · rw [decide_eq_false h, Bool.and_false]

theorem pwrRequest_frozen (h : s.on Reg.WDN_STAT.FROZEN = true) :
    pwrRequest target req s = (pwrQueue target req s).put Reg.PWR_STAT.LAST_RESULT 2 := by
  simp only [pwrRequest, not_off ht, h, Bool.false_eq_true, if_false, if_true]

variable (hf : s.on Reg.WDN_STAT.FROZEN = false)
include hf

theorem pwrRequest_refused (h : refuser s target req = some r) : pwrRequest target req s = pwrRefused target req r s := by
  simp only [pwrRequest, not_off ht, hf, h, Bool.false_eq_true, if_false]

variable (hr : refuser s target req = none)
include hr

section
variable (hn : s.pwr.seqn = none)
include hn

/-- With no sequence running a request is answered at once, wakes the part, or begins a sequence. -/
theorem pwrRequest_idle : pwrRequest target req s =
    if target = 0 && pwrState s = 0 then s.put Reg.PWR_STAT.LAST_RESULT 4
    else if pwrState s = 3 && target < 3 then wakeOn 1 0 target (s.put Reg.PWR_STAT.LAST_RESULT 1)
    else (pwrBegin target req s).put Reg.PWR_STAT.LAST_RESULT 1 := by
  have ho := not_off ht
  rw [hn] at ho
  simp only [pwrRequest, hn, ho, hf, hr, Bool.false_eq_true, if_false]

theorem pwrRequest_reached (h : target = 0) (h0 : pwrState s = 0) : pwrRequest target req s = s.put Reg.PWR_STAT.LAST_RESULT 4 := by
  rw [pwrRequest_idle ht hf hr hn, if_pos (by simp [h, h0])]

theorem pwrRequest_begins (h : target ≠ 0 ∨ pwrState s ≠ 0) (hw : pwrState s ≠ 3 ∨ 3 ≤ target) :
    pwrRequest target req s = (pwrBegin target req s).put Reg.PWR_STAT.LAST_RESULT 1 := by
  have h1 : ¬ (target = 0 ∧ pwrState s = 0) := by omega
  have h2 : ¬ (pwrState s = 3 ∧ target < 3) := by omega
  rw [pwrRequest_idle ht hf hr hn, if_neg (by simpa using h1), if_neg (by simpa using h2)]

theorem pwrRequest_wakes (h : pwrState s = 3) (ht3 : target < 3) :
    pwrRequest target req s = wakeOn 1 0 target (s.put Reg.PWR_STAT.LAST_RESULT 1) := by
  have h0 : pwrState s ≠ 0 := by omega
  simp only [pwrRequest_idle ht hf hr hn, decide_eq_false h0, decide_eq_true h, decide_eq_true ht3, Bool.and_false, Bool.and_self,
    Bool.false_eq_true, if_false, if_true]

end

section
variable {q : PwrSeq} (hq : s.pwr.seqn = some q)
include hq

/-- During a sequence a request for its target is merged with it, and another one is queued. -/
theorem pwrRequest_busy : pwrRequest target req s =
    if q.target = target then
      ((setQueued none (s.incIf s.pwr.queued.isSome Reg.PWR_REPLACED.CNT)).inc Reg.PWR_MERGED.CNT).put Reg.PWR_STAT.LAST_RESULT 3
    else (pwrQueue target req s).put Reg.PWR_STAT.LAST_RESULT 2 := by
  have ho := not_off ht
  rw [hq] at ho
  simp only [pwrRequest, hq, ho, hf, hr, Bool.false_eq_true, if_false]

theorem pwrRequest_queued (h : q.target ≠ target) :
    pwrRequest target req s = (pwrQueue target req s).put Reg.PWR_STAT.LAST_RESULT 2 := by
  rw [pwrRequest_busy ht hf hr hq, if_neg h]

theorem pwrRequest_merged (h : q.target = target) : pwrRequest target req s =
    ((setQueued none (s.incIf s.pwr.queued.isSome Reg.PWR_REPLACED.CNT)).inc Reg.PWR_MERGED.CNT).put Reg.PWR_STAT.LAST_RESULT 3 := by
  rw [pwrRequest_busy ht hf hr hq, if_pos h]

end

end

end

/-! ## Sequences (R467 to R471) -/

section
variable {s : State} {d k : Nat} {on : Bool} {q : PwrSeq}

/-- The domain that switches is done at clock `k`. -/
def switchedAt (k : Nat) (s : State) : State := modPwr (fun p => { p with sw := none }) (s.at (k - s.core.ticks * Config.tickClocks))

/-- It is on, or off. -/
def domainSet (d : Nat) (on : Bool) (s : State) : State := if on then domainOn d s else domainOff d s

theorem switchDone_idle (h : s.pwr.sw = none) : switchDone s = swArm s := by simp only [switchDone, h]

section
variable (h : s.pwr.sw = some (d, on, k)) (hw : switching s = some (d, on))
include h hw

theorem switchDone_later (hk : (s.core.ticks + 1) * Config.tickClocks ≤ k) : switchDone s = s := by
  simp only [switchDone, h, hw, ne_eq, not_true_eq_false, if_false, if_pos hk]

theorem switchDone_due (hk : k < (s.core.ticks + 1) * Config.tickClocks) : switchDone s = swArm (switched d on (switchedAt k s)) := by
  simp only [switchDone, h, hw, ne_eq, not_true_eq_false, if_false, if_neg (Nat.not_le.2 hk)]
  rfl

end

theorem switched_cycling (h : s.pwr.seqn = none) :
    switched d on s = modPwr (fun p => { p with cyc := p.cyc.drop 1 }) (domainSet d on s) := by
  simp only [switched, h, domainSet]

theorem switched_up (h : s.pwr.seqn = some q) (hu : q.ups ≠ []) :
    switched d on s = pwrNext { q with ups := q.ups.drop 1 } (domainSet d on s) := by
  simp only [switched, h, List.isEmpty_eq_false_iff.2 hu, Bool.not_false, if_true, domainSet]

theorem switched_down (h : s.pwr.seqn = some q) (hu : q.ups = []) (hd : q.downs ≠ []) :
    switched d on s = pwrNext { q with downs := q.downs.drop 1 } (domainSet d on s) := by
  simp only [switched, h, hu, List.isEmpty_nil, List.isEmpty_eq_false_iff.2 hd, Bool.not_true, Bool.not_false, Bool.false_eq_true, if_false,
    if_true, domainSet]

/-- The ticks in which every frame due is released. -/
def drainWait (s : State) : Nat :=
  min 4 (max 1 (s.eff Reg.DEC_CTRL.BUDGET_TICKS)) + b2n (s.effOn Reg.MIR_CTRL.CNT_MIRROR && s.on Reg.MIR_CTRL.TWIN) + 2

/-- The active cluster is to be the one that resumes. -/
def parked (s : State) : State := modPwr (fun p => { p with parked := if clActive s then some (clHolder s) else none }) s

theorem drainDone_none (h : s.pwr.seqn = none) : drainDone s = s := by simp only [drainDone, h]

theorem drainDone_seals (h : s.pwr.seqn = some q) (hp : q.phase = 3) (hw : q.mark + drainWait s ≤ s.core.ticks)
    (hi : s.mir.int.unacked = []) (ht : s.mir.twin.unacked = []) :
    drainDone s = setSeq (some { q with phase := 4 }) (sealStart (domainOff 2 (domainOff 1 (parked s)))) := by
  rw [drainWait] at hw
  simp only [drainDone, h, hp, hi, ht, decide_eq_false (Nat.not_lt.2 hw), ne_eq, not_true_eq_false, decide_false, List.isEmpty_nil,
    Bool.not_true, Bool.or_self, Bool.false_eq_true, if_false, parked]

theorem drainDone_waits (h : s.pwr.seqn = some q) (hx : q.phase ≠ 3 ∨ s.core.ticks < q.mark + drainWait s) : drainDone s = s := by
  rw [drainWait] at hx
  rcases hx with hx | hx <;> simp [drainDone, h, hx]

/-- The seal record is in flash, which keeps 128 records in each of two halves. -/
def sealWritten (c : Tab Nat) (tick : Nat) (s : State) : State :=
  { s.emit (.lanes "flash seal" (sealRecord s.lpe.seq tick c)) with
    lpe := { s.lpe with sealing := none, seq := s.lpe.seq + 1
                        flash := (if 256 ≤ s.lpe.flash.length then s.lpe.flash.drop 128 else s.lpe.flash) ++ [(s.lpe.seq, c)] } }

theorem sealDone_none (h : s.lpe.sealing = none) : sealDone s = s := by simp only [sealDone, h]

theorem sealDone_written {c : Tab Nat} {tick : Nat} (h : s.lpe.sealing = some (c, tick)) :
    sealDone s = swArm (sealedOff (((sealWritten c tick s).inc Reg.LPE_STAT.SEALS).put Reg.LPE_CTRL.SEAL 0)) := by
  simp only [sealDone, h]
  rfl

/-! ## Thermal shutdown (R520) -/

/-- The lease is dropped and the queued request goes. -/
def thermalDropped (s : State) : State :=
  let l := lpeHeld 0x091 (withdrawLease s)
  setQueued none (l.incIf l.pwr.queued.isSome Reg.PWR_REPLACED.CNT)

/-- The shutdown waits for the sequence that runs, or starts. -/
def thermalDue (s : State) : State := modPwr (fun p => { p with thermal := true }) s

theorem thermalShutdown_eq (s : State) : thermalShutdown s =
    match (thermalDropped s).pwr.seqn with
    | some q => if q.target = 4 && q.phase != 0 then thermalDropped s else thermalDue (thermalDropped s)
    | none =>
      if pwrState (thermalDropped s) = 4 then thermalDropped s
      else if pwrState (thermalDropped s) = 3 then pwrFinish 4 (thermalDropped s)
      else pwrBegin 4 0 (thermalDue (thermalDropped s)) := rfl

theorem thermalShutdown_goingOff (h : (thermalDropped s).pwr.seqn = some q) (ht : q.target = 4) (hp : q.phase ≠ 0) :
    thermalShutdown s = thermalDropped s := by
  simp only [thermalShutdown_eq, h, ht, bne_iff_ne.2 hp, decide_true, Bool.and_self, if_true]

theorem thermalShutdown_waits (h : (thermalDropped s).pwr.seqn = some q) (hx : q.target ≠ 4 ∨ q.phase = 0) :
    thermalShutdown s = thermalDue (thermalDropped s) := by
  rcases hx with hx | hx <;> simp [thermalShutdown_eq, h, hx]

section
variable (h : (thermalDropped s).pwr.seqn = none)
include h

theorem thermalShutdown_begins (h4 : pwrState (thermalDropped s) ≠ 4) (h3 : pwrState (thermalDropped s) ≠ 3) :
    thermalShutdown s = pwrBegin 4 0 (thermalDue (thermalDropped s)) := by
  simp only [thermalShutdown_eq, h, if_neg h4, if_neg h3]

/-- From DORMANT, OFF is reached at once. -/
theorem thermalShutdown_dormant (h3 : pwrState (thermalDropped s) = 3) : thermalShutdown s = pwrFinish 4 (thermalDropped s) := by
  have h4 : pwrState (thermalDropped s) ≠ 4 := by omega
  simp only [thermalShutdown_eq, h, if_neg h4, if_pos h3]

theorem thermalShutdown_off (h4 : pwrState (thermalDropped s) = 4) : thermalShutdown s = thermalDropped s := by
  simp only [thermalShutdown_eq, h, if_pos h4]

end

/-- The edge on GPIO `n` is one that wakes the part. -/
def gpioWakes (n : Nat) (rising : Bool) (s : State) : Bool :=
  bitAt (s.get Reg.PWR_WAKE_GPIO.EN) n && bitAt (s.get Reg.PWR_WAKE_GPIO.EDGE) n == rising

theorem padRelease_ready (h : s.on Reg.PWR_STAT.RELEASE_READY = true) : padRelease s =
    feSync (modPwr (fun p => { p with rearm := true }) ((s.put Reg.PWR_STAT.PAD_HELD 0).put Reg.PWR_STAT.RELEASE_READY 0)) := by
  simp only [padRelease, h, if_true]

theorem padRelease_early (h : s.on Reg.PWR_STAT.RELEASE_READY = false) : padRelease s = s := by
  simp only [padRelease, h, Bool.false_eq_true, if_false]

/-! ## The error log and LPDDR5X (R482 to R487) -/

/-- A read of MEM_ECC_LOG leaves the entries `l`, keeps the high word `hi` and answers the low word `lo`. -/
def eccPopped (l : List (Nat × Nat × Nat)) (hi lo : Nat) (s : State) : State :=
  let a := Reg.MEM_ECC_LOG.REGION.addr
  (eccSync (modMem (fun m => { m with log := l }) { s with core := { s.core with latch := s.core.latch.insert a hi } })).emit
    (.readWord 0 a lo)

section
variable (hw : windowOn s Reg.MEM_ECC_LOG.REGION.addr = true)
include hw

theorem eccRead_oldest {a b e : Nat} {l : List (Nat × Nat × Nat)} (h : s.mem.log = (a, b, e) :: l) :
    eccRead s = eccPopped l e (a + 256 * b + 65536) s := by
  simp only [eccRead, hw, h, Bool.not_true, Bool.false_eq_true, if_false, eccPopped, modMem, List.drop_succ_cons, List.drop_zero]

theorem eccRead_empty (h : s.mem.log = []) : eccRead s = eccPopped [] 0 0 s := by
  simp only [eccRead, hw, h, Bool.not_true, Bool.false_eq_true, if_false, eccPopped, modMem, List.drop_nil]

end

section
variable {w : Nat}

theorem windowOpen_notClosed (h : s.get (winState w) ≠ 0) : windowOpen w s = s := by simp only [windowOpen, if_pos h]

section
variable (h : s.get (winState w) = 0)
include h

theorem windowOpen_queued (ho : s.on Reg.MEM_STAT.DRAM_OK = true) (hp : winBadPlace s w = false) :
    windowOpen w s = winFill (modMem (fun m => { m with fillQ := m.fillQ ++ [w] }) (s.put (winState w) 1)) := by
  simp only [windowOpen, h, ho, hp, ne_eq, not_true_eq_false, Bool.not_true, Bool.or_self, Bool.false_eq_true, if_false]

theorem windowOpen_error (hx : s.on Reg.MEM_STAT.DRAM_OK = false ∨ winBadPlace s w = true) :
    windowOpen w s = s.put (Reg.MEM_WINw_STAT.ERR w) 1 := by
  rcases hx with hx | hx <;>
    simp only [windowOpen, h, hx, ne_eq, not_true_eq_false, Bool.not_false, Bool.true_or, Bool.or_true, if_false, if_true]

theorem windowClose_closed : windowClose w s = s := by simp only [windowClose, if_pos h]

end

/-- The window is closed, and what it held is gone. -/
def windowForgotten (w : Nat) (s : State) : State :=
  winForget w ((modMem (fun m => { m with fillQ := setDel m.fillQ w }) s).put (winState w) 0)

theorem windowClose_open (h : s.get (winState w) ≠ 0) : windowClose w s =
    winFill (if w = 0 then (windowForgotten w s).put Reg.FWD_STAT.NTC_OPEN 0 else windowForgotten w s) := by
  simp only [windowClose, if_neg h, windowForgotten]

/-- The window at the front of the queue is open, and the queue goes on. -/
def windowOpened (w : Nat) (l : List Nat) (s : State) : State :=
  winForget w ((modMem (fun m => { m with fillQ := l }) s).put (winState w) 3)

theorem windowFilled_none (h : s.mem.fillQ = []) : windowFilled s = s := by simp only [windowFilled, h]

theorem windowFilled_front {l : List Nat} (h : s.mem.fillQ = w :: l) : windowFilled s =
    winFill (if w = 0 then (windowOpened w l s).put Reg.FWD_STAT.NTC_OPEN 1 else (windowOpened w l s).drawn) := by
  simp only [windowFilled, h, windowOpened]

end

/-- A training ends with the capacity found. -/
def dramTrained (size : Fin 4) (s : State) : State :=
  ((s.put Reg.MEM_DRAM_CFG.TRAIN 0).putB Reg.MEM_STAT.DRAM_OK (size != 0)).put Reg.MEM_STAT.DRAM_SIZE size

/-! ## Loupe (R492, R493) -/

theorem sealStart_asks (h : s.on Reg.LPE_CTRL.SEAL = false) :
    sealStart s = { s.put Reg.LPE_CTRL.SEAL 1 with lpe := { s.lpe with sinceSeal := 0 } } := by
  simp only [sealStart, h, Bool.false_eq_true, if_false]

theorem sealStart_asked (h : s.on Reg.LPE_CTRL.SEAL = true) : sealStart s = s := by simp only [sealStart, h, if_true]

theorem sealSnap_takes (h : s.on Reg.LPE_CTRL.SEAL = true) (hn : s.lpe.sealing = none) :
    sealSnap s = { s with lpe := { s.lpe with sealing := some (s.lpe.cnt, s.tick) } } := by
  simp only [sealSnap, h, hn, Option.isNone_none, Bool.and_self, if_true]

end

/-! ## The commands on a live block -/

section
variable {s : State} (hs : s.live)
include hs

theorem exec_powerRequest (target : Fin 8) :
    exec (.powerRequest target) s = .next (settle s (pwrRequest target 0 (s.cleared.put Reg.PWR_REQ.TARGET target))) :=
  run_live hs (fun u => pwrRequest target 0 (u.put Reg.PWR_REQ.TARGET target))

theorem exec_domainSwitchDone : exec .domainSwitchDone s = .next (settle s (switchDone s.cleared)) := run_live hs _

theorem exec_dormantDrainDone : exec .dormantDrainDone s = .next (settle s (drainDone s.cleared)) := run_live hs _

theorem exec_loupeSealDone : exec .loupeSealDone s = .next (settle s (sealDone s.cleared)) := run_live hs _

theorem exec_wakeTimer : exec .wakeTimer s = .next (settle s
    (if timerDue s.cleared then wakeOn 2 0 (wakeTarget s.cleared) s.cleared else s.cleared)) :=
  run_live hs (fun u => if timerDue u then wakeOn 2 0 (wakeTarget u) u else u)

theorem exec_wakeGpio (n : Fin 16) (rising : Bool) : exec (.wakeGpio n rising) s = .next (settle s
    (if gpioWakes n rising s.cleared then wakeOn 3 n (wakeTarget s.cleared) s.cleared else s.cleared)) :=
  run_live hs (fun u => if gpioWakes n rising u then wakeOn 3 n (wakeTarget u) u else u)

theorem exec_padRelease : exec .padRelease s = .next (settle s (padRelease s.cleared)) := run_live hs _

theorem exec_thermalShutdown : exec .thermalShutdown s = .next (settle s (thermalShutdown s.cleared)) := run_live hs _

theorem exec_memEccLogRead : exec .memEccLogRead s = .next (settle s (eccRead s.cleared)) := run_live hs _

theorem exec_dramTrainDone (size : Fin 4) : exec (.dramTrainDone size) s = .next (settle s
    (if s.cleared.on Reg.MEM_DRAM_CFG.TRAIN then dramTrained size s.cleared else s.cleared)) :=
  run_live hs (fun u => if u.on Reg.MEM_DRAM_CFG.TRAIN then dramTrained size u else u)

theorem exec_windowFillDone : exec .windowFillDone s = .next (settle s (windowFilled s.cleared)) := run_live hs _

theorem exec_loupePeriodicSeal : exec .loupePeriodicSeal s = .next (settle s
    (if max 60 (s.cleared.get Reg.LPE_CFG.PERIOD) ≤ s.cleared.lpe.sinceSeal then sealStart s.cleared else s.cleared)) :=
  run_live hs (fun u => if max 60 (u.get Reg.LPE_CFG.PERIOD) ≤ u.lpe.sinceSeal then sealStart u else u)

section
variable (hw : windowOn s.cleared Reg.MEM_DRAM_CFG.TRAIN.addr = true)
include hw

theorem exec_dramTrain : exec .dramTrain s = .next (settle s (s.cleared.put Reg.MEM_DRAM_CFG.TRAIN 1)) :=
  run_regAccess_on hs hw (·.put Reg.MEM_DRAM_CFG.TRAIN 1)

theorem exec_windowOpen (w : Fin 2) : exec (.windowOpen w) s = .next (settle s (windowOpen w s.cleared)) := run_regAccess_on hs hw _

theorem exec_windowClose (w : Fin 2) : exec (.windowClose w) s = .next (settle s (windowClose w s.cleared)) := run_regAccess_on hs hw _

end

section
variable (hw : windowOn s.cleared Reg.LPE_SEL.ID.addr = true)
include hw

theorem exec_loupeSeal : exec .loupeSeal s = .next (settle s (sealStart s.cleared)) := run_regAccess_on hs hw _

theorem exec_loupeExport : exec .loupeExport s = .next (settle s (loupeExport s.cleared)) := run_regAccess_on hs hw _

theorem exec_loupeSelect (id : Fin 4096) (bin : Fin 32) :
    exec (.loupeSelect id bin) s = .next (settle s (loupeSelect id bin s.cleared)) := run_regAccess_on hs hw _

end

end

/-! ## The obligations -/

/-- Settles O58: a request by what runs and who refuses it, a step of a sequence by what it waits for, and the thermal shutdown. -/
theorem powerSequences : Obligations.PowerSequences := by
  intro target n rising on r d k tick q c s hs
  refine ⟨fun hn h => ?_, fun ht => ⟨fun hf => ?_, fun hf hr => ?_, fun hf hr => ⟨fun hn h h0 => ?_, fun hn h hw => ?_, fun hn h h3 => ?_,
    fun hq h => ?_, fun hq h => ?_⟩⟩, fun h => ?_, fun h hw hk => ?_, fun h hw hk => ⟨fun hn => ?_, fun hq hu => ?_, fun hq hu hd => ?_⟩,
    fun h => ?_, fun h hp hw hi ht => ?_, fun h hx => ?_, fun h => ?_, fun h => ?_, fun h => ?_, fun h => ?_, fun he hr => ?_, fun he => ?_,
    fun h => ?_, fun h => ?_, fun h ht hp => ?_, fun h hx => ?_, fun h h4 h3 => ?_, fun h h3 => ?_, fun h h4 => ?_⟩
  · rw [exec_powerRequest hs, pwrRequest_off hn h]
  · rw [exec_powerRequest hs, pwrRequest_frozen ht hf]
  · rw [exec_powerRequest hs, pwrRequest_refused ht hf hr]
  · rw [exec_powerRequest hs, pwrRequest_reached ht hf hr hn (congrArg Fin.val h) h0]
  · rw [exec_powerRequest hs, pwrRequest_begins ht hf hr hn h hw]
  · rw [exec_powerRequest hs, pwrRequest_wakes ht hf hr hn h h3]
  · rw [exec_powerRequest hs, pwrRequest_queued ht hf hr hq h]
  · rw [exec_powerRequest hs, pwrRequest_merged ht hf hr hq h]
  · rw [exec_domainSwitchDone hs, switchDone_idle h]
  · rw [exec_domainSwitchDone hs, switchDone_later h hw hk]
  · rw [exec_domainSwitchDone hs, switchDone_due h hw hk, switched_cycling (s := switchedAt k s.cleared) hn]
    rfl
  · rw [exec_domainSwitchDone hs, switchDone_due h hw hk, switched_up (s := switchedAt k s.cleared) hq hu]
    rfl
  · rw [exec_domainSwitchDone hs, switchDone_due h hw hk, switched_down (s := switchedAt k s.cleared) hq hu hd]
    rfl
  · rw [exec_dormantDrainDone hs, drainDone_none h]
  · rw [exec_dormantDrainDone hs, drainDone_seals h hp hw hi ht]
    rfl
  · rw [exec_dormantDrainDone hs, drainDone_waits h hx]
  · rw [exec_loupeSealDone hs, sealDone_none h]
  · rw [exec_loupeSealDone hs, sealDone_written h]
    rfl
  · rw [exec_wakeTimer hs, if_pos h]
  · rw [exec_wakeTimer hs, h, if_neg Bool.false_ne_true]
  · rw [exec_wakeGpio hs, gpioWakes, he, beq_iff_eq.2 hr]
    rfl
  · rw [exec_wakeGpio hs, gpioWakes, he, Bool.false_and, if_neg Bool.false_ne_true]
  · rw [exec_padRelease hs, padRelease_ready h]
  · rw [exec_padRelease hs, padRelease_early h]
  · rw [exec_thermalShutdown hs, thermalShutdown_goingOff h ht hp]
    rfl
  · rw [exec_thermalShutdown hs, thermalShutdown_waits h hx]
    rfl
  · rw [exec_thermalShutdown hs, thermalShutdown_begins h h4 h3]
    rfl
  · rw [exec_thermalShutdown hs, thermalShutdown_dormant h h3]
    rfl
  · rw [exec_thermalShutdown hs, thermalShutdown_off h h4]
    rfl

/-- Settles O59: the log by what it holds, the windows by their state and their place, and Loupe's seals, selection and export. -/
theorem memoryAndLoupe : Obligations.MemoryAndLoupe := by
  intro w size id bin a b e k l q s hs
  refine fun hg hm hl => ⟨fun h => ?_, fun h => ?_, exec_dramTrain hs hm, fun h => ?_, fun h => ?_, fun h => ?_, fun h ho hp => ?_,
    fun h hx => ?_, fun h => ?_, fun h hk => ?_, fun h hk => ?_, fun h => ?_, fun h hw => ?_, fun h hw => ?_, fun h => ?_, sealSnap_takes,
    fun h => ⟨?_, ?_⟩, fun h hp => ?_, fun hp => ?_, exec_loupeExport hs hl, exec_loupeSelect hs hl id bin⟩
  · rw [exec_memEccLogRead hs, eccRead_oldest hg h]
    rfl
  · rw [exec_memEccLogRead hs, eccRead_empty hg h]
    rfl
  · rw [exec_dramTrainDone hs, if_pos h]
    rfl
  · rw [exec_dramTrainDone hs, h, if_neg Bool.false_ne_true]
  · rw [exec_windowOpen hs hm, windowOpen_notClosed h]
  · rw [exec_windowOpen hs hm, windowOpen_queued h ho hp]
  · rw [exec_windowOpen hs hm, windowOpen_error h hx]
  · rw [exec_windowFillDone hs, windowFilled_none h]
  · rw [exec_windowFillDone hs, windowFilled_front h, if_pos rfl, hk]
    rfl
  · rw [exec_windowFillDone hs, windowFilled_front h, if_neg hk]
    rfl
  · rw [exec_windowClose hs hm, windowClose_closed h]
  · rw [exec_windowClose hs hm, windowClose_open h, if_pos (Fin.val_eq_zero_iff.2 hw)]
    rfl
  · rw [exec_windowClose hs hm, windowClose_open h, hw, if_neg (by decide)]
    rfl
  · rw [exec_loupeSeal hs hl, sealStart_asks h]
  · rw [exec_loupeSeal hs hl, sealStart_asked h]
  · rw [exec_loupePeriodicSeal hs, sealStart_asked h, ite_self]
  · rw [exec_loupePeriodicSeal hs, if_pos hp, sealStart_asks h]
  · rw [exec_loupePeriodicSeal hs, if_neg (Nat.not_le.2 hp)]

end Sys2Proof.Machine

/-! # The debug paths (chapter 16)

Debug levels and their challenge, the quiet view and the accesses with effect, halted clusters and the TAP; then the obligation that they
settle. -/

namespace Sys2Proof.Machine

/-! ## What reaches a path (R497) -/

/-- The path answers: the PF's while the DBG window does, the TAP's under DBG_ACCESS. -/
def reaches (p : Fin 2) (s : State) : Bool :=
  if p = 0 then windowOn s Reg.DBG_AUTH_CTRL.CODE.addr else decide (s.dbg.tap = 2)

theorem onDbg_reaches {s : State} {f : State → State} : ∀ {p : Fin 2}, reaches p s = true → onDbg p f s = f s
  | 0, h => regAccess_on (a := Reg.DBG_AUTH_CTRL.CODE.addr) h f
  | 1, h => if_pos (of_decide_eq_true h)

section
variable {s : State}

/-! ## Levels (R498, R499) -/

section
variable {p level k : Nat}

/-- LEVEL as an arming writes it. -/
def levelAsked (p level : Nat) (s : State) : State := s.put (pathFld p Reg.DBG_AUTH_CTRL.LEVEL) level

/-- A fresh challenge. -/
def dbgChallenged (p : Nat) (s : State) : State :=
  modPathDbg p (fun x => { x with armed := some s.clk }) (s.drawn.put (pathFld p Reg.DBG_AUTH_CHAL.CHAL) (Config.drbg s.core.free))

theorem dbgArm_busy (h : (levelAsked p level s).on (pathFld p Reg.DBG_AUTH_CTRL.BUSY) = true) : dbgArm p level s = levelAsked p level s := by
  rw [levelAsked] at h ⊢
  simp only [dbgArm, h, if_true]

theorem dbgArm_free (h : (levelAsked p level s).on (pathFld p Reg.DBG_AUTH_CTRL.BUSY) = false) :
    dbgArm p level s = dbgChallenged p (levelAsked p level s) := by
  rw [levelAsked] at h ⊢
  simp only [dbgArm, h, Bool.false_eq_true, if_false, dbgChallenged]

theorem dbgConfirm_unarmed (h : (dbgPath s p).armed = none) : dbgConfirm p s = s := by simp only [dbgConfirm, h]

theorem dbgConfirm_armed (h : (dbgPath s p).armed = some k) : dbgConfirm p s =
    modPathDbg p (fun x => { x with armed := none, late := decide (k + usClk 1000 < s.clk), decide := some (s.clk + usClk 4000) })
      (s.put (pathFld p Reg.DBG_AUTH_CTRL.BUSY) 1) := by
  simp only [dbgConfirm, h]

/-- The decision is over. -/
def decisionOver (p : Nat) (s : State) : State :=
  modPathDbg p (fun x => { x with decide := none, late := false }) (s.put (pathFld p Reg.DBG_AUTH_CTRL.BUSY) 0)

/-- The level asked for: 2 where LEVEL holds more. -/
def levelWanted (p : Nat) (s : State) : Nat := min 2 (s.get (pathFld p Reg.DBG_AUTH_CTRL.LEVEL))

/-- A grant of level 1 ends a level 2. -/
def levelCleared (p : Nat) (s : State) : State := if levelWanted p s = 1 then levelDrop p s else s

/-- The level wanted is granted for DUR. -/
def levelGranted (p l : Nat) (s : State) : State :=
  lpe 0x093 (modPathDbg p (fun x => { x with ends := some (s.clk + dbgDur s p * 983040000) }) (s.put (pathFld p Reg.DBG_AUTH_CTRL.CUR) l))

theorem dbgDecision_none (h : (dbgPath s p).decide = none) : dbgDecision p s = s := by simp only [dbgDecision, h]

section
variable (h : (dbgPath s p).decide = some k) (hk : k ≤ s.clk)
include h hk

/-- A decision that is due grants the level, or denies it. -/
theorem dbgDecision_due : dbgDecision p s =
    if (dbgPath s p).late || decide (levelWanted p (decisionOver p s) = 0) || !dbgSigned (decisionOver p s) p then
      lpe 0x094 ((decisionOver p s).put (pathFld p Reg.DBG_AUTH_CTRL.DENIED) 1)
    else levelGranted p (levelWanted p (decisionOver p s)) (levelCleared p (decisionOver p s)) := by
  simp only [dbgDecision, h, if_neg (Nat.not_lt.2 hk)]
  rfl

theorem dbgDecision_denied
    (hx : (dbgPath s p).late = true ∨ levelWanted p (decisionOver p s) = 0 ∨ dbgSigned (decisionOver p s) p = false) :
    dbgDecision p s = lpe 0x094 ((decisionOver p s).put (pathFld p Reg.DBG_AUTH_CTRL.DENIED) 1) := by
  rw [dbgDecision_due h hk, if_pos]
  rcases hx with hx | hx | hx <;> simp [hx]

theorem dbgDecision_granted (hl : (dbgPath s p).late = false) (h0 : levelWanted p (decisionOver p s) ≠ 0)
    (hs : dbgSigned (decisionOver p s) p = true) :
    dbgDecision p s = levelGranted p (levelWanted p (decisionOver p s)) (levelCleared p (decisionOver p s)) := by
  rw [dbgDecision_due h hk, if_neg (by simp [hl, h0, hs])]

end

theorem levelDrop_low (h : s.get (pathFld p Reg.DBG_AUTH_CTRL.CUR) ≠ 2) :
    levelDrop p s = modPathDbg p (fun x => { x with ends := none }) (s.put (pathFld p Reg.DBG_AUTH_CTRL.CUR) 0) := by
  simp only [levelDrop, if_neg h]

/-- The path's level has run out. -/
def levelOver (p : Nat) (s : State) : Bool := (dbgPath s p).ends.any (fun c => decide (c ≤ s.clk))

theorem levelOver_due (h : (dbgPath s p).ends = some k) (hk : k ≤ s.clk) : levelOver p s = true := by
  rw [levelOver, h, Option.any_some, decide_eq_true hk]

theorem levelOver_none (h : (dbgPath s p).ends = none) : levelOver p s = false := by rw [levelOver, h, Option.any_none]

end

/-! ## Accesses (R500, R501) -/

section
variable {p words : Nat}

section
variable (p words)

/-- The state in which each access finds its registers: a quiet read, a read with effect, a write. -/
def quietGo (s : State) : State := qvGo p 0 0 words s
def consumeGo (s : State) : State := qvGo p 1 0 words s
def writeGo (s : State) : State := qvGo p 0 1 words s

end

theorem quietView_denied (h : dbgLevel (quietGo p words s) p = 0) : quietView p words s = qvDenied p (quietGo p words s) := by
  rw [quietGo] at h ⊢
  simp only [quietView, h, decide_true, Bool.true_or, if_true]

/-- A read of the register space leaves nothing of what it reads behind. -/
theorem quietView_registers (h : dbgLevel (quietGo p words s) p ≠ 0) (h0 : qvSpace (quietGo p words s) p = 0) : quietView p words s =
    qvDone p (quietReads (words + 1) (qvAddr (quietGo p words s) p / 4 * 4) (quietGo p words s)) false (quietGo p words s) := by
  rw [quietGo] at h h0 ⊢
  simp only [quietView, h0, decide_eq_false h, Nat.reduceEqDiff, decide_false, Bool.or_self, Bool.false_eq_true, if_false, if_true]

theorem debugConsume_denied (h : dbgLevel (consumeGo p words s) p ≠ 2) : debugConsume p words s = qvDenied p (consumeGo p words s) := by
  rw [consumeGo] at h ⊢
  simp only [debugConsume, decide_eq_true h, Bool.true_or, if_true]

/-- The ordinary reads of a consuming access. -/
def consumed (p words : Nat) (s : State) : List Nat × State :=
  ordinaryReads (words + 1) (qvAddr (consumeGo p words s) p / 4 * 4) (consumeGo p words s)

theorem debugConsume_registers (h : dbgLevel (consumeGo p words s) p = 2) (h0 : qvSpace (consumeGo p words s) p = 0) :
    debugConsume p words s = qvDone p (consumed p words s).1 false (consumed p words s).2 := by
  rw [consumed]
  rw [consumeGo] at h h0 ⊢
  simp only [debugConsume, h, h0, ne_eq, not_true_eq_false, Nat.reduceEqDiff, decide_false, Bool.or_self, Bool.false_eq_true, if_false,
    if_true]

/-- The words of a write, each written to its place but to the KV window. -/
def wordsWritten (p words : Nat) (e : DbgEnv) (s : State) : State :=
  forEach (List.range (words + 1)) (fun i t =>
    let b := qvAddr s p / 4 * 4 + 4 * i
    if b / 0x100000 = 12 then t else
      (if p = 0 then wordWith [] e else fullWord e) b (s.get (pathFld p (Reg.DBG_QV_DATAi.DATA i))) t) s

theorem debugWrite_denied (e : DbgEnv) (h : dbgLevel (writeGo p words s) p ≠ 2) :
    debugWrite p words e s = qvDenied p (writeGo p words s) := by
  rw [writeGo] at h ⊢
  simp only [debugWrite, debugWriteBy, decide_eq_true h, Bool.true_or, if_true]

theorem debugWrite_registers (e : DbgEnv) (h : dbgLevel (writeGo p words s) p = 2) (h0 : qvSpace (writeGo p words s) p = 0) :
    debugWrite p words e s = (wordsWritten p words e (writeGo p words s)).put (pathFld p Reg.DBG_QV_STAT.DONE) 1 := by
  rw [writeGo] at h h0 ⊢
  simp only [debugWrite, debugWriteBy, h, h0, ne_eq, not_true_eq_false, Nat.reduceEqDiff, decide_false, Bool.or_self, Bool.false_eq_true,
    if_false, if_true, wordsWritten]

end

/-! ## Halted clusters (R394, R502) -/

section
variable {p c : Nat}

/-- The cluster is marked halted by the path, which keeps the state it was in. -/
def haltMarked (p c : Nat) (s : State) : State :=
  modDbg (fun d => { d with was := d.was.insert c (clState s c) })
    ((s.put (Reg.DBG_CCc_STAT.HALTED c) 1).put (Reg.DBG_CCc_STAT.PATH c) p)

/-- The active cluster hangs, with the lease. -/
def hungActive (c : Nat) (s : State) : State := modWdn (fun w => { w with hungA := w.hungA || c == 0, hungB := w.hungB || c == 1 }) s

theorem halt_unauthorised (h : dbgLevel s p ≠ 2) : halt p c s = s := by simp only [halt, decide_eq_true h, Bool.true_or, if_true]

theorem halt_dead (h : clState s c = clOFF ∨ clState s c = clFAILED) : halt p c s = s := by
  rcases h with h | h <;> simp [halt, h]

section
variable (hl : dbgLevel s p = 2) (hn : s.on (Reg.DBG_CCc_STAT.HALTED c) = false)
include hl hn

theorem halt_running (ho : clState s c ≠ clOFF) (hf : clState s c ≠ clFAILED) : halt p c s =
    if clState s c = clACTIVE then
      if (haltMarked p c s).on Reg.DBG_CTRL.HOLD_LEASE then hungActive c (haltMarked p c s)
      else faultReport ((haltMarked p c s).inc Reg.WDN_HALT_FAULT.CNT)
    else setCluster c clHALTED (haltMarked p c s) := by
  simp only [halt, hl, hn, ne_eq, not_true_eq_false, decide_false, decide_eq_false ho, decide_eq_false hf, Bool.or_self, Bool.false_eq_true,
    if_false]
  rfl

theorem halt_standby (ho : clState s c ≠ clOFF) (hf : clState s c ≠ clFAILED) (ha : clState s c ≠ clACTIVE) :
    halt p c s = setCluster c clHALTED (haltMarked p c s) := by
  rw [halt_running hl hn ho hf, if_neg ha]

section
variable (ha : clState s c = clACTIVE)
include ha

theorem halt_holdsLease (h : (haltMarked p c s).on Reg.DBG_CTRL.HOLD_LEASE = true) : halt p c s = hungActive c (haltMarked p c s) := by
  rw [halt_running hl hn (by rw [ha]; decide) (by rw [ha]; decide), if_pos ha, if_pos h]

theorem halt_reportsFault (h : (haltMarked p c s).on Reg.DBG_CTRL.HOLD_LEASE = false) :
    halt p c s = faultReport ((haltMarked p c s).inc Reg.WDN_HALT_FAULT.CNT) := by
  rw [halt_running hl hn (by rw [ha]; decide) (by rw [ha]; decide), if_pos ha, h, if_neg Bool.false_ne_true]

end

end

/-- The cluster is no longer marked halted, nor does it hang. -/
def haltUnmarked (c : Nat) (s : State) : State :=
  modDbg (fun d => { d with was := d.was.erase c }) (modWdn (fun w => { w with hungA := w.hungA && c != 0, hungB := w.hungB && c != 1 })
    ((s.put (Reg.DBG_CCc_STAT.HALTED c) 0).put (Reg.DBG_CCc_STAT.PATH c) 0))

section
variable (h : s.on (Reg.DBG_CCc_STAT.HALTED c) = true)
include h

theorem resumeCluster_halted : resumeCluster c s =
    if clState (haltUnmarked c s) c = clHALTED then setCluster c (s.dbg.was.get c) (haltUnmarked c s) else haltUnmarked c s := by
  simp only [resumeCluster, h, Bool.not_true, Bool.false_eq_true, if_false]
  rfl

theorem resumeCluster_goesOn (hc : clState (haltUnmarked c s) c = clHALTED) :
    resumeCluster c s = setCluster c (s.dbg.was.get c) (haltUnmarked c s) := by
  rw [resumeCluster_halted h, if_pos hc]

theorem resumeCluster_lost (hc : clState (haltUnmarked c s) c ≠ clHALTED) : resumeCluster c s = haltUnmarked c s := by
  rw [resumeCluster_halted h, if_neg hc]

end

/-- A path's STEP of a cluster. -/
def stepCluster (p c : Nat) (s : State) : State :=
  if dbgLevel s p = 2 && s.on (Reg.DBG_CCc_STAT.HALTED c) then s.emit (.toFirmware "step" [c]) else s

/-- A path's RESUME of a cluster. -/
def resumeBy (p c : Nat) (s : State) : State := if dbgLevel s p = 2 then resumeCluster c s else s

theorem stepCluster_halted (hl : dbgLevel s p = 2) (h : s.on (Reg.DBG_CCc_STAT.HALTED c) = true) :
    stepCluster p c s = s.emit (.toFirmware "step" [c]) := by
  simp only [stepCluster, hl, h, decide_true, Bool.and_self, if_true]

theorem stepCluster_unauthorised (h : dbgLevel s p ≠ 2) : stepCluster p c s = s := by
  simp only [stepCluster, decide_eq_false h, Bool.false_and, Bool.false_eq_true, if_false]

end

/-! ## The TAP (R496) -/

section
variable {i : Nat}

/-- The instruction register holds `i`. -/
def tapHolds (i : Nat) (s : State) : State := { s with dbg := { s.dbg with tap := i } }

theorem tapLoad_bypass (h : tapPermitted s i = false) : tapLoad i s = tapHolds tapBYPASS s := by
  simp only [tapLoad, h, Bool.false_eq_true, if_false]
  rfl

theorem tapLoad_idcode (h : tapPermitted s 0 = true) : tapLoad 0 s = (tapHolds tapIDCODE s).emit (.pin "TDO IDCODE" 0xB71289CF) := by
  simp only [tapLoad, h, if_true]
  rfl

section
variable (h : tapPermitted s i = true)
include h

theorem tapLoad_silent (h0 : i ≠ 0) (h4 : i < 4) : tapLoad i s = tapHolds i s := by
  simp only [tapLoad, h, if_true, tapIDCODE, if_neg h0, if_neg (Nat.not_le.2 h4), tapHolds]

theorem tapLoad_boundary (h4 : 4 ≤ i) : tapLoad i s = (tapHolds i s).emit (.pin "BOUNDARY" i) := by
  have h0 : i ≠ 0 := by omega
  simp only [tapLoad, h, if_true, tapIDCODE, if_neg h0, if_pos h4, tapHolds]

end

end

/-! ## The commands on a live block -/

section
variable (hs : s.live) {p : Fin 2}
include hs

/-- A command over a path that answers at its clock. -/
theorem run_onDbg_at {ofs : Nat} (h : reaches p (s.asOf ofs) = true) (f : State → State) :
    run (fun u => onDbg p f (u.at ofs)) s = .next (settle s (f (s.asOf ofs))) := by
  rw [run_live hs (fun u => onDbg p f (u.at ofs)), ← State.asOf, onDbg_reaches h]

/-- A command over a path that answers. -/
theorem run_onDbg (h : reaches p s.cleared = true) (f : State → State) : run (onDbg p f) s = .next (settle s (f s.cleared)) := by
  rw [run_live hs, onDbg_reaches h]

theorem exec_debugAuthDecision (p : Fin 2) (ofs : Fin 122880) :
    exec (.debugAuthDecision p ofs) s = .next (settle s (dbgDecision p (s.asOf ofs))) := run_live hs (fun u => dbgDecision p (u.at ofs))

theorem exec_debugAuthExpiry (p : Fin 2) (ofs : Fin 122880) : exec (.debugAuthExpiry p ofs) s = .next (settle s
    (if levelOver p (s.asOf ofs) then levelDrop p (s.asOf ofs) else s.asOf ofs)) :=
  run_live hs (fun u => if levelOver p (u.at ofs) then levelDrop p (u.at ofs) else u.at ofs)

theorem exec_jtagInstruction (i : Fin 9) : exec (.jtagInstruction i) s = .next (settle s (tapLoad i s.cleared)) := run_live hs _

theorem exec_tapReset : exec .tapReset s = .next (settle s (tapHolds tapIDCODE s.cleared)) := run_live hs (tapHolds tapIDCODE)

section
variable {ofs : Fin 122880} (h : reaches p (s.asOf ofs) = true)
include h

theorem exec_debugAuthArm (level : Fin 4) : exec (.debugAuthArm p level ofs) s = .next (settle s (dbgArm p level (s.asOf ofs))) :=
  run_onDbg_at hs h _

theorem exec_debugAuthConfirm : exec (.debugAuthConfirm p ofs) s = .next (settle s (dbgConfirm p (s.asOf ofs))) := run_onDbg_at hs h _

theorem exec_quietViewRead (words : Fin 16) :
    exec (.quietViewRead p words ofs) s = .next (settle s (quietView p words (s.asOf ofs))) := run_onDbg_at hs h _

theorem exec_debugConsume (words : Fin 16) :
    exec (.debugConsume p words ofs) s = .next (settle s (debugConsume p words (s.asOf ofs))) := run_onDbg_at hs h _

theorem exec_dbgHalt (c : Fin 2) : exec (.dbgHalt p c ofs) s = .next (settle s (halt p c (s.asOf ofs))) := run_onDbg_at hs h _

end

theorem exec_debugWrite (words : Fin 16) (e : DbgEnv) (h : reaches p (s.asOf e.ofs) = true) :
    exec (.debugWrite p words e) s = .next (settle s (debugWrite p words e (s.asOf e.ofs))) := run_onDbg_at hs h _

section
variable (h : reaches p s.cleared = true)
include h

theorem exec_debugAuthDrop : exec (.debugAuthDrop p) s = .next (settle s (levelDrop p s.cleared)) := run_onDbg hs h _

theorem exec_dbgStep (c : Fin 2) : exec (.dbgStep p c) s = .next (settle s (stepCluster p c s.cleared)) :=
  run_onDbg hs h (stepCluster p c)

theorem exec_dbgResume (c : Fin 2) : exec (.dbgResume p c) s = .next (settle s (resumeBy p c s.cleared)) := run_onDbg hs h (resumeBy p c)

/-- RESUME at level 2. -/
theorem exec_dbgResume_authorised (c : Fin 2) (hl : dbgLevel s.cleared p = 2) :
    exec (.dbgResume p c) s = .next (settle s (resumeCluster c s.cleared)) := by
  rw [exec_dbgResume hs h, resumeBy, if_pos hl]

end

end

end

/-! ## The obligation -/

/-- Settles O60: each command over a path that answers, by the path's level and by what the command finds; and the TAP by what it permits. -/
theorem debugPaths : Obligations.DebugPaths := by
  intro p c level words e i k s hs
  refine ⟨fun hp h => ?_, fun hp h => ?_, fun hp h => ?_, fun hp h => ?_, fun h => ?_, fun h hk => ⟨fun hx => ?_, fun hl h0 hg => ?_⟩,
    exec_debugAuthDrop hs, levelDrop_low, fun h hk => ?_, fun h => ?_, fun hp h => ?_, fun hp h h0 => ?_, fun hp h => ?_, fun hp h h0 => ?_,
    fun hp h => ?_, fun hp h h0 => ?_, fun hp h => ?_, fun hp hl hn => ⟨fun h => ?_, fun ho hf ha => ?_, fun ha h => ?_, fun ha h => ?_⟩,
    fun hp hl h => ⟨?_, fun hc => ?_, fun hc => ?_⟩, fun hl hp => ⟨?_, ?_⟩, fun h => ?_, fun h0 h4 h => ?_, fun h => ?_, fun h4 h => ?_,
    exec_tapReset hs⟩
  · rw [exec_debugAuthArm hs hp, dbgArm_busy h, levelAsked]
  · rw [exec_debugAuthArm hs hp, dbgArm_free h, dbgChallenged, levelAsked]
  · rw [exec_debugAuthConfirm hs hp, dbgConfirm_unarmed h]
  · rw [exec_debugAuthConfirm hs hp, dbgConfirm_armed h]
  · rw [exec_debugAuthDecision hs, dbgDecision_none h]
  · rw [exec_debugAuthDecision hs, dbgDecision_denied h hk hx, decisionOver]
  · rw [exec_debugAuthDecision hs, dbgDecision_granted h hk hl h0 hg, levelGranted, levelCleared, levelWanted, decisionOver]
  · rw [exec_debugAuthExpiry hs, if_pos (levelOver_due h hk)]
  · rw [exec_debugAuthExpiry hs, levelOver_none h, if_neg Bool.false_ne_true]
  · rw [exec_quietViewRead hs hp, quietView_denied h, quietGo]
  · rw [exec_quietViewRead hs hp, quietView_registers h h0, quietGo]
  · rw [exec_debugConsume hs hp, debugConsume_denied h, consumeGo]
  · rw [exec_debugConsume hs hp, debugConsume_registers h h0, consumed, consumeGo]
  · rw [exec_debugWrite hs words e hp, debugWrite_denied e h, writeGo]
  · rw [exec_debugWrite hs words e hp, debugWrite_registers e h h0, wordsWritten, writeGo]
  · rw [exec_dbgHalt hs hp, halt_unauthorised h]
  · rw [exec_dbgHalt hs hp, halt_dead h]
  · rw [exec_dbgHalt hs hp, halt_standby hl hn ho hf ha, haltMarked]
  · rw [exec_dbgHalt hs hp, halt_holdsLease hl hn ha h, hungActive, haltMarked]
  · rw [exec_dbgHalt hs hp, halt_reportsFault hl hn ha h, haltMarked]
  · rw [exec_dbgStep hs hp, stepCluster_halted hl h]
  · rw [exec_dbgResume_authorised hs hp c hl, resumeCluster_goesOn h hc, haltUnmarked]
  · rw [exec_dbgResume_authorised hs hp c hl, resumeCluster_lost h hc, haltUnmarked]
  · rw [exec_dbgStep hs hp, stepCluster_unauthorised hl]
  · rw [exec_dbgResume hs hp, resumeBy, if_neg hl]
  · rw [exec_jtagInstruction hs, tapLoad_bypass h, tapHolds]
  · rw [exec_jtagInstruction hs, tapLoad_silent h h0 h4, tapHolds]
  · rw [exec_jtagInstruction hs, Fin.val_zero, tapLoad_idcode h, tapHolds]
  · rw [exec_jtagInstruction hs, tapLoad_boundary h h4, tapHolds]

end Sys2Proof.Machine
